-- ==== Sys2Proof/Word.lean ====
section
/-! DEFINITION. The word types of the QS-740 and the shape of a register field. -/

namespace Sys2Proof

/-- A byte of memory, of an envelope or of a frame. -/
abbrev Byte := BitVec 8

/-- A register word (R30). -/
abbrev W32 := BitVec 32

/-- A stretch of bytes, first byte at the lowest address. -/
abbrev Bytes := List Byte

namespace Machine

/-- A register field: the register's key (block ID × 0x1_0000 + offset, R29, with a bank above it for a register banked
per master) and the field's high and low bit. -/
structure Fld where
  key : Nat
  hi : Nat
  lo : Nat
deriving DecidableEq, Repr

/-- The access types of R31. -/
inductive Acc where
  | rw | ro | wo | w1c | w1s | rwl
deriving DecidableEq, Repr

/-- One row of the access-type table: a field at `off` (repeated over `count` words), bits hi…lo, its access type, and
whether the register is banked per master. -/
structure FieldRow where
  off : Nat
  count : Nat
  hi : Nat
  lo : Nat
  acc : Acc
  banked : Bool
deriving DecidableEq, Repr

end Machine

end Sys2Proof
end

