-- ==== Sys2Proof/Syntax.lean ====
section
/-! DEFINITION. The commands of the QS-740, one constructor per row of spec/opcode_table.json. `t` is the instant of a
step in ns of module time after the beat boundary before it (DESIGN CHOICE, notes/assumptions/1); BEAT_BOUNDARY
needs none. -/

namespace Sys2Proof

/-- The channels of the command port (R64-R66), in the order that settles ties (R69). -/
inductive Chan where
  | hostLink | uplink | usb | firmware
deriving DecidableEq, Repr

/-- The master of a register access: an application core, or another bus master. -/
inductive Master where
  | core (n : Fin 8)
  | other (n : Fin 8)
deriving DecidableEq, Repr

/-- The kinds of access that R26 tells apart. -/
inductive AccessKind where
  | load | store | execute
deriving DecidableEq, Repr

/-- The kind of an access, its size in bytes, and the value a store carries (R26, R30). -/
structure AccessForm where
  kind : AccessKind
  size : Nat
  value : BitVec 64
deriving DecidableEq, Repr

/-- An access of a master to the address space (R26, R27, R30), at its address. -/
structure Access extends AccessForm where
  addr : Nat
deriving DecidableEq, Repr

/-- A command envelope as received (R65): the header fields but the code, which the row fixes, the bytes received after the
header, and for the firmware channel the queue that the response routing of the command names (R184). -/
structure Envelope where
  chan : Chan
  magic : Nat
  version : Nat
  seq : Nat
  length : Nat
  keyId : Nat
  mac : Nat
  payload : Bytes
  route : Nat := 0
deriving DecidableEq, Repr

/-- The data set of a PTP Announce message (R284, R277). -/
structure PtpDataSet where
  priority1 : Nat
  clockClass : Nat
  accuracy : Nat
  variance : Nat
  priority2 : Nat
  identity : Nat
  utcOffset : Int
  utcValid : Bool
  leap61 : Bool
  leap59 : Bool
deriving DecidableEq, Repr

/-- A received PTP message, by what the engine takes from it (R284, R285): a Sync with its origin stamp t1 and receive
stamp t2 (follow-up included), or a delay response with t3 and t4, all in ns. -/
inductive PtpMsg where
  | announce (ds : PtpDataSet)
  | sync (t1 t2 : Nat)
  | delayResp (t3 t4 : Nat)
deriving DecidableEq, Repr

/-- The kinds of PTP message the engine sends (R284). -/
inductive PtpKind where
  | announce | sync | followUp | delayReq | pdelayReq | pdelayResp
deriving DecidableEq, Repr

/-- A frame received by a radio (R206, R217, R233): its PHR and its PSDU with the FCS, signal strength, channel index, and how
long before the step its SFD arrived, ns. -/
structure RadioRx where
  phr : Bytes
  mpdu : Bytes
  rssi : Nat
  channel : Nat
  sfdAgo : Nat
deriving DecidableEq, Repr

/-- An Ethernet frame received by a wired port (R249): the frame with its FCS, and how long before the step its SFD passed, ns. -/
structure WiredRx where
  wire : Bytes
  sfdAgo : Nat
deriving DecidableEq, Repr

/-- What a metering channel's converters give in a cycle (R355, R356): the samples of V and I as signed 24-bit codes, the first sample
after them, and, where rising zero crossings bound the cycle, the ns between these. -/
structure MeterCycle where
  samples : List (Int × Int)
  ahead : Int × Int
  crossings : Option Nat
deriving DecidableEq, Repr

/-- A HEARTBEAT (R390). -/
structure Heartbeat where
  role : Nat
  member : Nat
  leaseHeld : Bool
  unmirrored : Bool
  inTest : Bool
  beat : Nat
  seconds : Nat
  ns : Nat
  count : Nat
  c0Seq : Nat
  major : Nat
  minor : Nat
  cutHash : Nat
  generation : Nat
  /-- The clock offset to the peer that the time-stamps of the exchange measure (R391), ns, the peer ahead when positive. -/
  offset : Int
deriving DecidableEq, Repr

/-- A BUNDLE record's entries, by kind (R390). -/
inductive BundleRec where
  | port (eid kind value rxUs rxBeat : Nat)
  | c1Set (scope id level effect duration : Nat)
  | c1Clear (scope id : Nat)
  | class0 (index : Nat) (activate : Bool)
  | refused (eid : Nat)
  | post (kind eid value : Nat)
  | passes (n : Nat)
  | lowered
  | hold
  | patch (container : Bytes)
  | cutList (container : Bytes)
  | effect
  | capture
  | epoch (count : Nat)
  | mark (counter value : Nat)
deriving DecidableEq, Repr

/-- A lease message as received (R397): the 32 bytes. -/
abbrev LeaseMsg := Bytes

/-- A RESYNC_CHUNK (R408): its offset in the image, its bytes, and whether it is the last one. -/
structure ResyncChunk where
  offset : Nat
  data : Bytes
  last : Bool
deriving DecidableEq, Repr

/-- The commands (spec/opcode_table.json, row by row). -/
inductive Instr where
  /-- GET_STATUS (R73). -/
  | getStatus (t : Nat) (e : Envelope)
  /-- READ_EVENTS (R384). -/
  | readEvents (t : Nat) (e : Envelope)
  /-- RESET (R457). -/
  | reset (t : Nat) (e : Envelope) (straps : Fin 8)
  /-- START (R61). -/
  | start (t : Nat) (e : Envelope)
  /-- STOP (R61). -/
  | stop (t : Nat) (e : Envelope)
  /-- SHUTDOWN (R458). -/
  | shutdown (t : Nat) (e : Envelope)
  /-- CUT_STAGE (R88). -/
  | cutStage (t : Nat) (e : Envelope)
  /-- CUT_LOAD (R91). -/
  | cutLoad (t : Nat) (e : Envelope)
  /-- CUT_PATCH (R98). -/
  | cutPatch (t : Nat) (e : Envelope)
  /-- SET_PASSES (R59). -/
  | setPasses (t : Nat) (e : Envelope)
  /-- OVERRIDE_C1_SET (R130). -/
  | overrideC1Set (t : Nat) (e : Envelope)
  /-- OVERRIDE_C1_CLEAR (R131). -/
  | overrideC1Clear (t : Nat) (e : Envelope)
  /-- CLASS0_ACTIVATE (R135). -/
  | class0Activate (t : Nat) (e : Envelope)
  /-- CLASS0_RELEASE (R135). -/
  | class0Release (t : Nat) (e : Envelope)
  /-- TIME_SET (R283). -/
  | timeSet (t : Nat) (e : Envelope)
  /-- FORCE_TIME (R283). -/
  | forceTime (t : Nat) (e : Envelope)
  /-- FW_STAGE_CHUNK (R471). -/
  | fwStageChunk (t : Nat) (e : Envelope)
  /-- FW_STAGE_COMMIT (R472). -/
  | fwStageCommit (t : Nat) (e : Envelope)
  /-- FW_STAGE_ABANDON (R471). -/
  | fwStageAbandon (t : Nat) (e : Envelope)
  /-- ACTIVATE (R475). -/
  | activate (t : Nat) (e : Envelope)
  /-- PAIR_TAKEOVER (R405). -/
  | pairTakeover (t : Nat) (e : Envelope)
  /-- PAIR_DEMOTE (R405). -/
  | pairDemote (t : Nat) (e : Envelope)
  /-- KEY_UPDATE_IMPORT (R441). -/
  | keyUpdateImport (t : Nat) (e : Envelope)
  /-- KEY_UPDATE_DERIVE (R441). -/
  | keyUpdateDerive (t : Nat) (e : Envelope)
  /-- KEY_UPDATE_LIFECYCLE (R444). -/
  | keyUpdateLifecycle (t : Nat) (e : Envelope)
  /-- KEY_INVALIDATE (R443). -/
  | keyInvalidate (t : Nat) (e : Envelope)
  /-- METER_SNAPSHOT (R371). -/
  | meterSnapshot (t : Nat) (e : Envelope)
  /-- KEY_UPDATE_DONE (R441). -/
  | keyUpdateDone (t : Nat)
  /-- CUT_LOAD_STORED (R91). -/
  | cutLoadStored (t : Nat) (good : Bool)
  /-- CUT_COPY_DONE (R93). -/
  | cutCopyDone (t : Nat)
  /-- PATCH_READY (R99). -/
  | patchReady (t : Nat) (good : Bool)
  /-- BEAT_BOUNDARY (R47). -/
  | beatBoundary
  /-- COMMIT (R155). -/
  | commit (t : Nat)
  /-- OVERRUN (R11). -/
  | overrun (t : Nat) (pass : Nat)
  /-- C0_REFRESH (R243). -/
  | c0Refresh (t : Nat) (index : Nat)
  /-- PPS_EDGE (R49). -/
  | ppsEdge (t : Nat)
  /-- C1_EXPIRED (R132). -/
  | c1Expired (t : Nat) (scope : Nat) (id : Nat)
  /-- REFRESH_DUE (R143). -/
  | refreshDue (t : Nat) (eid : Nat)
  /-- WAVE_HOLD_EXPIRED (R151). -/
  | waveHoldExpired (t : Nat) (eid : Nat)
  /-- EDGE_DELAY_ELAPSED (R151). -/
  | edgeDelayElapsed (t : Nat) (eid : Nat) (j : Nat)
  /-- DAYLIGHT_STALE (R140). -/
  | daylightStale (t : Nat) (eid : Nat)
  /-- RFT_INGEST_W0 (R123). -/
  | rftIngestW0 (t : Nat) (m : Master) (v : W32)
  /-- RFT_INGEST_WORD (R123). -/
  | rftIngestWord (t : Nat) (m : Master) (i : Fin 2) (v : W32)
  /-- RFT_INGEST_COMMIT (R123). -/
  | rftIngestCommit (t : Nat) (m : Master) (v : W32)
  /-- RFT_BATTEN_SEL (R176). -/
  | rftBattenSel (t : Nat) (m : Master) (v : W32)
  /-- RFT_SPEED_SEL (R176). -/
  | rftSpeedSel (t : Nat) (m : Master) (v : W32)
  /-- JST_PUSH_OPEN (R181). -/
  | jstPushOpen (t : Nat) (m : Master) (v : W32)
  /-- JST_PUSH_WORD (R181). -/
  | jstPushWord (t : Nat) (m : Master) (i : Fin 16) (v : W32)
  /-- JST_PUSH_COMMIT (R182). -/
  | jstPushCommit (t : Nat) (m : Master)
  /-- JST_PUSH_ABANDON (R181). -/
  | jstPushAbandon (t : Nat) (m : Master)
  /-- JST_GET (R185). -/
  | jstGet (t : Nat) (m : Master) (irq : Bool)
  /-- JST_GET_DELIVER (R185). -/
  | jstGetDeliver (t : Nat)
  /-- JST_GET_INTERRUPTED (R185). -/
  | jstGetInterrupted (t : Nat) (core : Fin 8)
  /-- JST_DONE (R188). -/
  | jstDone (t : Nat) (m : Master) (v : W32)
  /-- JST_FLUSH (R194). -/
  | jstFlush (t : Nat) (m : Master) (queue : Fin 64)
  /-- JST_FLUSH_DONE (R194). -/
  | jstFlushDone (t : Nat)
  /-- JST_TMR_ARM (R198). -/
  | jstTmrArm (t : Nat) (m : Master)
  /-- JST_TMR_CANCEL (R201). -/
  | jstTmrCancel (t : Nat) (m : Master) (v : W32)
  /-- JST_TIMER_RELEASE (R199). -/
  | jstTimerRelease (t : Nat)
  /-- RAD_LINK_OPEN (R225). -/
  | radLinkOpen (t : Nat) (r : Fin 4) (m : Master)
  /-- RAD_LINK_CLOSE (R225). -/
  | radLinkClose (t : Nat) (r : Fin 4) (m : Master) (report : Bool)
  /-- RAD_LINK_RESUME (R225). -/
  | radLinkResume (t : Nat) (r : Fin 4) (m : Master)
  /-- LINK_EVENT (R226). -/
  | linkEvent (t : Nat) (r : Fin 4) (link : Nat)
  /-- LINK_EVENT_END (R226). -/
  | linkEventEnd (t : Nat) (r : Fin 4) (link : Nat)
  /-- LINK_ANSWER_TIMEOUT (R227). -/
  | linkAnswerTimeout (t : Nat) (r : Fin 4) (link : Nat)
  /-- DWELL_BIN_ADVANCE (R211). -/
  | dwellBinAdvance (t : Nat) (r : Fin 4) (kind : Nat) (index : Nat)
  /-- LINK_SUPERVISION_TIMEOUT (R228). -/
  | linkSupervisionTimeout (t : Nat) (medium : Fin 14) (link : Nat)
  /-- TX_ITEM_TAKE (R229). -/
  | txItemTake (t : Nat) (medium : Fin 14)
  /-- RADIO_FRAME_RX (R233). -/
  | radioFrameRx (t : Nat) (r : Fin 4) (f : RadioRx)
  /-- BEACON_TX (R236). -/
  | beaconTx (t : Nat) (r : Fin 4)
  /-- WATCH_INSTANCE (R237). -/
  | watchInstance (t : Nat) (r : Fin 4) (f : Option RadioRx)
  /-- WAKE (R239). -/
  | wake (t : Nat) (r : Fin 4) (addr : Nat) (rssi : Nat)
  /-- WAKE_HOLD_EXPIRED (R240). -/
  | wakeHoldExpired (t : Nat) (r : Fin 4)
  /-- TRK_LINK_OPEN (R261). -/
  | trkLinkOpen (t : Nat) (p : Fin 10) (m : Master)
  /-- TRK_LINK_CLOSE (R261). -/
  | trkLinkClose (t : Nat) (p : Fin 10) (m : Master) (report : Bool)
  /-- TRK_LINK_RESUME (R261). -/
  | trkLinkResume (t : Nat) (p : Fin 10) (m : Master)
  /-- WIRED_FRAME_RX (R249). -/
  | wiredFrameRx (t : Nat) (p : Fin 10) (f : WiredRx)
  /-- PLCA_CYCLE_END (R257). -/
  | plcaCycleEnd (t : Nat) (p : Fin 8) (us : Nat)
  /-- TX_OPPORTUNITY (R258). -/
  | txOpportunity (t : Nat) (p : Fin 10)
  /-- PLCA_CONFLICT (R259). -/
  | plcaConflict (t : Nat) (p : Fin 8) (src : Nat)
  /-- PLCA_STANDIN (R260). -/
  | plcaStandin (t : Nat) (p : Fin 8)
  /-- WIRED_ACK_TIMEOUT (R263). -/
  | wiredAckTimeout (t : Nat) (p : Fin 10) (link : Nat)
  /-- KEEPALIVE (R263). -/
  | keepalive (t : Nat) (p : Fin 10) (link : Nat)
  /-- GATE_ENTRY (R267). -/
  | gateEntry (t : Nat) (p : Fin 10) (entry : Nat)
  /-- PORT_LINK (R269). -/
  | portLink (t : Nat) (p : Fin 2) (up : Bool) (speed : Nat)
  /-- PAUSE_RX (R270). -/
  | pauseRx (t : Nat) (p : Fin 10) (quanta : Nat)
  /-- PAUSE_EXPIRED (R270). -/
  | pauseExpired (t : Nat) (p : Fin 10)
  /-- PFC_RX (R271). -/
  | pfcRx (t : Nat) (p : Fin 10) (enabled : Nat) (quanta : List Nat)
  /-- RAW_SLOT_FREE (R266). -/
  | rawSlotFree (t : Nat) (p : Fin 2) (v : W32)
  /-- RAW_CFG_WRITE (R275). -/
  | rawCfgWrite (t : Nat) (p : Fin 2) (v : W32)
  /-- MDIO_CMD (R265). -/
  | mdioCmd (t : Nat) (v : W32)
  /-- MDIO_DONE (R265). -/
  | mdioDone (t : Nat) (data : Nat)
  /-- READ_LO_LATCH (R34). -/
  | readLoLatch (t : Nat) (m : Master) (key : Nat)
  /-- PTP_MESSAGE_RX (R284). -/
  | ptpMessageRx (t : Nat) (port : Fin 10) (msg : PtpMsg)
  /-- PTP_MESSAGE_TX (R284). -/
  | ptpMessageTx (t : Nat) (port : Fin 10) (kind : PtpKind)
  /-- PTP_ANNOUNCE_TIMEOUT (R285). -/
  | ptpAnnounceTimeout (t : Nat) (port : Fin 10)
  /-- PTP_SYNC_TIMEOUT (R285). -/
  | ptpSyncTimeout (t : Nat) (port : Fin 10)
  /-- LEAP_SECOND (R277). -/
  | leapSecond (t : Nat)
  /-- TSQ_LATCH (R287). -/
  | tsqLatch (t : Nat) (m : Master)
  /-- TSQ_POP (R287). -/
  | tsqPop (t : Nat) (m : Master)
  /-- TIMED_LAUNCH (R289). -/
  | timedLaunch (t : Nat) (port : Fin 10)
  /-- PPS_OUT (R291). -/
  | ppsOut (t : Nat)
  /-- PPS_OUT_END (R291). -/
  | ppsOutEnd (t : Nat)
  /-- TPO_ARM (R292). -/
  | tpoArm (t : Nat) (m : Master)
  /-- TPO_DISARM (R292). -/
  | tpoDisarm (t : Nat) (m : Master)
  /-- TPO_PULSE (R292). -/
  | tpoPulse (t : Nat) (k : Fin 4)
  /-- TPO_PULSE_END (R292). -/
  | tpoPulseEnd (t : Nat) (k : Fin 4)
  /-- RTC_COMP_TICK (R294). -/
  | rtcCompTick (t : Nat) (temp : Int)
  /-- CAL_SECOND (R296). -/
  | calSecond (t : Nat)
  /-- CAL_LOAD (R295). -/
  | calLoad (t : Nat) (m : Master)
  /-- TICK_ALARM_ARM (R297). -/
  | tickAlarmArm (t : Nat) (m : Master) (v : W32)
  /-- TICK_ALARM (R297). -/
  | tickAlarm (t : Nat)
  /-- BACKUP_TO_MAIN (R298). -/
  | backupToMain (t : Nat)
  /-- BACKUP_TO_VBAT (R298). -/
  | backupToVbat (t : Nat)
  /-- RTC_LOST (R298). -/
  | rtcLost (t : Nat)
  /-- MAIN_CLOCK_FAIL (R306). -/
  | mainClockFail (t : Nat) (pll : Bool)
  /-- MAIN_CLOCK_RETURNED (R308). -/
  | mainClockReturned (t : Nat) (straps : Fin 8)
  /-- XTAL32_FAIL (R305). -/
  | xtal32Fail (t : Nat)
  /-- XTAL32_RETURNED (R305). -/
  | xtal32Returned (t : Nat)
  /-- RC_FAIL (R309). -/
  | rcFail (t : Nat) (err : Int)
  /-- RC_TRIM_COUNT (R304). -/
  | rcTrimCount (t : Nat) (reference : Fin 3) (cycles : Nat)
  /-- MUX_SWITCH_REQUEST (R310). -/
  | muxSwitchRequest (t : Nat) (mux : Nat) (source : Fin 2)
  /-- SW_FORCED (R311). -/
  | swForced (t : Nat) (mux : Nat) (source : Fin 2)
  /-- POWER_ON (R315). -/
  | powerOn (t : Nat) (straps : Fin 8) (vin : Nat)
  /-- POWER_FAIL (R318). -/
  | powerFail (t : Nat) (vin : Nat) (vhold : Nat)
  /-- VIN_DIP (R314). -/
  | vinDip (t : Nat)
  /-- VIN_RANGE (R314). -/
  | vinRange (t : Nat) (mv : Nat)
  /-- VHOLD_WAIT_TIMEOUT (R316). -/
  | vholdWaitTimeout (t : Nat) (mv : Nat)
  /-- HOLDUP_MEASURED (R317). -/
  | holdupMeasured (t : Nat) (cap : Nat) (esr : Nat)
  /-- RST_N_ASSERT (R532). -/
  | rstNAssert (t : Nat)
  /-- RST_N_RELEASE (R532). -/
  | rstNRelease (t : Nat) (straps : Fin 8)
  /-- WATCHDOG_EXPIRY (R62). -/
  | watchdogExpiry (t : Nat) (straps : Fin 8)
  /-- BOOT_STEP_DONE (R449). -/
  | bootStepDone (t : Nat) (quick : List (Nat × Nat))
  /-- BOOT_STEP_FAILED (R454). -/
  | bootStepFailed (t : Nat) (cause : Nat)
  /-- BOOT_STEP_TIMEOUT (R449). -/
  | bootStepTimeout (t : Nat)
  /-- XTAL_START_TIMEOUT (R303). -/
  | xtalStartTimeout (t : Nat)
  /-- TEST_FINISHED (R460). With no self-test running it brings the units that a block has found faulted in service, named as test
  `test` names them (R25, notes/assumptions/49). -/
  | testFinished (t : Nat) (test : Fin 15) (failed : List Nat) (code : Nat) (straps : Fin 8)
  /-- STOP_WRITES_DONE (R458). -/
  | stopWritesDone (t : Nat) (straps : Fin 8)
  /-- JOURNAL_RECORD_DONE (R330). -/
  | journalRecordDone (t : Nat)
  /-- SIL_JW_WRITE (R350). -/
  | silJwWrite (t : Nat) (m : Master) (v : W32)
  /-- ADD_ENERGY (R338). -/
  | addEnergy (t : Nat) (m : Master)
  /-- ADD_RUN (R338). -/
  | addRun (t : Nat) (m : Master)
  /-- SET_CREDIT (R338). -/
  | setCredit (t : Nat) (m : Master)
  /-- SCRUB_BLOCK (R344). -/
  | scrubBlock (t : Nat) (corrected : List Nat) (bad : List Nat)
  /-- NAND_REFRESH (R348). -/
  | nandRefresh (t : Nat) (part : Nat) (block : Nat) (retired : Bool)
  /-- METER_CYCLE_END (R356). -/
  | meterCycleEnd (t : Nat) (c : Fin 4) (x : MeterCycle)
  /-- NO_ZC (R356). -/
  | noZc (t : Nat) (c : Fin 4)
  /-- PULSE_EMIT (R362). -/
  | pulseEmit (t : Nat) (n : Fin 2)
  /-- PULSE_END (R362). -/
  | pulseEnd (t : Nat) (n : Fin 2)
  /-- S0_PULSE (R363). -/
  | s0Pulse (t : Nat) (c : Fin 4)
  /-- RECON_INTERVAL_END (R364). -/
  | reconIntervalEnd (t : Nat) (c : Fin 4)
  /-- ACC_SAVE (R367). -/
  | accSave (t : Nat)
  /-- MTR_FAST_READ (R360). -/
  | mtrFastRead (t : Nat) (m : Master) (c : Fin 4)
  /-- ARC_FETCH (R373). -/
  | arcFetch (t : Nat) (m : Master) (v : W32)
  /-- ARC_FETCH_DONE (R373). -/
  | arcFetchDone (t : Nat)
  /-- RATE_TOKEN_TICK (R376). -/
  | rateTokenTick (t : Nat)
  /-- SUPPRESSED (R378). -/
  | suppressed (t : Nat) (code : Nat)
  /-- EVR_FLUSH_TIMER (R379). -/
  | evrFlushTimer (t : Nat)
  /-- EVR_FLUSH (R379). -/
  | evrFlush (t : Nat) (m : Master)
  /-- EVR_SLOT_WRITTEN (R381). -/
  | evrSlotWritten (t : Nat)
  /-- EVR_RD_SEQ (R386). -/
  | evrRdSeq (t : Nat) (m : Master) (v : W32)
  /-- HEARTBEAT_TX (R391). -/
  | heartbeatTx (t : Nat)
  /-- HEARTBEAT_RX (R391). -/
  | heartbeatRx (t : Nat) (h : Heartbeat)
  /-- HEARTBEAT_MISSED (R399). -/
  | heartbeatMissed (t : Nat)
  /-- BUNDLE_RX (R392). -/
  | bundleRx (t : Nat) (beat : Nat) (recs : List BundleRec)
  /-- BUNDLE_CLOSE_RX (R393). -/
  | bundleCloseRx (t : Nat) (beat : Nat) (outcome : Nat) (entries : Nat) (sample : Nat) (digest : Nat)
  /-- BUNDLE_ACKED (R395). -/
  | bundleAcked (t : Nat) (beat : Nat)
  /-- HELLO_TX (R406). -/
  | helloTx (t : Nat)
  /-- HELLO_RX (R406). -/
  | helloRx (t : Nat) (h : Heartbeat) (pairId : Nat) (unitId : Nat)
  /-- HANDSHAKE_TIMEOUT (R406). -/
  | handshakeTimeout (t : Nat)
  /-- HANDSHAKE_RETRY (R406). -/
  | handshakeRetry (t : Nat)
  /-- HANDOVER_RX (R405). -/
  | handoverRx (t : Nat) (h : Heartbeat) (pairId : Nat) (unitId : Nat)
  /-- RESYNC_REQ_RX (R408). -/
  | resyncReqRx (t : Nat) (h : Heartbeat) (pairId : Nat) (unitId : Nat)
  /-- RESYNC_CHUNK_RX (R408). -/
  | resyncChunkRx (t : Nat) (ch : ResyncChunk)
  /-- CATCHUP_TIMEOUT (R408). -/
  | catchupTimeout (t : Nat)
  /-- RESYNC_RETRY (R408). -/
  | resyncRetry (t : Nat)
  /-- LEASE_REQUEST (R398). -/
  | leaseRequest (t : Nat)
  /-- LEASE_GRANT_RX (R398). -/
  | leaseGrantRx (t : Nat) (msg : LeaseMsg)
  /-- LEASE_DENY_RX (R398). -/
  | leaseDenyRx (t : Nat) (msg : LeaseMsg)
  /-- LEASE_REPLY_TIMEOUT (R398). -/
  | leaseReplyTimeout (t : Nat)
  /-- LEASE_LOST (R398). -/
  | leaseLost (t : Nat)
  /-- RESEND_GO (R402). -/
  | resendGo (t : Nat) (m : Master)
  /-- RESEND_TIMEOUT (R402). -/
  | resendTimeout (t : Nat)
  /-- KEY_OP_GCM_ENCRYPT (R448). -/
  | keyOpGcmEncrypt (t : Nat) (m : Master) (secure : Bool) (lo : W32)
  /-- KEY_OP_GCM_DECRYPT (R448). -/
  | keyOpGcmDecrypt (t : Nat) (m : Master) (secure : Bool) (lo : W32)
  /-- KEY_OP_HMAC (R448). -/
  | keyOpHmac (t : Nat) (m : Master) (secure : Bool) (lo : W32)
  /-- KEY_OP_ECDSA_SIGN (R448). -/
  | keyOpEcdsaSign (t : Nat) (m : Master) (secure : Bool) (lo : W32)
  /-- KEY_OP_ECDSA_VERIFY (R448). -/
  | keyOpEcdsaVerify (t : Nat) (m : Master) (secure : Bool) (lo : W32)
  /-- KEY_OP_SHA256 (R448). -/
  | keyOpSha256 (t : Nat) (m : Master) (secure : Bool) (lo : W32)
  /-- KEY_OP_DONE (R448). -/
  | keyOpDone (t : Nat) (bank : Nat)
  /-- FW_COMMIT_DONE (R472). -/
  | fwCommitDone (t : Nat)
  /-- SLOT_CHECK_DONE (R473). -/
  | slotCheckDone (t : Nat)
  /-- LIB_WRITE (R482). -/
  | libWrite (t : Nat) (m : Master) (libId : Nat)
  /-- LIB_READ (R482). -/
  | libRead (t : Nat) (m : Master) (libId : Nat)
  /-- LIB_DELETE (R482). -/
  | libDelete (t : Nat) (m : Master) (libId : Nat)
  /-- LIB_DONE (R482). -/
  | libDone (t : Nat) (bank : Nat)
  /-- STRING_FRAME (R490). -/
  | stringFrame (t : Nat) (mv : List (List Nat))
  /-- MATRIX_FRAME (R497). -/
  | matrixFrame (t : Nat)
  /-- NTC_READ (R491). -/
  | ntcRead (t : Nat) (n : Fin 4) (temp : Int)
  /-- NEIGHBOUR_SHORT (R499). -/
  | neighbourShort (t : Nat) (k : Fin 2) (pairs : List (Nat × Nat))
  /-- LAMP_RETURNED (R495). -/
  | lampReturned (t : Nat) (m : Master) (v : W32)
  /-- STR_LEVEL_WRITE (R488). -/
  | strLevelWrite (t : Nat) (m : Master) (v : W32)
  /-- SIGN_PIX_WRITE (R498). -/
  | signPixWrite (t : Nat) (m : Master) (k : Fin 2) (i : Fin 128) (v : W32)
  /-- SIGN_FLIP (R498). -/
  | signFlip (t : Nat) (m : Master) (k : Fin 2)
  /-- HL_WRITE (R504). -/
  | hlWrite (t : Nat) (items : List (BitVec 64))
  /-- HL_READ (R504). -/
  | hlRead (t : Nat) (n : Nat)
  /-- HL_MARK (R504). -/
  | hlMark (t : Nat)
  /-- HL_REWIND (R504). -/
  | hlRewind (t : Nat)
  /-- HL_RELEASE (R508). -/
  | hlRelease (t : Nat) (n : Nat)
  /-- HL_STATUS (R504). -/
  | hlStatus (t : Nat)
  /-- BAD_COMMAND (R504). -/
  | badCommand (t : Nat) (command : Nat)
  /-- HL_DOWN_FRAME (R506). -/
  | hlDownFrame (t : Nat)
  /-- HL_UP_DATA (R507). -/
  | hlUpData (t : Nat) (m : Master) (v : W32)
  /-- HL_UP_COMMIT (R507). -/
  | hlUpCommit (t : Nat) (m : Master)
  /-- HL_UP_ABANDON (R507). -/
  | hlUpAbandon (t : Nat) (m : Master)
  /-- HL_UP_TIMEOUT (R510). -/
  | hlUpTimeout (t : Nat)
  /-- USB_ATTACHED (R511). -/
  | usbAttached (t : Nat) (attached : Bool)
  /-- USB_SUSPEND (R511). -/
  | usbSuspend (t : Nat) (suspended : Bool)
  /-- EMG_EDGE (R525). -/
  | emgEdge (t : Nat) (channelB : Bool) (active : Bool)
  /-- EMG_DISAGREE (R525). -/
  | emgDisagree (t : Nat) (ms : Nat)
  /-- SERIAL_TRANSFER (R541). -/
  | serialTransfer (t : Nat) (m : Master) (lo : W32)
  /-- SERIAL_DONE (R541). -/
  | serialDone (t : Nat) (timeout : Bool) (data : Bytes)
  /-- ACCESS_FAULT (R27). -/
  | accessFault (t : Nat) (m : Master) (addr : Nat) (f : AccessForm)
  /-- REGISTER_WRITE (R31). -/
  | registerWrite (t : Nat) (m : Master) (addr : Nat) (v : W32)
  /-- PLCA_BEACON_RX (R259). -/
  | plcaBeaconRx (t : Nat) (p : Fin 8)
  /-- LAST_BYTE_SENT (R266). -/
  | lastByteSent (t : Nat) (p : Fin 10)
  /-- POSTED_WRITE_CROSSED (R313). -/
  | postedWriteCrossed (t : Nat) (key : Nat)
  /-- BEAT_DEADLINE (R100). -/
  | beatDeadline (t : Nat)
  /-- VHOLD_LOW (R321). -/
  | vholdLow (t : Nat)
  /-- VHOLD_OK (R316). -/
  | vholdOk (t : Nat) (mv : Nat)
  /-- CODE_NOT_DEFINED (R67). -/
  | codeNotDefined (t : Nat) (code : Nat) (e : Envelope)
deriving DecidableEq, Repr

end Sys2Proof
end

