-- ==== Sys2Proof/Decode.lean ====
section
/-! DEFINITION. The decoder of the table's words. No row of the table of commands gives a bit of an encoding (every row's
fields are empty), so no word spells a command; the encodings the spec does give (envelopes, descriptors, containers) are read by
the meanings. -/

namespace Sys2Proof

/-- The command that a word spells by the table's bits: none, for no row gives any. -/
def decodeTableWord (_nbits _w : Nat) : Option Instr := none

end Sys2Proof
end

