-- ==== Sys2Proof/Config.lean ====
section
/-! DEFINITION. What an implementation fixes and the values the spec leaves open: constants without a body, so that no
proof can see what they are. Cryptographic functions stand here too: the spec names their standards and does not
define them (notes/assumptions/5). -/

namespace Sys2Proof.Config

/-- The free value number `n`: a step that needs one reads `Dev.freeCtr` and advances it (notes/assumptions/2). -/
opaque free : Nat → Nat

/-- Byte `i` of the free byte string number `n` (notes/assumptions/2). -/
opaque freeByte : Nat → Nat → Byte

/-- The fused 64-bit unit ID (R36, R428). -/
opaque unitId : BitVec 64

/-- The first `n` of a sequence of bytes. -/
def bytesOf (n : Nat) (f : Nat → Byte) : Bytes := (List.range n).map f

/-- SHA-256 (FIPS 180-4), named by R76 and R448: 32 bytes. -/
opaque sha256Byte : Bytes → Nat → Byte
def sha256 (msg : Bytes) : Bytes := bytesOf 32 (sha256Byte msg)

/-- HMAC-SHA-256 of a message (second) under a key (first), named by R65, R428 and R432: 32 bytes. -/
opaque hmacByte : Bytes → Bytes → Nat → Byte
def hmac (key msg : Bytes) : Bytes := bytesOf 32 (hmacByte key msg)

/-- ECDSA P-256 verification: public key, message digest, signature (R77, R448). -/
opaque ecdsaVerify : Bytes → Bytes → Bytes → Bool

/-- ECDSA P-256 signature, 64 bytes: private key, message digest, and the number of the free value it draws (R448). -/
opaque ecdsaSignByte : Bytes → Bytes → Nat → Nat → Byte
def ecdsaSign (key digest : Bytes) (n : Nat) : Bytes := bytesOf 64 (ecdsaSignByte key digest n)

/-- AES-GCM encryption: key, IV, AAD, plaintext; ciphertext then the 16-byte tag (R448). -/
opaque gcmEncryptByte : Bytes → Bytes → Bytes → Bytes → Nat → Byte
def gcmEncrypt (key iv aad msg : Bytes) : Bytes := bytesOf (msg.length + 16) (gcmEncryptByte key iv aad msg)

/-- AES-GCM decryption: key, IV, AAD, ciphertext then tag; none when the tag fails (R448). -/
opaque gcmDecryptByte : Bytes → Bytes → Bytes → Bytes → Option (Nat → Byte)
def gcmDecrypt (key iv aad msg : Bytes) : Option Bytes :=
  if msg.length < 16 then none else (gcmDecryptByte key iv aad msg).map (bytesOf (msg.length - 16))

/-- AES-CCM* of a link frame: key, nonce, header, payload; ciphertext then the 8-byte MIC (R219, R251). -/
opaque ccmEncryptByte : Bytes → Bytes → Bytes → Bytes → Nat → Byte
def ccmEncrypt (key nonce head msg : Bytes) : Bytes := bytesOf (msg.length + 8) (ccmEncryptByte key nonce head msg)

/-- AES-CCM* decryption: key, nonce, header, ciphertext then MIC; none when the MIC fails (R233). -/
opaque ccmDecryptByte : Bytes → Bytes → Bytes → Bytes → Option (Nat → Byte)
def ccmDecrypt (key nonce head msg : Bytes) : Option Bytes :=
  if msg.length < 8 then none else (ccmDecryptByte key nonce head msg).map (bytesOf (msg.length - 8))

/-- AES key-unwrap-with-padding (RFC 5649): key-encryption key, wrapped bytes (R432, R441). -/
opaque keyUnwrap : Bytes → Bytes → Option Bytes

/-- AES key-wrap-with-padding (RFC 5649): 8 bytes more than the key, whose length is a multiple of 8 (R431). -/
opaque keyWrapByte : Bytes → Bytes → Nat → Byte
def keyWrap (kek key : Bytes) : Bytes := bytesOf (key.length + 8) (keyWrapByte kek key)

/-- x-coordinate of the P-256 ECDH shared point: private scalar, public key; none when the key is no point (R428). -/
opaque ecdhXByte : Bytes → Bytes → Option (Nat → Byte)
def ecdhX (scalar point : Bytes) : Option Bytes := (ecdhXByte scalar point).map (bytesOf 32)

/-- The P-256 public key of a private scalar, X then Y (R428). -/
opaque ecPublicByte : Bytes → Nat → Byte
def ecPublic (scalar : Bytes) : Bytes := bytesOf 64 (ecPublicByte scalar)

/-- The root secret (R427). -/
opaque rootByte : Nat → Byte
def root : Bytes := bytesOf 32 rootByte

/-- The Hiornian firmware key 0xFF01, a public key, and the commissioning key 0xFF10, an HMAC secret (R430, R431). -/
opaque firmwareKeyByte : Nat → Byte
opaque commissioningKeyByte : Nat → Byte
def firmwareKey : Bytes := bytesOf 64 firmwareKeyByte
def commissioningKey : Bytes := bytesOf 32 commissioningKeyByte

/-- An event code made of a free number: the ID of a block (R29) in bits 15:8 and a code other than 0x00 in bits 7:0 (R42). -/
def eventCode (n : Nat) : Nat := n / 255 % 21 * 256 + 1 + n % 255

/-- What decides the codes of events the spec requires without giving a code: the access-fault event (R27), the change of the
ledger-completeness judgement (R18), suspensions and restorations of the class-0 bound that no table lists (R21, R22), and a unit
fault in service that no table lists (R25). -/
opaque accessFaultNo : Nat
opaque ledgerJudgementNo : Nat
opaque boundSuspendedNo : Nat
opaque boundRestoredNo : Nat
opaque unitFaultNo : Nat
def evAccessFault : Nat := eventCode accessFaultNo
def evUnitFault : Nat := eventCode unitFaultNo

/-- An open event's code in bits 15:0 and its severity, 0 to 7, above them (R43). -/
def openCode (n : Nat) : Nat := eventCode n + 65536 * (n / 5355 % 8)
def evLedgerJudgement : Nat := openCode ledgerJudgementNo
def evBoundSuspended : Nat := openCode boundSuspendedNo
def evBoundRestored : Nat := openCode boundRestoredNo

/-- The severity of a unit fault in service: 5 or more (R25). -/
def sevUnitFault : Nat := 5 + unitFaultNo / 5355 % 3

/-- The severity of the access-fault event: one of those the rate limit acts on (R27, R43, R376). -/
opaque accessFaultSeverity : Nat
def sevAccessFault : Nat := accessFaultSeverity % 6

/-- The high-pass filter of an AC input, whose form the spec does not give beyond its corner (R355): its next state and its output, from
its state and a sample; and the figure that the running sum of a Rogowski input stands for (notes/assumptions/52). -/
opaque highPassNext : Nat → Int → Nat
opaque highPassOut : Nat → Int → Int
opaque rogowski : Int → Int

/-- Byte of a journal record's payload whose layout the spec does not give: record type, what the record holds, and the byte's
place (notes/assumptions/50). -/
opaque unlaidByte : Nat → List Nat → Nat → Byte

/-- The boot ROM's contents (R26). -/
opaque bootRom : Nat → Byte

/-- Levels and counts that come from outside the module and that no command carries: the level at the land of a PINMUX entry
at an instant (R542), the amplitude of the 40 MHz crystal (R325), the USB frame number (R514), and what EVR_OLDEST_SEQ shows while
no record is held (R386). -/
opaque landLevel : Nat → Nat → Bool
opaque xtalAmp : Nat
opaque usbFrame : Nat → Nat
opaque oldestOfNone : Nat

/-- The MAC address of the far end of UPLINK's and TIE's link, by port, and the bytes of the pair block's receive buffer (R264):
the spec gives neither (notes/assumptions/51). -/
opaque farMac : Nat → Nat
opaque tieRxBytes : Nat

/-- The quality of the active's module time, by the beat its HEARTBEAT named, which R410 has the peer show and no record of R390
carries (notes/assumptions/53). -/
opaque peerQuality : Nat → Nat

/-- The fused MAC base address of the ports (R248) and the silicon revision (R468). -/
opaque baseMac : Nat
opaque revision : Nat

/-- The version of the Hiornian firmware in slot A at delivery (R468). -/
opaque version0 : Nat

/-- The packing of an event's arguments into bytes 20-31 of its record (R374): code and argument values. -/
opaque packArgs : Nat → List Nat → Bytes

end Sys2Proof.Config
end

