-- ==== Sys2Proof/Machine/Flags.lean ====
section
/-! DEFINITION. Bit fields, byte order, two's complement, saturation and check sequences: the computations that every
block shares (R5, R157, R159, R273, R328). -/

namespace Sys2Proof.Machine

/-! ### Bit fields -/

/-- Bits hi…lo of a number. -/
def bits (w hi lo : Nat) : Nat := w / 2 ^ lo % 2 ^ (hi + 1 - lo)

/-- `w` with bits hi…lo replaced by the low bits of `v`. -/
def putBits (w v hi lo : Nat) : Nat :=
  w / 2 ^ (hi + 1) * 2 ^ (hi + 1) + v % 2 ^ (hi + 1 - lo) * 2 ^ lo + w % 2 ^ lo

/-- Bit `i` of a number. -/
def bit (w i : Nat) : Bool := w / 2 ^ i % 2 == 1

/-- 1 for true, 0 for false. -/
def b2n (b : Bool) : Nat := if b then 1 else 0

/-- `w` with bit `i` set or cleared. -/
def setBit (w i : Nat) (b : Bool) : Nat := putBits w (b2n b) i i

/-- The indices below `n` of the bits that are set. -/
def bitList (w n : Nat) : List Nat := (List.range n).filter (fun i => bit w i)

/-- How many of the low `n` bits are set. -/
def popCount (w n : Nat) : Nat := (bitList w n).length

/-- `a` with the bits of `b` cleared. -/
def clearBits (a b : Nat) : Nat := a - (a &&& b)

/-! ### Two's complement and saturation -/

/-- The signed value of the low `n` bits. -/
def sext (n w : Nat) : Int := if w % 2 ^ n < 2 ^ (n - 1) then (w % 2 ^ n : Nat) else (w % 2 ^ n : Nat) - (2 ^ n : Nat)

/-- The low `n` bits of a signed value, as a number. -/
def toTwos (n : Nat) (i : Int) : Nat := (i % (2 ^ n : Nat)).toNat

/-- A signed value saturated to `n` bits, as a number. -/
def satTwos (n : Nat) (i : Int) : Nat :=
  toTwos n (max (-(2 ^ (n - 1) : Nat)) (min i ((2 ^ (n - 1) : Nat) - 1)))

/-- `a + k` saturated at `n` bits. -/
def satAdd (n a k : Nat) : Nat := min (a + k) (2 ^ n - 1)

def clampNat (x lo hi : Nat) : Nat := max lo (min x hi)

/-- ⌈a / b⌉. -/
def ceilDiv (a b : Nat) : Nat := (a + b - 1) / b

/-- `a` is later than `b` modulo 2^n: (a − b) mod 2^n lies in 1…2^(n−1) − 1 (R67 for n = 32). -/
def laterMod (n a b : Nat) : Bool :=
  let δ := (a + 2 ^ n - b % 2 ^ n) % 2 ^ n
  0 < δ && δ < 2 ^ (n - 1)

/-! ### Byte order (R5) -/

/-- The value of little-endian bytes. -/
def leNat : Bytes → Nat
  | [] => 0
  | b :: r => b.toNat + 256 * leNat r

/-- `n` bytes of a value, little-endian. -/
def toLE : Nat → Nat → Bytes
  | 0, _ => []
  | n + 1, v => BitVec.ofNat 8 v :: toLE n (v / 256)

/-- `n` bytes of a value, big-endian. -/
def toBE (n v : Nat) : Bytes := (toLE n v).reverse

/-- The value of big-endian bytes. -/
def beNat (b : Bytes) : Nat := leNat b.reverse

/-- `n` bytes at offset `off`; bytes beyond the end read as 0. -/
def slice (b : Bytes) (off n : Nat) : Bytes :=
  let r := (b.drop off).take n
  r ++ List.replicate (n - r.length) 0

/-- The little-endian field of `n` bytes at offset `off`. -/
def fieldLE (b : Bytes) (off n : Nat) : Nat := leNat (slice b off n)

/-- The byte at offset `off`, as a number. -/
def byteAt (b : Bytes) (off : Nat) : Nat := fieldLE b off 1

/-- All bytes are 0. -/
def allZero (b : Bytes) : Bool := b.all (fun x => x == 0)

/-- The length of `n` bytes padded to a multiple of 8. -/
def pad8 (n : Nat) : Nat := (n + 7) / 8 * 8

/-- The bytes padded with zeros to a multiple of 8. -/
def padded (b : Bytes) : Bytes := b ++ List.replicate (pad8 b.length - b.length) 0

/-! ### Check sequences -/

/-- One bit of a CRC of width `n` that is not reflected: the register shifts left, and takes the polynomial when the bit
shifted out differs from the input bit. -/
def crcBit (n poly reg : Nat) (b : Bool) : Nat :=
  let top := bit reg (n - 1)
  let sh := reg * 2 % 2 ^ n
  if top == b then sh else Nat.xor sh poly

/-- One byte, most significant bit first. -/
def crcByte (n poly reg : Nat) (b : Byte) : Nat :=
  [7, 6, 5, 4, 3, 2, 1, 0].foldl (fun r i => crcBit n poly r (bit b.toNat i)) reg

/-- CRC-64/ECMA-182 (R159). -/
def crc64 (b : Bytes) : Nat := b.foldl (crcByte 64 0x42F0E1EBA9EA3693) 0

/-- CRC-16/CCITT-FALSE (R273, R336). -/
def crc16 (b : Bytes) : Nat := b.foldl (crcByte 16 0x1021) 0xFFFF

/-- One bit of a reflected CRC-32 of the polynomial given: the register shifts right. -/
def crc32Step (poly reg : Nat) : Nat := if reg % 2 = 1 then Nat.xor (reg / 2) poly else reg / 2

/-- A reflected CRC-32, initial value and final XOR all ones. -/
def crc32Of (poly : Nat) (b : Bytes) : Nat :=
  Nat.xor 0xFFFFFFFF (b.foldl (fun r x =>
    [0, 1, 2, 3, 4, 5, 6, 7].foldl (fun r' _ => crc32Step poly r') (Nat.xor r x.toNat)) 0xFFFFFFFF)

/-- CRC-32C, which the spec names without its parameters: polynomial 0x1EDC_6F41 (PRESUMED, notes/assumptions/6). -/
def crc32c (b : Bytes) : Nat := crc32Of 0x82F63B78 b

/-- The CRC-32 of IEEE 802.3 and of the 4-octet FCS of IEEE 802.15.4, which the spec names without its parameters (R206, R249):
polynomial 0x04C1_1DB7 (PRESUMED, notes/assumptions/51). -/
def crc32 (b : Bytes) : Nat := crc32Of 0xEDB88320 b

/-- The FCS of a frame, in the order sent (R206, R249). -/
def fcs (b : Bytes) : Bytes := toLE 4 (crc32 b)

/-! ### Lists -/

/-- Inserts into a list ordered by `key`, after equal keys. -/
def insertBy {α : Type} (key : α → Nat) (x : α) : List α → List α
  | [] => [x]
  | y :: r => if key x < key y then x :: y :: r else y :: insertBy key x r

/-- A stable sort by `key`. -/
def sortBy {α : Type} (key : α → Nat) (l : List α) : List α := l.foldl (fun acc x => insertBy key x acc) []

/-- Replaces element `i` by its image. -/
def modifyAt {α : Type} (l : List α) (i : Nat) (f : α → α) : List α := l.mapIdx (fun j x => if j = i then f x else x)

/-- The keys are strictly rising. -/
def rising : List Nat → Bool
  | [] => true
  | [_] => true
  | a :: b :: r => a < b && rising (b :: r)

/-- No element occurs twice. -/
def noDup (l : List Nat) : Bool := l.length == l.eraseDups.length

/-- Strictly falling. -/
def falling : List Nat → Bool
  | [] => true
  | [_] => true
  | a :: b :: r => b < a && falling (b :: r)

/-- The sum of a list. -/
def sumOf {α : Type} (l : List α) (f : α → Nat) : Nat := l.foldl (fun n x => n + f x) 0

/-- The bits of an integer square root below `2 ^ k`, added to `r`. -/
def isqrtFrom (n : Nat) : Nat → Nat → Nat
  | 0, r => r
  | k + 1, r => isqrtFrom n k (if (r + 2 ^ k) * (r + 2 ^ k) ≤ n then r + 2 ^ k else r)

/-- The integer square root of a number below 2^96 (R356). -/
def isqrt (n : Nat) : Nat := isqrtFrom n 48 0

end Sys2Proof.Machine
end

