-- ==== Sys2Proof/Machine/Events.lean ====
section
/-! DEFINITION. Event codes and their severities, as the event tables of the spec give them (R42, R43, R75, R102, R175,
R203, R245, R274, R299, R323, R349, R372, R385, R411, R447, R466, R483, R501, R512, R62, R67, R72, R525, R542). Bits 15:8 of a
code are the block ID of its source. -/

namespace Sys2Proof.Machine

/-- An event code with its severity (R42, R43). -/
structure EvCode where
  code : Nat
  sev : Nat
deriving DecidableEq, Repr

def Ev.STATE_CHANGE : EvCode := ⟨0x0001, 2⟩
def Ev.ILLEGAL_STATE : EvCode := ⟨0x0011, 3⟩
def Ev.CMD_INTEGRITY : EvCode := ⟨0x0012, 5⟩
/-- OVERRUN. -/
def Ev.OVERRUN : EvCode := ⟨0x0101, 3⟩
/-- PASSES_LOWERED. -/
def Ev.PASSES_LOWERED : EvCode := ⟨0x0102, 4⟩
/-- PPS_REJECT. -/
def Ev.PPS_REJECT : EvCode := ⟨0x0103, 1⟩
/-- PASSES_SET. -/
def Ev.PASSES_SET : EvCode := ⟨0x0104, 2⟩
/-- SOURCE_CHANGE. -/
def Ev.SOURCE_CHANGE : EvCode := ⟨0x0105, 2⟩
/-- REALIGN. -/
def Ev.REALIGN : EvCode := ⟨0x0106, 2⟩
/-- PPS_ACQUIRED. -/
def Ev.PPS_ACQUIRED : EvCode := ⟨0x0107, 2⟩
/-- LOAD_DONE. -/
def Ev.LOAD_DONE : EvCode := ⟨0x0201, 2⟩
/-- LOAD_REFUSED. -/
def Ev.LOAD_REFUSED : EvCode := ⟨0x0202, 3⟩
/-- PATCH_APPLIED. -/
def Ev.PATCH_APPLIED : EvCode := ⟨0x0203, 2⟩
/-- PATCH_REFUSED. -/
def Ev.PATCH_REFUSED : EvCode := ⟨0x0204, 3⟩
/-- FALLBACK_IN_USE. -/
def Ev.FALLBACK_IN_USE : EvCode := ⟨0x0205, 4⟩
/-- SLOT_FALLBACK. -/
def Ev.SLOT_FALLBACK : EvCode := ⟨0x0206, 4⟩
/-- OPTIONAL_UNIT_SKIPPED. -/
def Ev.OPTIONAL_UNIT_SKIPPED : EvCode := ⟨0x0207, 4⟩
/-- SECTION_SKIPPED. -/
def Ev.SECTION_SKIPPED : EvCode := ⟨0x0208, 1⟩
/-- SAFETY_FRAME_KEPT. -/
def Ev.SAFETY_FRAME_KEPT : EvCode := ⟨0x0209, 3⟩
/-- INGEST_FULL. Arguments: Beat, fill, limit in force. -/
def Ev.INGEST_FULL : EvCode := ⟨0x0301, 3⟩
/-- INGEST_BAD. Arguments: Master, eid, kind. -/
def Ev.INGEST_BAD : EvCode := ⟨0x0302, 3⟩
/-- C1_SET. Arguments: Scope, id, level, beat of effect, duration. -/
def Ev.C1_SET : EvCode := ⟨0x0303, 2⟩
/-- C1_CLEARED. Arguments: Scope, id, cause: cleared or expired. -/
def Ev.C1_CLEARED : EvCode := ⟨0x0304, 2⟩
/-- C0_ACTIVE. Arguments: Index, cause: CLASS0 or EMG, latch beat. -/
def Ev.C0_ACTIVE : EvCode := ⟨0x0305, 7⟩
/-- C0_RELEASED. Arguments: Index, latch beat, nodes released as R135 counts them. -/
def Ev.C0_RELEASED : EvCode := ⟨0x0306, 2⟩
/-- C0_RELEASE_REFUSED. Arguments: Index, state of EMG channels A and B. -/
def Ev.C0_RELEASE_REFUSED : EvCode := ⟨0x0307, 3⟩
/-- OVERRIDES_CLEARED. Arguments: Cause: boot, full load or patch; count. -/
def Ev.OVERRIDES_CLEARED : EvCode := ⟨0x0308, 2⟩
/-- SCHEDULE_EXCEPTION. Arguments: Exception index, local date. -/
def Ev.SCHEDULE_EXCEPTION : EvCode := ⟨0x0309, 1⟩
/-- OFFSET_CHANGE. Arguments: Old and new offset in minutes, exception index. -/
def Ev.OFFSET_CHANGE : EvCode := ⟨0x030A, 2⟩
/-- CS_LIMIT. Arguments: Beat, items, pending left, cursor. -/
def Ev.CS_LIMIT : EvCode := ⟨0x030B, 1⟩
/-- CS_REFUSED. Arguments: Beat of the change-set, items refused, first EID. -/
def Ev.CS_REFUSED : EvCode := ⟨0x030C, 3⟩
/-- BUDGET_WARNING. Arguments: t_pred in µs, deadline in µs, lanes, passes. -/
def Ev.BUDGET_WARNING : EvCode := ⟨0x030D, 3⟩
/-- ENGINE_STATE_RESET. Arguments: Cause: boot or full load. -/
def Ev.ENGINE_STATE_RESET : EvCode := ⟨0x030E, 2⟩
/-- PUSH_REFUSED. Arguments: Queue, producer, fill, cause: depth or pool. -/
def Ev.PUSH_REFUSED : EvCode := ⟨0x0401, 3⟩
/-- QUEUE_FLUSHED. Arguments: Queue, items discarded, engine EIDs reported, cause: command or full load. -/
def Ev.QUEUE_FLUSHED : EvCode := ⟨0x0402, 2⟩
/-- TIMER_DEFERRED. Arguments: Beat, releases deferred, lowest queue refused. -/
def Ev.TIMER_DEFERRED : EvCode := ⟨0x0403, 3⟩
/-- HOLD_RELEASED. Arguments: Core, items released. -/
def Ev.HOLD_RELEASED : EvCode := ⟨0x0404, 4⟩
/-- BAD_DONE. Arguments: Master, value written. -/
def Ev.BAD_DONE : EvCode := ⟨0x0405, 3⟩
/-- TIMER_STORE_FULL. Arguments: Master, queue. -/
def Ev.TIMER_STORE_FULL : EvCode := ⟨0x0406, 3⟩
/-- PUSH_BAD. Arguments: Master, queue, flow. -/
def Ev.PUSH_BAD : EvCode := ⟨0x0407, 3⟩
/-- LINK_LOST. Arguments: Link, cause: supervision, retries or fc32; frames held. -/
def Ev.RAD_LINK_LOST : EvCode := ⟨0x0501, 3⟩
/-- LINK_OPENED. Arguments: Link, operation: OPEN or RESUME. -/
def Ev.RAD_LINK_OPENED : EvCode := ⟨0x0502, 1⟩
/-- LINK_CLOSED. Arguments: Link, frames discarded, EIDs reported. -/
def Ev.RAD_LINK_CLOSED : EvCode := ⟨0x0503, 2⟩
/-- DWELL_DEFER. Arguments: Accumulator, used, limit. -/
def Ev.RAD_DWELL_DEFER : EvCode := ⟨0x0504, 3⟩
/-- C0_BOUND_SUSPENDED. Arguments: Channel or sub-band, used, limit. -/
def Ev.RAD_C0_BOUND_SUSPENDED : EvCode := ⟨0x0505, 4⟩
/-- C0_BOUND_RESTORED. Arguments: Beat. -/
def Ev.RAD_C0_BOUND_RESTORED : EvCode := ⟨0x0506, 2⟩
/-- BEACON_LOST. Arguments: Beat of the third miss. -/
def Ev.RAD_BEACON_LOST : EvCode := ⟨0x0507, 4⟩
/-- BEACON_FOUND. Arguments: Beat. -/
def Ev.RAD_BEACON_FOUND : EvCode := ⟨0x0508, 2⟩
/-- BEACON_BEAT_MISMATCH. Arguments: Own beat, beacon's beat. -/
def Ev.RAD_BEACON_BEAT_MISMATCH : EvCode := ⟨0x0509, 4⟩
/-- BEACON_WITHHELD. Arguments: Beat, cause: slot or dwell. -/
def Ev.RAD_BEACON_WITHHELD : EvCode := ⟨0x050A, 3⟩
/-- TX_DROPPED. Arguments: Link handle, cause: no link, quota or length. -/
def Ev.RAD_TX_DROPPED : EvCode := ⟨0x050B, 3⟩
/-- WAKE. Arguments: Channel, RSSI. -/
def Ev.RAD_WAKE : EvCode := ⟨0x050C, 1⟩
/-- C0_SLOT_QUEUED. Arguments: Frame index, frames ahead of it, latch beat. -/
def Ev.RAD_C0_SLOT_QUEUED : EvCode := ⟨0x050D, 4⟩
/-- LINK_LOST. Arguments: Link, cause: supervision or retries or fc32; frames held. -/
def Ev.TRK_LINK_LOST : EvCode := ⟨0x0601, 3⟩
/-- LINK_OPENED. Arguments: Link, OPEN or RESUME. -/
def Ev.TRK_LINK_OPENED : EvCode := ⟨0x0602, 1⟩
/-- LINK_CLOSED. Arguments: Link, frames discarded, EIDs reported. -/
def Ev.TRK_LINK_CLOSED : EvCode := ⟨0x0603, 2⟩
/-- PLCA_CONFLICT. Arguments: Beat, source MAC. -/
def Ev.TRK_PLCA_CONFLICT : EvCode := ⟨0x0604, 5⟩
/-- C0_BOUND_SUSPENDED. Arguments: Beat, pause quanta. -/
def Ev.TRK_C0_BOUND_SUSPENDED : EvCode := ⟨0x0605, 4⟩
/-- C0_BOUND_RESTORED. Arguments: Beat. -/
def Ev.TRK_C0_BOUND_RESTORED : EvCode := ⟨0x0606, 2⟩
/-- PORT_LINK. Arguments: Up or down, speed. -/
def Ev.TRK_PORT_LINK : EvCode := ⟨0x0607, 3⟩
/-- WAKE_MATCH. Arguments: Pattern. -/
def Ev.TRK_WAKE_MATCH : EvCode := ⟨0x0608, 1⟩
/-- TX_DROPPED. Arguments: Link handle, cause. -/
def Ev.TRK_TX_DROPPED : EvCode := ⟨0x0609, 3⟩
/-- C0_FRAME_DISCARDED. Arguments: Beat, frame index. -/
def Ev.TRK_C0_FRAME_DISCARDED : EvCode := ⟨0x060A, 5⟩
/-- PLCA_STANDIN. Arguments: Beat. -/
def Ev.TRK_PLCA_STANDIN : EvCode := ⟨0x060B, 4⟩
/-- PTP_LOCKED. Arguments: Port, grandmaster, offset. -/
def Ev.PTP_LOCKED : EvCode := ⟨0x0701, 2⟩
/-- PTP_UNLOCKED. Arguments: Port, cause. -/
def Ev.PTP_UNLOCKED : EvCode := ⟨0x0702, 3⟩
/-- JUMP_REFUSED. Arguments: Source, correction in ns, beats to slew. -/
def Ev.JUMP_REFUSED : EvCode := ⟨0x0703, 3⟩
/-- TIME_FORCED. Arguments: Step in ns. -/
def Ev.TIME_FORCED : EvCode := ⟨0x0704, 2⟩
/-- TIME_STEPPED_AT_LOCK. Arguments: Step in ns. -/
def Ev.TIME_STEPPED_AT_LOCK : EvCode := ⟨0x0705, 2⟩
/-- TS_OVERFLOW. Arguments: Port, entries lost, last tag. -/
def Ev.TS_OVERFLOW : EvCode := ⟨0x0706, 3⟩
/-- LAUNCH_LATE. Arguments: Port, tag, late or discarded. -/
def Ev.LAUNCH_LATE : EvCode := ⟨0x0707, 3⟩
/-- UTC_OFFSET_CHANGE. Arguments: Old, new, cause. -/
def Ev.UTC_OFFSET_CHANGE : EvCode := ⟨0x0708, 2⟩
/-- GM_CHANGE. Arguments: Old and new identity, low 32 bits. -/
def Ev.GM_CHANGE : EvCode := ⟨0x0709, 2⟩
/-- TIME_INVALID. Arguments: Cause. -/
def Ev.TIME_INVALID : EvCode := ⟨0x070A, 4⟩
/-- RTC_LOST. -/
def Ev.RTC_LOST : EvCode := ⟨0x0801, 5⟩
/-- ALARM. Arguments: Alarm. -/
def Ev.ALARM : EvCode := ⟨0x0802, 1⟩
/-- ALARM_MAYSKIP. Arguments: Alarm, old and new second count. -/
def Ev.ALARM_MAYSKIP : EvCode := ⟨0x0803, 3⟩
/-- CAL_WRITTEN. Arguments: Master. -/
def Ev.CAL_WRITTEN : EvCode := ⟨0x0804, 1⟩
/-- TICK_ALARM. Arguments: Target. -/
def Ev.TICK_ALARM : EvCode := ⟨0x0805, 1⟩
/-- MAIN_CLOCK_FAIL. Arguments: Cause: crystal or PLL; state before. -/
def Ev.MAIN_CLOCK_FAIL : EvCode := ⟨0x0901, 6⟩
/-- MAIN_CLOCK_RETURNED. Arguments: Outage in ms. -/
def Ev.MAIN_CLOCK_RETURNED : EvCode := ⟨0x0902, 2⟩
/-- XTAL32_FAIL. Arguments: On VBAT or main power. -/
def Ev.XTAL32_FAIL : EvCode := ⟨0x0903, 5⟩
/-- SW_FORCED. Arguments: Mux, old and new source. -/
def Ev.SW_FORCED : EvCode := ⟨0x0904, 4⟩
/-- RC_TRIM_REF. Arguments: Old and new reference, code. -/
def Ev.RC_TRIM_REF : EvCode := ⟨0x0905, 1⟩
/-- RC_FAIL. Arguments: Measured error. -/
def Ev.RC_FAIL : EvCode := ⟨0x0906, 5⟩
/-- POWER_FAIL. Arguments: Beat, VIN, VHOLD. -/
def Ev.POWER_FAIL : EvCode := ⟨0x0A01, 5⟩
/-- UNCLEAN_STOP. Arguments: Last step committed. -/
def Ev.UNCLEAN_STOP : EvCode := ⟨0x0A02, 6⟩
/-- VIN_RANGE. Arguments: VIN in mV, low or high. -/
def Ev.VIN_RANGE : EvCode := ⟨0x0A03, 4⟩
/-- HOLDUP_LOW. Arguments: VHOLD in mV, or measured C and ESR. -/
def Ev.HOLDUP_LOW : EvCode := ⟨0x0A04, 4⟩
/-- HOLDUP_MEASURED. Arguments: C in 0.1 µF, ESR in mΩ. -/
def Ev.HOLDUP_MEASURED : EvCode := ⟨0x0A05, 1⟩
/-- VIN_RETURNED_IN_FLUSH. Arguments: Time from detection in µs. -/
def Ev.VIN_RETURNED_IN_FLUSH : EvCode := ⟨0x0A06, 2⟩
/-- MOUNTED. Arguments: Records in force, highest seq. -/
def Ev.MOUNTED : EvCode := ⟨0x0B01, 2⟩
/-- RECORD_DISCARDED. Arguments: Region, offset, cause: marker or CRC. -/
def Ev.RECORD_DISCARDED : EvCode := ⟨0x0B02, 4⟩
/-- LEDGER_RESTORED. Arguments: Flush chunks used, GAP records, checks failed. -/
def Ev.LEDGER_RESTORED : EvCode := ⟨0x0B03, 2⟩
/-- SCRUB_PASS. Arguments: Corrected words. -/
def Ev.SCRUB_PASS : EvCode := ⟨0x0B04, 1⟩
/-- LINE_REMAPPED. Arguments: Offset. -/
def Ev.LINE_REMAPPED : EvCode := ⟨0x0B05, 5⟩
/-- JOURNAL_FULL. Arguments: Region, type. -/
def Ev.JOURNAL_FULL : EvCode := ⟨0x0B06, 3⟩
/-- SPARE_LOW. Arguments: Lines left. -/
def Ev.SPARE_LOW : EvCode := ⟨0x0B07, 4⟩
/-- SPARE_EXHAUSTED. Arguments: Offset. -/
def Ev.SPARE_EXHAUSTED : EvCode := ⟨0x0B08, 6⟩
/-- NAND_BLOCK_RETIRED. Arguments: Partition, block, reserve left. -/
def Ev.NAND_BLOCK_RETIRED : EvCode := ⟨0x0B09, 4⟩
/-- RECORD_WRITTEN. Arguments: Record number, channel. -/
def Ev.RECORD_WRITTEN : EvCode := ⟨0x0C01, 0⟩
/-- CHANNEL_UNMEASURED. Arguments: Channel, cause: unit map or not enabled. -/
def Ev.CHANNEL_UNMEASURED : EvCode := ⟨0x0C02, 4⟩
/-- LEDGER_RESTORE_BOOKED. Arguments: lost per feeder. -/
def Ev.LEDGER_RESTORE_BOOKED : EvCode := ⟨0x0C03, 2⟩
/-- OUTAGE. Arguments: Channel, outage_s, unclean. -/
def Ev.OUTAGE : EvCode := ⟨0x0C04, 3⟩
/-- RECORD_REFUSED. Arguments: Record number, queue. -/
def Ev.RECORD_REFUSED : EvCode := ⟨0x0C05, 3⟩
/-- PULSE_RESTART. Arguments: Output, pulses emitted before and after. -/
def Ev.PULSE_RESTART : EvCode := ⟨0x0C06, 3⟩
/-- CLIPPING. Arguments: Channel, input V or I, samples clipped. -/
def Ev.CLIPPING : EvCode := ⟨0x0C07, 4⟩
/-- RECORDER_STARTED. Arguments: Highest sequence found, clean flag. -/
def Ev.RECORDER_STARTED : EvCode := ⟨0x0D01, 2⟩
/-- SUPPRESSED. Arguments: Code, count. -/
def Ev.SUPPRESSED : EvCode := ⟨0x0D02, 1⟩
/-- RING_DROP. Arguments: Severity of the record dropped, drops since boot. -/
def Ev.RING_DROP : EvCode := ⟨0x0D03, 4⟩
/-- ROLE_CHANGE. Arguments: Old and new role, cause. -/
def Ev.ROLE_CHANGE : EvCode := ⟨0x0E01, 2⟩
/-- HANDSHAKE. Arguments: Peer unit, result. -/
def Ev.HANDSHAKE : EvCode := ⟨0x0E02, 2⟩
/-- DIGEST_MISMATCH. Arguments: Beat, both digests. -/
def Ev.DIGEST_MISMATCH : EvCode := ⟨0x0E03, 5⟩
/-- RESYNC_DONE. Arguments: Beat s, bytes, catch-up ms. -/
def Ev.RESYNC_DONE : EvCode := ⟨0x0E04, 2⟩
/-- INELIGIBLE. Arguments: Cause. -/
def Ev.INELIGIBLE : EvCode := ⟨0x0E05, 4⟩
/-- TIE_LOST. Arguments: Beat of the third miss. -/
def Ev.TIE_LOST : EvCode := ⟨0x0E06, 4⟩
/-- LEASE_LOST. Arguments: Term. -/
def Ev.LEASE_LOST : EvCode := ⟨0x0E07, 4⟩
/-- TAKEOVER. Arguments: Cause: grant, heartbeat or handover; epoch kept or new. -/
def Ev.TAKEOVER : EvCode := ⟨0x0E08, 4⟩
/-- TIME_DISAGREE. Arguments: Offset in ns. -/
def Ev.TIME_DISAGREE : EvCode := ⟨0x0E09, 3⟩
/-- EPOCH_ADOPTED. Arguments: Old and new pair count. -/
def Ev.EPOCH_ADOPTED : EvCode := ⟨0x0E0A, 2⟩
/-- UNMIRRORED. Arguments: Beat. -/
def Ev.UNMIRRORED : EvCode := ⟨0x0E0B, 4⟩
/-- RESEND_DONE. Arguments: Items. -/
def Ev.RESEND_DONE : EvCode := ⟨0x0E0C, 2⟩
/-- BOTH_ACTIVE. Arguments: Loser, term. -/
def Ev.BOTH_ACTIVE : EvCode := ⟨0x0E0D, 5⟩
/-- KEY_UPDATED. Arguments: key_id, generation, op. -/
def Ev.KEY_UPDATED : EvCode := ⟨0x0F01, 2⟩
/-- KEY_INVALIDATED. Arguments: key_id, descendants. -/
def Ev.KEY_INVALIDATED : EvCode := ⟨0x0F02, 3⟩
/-- SLOTS_ORPHANED. Arguments: Slots, links closed. -/
def Ev.SLOTS_ORPHANED : EvCode := ⟨0x0F03, 3⟩
/-- LIFECYCLE. Arguments: Old and new state. -/
def Ev.LIFECYCLE : EvCode := ⟨0x0F04, 5⟩
/-- USE_REFUSED. Arguments: key_id, master, usage. -/
def Ev.USE_REFUSED : EvCode := ⟨0x0F05, 3⟩
/-- BLOB_INTEGRITY. Arguments: key_id, slot. -/
def Ev.BLOB_INTEGRITY : EvCode := ⟨0x0F06, 5⟩
/-- SLOT_WAIT. Arguments: key_id, wait in µs. -/
def Ev.SLOT_WAIT : EvCode := ⟨0x0F07, 3⟩
/-- ROOT_MISSING. -/
def Ev.ROOT_MISSING : EvCode := ⟨0x0F08, 6⟩
/-- STEP_FAILED. Arguments: Step, path, cause, consec. -/
def Ev.STEP_FAILED : EvCode := ⟨0x1001, 5⟩
/-- ALTERNATIVE_TAKEN. Arguments: Step, consec. -/
def Ev.ALTERNATIVE_TAKEN : EvCode := ⟨0x1002, 4⟩
/-- BOOT_FAILSAFE. Arguments: Step, consec. -/
def Ev.BOOT_FAILSAFE : EvCode := ⟨0x1003, 6⟩
/-- BOOT_DONE. Arguments: Boot count, ms, steps on alternative. -/
def Ev.BOOT_DONE : EvCode := ⟨0x1004, 2⟩
/-- TEST_DONE. Arguments: Command sequence, tests passed, failed, incomplete. -/
def Ev.TEST_DONE : EvCode := ⟨0x1005, 2⟩
/-- TEST_ABORTED. Arguments: Tests, cause. -/
def Ev.TEST_ABORTED : EvCode := ⟨0x1006, 3⟩
/-- UNIT_REMOVED. Arguments: Unit kind, index, test. -/
def Ev.UNIT_REMOVED : EvCode := ⟨0x1007, 4⟩
/-- RESULT_STALE. Arguments: Unit kind, index, age in days. -/
def Ev.RESULT_STALE : EvCode := ⟨0x1008, 3⟩
/-- FAILCOUNT_CLEARED. Arguments: Master. -/
def Ev.FAILCOUNT_CLEARED : EvCode := ⟨0x1009, 2⟩
/-- LINTEL_UNAVAILABLE. Arguments: Failing step. -/
def Ev.LINTEL_UNAVAILABLE : EvCode := ⟨0x100A, 4⟩
/-- IMAGE_STAGED. Arguments: Sequence, slot, version. -/
def Ev.IMAGE_STAGED : EvCode := ⟨0x1101, 2⟩
/-- ACTIVATED. Arguments: Sequence, version, pause in ms. -/
def Ev.ACTIVATED : EvCode := ⟨0x1102, 2⟩
/-- ROLLBACK. Arguments: Failed and restored versions. -/
def Ev.ROLLBACK : EvCode := ⟨0x1103, 5⟩
/-- STAGE_REFUSED. Arguments: Sequence, check, status. -/
def Ev.STAGE_REFUSED : EvCode := ⟨0x1104, 3⟩
/-- SETTINGS_RESET. Arguments: Old and new schema, cause. -/
def Ev.SETTINGS_RESET : EvCode := ⟨0x1105, 3⟩
/-- FLOOR_RAISED. Arguments: Old and new floor. -/
def Ev.FLOOR_RAISED : EvCode := ⟨0x1106, 2⟩
/-- LIB_WRITTEN. Arguments: lib_id, version. -/
def Ev.LIB_WRITTEN : EvCode := ⟨0x1107, 1⟩
/-- LIB_DELETED. Arguments: lib_id. -/
def Ev.LIB_DELETED : EvCode := ⟨0x1108, 1⟩
/-- LAMP_OPEN_SUSPECT. Arguments: String, lamp, mV. -/
def Ev.LAMP_OPEN_SUSPECT : EvCode := ⟨0x1201, 3⟩
/-- LAMP_OPEN. Arguments: String, lamp, lamps usable. -/
def Ev.LAMP_OPEN : EvCode := ⟨0x1202, 4⟩
/-- LAMP_SHORT. Arguments: String, lamp, mV. -/
def Ev.LAMP_SHORT : EvCode := ⟨0x1203, 3⟩
/-- NEIGHBOUR_SHORT. Arguments: Matrix, both lands. -/
def Ev.NEIGHBOUR_SHORT : EvCode := ⟨0x1204, 5⟩
/-- DERATING. Arguments: String or matrix, *f*, start or end. -/
def Ev.DERATING : EvCode := ⟨0x1205, 3⟩
/-- NTC_FAULT. Arguments: Input, reading. -/
def Ev.NTC_FAULT : EvCode := ⟨0x1206, 4⟩
/-- LAMP_RETURNED. Arguments: String, lamp. -/
def Ev.LAMP_RETURNED : EvCode := ⟨0x1207, 2⟩
/-- DOWN_DROPPED. Arguments: Cause: full, reserved kind, state; count. -/
def Ev.DOWN_DROPPED : EvCode := ⟨0x1301, 3⟩
/-- BAD_COMMAND. Arguments: Command byte. -/
def Ev.BAD_COMMAND : EvCode := ⟨0x1302, 3⟩
/-- USB_ATTACHED. Arguments: Attached or detached. -/
def Ev.USB_ATTACHED : EvCode := ⟨0x1401, 1⟩
/-- EMG_DISAGREE. Arguments: Levels of channels A and B, duration in ms. -/
def Ev.EMG_DISAGREE : EvCode := ⟨0x0013, 7⟩
/-- STRAP_IGNORED. Arguments: Straps sampled, life-cycle state. -/
def Ev.STRAP_IGNORED : EvCode := ⟨0x0020, 3⟩

end Sys2Proof.Machine
end

