-- ==== Sys2Proof/Machine/RegMap.lean ====
section
/-! DEFINITION. The register map: one descriptor per register field of the spec's register tables (R36, R74, R103,
R176, R204, R246, R275, R300, R301, R324, R325, R350, R373, R386, R412, R448, R467, R484, R502, R513, R514, R542),
and the access-type table that REGISTER_WRITE follows (R31). A key is block ID × 0x1_0000 + offset (R29); radio n
adds n × 0x4000, trunk port p adds p × 0x1000 (UPLINK is port 14, TIE port 15), a metering channel adds
0x200 + 0x40 × channel, and a register banked per master adds (bank + 1) × 0x100_0000. -/

namespace Sys2Proof.Machine

/-- The whole word of SYS_STATUS (R36). -/
def Reg.SYS_STATUS.word : Fld := ⟨0x000000, 31, 0⟩
def Reg.SYS_STATUS.lock_viol : Fld := ⟨0x000000, 16, 16⟩
def Reg.SYS_STATUS.hold_pending : Fld := ⟨0x000000, 10, 10⟩
def Reg.SYS_STATUS.degraded : Fld := ⟨0x000000, 9, 9⟩
def Reg.SYS_STATUS.c0_suspended : Fld := ⟨0x000000, 8, 8⟩
def Reg.SYS_STATUS.ledger_complete : Fld := ⟨0x000000, 7, 7⟩
def Reg.SYS_STATUS.role : Fld := ⟨0x000000, 6, 4⟩
def Reg.SYS_STATUS.state : Fld := ⟨0x000000, 2, 0⟩
/-- The whole word of SYS_CMD_BAD (R36). -/
def Reg.SYS_CMD_BAD.word : Fld := ⟨0x000004, 31, 0⟩
/-- The whole word of SYS_UNIT_LO (R36). -/
def Reg.SYS_UNIT_LO.word : Fld := ⟨0x000008, 31, 0⟩
/-- The whole word of SYS_UNIT_HI (R36). -/
def Reg.SYS_UNIT_HI.word : Fld := ⟨0x00000C, 31, 0⟩
/-- The whole word of SYS_C0_SUSPEND (R36). -/
def Reg.SYS_C0_SUSPEND.word : Fld := ⟨0x000010, 31, 0⟩
def Reg.SYS_C0_SUSPEND.media : Fld := ⟨0x000010, 13, 0⟩
/-- The whole word of BEAT_CFG (R74). -/
def Reg.BEAT_CFG.word : Fld := ⟨0x010000, 31, 0⟩
def Reg.BEAT_CFG.period : Fld := ⟨0x010000, 2, 0⟩
/-- The whole word of BEAT_STATUS (R74). -/
def Reg.BEAT_STATUS.word : Fld := ⟨0x010004, 31, 0⟩
def Reg.BEAT_STATUS.realign : Fld := ⟨0x010004, 5, 5⟩
def Reg.BEAT_STATUS.slewing : Fld := ⟨0x010004, 4, 4⟩
def Reg.BEAT_STATUS.source : Fld := ⟨0x010004, 3, 2⟩
def Reg.BEAT_STATUS.phase : Fld := ⟨0x010004, 1, 0⟩
/-- The whole word of BEAT_COUNT_LO (R74). -/
def Reg.BEAT_COUNT_LO.word : Fld := ⟨0x010008, 31, 0⟩
/-- The whole word of BEAT_COUNT_HI (R74). -/
def Reg.BEAT_COUNT_HI.word : Fld := ⟨0x01000C, 31, 0⟩
/-- The whole word of BEAT_IN_SEC (R74). -/
def Reg.BEAT_IN_SEC.word : Fld := ⟨0x010010, 31, 0⟩
def Reg.BEAT_IN_SEC.index : Fld := ⟨0x010010, 8, 0⟩
/-- The whole word of BEAT_PASSES (R74). -/
def Reg.BEAT_PASSES.word : Fld := ⟨0x010014, 31, 0⟩
def Reg.BEAT_PASSES.passes_cfg : Fld := ⟨0x010014, 11, 8⟩
def Reg.BEAT_PASSES.passes_now : Fld := ⟨0x010014, 3, 0⟩
/-- The whole word of BEAT_TIMING (R74). -/
def Reg.BEAT_TIMING.word : Fld := ⟨0x010018, 31, 0⟩
def Reg.BEAT_TIMING.commit_rsv : Fld := ⟨0x010018, 31, 16⟩
def Reg.BEAT_TIMING.deadline_us : Fld := ⟨0x010018, 15, 0⟩
/-- The whole word of BEAT_SWEEP_TIME (R74). -/
def Reg.BEAT_SWEEP_TIME.word : Fld := ⟨0x01001C, 31, 0⟩
def Reg.BEAT_SWEEP_TIME.max_us : Fld := ⟨0x01001C, 31, 16⟩
def Reg.BEAT_SWEEP_TIME.last_us : Fld := ⟨0x01001C, 15, 0⟩
/-- The whole word of BEAT_OVR_CNT (R74). -/
def Reg.BEAT_OVR_CNT.word : Fld := ⟨0x010020, 31, 0⟩
/-- The whole word of BEAT_OVR_STATE (R74). -/
def Reg.BEAT_OVR_STATE.word : Fld := ⟨0x010024, 31, 0⟩
def Reg.BEAT_OVR_STATE.carried : Fld := ⟨0x010024, 31, 16⟩
def Reg.BEAT_OVR_STATE.lowered : Fld := ⟨0x010024, 15, 8⟩
def Reg.BEAT_OVR_STATE.consec : Fld := ⟨0x010024, 7, 0⟩
/-- The whole word of BEAT_PHASE_ERR (R74). -/
def Reg.BEAT_PHASE_ERR.word : Fld := ⟨0x010028, 31, 0⟩
/-- The whole word of BEAT_SLEW_LIMIT (R74). -/
def Reg.BEAT_SLEW_LIMIT.word : Fld := ⟨0x01002C, 31, 0⟩
def Reg.BEAT_SLEW_LIMIT.ppm : Fld := ⟨0x01002C, 9, 0⟩
/-- The whole word of BEAT_PPS_CNT (R74). -/
def Reg.BEAT_PPS_CNT.word : Fld := ⟨0x010030, 31, 0⟩
def Reg.BEAT_PPS_CNT.rejected : Fld := ⟨0x010030, 31, 16⟩
def Reg.BEAT_PPS_CNT.accepted : Fld := ⟨0x010030, 15, 0⟩
/-- The whole word of BEAT_IRQ_STATUS (R74). -/
def Reg.BEAT_IRQ_STATUS.word : Fld := ⟨0x010034, 31, 0⟩
def Reg.BEAT_IRQ_STATUS.pps_reject : Fld := ⟨0x010034, 4, 4⟩
def Reg.BEAT_IRQ_STATUS.passes_lowered : Fld := ⟨0x010034, 3, 3⟩
def Reg.BEAT_IRQ_STATUS.overrun : Fld := ⟨0x010034, 2, 2⟩
def Reg.BEAT_IRQ_STATUS.commit_done : Fld := ⟨0x010034, 1, 1⟩
def Reg.BEAT_IRQ_STATUS.boundary : Fld := ⟨0x010034, 0, 0⟩
/-- The whole word of BEAT_IRQ_ENABLE (R74). -/
def Reg.BEAT_IRQ_ENABLE.word : Fld := ⟨0x010038, 31, 0⟩
def Reg.BEAT_IRQ_ENABLE.enable : Fld := ⟨0x010038, 4, 0⟩
/-- The whole word of CUT_STATUS (R103). -/
def Reg.CUT_STATUS.word : Fld := ⟨0x020000, 31, 0⟩
def Reg.CUT_STATUS.last_status : Fld := ⟨0x020000, 15, 8⟩
def Reg.CUT_STATUS.patch_busy : Fld := ⟨0x020000, 5, 5⟩
def Reg.CUT_STATUS.load_busy : Fld := ⟨0x020000, 4, 4⟩
def Reg.CUT_STATUS.opt_skipped : Fld := ⟨0x020000, 3, 3⟩
def Reg.CUT_STATUS.fallback : Fld := ⟨0x020000, 2, 2⟩
def Reg.CUT_STATUS.slot : Fld := ⟨0x020000, 1, 1⟩
def Reg.CUT_STATUS.loaded : Fld := ⟨0x020000, 0, 0⟩
/-- The whole word of CUT_ID_LO (R103). -/
def Reg.CUT_ID_LO.word : Fld := ⟨0x020004, 31, 0⟩
/-- The whole word of CUT_ID_HI (R103). -/
def Reg.CUT_ID_HI.word : Fld := ⟨0x020008, 31, 0⟩
/-- The whole word of CUT_GEN (R103). -/
def Reg.CUT_GEN.word : Fld := ⟨0x02000C, 31, 0⟩
/-- The whole word of CUT_FORMAT (R103). -/
def Reg.CUT_FORMAT.word : Fld := ⟨0x020010, 31, 0⟩
def Reg.CUT_FORMAT.major : Fld := ⟨0x020010, 15, 8⟩
def Reg.CUT_FORMAT.minor : Fld := ⟨0x020010, 7, 0⟩
/-- The whole word of CUT_PATCHES (R103). -/
def Reg.CUT_PATCHES.word : Fld := ⟨0x020014, 31, 0⟩
def Reg.CUT_PATCHES.count : Fld := ⟨0x020014, 6, 0⟩
/-- The whole word of CUT_STAGE_FILL (R103). -/
def Reg.CUT_STAGE_FILL.word : Fld := ⟨0x020018, 31, 0⟩
def Reg.CUT_STAGE_FILL.bytes : Fld := ⟨0x020018, 25, 0⟩
/-- The whole word of CUT_PATCH_FILL (R103). -/
def Reg.CUT_PATCH_FILL.word : Fld := ⟨0x02001C, 31, 0⟩
def Reg.CUT_PATCH_FILL.bytes : Fld := ⟨0x02001C, 20, 0⟩
/-- The whole word of CUT_NODES (R103). -/
def Reg.CUT_NODES.word : Fld := ⟨0x020020, 31, 0⟩
def Reg.CUT_NODES.node_count : Fld := ⟨0x020020, 17, 0⟩
/-- The whole word of CUT_EDGES (R103). -/
def Reg.CUT_EDGES.word : Fld := ⟨0x020024, 31, 0⟩
def Reg.CUT_EDGES.slots : Fld := ⟨0x020024, 20, 0⟩
/-- The whole word of CUT_COPY (R103). -/
def Reg.CUT_COPY.word : Fld := ⟨0x020028, 31, 0⟩
def Reg.CUT_COPY.skipped : Fld := ⟨0x020028, 23, 16⟩
def Reg.CUT_COPY.copy_us : Fld := ⟨0x020028, 15, 0⟩
/-- The whole word of CUT_ERR_SECTION (R103). -/
def Reg.CUT_ERR_SECTION.word : Fld := ⟨0x02002C, 31, 0⟩
def Reg.CUT_ERR_SECTION.type : Fld := ⟨0x02002C, 15, 8⟩
def Reg.CUT_ERR_SECTION.check : Fld := ⟨0x02002C, 7, 0⟩
/-- The whole word of CUT_ERR_OFFSET (R103). -/
def Reg.CUT_ERR_OFFSET.word : Fld := ⟨0x020030, 31, 0⟩
/-- The whole word of CUT_HASH (R103). -/
def Reg.CUT_HASH.word (i : Nat) : Fld := ⟨0x020040 + 4 * i, 31, 0⟩
/-- The whole word of RFT_STATUS (R176). -/
def Reg.RFT_STATUS.word : Fld := ⟨0x030000, 31, 0⟩
def Reg.RFT_STATUS.lanes : Fld := ⟨0x030000, 15, 8⟩
def Reg.RFT_STATUS.passes_run : Fld := ⟨0x030000, 7, 4⟩
def Reg.RFT_STATUS.budget_warn : Fld := ⟨0x030000, 3, 3⟩
def Reg.RFT_STATUS.cur_page : Fld := ⟨0x030000, 1, 1⟩
def Reg.RFT_STATUS.running : Fld := ⟨0x030000, 0, 0⟩
/-- The whole word of RFT_COST (R176). -/
def Reg.RFT_COST.word : Fld := ⟨0x030004, 31, 0⟩
/-- The whole word of RFT_BUDGET (R176). -/
def Reg.RFT_BUDGET.word : Fld := ⟨0x030008, 31, 0⟩
def Reg.RFT_BUDGET.pred_us : Fld := ⟨0x030008, 15, 0⟩
/-- The whole word of RFT_CAPACITY (R176). -/
def Reg.RFT_CAPACITY.word : Fld := ⟨0x03000C, 31, 0⟩
/-- The whole word of RFT_INGEST_W (R176). -/
def Reg.RFT_INGEST_W.word (bank i : Nat) : Fld := ⟨0x030010 + (bank + 1) * 0x1000000 + 4 * i, 31, 0⟩
/-- The whole word of RFT_INGEST_STATUS (R176). -/
def Reg.RFT_INGEST_STATUS.word (bank : Nat) : Fld := ⟨0x030020 + (bank + 1) * 0x1000000, 31, 0⟩
def Reg.RFT_INGEST_STATUS.status (bank : Nat) : Fld := ⟨0x030020 + (bank + 1) * 0x1000000, 7, 0⟩
/-- The whole word of RFT_INGEST_CNT (R176). -/
def Reg.RFT_INGEST_CNT.word : Fld := ⟨0x030024, 31, 0⟩
/-- The whole word of RFT_INGEST_REFUSED (R176). -/
def Reg.RFT_INGEST_REFUSED.word : Fld := ⟨0x030028, 31, 0⟩
/-- The whole word of RFT_INGEST_BAD (R176). -/
def Reg.RFT_INGEST_BAD.word : Fld := ⟨0x03002C, 31, 0⟩
/-- The whole word of RFT_INGEST_DISCARD (R176). -/
def Reg.RFT_INGEST_DISCARD.word : Fld := ⟨0x030030, 31, 0⟩
/-- The whole word of RFT_INGEST_FILL (R176). -/
def Reg.RFT_INGEST_FILL.word : Fld := ⟨0x030034, 31, 0⟩
def Reg.RFT_INGEST_FILL.in_progress : Fld := ⟨0x030034, 31, 16⟩
def Reg.RFT_INGEST_FILL.fill : Fld := ⟨0x030034, 15, 0⟩
/-- The whole word of RFT_DIGEST_LO (R176). -/
def Reg.RFT_DIGEST_LO.word : Fld := ⟨0x030040, 31, 0⟩
/-- The whole word of RFT_DIGEST_HI (R176). -/
def Reg.RFT_DIGEST_HI.word : Fld := ⟨0x030044, 31, 0⟩
/-- The whole word of RFT_DIGEST_BEAT_LO (R176). -/
def Reg.RFT_DIGEST_BEAT_LO.word : Fld := ⟨0x030048, 31, 0⟩
/-- The whole word of RFT_DIGEST_BEAT_HI (R176). -/
def Reg.RFT_DIGEST_BEAT_HI.word : Fld := ⟨0x03004C, 31, 0⟩
/-- The whole word of RFT_CS_LAST (R176). -/
def Reg.RFT_CS_LAST.word : Fld := ⟨0x030050, 31, 0⟩
def Reg.RFT_CS_LAST.groups : Fld := ⟨0x030050, 31, 16⟩
def Reg.RFT_CS_LAST.items : Fld := ⟨0x030050, 15, 0⟩
/-- The whole word of RFT_CS_PENDING (R176). -/
def Reg.RFT_CS_PENDING.word : Fld := ⟨0x030054, 31, 0⟩
def Reg.RFT_CS_PENDING.pending : Fld := ⟨0x030054, 17, 0⟩
/-- The whole word of RFT_CS_CURSOR (R176). -/
def Reg.RFT_CS_CURSOR.word : Fld := ⟨0x030058, 31, 0⟩
def Reg.RFT_CS_CURSOR.cursor : Fld := ⟨0x030058, 16, 0⟩
/-- The whole word of RFT_CS_REFUSED (R176). -/
def Reg.RFT_CS_REFUSED.word : Fld := ⟨0x03005C, 31, 0⟩
/-- The whole word of RFT_CS_LIMIT_CNT (R176). -/
def Reg.RFT_CS_LIMIT_CNT.word : Fld := ⟨0x030060, 31, 0⟩
/-- The whole word of RFT_SPEED_SEL (R176). -/
def Reg.RFT_SPEED_SEL.word : Fld := ⟨0x030070, 31, 0⟩
def Reg.RFT_SPEED_SEL.zone : Fld := ⟨0x030070, 13, 3⟩
def Reg.RFT_SPEED_SEL.heading : Fld := ⟨0x030070, 2, 0⟩
/-- The whole word of RFT_SPEED (R176). -/
def Reg.RFT_SPEED.word : Fld := ⟨0x030074, 31, 0⟩
def Reg.RFT_SPEED.factor : Fld := ⟨0x030074, 10, 0⟩
/-- The whole word of RFT_BATTEN_SEL (R176). -/
def Reg.RFT_BATTEN_SEL.word : Fld := ⟨0x030078, 31, 0⟩
def Reg.RFT_BATTEN_SEL.eid : Fld := ⟨0x030078, 16, 0⟩
/-- The whole word of RFT_BATTEN_BEAT (R176). -/
def Reg.RFT_BATTEN_BEAT.word : Fld := ⟨0x03007C, 31, 0⟩
/-- The whole word of RFT_BATTEN_US (R176). -/
def Reg.RFT_BATTEN_US.word : Fld := ⟨0x030080, 31, 0⟩
def Reg.RFT_BATTEN_US.valid : Fld := ⟨0x030080, 16, 16⟩
def Reg.RFT_BATTEN_US.rx_us : Fld := ⟨0x030080, 15, 0⟩
/-- The whole word of RFT_IRQ_STATUS (R176). -/
def Reg.RFT_IRQ_STATUS.word : Fld := ⟨0x030084, 31, 0⟩
def Reg.RFT_IRQ_STATUS.budget_warn : Fld := ⟨0x030084, 3, 3⟩
def Reg.RFT_IRQ_STATUS.ingest_full : Fld := ⟨0x030084, 2, 2⟩
def Reg.RFT_IRQ_STATUS.cs_refused : Fld := ⟨0x030084, 1, 1⟩
def Reg.RFT_IRQ_STATUS.cs_limit : Fld := ⟨0x030084, 0, 0⟩
/-- The whole word of RFT_IRQ_ENABLE (R176). -/
def Reg.RFT_IRQ_ENABLE.word : Fld := ⟨0x030088, 31, 0⟩
def Reg.RFT_IRQ_ENABLE.enable : Fld := ⟨0x030088, 3, 0⟩
/-- The whole word of JST_STATUS (R204). -/
def Reg.JST_STATUS.word : Fld := ⟨0x040000, 31, 0⟩
def Reg.JST_STATUS.running : Fld := ⟨0x040000, 16, 16⟩
def Reg.JST_STATUS.free : Fld := ⟨0x040000, 14, 0⟩
/-- The whole word of JST_POOL (R204). -/
def Reg.JST_POOL.word : Fld := ⟨0x040004, 31, 0⟩
def Reg.JST_POOL.reserve_total : Fld := ⟨0x040004, 30, 16⟩
def Reg.JST_POOL.shared_free : Fld := ⟨0x040004, 14, 0⟩
/-- The whole word of JST_GET (R204). -/
def Reg.JST_GET.word (bank : Nat) : Fld := ⟨0x040010 + (bank + 1) * 0x1000000, 31, 0⟩
/-- The whole word of JST_DONE (R204). -/
def Reg.JST_DONE.word (bank : Nat) : Fld := ⟨0x040014 + (bank + 1) * 0x1000000, 31, 0⟩
/-- The whole word of JST_DONE_STATUS (R204). -/
def Reg.JST_DONE_STATUS.word (bank : Nat) : Fld := ⟨0x040018 + (bank + 1) * 0x1000000, 31, 0⟩
def Reg.JST_DONE_STATUS.status (bank : Nat) : Fld := ⟨0x040018 + (bank + 1) * 0x1000000, 7, 0⟩
/-- The whole word of JST_ITEM_SEL (R204). -/
def Reg.JST_ITEM_SEL.word (bank : Nat) : Fld := ⟨0x04001C + (bank + 1) * 0x1000000, 31, 0⟩
def Reg.JST_ITEM_SEL.in_use (bank : Nat) : Fld := ⟨0x04001C + (bank + 1) * 0x1000000, 11, 8⟩
def Reg.JST_ITEM_SEL.hold (bank : Nat) : Fld := ⟨0x04001C + (bank + 1) * 0x1000000, 1, 0⟩
/-- The whole word of JST_ITEM_INFO (R204). -/
def Reg.JST_ITEM_INFO.word (bank : Nat) : Fld := ⟨0x040020 + (bank + 1) * 0x1000000, 31, 0⟩
def Reg.JST_ITEM_INFO.words (bank : Nat) : Fld := ⟨0x040020 + (bank + 1) * 0x1000000, 27, 25⟩
def Reg.JST_ITEM_INFO.producer (bank : Nat) : Fld := ⟨0x040020 + (bank + 1) * 0x1000000, 24, 20⟩
def Reg.JST_ITEM_INFO.flow (bank : Nat) : Fld := ⟨0x040020 + (bank + 1) * 0x1000000, 19, 0⟩
/-- The whole word of JST_PUSH_HDR (R204). -/
def Reg.JST_PUSH_HDR.word (bank : Nat) : Fld := ⟨0x040030 + (bank + 1) * 0x1000000, 31, 0⟩
def Reg.JST_PUSH_HDR.words (bank : Nat) : Fld := ⟨0x040030 + (bank + 1) * 0x1000000, 28, 26⟩
def Reg.JST_PUSH_HDR.queue (bank : Nat) : Fld := ⟨0x040030 + (bank + 1) * 0x1000000, 25, 20⟩
def Reg.JST_PUSH_HDR.flow (bank : Nat) : Fld := ⟨0x040030 + (bank + 1) * 0x1000000, 19, 0⟩
/-- The whole word of JST_PUSH_COMMIT (R204). -/
def Reg.JST_PUSH_COMMIT.word (bank : Nat) : Fld := ⟨0x040034 + (bank + 1) * 0x1000000, 31, 0⟩
def Reg.JST_PUSH_COMMIT.abandon (bank : Nat) : Fld := ⟨0x040034 + (bank + 1) * 0x1000000, 1, 1⟩
def Reg.JST_PUSH_COMMIT.commit (bank : Nat) : Fld := ⟨0x040034 + (bank + 1) * 0x1000000, 0, 0⟩
/-- The whole word of JST_PUSH_STATUS (R204). -/
def Reg.JST_PUSH_STATUS.word (bank : Nat) : Fld := ⟨0x040040 + (bank + 1) * 0x1000000, 31, 0⟩
def Reg.JST_PUSH_STATUS.pool (bank : Nat) : Fld := ⟨0x040040 + (bank + 1) * 0x1000000, 9, 9⟩
def Reg.JST_PUSH_STATUS.open_f (bank : Nat) : Fld := ⟨0x040040 + (bank + 1) * 0x1000000, 8, 8⟩
def Reg.JST_PUSH_STATUS.status (bank : Nat) : Fld := ⟨0x040040 + (bank + 1) * 0x1000000, 7, 0⟩
/-- The whole word of JST_PUSH_W (R204). -/
def Reg.JST_PUSH_W.word (bank i : Nat) : Fld := ⟨0x040080 + (bank + 1) * 0x1000000 + 4 * i, 31, 0⟩
/-- The whole word of JST_ITEM_W (R204). -/
def Reg.JST_ITEM_W.word (bank i : Nat) : Fld := ⟨0x0400C0 + (bank + 1) * 0x1000000 + 4 * i, 31, 0⟩
/-- The whole word of JST_TMR_DATA_LO (R204). -/
def Reg.JST_TMR_DATA_LO.word (bank : Nat) : Fld := ⟨0x040100 + (bank + 1) * 0x1000000, 31, 0⟩
/-- The whole word of JST_TMR_DATA_HI (R204). -/
def Reg.JST_TMR_DATA_HI.word (bank : Nat) : Fld := ⟨0x040104 + (bank + 1) * 0x1000000, 31, 0⟩
/-- The whole word of JST_TMR_CFG (R204). -/
def Reg.JST_TMR_CFG.word (bank : Nat) : Fld := ⟨0x040108 + (bank + 1) * 0x1000000, 31, 0⟩
def Reg.JST_TMR_CFG.queue (bank : Nat) : Fld := ⟨0x040108 + (bank + 1) * 0x1000000, 29, 24⟩
def Reg.JST_TMR_CFG.delay (bank : Nat) : Fld := ⟨0x040108 + (bank + 1) * 0x1000000, 23, 0⟩
/-- The whole word of JST_TMR_FLOW (R204). -/
def Reg.JST_TMR_FLOW.word (bank : Nat) : Fld := ⟨0x04010C + (bank + 1) * 0x1000000, 31, 0⟩
def Reg.JST_TMR_FLOW.flow (bank : Nat) : Fld := ⟨0x04010C + (bank + 1) * 0x1000000, 19, 0⟩
/-- The whole word of JST_TMR_ARM (R204). -/
def Reg.JST_TMR_ARM.word (bank : Nat) : Fld := ⟨0x040110 + (bank + 1) * 0x1000000, 31, 0⟩
def Reg.JST_TMR_ARM.arm (bank : Nat) : Fld := ⟨0x040110 + (bank + 1) * 0x1000000, 0, 0⟩
/-- The whole word of JST_TMR_STATUS (R204). -/
def Reg.JST_TMR_STATUS.word (bank : Nat) : Fld := ⟨0x040114 + (bank + 1) * 0x1000000, 31, 0⟩
def Reg.JST_TMR_STATUS.id (bank : Nat) : Fld := ⟨0x040114 + (bank + 1) * 0x1000000, 31, 8⟩
def Reg.JST_TMR_STATUS.status (bank : Nat) : Fld := ⟨0x040114 + (bank + 1) * 0x1000000, 7, 0⟩
/-- The whole word of JST_TMR_CANCEL (R204). -/
def Reg.JST_TMR_CANCEL.word (bank : Nat) : Fld := ⟨0x040118 + (bank + 1) * 0x1000000, 31, 0⟩
def Reg.JST_TMR_CANCEL.id (bank : Nat) : Fld := ⟨0x040118 + (bank + 1) * 0x1000000, 23, 0⟩
/-- The whole word of JST_TMR_COUNT (R204). -/
def Reg.JST_TMR_COUNT.word : Fld := ⟨0x04011C, 31, 0⟩
def Reg.JST_TMR_COUNT.armed : Fld := ⟨0x04011C, 16, 0⟩
/-- The whole word of JST_TMR_DEFER (R204). -/
def Reg.JST_TMR_DEFER.word : Fld := ⟨0x040120, 31, 0⟩
/-- The whole word of JST_FLUSH (R204). -/
def Reg.JST_FLUSH.word : Fld := ⟨0x040130, 31, 0⟩
def Reg.JST_FLUSH.go : Fld := ⟨0x040130, 8, 8⟩
def Reg.JST_FLUSH.queue : Fld := ⟨0x040130, 5, 0⟩
/-- The whole word of JST_FLUSH_STATUS (R204). -/
def Reg.JST_FLUSH_STATUS.word : Fld := ⟨0x040134, 31, 0⟩
def Reg.JST_FLUSH_STATUS.discarded : Fld := ⟨0x040134, 31, 16⟩
def Reg.JST_FLUSH_STATUS.queue : Fld := ⟨0x040134, 13, 8⟩
def Reg.JST_FLUSH_STATUS.busy : Fld := ⟨0x040134, 0, 0⟩
/-- The whole word of JST_IRQ_STATUS (R204). -/
def Reg.JST_IRQ_STATUS.word : Fld := ⟨0x040140, 31, 0⟩
def Reg.JST_IRQ_STATUS.held_full : Fld := ⟨0x040140, 5, 5⟩
def Reg.JST_IRQ_STATUS.hold_released : Fld := ⟨0x040140, 4, 4⟩
def Reg.JST_IRQ_STATUS.bad_done : Fld := ⟨0x040140, 3, 3⟩
def Reg.JST_IRQ_STATUS.tmr_deferred : Fld := ⟨0x040140, 2, 2⟩
def Reg.JST_IRQ_STATUS.flush_done : Fld := ⟨0x040140, 1, 1⟩
def Reg.JST_IRQ_STATUS.refused : Fld := ⟨0x040140, 0, 0⟩
/-- The whole word of JST_IRQ_ENABLE (R204). -/
def Reg.JST_IRQ_ENABLE.word : Fld := ⟨0x040144, 31, 0⟩
def Reg.JST_IRQ_ENABLE.enable : Fld := ⟨0x040144, 5, 0⟩
/-- The whole word of JST_QFILL (R204). -/
def Reg.JST_QFILL.word (i : Nat) : Fld := ⟨0x040400 + 4 * i, 31, 0⟩
def Reg.JST_QFILL.depth (i : Nat) : Fld := ⟨0x040400 + 4 * i, 30, 16⟩
def Reg.JST_QFILL.fill (i : Nat) : Fld := ⟨0x040400 + 4 * i, 14, 0⟩
/-- The whole word of JST_QCFG (R204). -/
def Reg.JST_QCFG.word (i : Nat) : Fld := ⟨0x040500 + 4 * i, 31, 0⟩
def Reg.JST_QCFG.class_f (i : Nat) : Fld := ⟨0x040500 + 4 * i, 31, 30⟩
def Reg.JST_QCFG.weight (i : Nat) : Fld := ⟨0x040500 + 4 * i, 29, 26⟩
def Reg.JST_QCFG.consumer (i : Nat) : Fld := ⟨0x040500 + 4 * i, 25, 18⟩
def Reg.JST_QCFG.reserve (i : Nat) : Fld := ⟨0x040500 + 4 * i, 14, 0⟩
/-- The whole word of JST_QREFUSED (R204). -/
def Reg.JST_QREFUSED.word (i : Nat) : Fld := ⟨0x040600 + 4 * i, 31, 0⟩
/-- The whole word of RAD_STATUS (R246). -/
def Reg.RAD_STATUS.word (rad : Nat) : Fld := ⟨0x050000 + rad * 0x4000, 31, 0⟩
def Reg.RAD_STATUS.links_open (rad : Nat) : Fld := ⟨0x050000 + rad * 0x4000, 18, 8⟩
def Reg.RAD_STATUS.beat_mismatch (rad : Nat) : Fld := ⟨0x050000 + rad * 0x4000, 7, 7⟩
def Reg.RAD_STATUS.power (rad : Nat) : Fld := ⟨0x050000 + rad * 0x4000, 6, 5⟩
def Reg.RAD_STATUS.beaconing (rad : Nat) : Fld := ⟨0x050000 + rad * 0x4000, 4, 4⟩
def Reg.RAD_STATUS.watching (rad : Nat) : Fld := ⟨0x050000 + rad * 0x4000, 3, 3⟩
def Reg.RAD_STATUS.beacon_lost (rad : Nat) : Fld := ⟨0x050000 + rad * 0x4000, 2, 2⟩
def Reg.RAD_STATUS.c0_suspended (rad : Nat) : Fld := ⟨0x050000 + rad * 0x4000, 1, 1⟩
def Reg.RAD_STATUS.enabled (rad : Nat) : Fld := ⟨0x050000 + rad * 0x4000, 0, 0⟩
/-- The whole word of RAD_PLAN (R246). -/
def Reg.RAD_PLAN.word (rad : Nat) : Fld := ⟨0x050004 + rad * 0x4000, 31, 0⟩
def Reg.RAD_PLAN.max_psdu (rad : Nat) : Fld := ⟨0x050004 + rad * 0x4000, 22, 16⟩
def Reg.RAD_PLAN.mode (rad : Nat) : Fld := ⟨0x050004 + rad * 0x4000, 10, 8⟩
def Reg.RAD_PLAN.n_ch (rad : Nat) : Fld := ⟨0x050004 + rad * 0x4000, 7, 0⟩
/-- The whole word of RAD_RING (R246). -/
def Reg.RAD_RING.word (rad : Nat) : Fld := ⟨0x050008 + rad * 0x4000, 31, 0⟩
def Reg.RAD_RING.used (rad : Nat) : Fld := ⟨0x050008 + rad * 0x4000, 18, 0⟩
/-- The whole word of RAD_C0 (R246). -/
def Reg.RAD_C0.word (rad : Nat) : Fld := ⟨0x05000C + rad * 0x4000, 31, 0⟩
def Reg.RAD_C0.held (rad : Nat) : Fld := ⟨0x05000C + rad * 0x4000, 31, 16⟩
def Reg.RAD_C0.sent (rad : Nat) : Fld := ⟨0x05000C + rad * 0x4000, 15, 0⟩
/-- The whole word of RAD_BEACON (R246). -/
def Reg.RAD_BEACON.word (rad : Nat) : Fld := ⟨0x050010 + rad * 0x4000, 31, 0⟩
def Reg.RAD_BEACON.received (rad : Nat) : Fld := ⟨0x050010 + rad * 0x4000, 31, 16⟩
def Reg.RAD_BEACON.consec (rad : Nat) : Fld := ⟨0x050010 + rad * 0x4000, 7, 0⟩
/-- The whole word of RAD_ACC_SEL (R246). -/
def Reg.RAD_ACC_SEL.word (rad : Nat) : Fld := ⟨0x050020 + rad * 0x4000, 31, 0⟩
def Reg.RAD_ACC_SEL.kind (rad : Nat) : Fld := ⟨0x050020 + rad * 0x4000, 7, 7⟩
def Reg.RAD_ACC_SEL.index (rad : Nat) : Fld := ⟨0x050020 + rad * 0x4000, 6, 0⟩
/-- The whole word of RAD_ACC_USED (R246). -/
def Reg.RAD_ACC_USED.word (rad : Nat) : Fld := ⟨0x050024 + rad * 0x4000, 31, 0⟩
/-- The whole word of RAD_ACC_LIMIT (R246). -/
def Reg.RAD_ACC_LIMIT.word (rad : Nat) : Fld := ⟨0x050028 + rad * 0x4000, 31, 0⟩
/-- The whole word of RAD_ACC_RESERVE (R246). -/
def Reg.RAD_ACC_RESERVE.word (rad : Nat) : Fld := ⟨0x05002C + rad * 0x4000, 31, 0⟩
/-- The whole word of RAD_LINK_SEL (R246). -/
def Reg.RAD_LINK_SEL.word (rad bank : Nat) : Fld := ⟨0x050040 + rad * 0x4000 + (bank + 1) * 0x1000000, 31, 0⟩
def Reg.RAD_LINK_SEL.link (rad bank : Nat) : Fld := ⟨0x050040 + rad * 0x4000 + (bank + 1) * 0x1000000, 9, 0⟩
/-- The whole word of RAD_LINK_TIMING (R246). -/
def Reg.RAD_LINK_TIMING.word (rad bank : Nat) : Fld := ⟨0x050044 + rad * 0x4000 + (bank + 1) * 0x1000000, 31, 0⟩
def Reg.RAD_LINK_TIMING.anchor_us (rad bank : Nat) : Fld := ⟨0x050044 + rad * 0x4000 + (bank + 1) * 0x1000000, 29, 16⟩
def Reg.RAD_LINK_TIMING.interval (rad bank : Nat) : Fld := ⟨0x050044 + rad * 0x4000 + (bank + 1) * 0x1000000, 12, 0⟩
/-- The whole word of RAD_LINK_ANCHOR (R246). -/
def Reg.RAD_LINK_ANCHOR.word (rad bank : Nat) : Fld := ⟨0x050048 + rad * 0x4000 + (bank + 1) * 0x1000000, 31, 0⟩
/-- The whole word of RAD_LINK_EVENT (R246). -/
def Reg.RAD_LINK_EVENT.word (rad bank : Nat) : Fld := ⟨0x05004C + rad * 0x4000 + (bank + 1) * 0x1000000, 31, 0⟩
def Reg.RAD_LINK_EVENT.supervision (rad bank : Nat) : Fld := ⟨0x05004C + rad * 0x4000 + (bank + 1) * 0x1000000, 31, 16⟩
def Reg.RAD_LINK_EVENT.event_len (rad bank : Nat) : Fld := ⟨0x05004C + rad * 0x4000 + (bank + 1) * 0x1000000, 15, 0⟩
/-- The whole word of RAD_LINK_HOP (R246). -/
def Reg.RAD_LINK_HOP.word (rad bank : Nat) : Fld := ⟨0x050050 + rad * 0x4000 + (bank + 1) * 0x1000000, 31, 0⟩
def Reg.RAD_LINK_HOP.wake (rad bank : Nat) : Fld := ⟨0x050050 + rad * 0x4000 + (bank + 1) * 0x1000000, 31, 31⟩
def Reg.RAD_LINK_HOP.window (rad bank : Nat) : Fld := ⟨0x050050 + rad * 0x4000 + (bank + 1) * 0x1000000, 30, 24⟩
def Reg.RAD_LINK_HOP.max_retries (rad bank : Nat) : Fld := ⟨0x050050 + rad * 0x4000 + (bank + 1) * 0x1000000, 19, 16⟩
def Reg.RAD_LINK_HOP.hop_inc (rad bank : Nat) : Fld := ⟨0x050050 + rad * 0x4000 + (bank + 1) * 0x1000000, 14, 8⟩
def Reg.RAD_LINK_HOP.hop_base (rad bank : Nat) : Fld := ⟨0x050050 + rad * 0x4000 + (bank + 1) * 0x1000000, 6, 0⟩
/-- The whole word of RAD_LINK_MAP (R246). -/
def Reg.RAD_LINK_MAP.word (rad bank i : Nat) : Fld := ⟨0x050054 + rad * 0x4000 + (bank + 1) * 0x1000000 + 4 * i, 31, 0⟩
/-- The whole word of RAD_LINK_KEY (R246). -/
def Reg.RAD_LINK_KEY.word (rad bank : Nat) : Fld := ⟨0x050064 + rad * 0x4000 + (bank + 1) * 0x1000000, 31, 0⟩
def Reg.RAD_LINK_KEY.wake_addr (rad bank : Nat) : Fld := ⟨0x050064 + rad * 0x4000 + (bank + 1) * 0x1000000, 31, 16⟩
def Reg.RAD_LINK_KEY.key_id (rad bank : Nat) : Fld := ⟨0x050064 + rad * 0x4000 + (bank + 1) * 0x1000000, 15, 0⟩
/-- The whole word of RAD_LINK_FC (R246). -/
def Reg.RAD_LINK_FC.word (rad bank : Nat) : Fld := ⟨0x050068 + rad * 0x4000 + (bank + 1) * 0x1000000, 31, 0⟩
/-- The whole word of RAD_LINK_SEQ (R246). -/
def Reg.RAD_LINK_SEQ.word (rad : Nat) : Fld := ⟨0x05006C + rad * 0x4000, 31, 0⟩
def Reg.RAD_LINK_SEQ.rx_seq (rad : Nat) : Fld := ⟨0x05006C + rad * 0x4000, 31, 16⟩
def Reg.RAD_LINK_SEQ.tx_seq (rad : Nat) : Fld := ⟨0x05006C + rad * 0x4000, 15, 0⟩
/-- The whole word of RAD_LINK_CREDIT (R246). -/
def Reg.RAD_LINK_CREDIT.word (rad : Nat) : Fld := ⟨0x050070 + rad * 0x4000, 31, 0⟩
def Reg.RAD_LINK_CREDIT.rx_limit (rad : Nat) : Fld := ⟨0x050070 + rad * 0x4000, 31, 16⟩
def Reg.RAD_LINK_CREDIT.tx_limit (rad : Nat) : Fld := ⟨0x050070 + rad * 0x4000, 15, 0⟩
/-- The whole word of RAD_LINK_STATE (R246). -/
def Reg.RAD_LINK_STATE.word (rad : Nat) : Fld := ⟨0x050074 + rad * 0x4000, 31, 0⟩
def Reg.RAD_LINK_STATE.event (rad : Nat) : Fld := ⟨0x050074 + rad * 0x4000, 31, 16⟩
def Reg.RAD_LINK_STATE.frames (rad : Nat) : Fld := ⟨0x050074 + rad * 0x4000, 10, 4⟩
def Reg.RAD_LINK_STATE.cause (rad : Nat) : Fld := ⟨0x050074 + rad * 0x4000, 3, 2⟩
def Reg.RAD_LINK_STATE.state (rad : Nat) : Fld := ⟨0x050074 + rad * 0x4000, 1, 0⟩
/-- The whole word of RAD_LINK_CTRL (R246). -/
def Reg.RAD_LINK_CTRL.word (rad bank : Nat) : Fld := ⟨0x050078 + rad * 0x4000 + (bank + 1) * 0x1000000, 31, 0⟩
def Reg.RAD_LINK_CTRL.report (rad bank : Nat) : Fld := ⟨0x050078 + rad * 0x4000 + (bank + 1) * 0x1000000, 3, 3⟩
def Reg.RAD_LINK_CTRL.op (rad bank : Nat) : Fld := ⟨0x050078 + rad * 0x4000 + (bank + 1) * 0x1000000, 2, 0⟩
/-- The whole word of RAD_LINK_STATUS (R246). -/
def Reg.RAD_LINK_STATUS.word (rad bank : Nat) : Fld := ⟨0x05007C + rad * 0x4000 + (bank + 1) * 0x1000000, 31, 0⟩
def Reg.RAD_LINK_STATUS.status (rad bank : Nat) : Fld := ⟨0x05007C + rad * 0x4000 + (bank + 1) * 0x1000000, 7, 0⟩
/-- The whole word of RAD_IRQ_STATUS (R246). -/
def Reg.RAD_IRQ_STATUS.word (rad : Nat) : Fld := ⟨0x050080 + rad * 0x4000, 31, 0⟩
def Reg.RAD_IRQ_STATUS.wake (rad : Nat) : Fld := ⟨0x050080 + rad * 0x4000, 5, 5⟩
def Reg.RAD_IRQ_STATUS.beacon_lost (rad : Nat) : Fld := ⟨0x050080 + rad * 0x4000, 4, 4⟩
def Reg.RAD_IRQ_STATUS.c0_suspended (rad : Nat) : Fld := ⟨0x050080 + rad * 0x4000, 3, 3⟩
def Reg.RAD_IRQ_STATUS.dwell_defer (rad : Nat) : Fld := ⟨0x050080 + rad * 0x4000, 2, 2⟩
def Reg.RAD_IRQ_STATUS.tx_dropped (rad : Nat) : Fld := ⟨0x050080 + rad * 0x4000, 1, 1⟩
def Reg.RAD_IRQ_STATUS.link_lost (rad : Nat) : Fld := ⟨0x050080 + rad * 0x4000, 0, 0⟩
/-- The whole word of RAD_IRQ_ENABLE (R246). -/
def Reg.RAD_IRQ_ENABLE.word (rad : Nat) : Fld := ⟨0x050084 + rad * 0x4000, 31, 0⟩
def Reg.RAD_IRQ_ENABLE.enable (rad : Nat) : Fld := ⟨0x050084 + rad * 0x4000, 5, 0⟩
/-- The whole word of RAD_CNT (R246). -/
def Reg.RAD_CNT.word (rad i : Nat) : Fld := ⟨0x050100 + rad * 0x4000 + 4 * i, 31, 0⟩
/-- The whole word of TRK_STATUS (R275). -/
def Reg.TRK_STATUS.word (port : Nat) : Fld := ⟨0x060000 + port * 0x1000, 31, 0⟩
def Reg.TRK_STATUS.plca_role (port : Nat) : Fld := ⟨0x060000 + port * 0x1000, 10, 8⟩
def Reg.TRK_STATUS.speed (port : Nat) : Fld := ⟨0x060000 + port * 0x1000, 7, 6⟩
def Reg.TRK_STATUS.sleeping (port : Nat) : Fld := ⟨0x060000 + port * 0x1000, 5, 5⟩
def Reg.TRK_STATUS.pause_active (port : Nat) : Fld := ⟨0x060000 + port * 0x1000, 4, 4⟩
def Reg.TRK_STATUS.c0_suspended (port : Nat) : Fld := ⟨0x060000 + port * 0x1000, 3, 3⟩
def Reg.TRK_STATUS.plca_conflict (port : Nat) : Fld := ⟨0x060000 + port * 0x1000, 2, 2⟩
def Reg.TRK_STATUS.link_up (port : Nat) : Fld := ⟨0x060000 + port * 0x1000, 1, 1⟩
def Reg.TRK_STATUS.enabled (port : Nat) : Fld := ⟨0x060000 + port * 0x1000, 0, 0⟩
/-- The whole word of TRK_PLCA (R275). -/
def Reg.TRK_PLCA.word (port : Nat) : Fld := ⟨0x060004 + port * 0x1000, 31, 0⟩
def Reg.TRK_PLCA.plca_id (port : Nat) : Fld := ⟨0x060004 + port * 0x1000, 28, 24⟩
def Reg.TRK_PLCA.to_timer (port : Nat) : Fld := ⟨0x060004 + port * 0x1000, 23, 16⟩
def Reg.TRK_PLCA.node_count (port : Nat) : Fld := ⟨0x060004 + port * 0x1000, 13, 8⟩
def Reg.TRK_PLCA.max_bc (port : Nat) : Fld := ⟨0x060004 + port * 0x1000, 2, 0⟩
/-- The whole word of TRK_CYCLE (R275). -/
def Reg.TRK_CYCLE.word (port : Nat) : Fld := ⟨0x060008 + port * 0x1000, 31, 0⟩
def Reg.TRK_CYCLE.last_us (port : Nat) : Fld := ⟨0x060008 + port * 0x1000, 31, 16⟩
def Reg.TRK_CYCLE.cycle_max_us (port : Nat) : Fld := ⟨0x060008 + port * 0x1000, 15, 0⟩
/-- The whole word of TRK_RING (R275). -/
def Reg.TRK_RING.word (port : Nat) : Fld := ⟨0x06000C + port * 0x1000, 31, 0⟩
def Reg.TRK_RING.used (port : Nat) : Fld := ⟨0x06000C + port * 0x1000, 18, 0⟩
/-- The whole word of TRK_GATE (R275). -/
def Reg.TRK_GATE.word (port : Nat) : Fld := ⟨0x060010 + port * 0x1000, 31, 0⟩
def Reg.TRK_GATE.entry (port : Nat) : Fld := ⟨0x060010 + port * 0x1000, 13, 8⟩
def Reg.TRK_GATE.window (port : Nat) : Fld := ⟨0x060010 + port * 0x1000, 4, 4⟩
def Reg.TRK_GATE.gates (port : Nat) : Fld := ⟨0x060010 + port * 0x1000, 3, 0⟩
/-- The whole word of TRK_GBE_CFG (R275). -/
def Reg.TRK_GBE_CFG.word (port : Nat) : Fld := ⟨0x060014 + port * 0x1000, 31, 0⟩
def Reg.TRK_GBE_CFG.pcp (port : Nat) : Fld := ⟨0x060014 + port * 0x1000, 30, 28⟩
def Reg.TRK_GBE_CFG.vid (port : Nat) : Fld := ⟨0x060014 + port * 0x1000, 27, 16⟩
def Reg.TRK_GBE_CFG.rx_queue (port : Nat) : Fld := ⟨0x060014 + port * 0x1000, 15, 10⟩
def Reg.TRK_GBE_CFG.tag (port : Nat) : Fld := ⟨0x060014 + port * 0x1000, 9, 9⟩
def Reg.TRK_GBE_CFG.pause_en (port : Nat) : Fld := ⟨0x060014 + port * 0x1000, 8, 8⟩
def Reg.TRK_GBE_CFG.pfc_mask (port : Nat) : Fld := ⟨0x060014 + port * 0x1000, 6, 0⟩
/-- The whole word of TRK_NET (R275). -/
def Reg.TRK_NET.word (port : Nat) : Fld := ⟨0x060018 + port * 0x1000, 31, 0⟩
def Reg.TRK_NET.key_id (port : Nat) : Fld := ⟨0x060018 + port * 0x1000, 31, 16⟩
def Reg.TRK_NET.net_id (port : Nat) : Fld := ⟨0x060018 + port * 0x1000, 15, 0⟩
/-- The whole word of TRK_PAUSE (R275). -/
def Reg.TRK_PAUSE.word (port : Nat) : Fld := ⟨0x06001C + port * 0x1000, 31, 0⟩
def Reg.TRK_PAUSE.pfc_active (port : Nat) : Fld := ⟨0x06001C + port * 0x1000, 22, 16⟩
def Reg.TRK_PAUSE.quanta (port : Nat) : Fld := ⟨0x06001C + port * 0x1000, 15, 0⟩
/-- The whole word of TRK_WAKE_CTRL (R275). -/
def Reg.TRK_WAKE_CTRL.word (port : Nat) : Fld := ⟨0x060020 + port * 0x1000, 31, 0⟩
def Reg.TRK_WAKE_CTRL.match (port : Nat) : Fld := ⟨0x060020 + port * 0x1000, 23, 16⟩
def Reg.TRK_WAKE_CTRL.enable (port : Nat) : Fld := ⟨0x060020 + port * 0x1000, 15, 8⟩
def Reg.TRK_WAKE_CTRL.sleep (port : Nat) : Fld := ⟨0x060020 + port * 0x1000, 0, 0⟩
/-- The whole word of TRK_WAKE_SEL (R275). -/
def Reg.TRK_WAKE_SEL.word (port : Nat) : Fld := ⟨0x060024 + port * 0x1000, 31, 0⟩
def Reg.TRK_WAKE_SEL.pattern (port : Nat) : Fld := ⟨0x060024 + port * 0x1000, 2, 0⟩
/-- The whole word of TRK_WAKE_MASK (R275). -/
def Reg.TRK_WAKE_MASK.word (port i : Nat) : Fld := ⟨0x060028 + port * 0x1000 + 4 * i, 31, 0⟩
/-- The whole word of TRK_WAKE_CHECK (R275). -/
def Reg.TRK_WAKE_CHECK.word (port : Nat) : Fld := ⟨0x060038 + port * 0x1000, 31, 0⟩
def Reg.TRK_WAKE_CHECK.check (port : Nat) : Fld := ⟨0x060038 + port * 0x1000, 15, 0⟩
/-- The whole word of TRK_LINK_SEL (R275). -/
def Reg.TRK_LINK_SEL.word (port bank : Nat) : Fld := ⟨0x060040 + port * 0x1000 + (bank + 1) * 0x1000000, 31, 0⟩
def Reg.TRK_LINK_SEL.index (port bank : Nat) : Fld := ⟨0x060040 + port * 0x1000 + (bank + 1) * 0x1000000, 3, 0⟩
/-- The whole word of TRK_LINK_CFG (R275). -/
def Reg.TRK_LINK_CFG.word (port bank : Nat) : Fld := ⟨0x060044 + port * 0x1000 + (bank + 1) * 0x1000000, 31, 0⟩
def Reg.TRK_LINK_CFG.ack_timeout (port bank : Nat) : Fld := ⟨0x060044 + port * 0x1000 + (bank + 1) * 0x1000000, 31, 24⟩
def Reg.TRK_LINK_CFG.max_retries (port bank : Nat) : Fld := ⟨0x060044 + port * 0x1000 + (bank + 1) * 0x1000000, 19, 16⟩
def Reg.TRK_LINK_CFG.window (port bank : Nat) : Fld := ⟨0x060044 + port * 0x1000 + (bank + 1) * 0x1000000, 6, 0⟩
/-- The whole word of TRK_LINK_SUP (R275). -/
def Reg.TRK_LINK_SUP.word (port bank : Nat) : Fld := ⟨0x060048 + port * 0x1000 + (bank + 1) * 0x1000000, 31, 0⟩
def Reg.TRK_LINK_SUP.supervision (port bank : Nat) : Fld := ⟨0x060048 + port * 0x1000 + (bank + 1) * 0x1000000, 31, 16⟩
def Reg.TRK_LINK_SUP.keepalive (port bank : Nat) : Fld := ⟨0x060048 + port * 0x1000 + (bank + 1) * 0x1000000, 15, 0⟩
/-- The whole word of TRK_LINK_KEY (R275). -/
def Reg.TRK_LINK_KEY.word (port bank : Nat) : Fld := ⟨0x06004C + port * 0x1000 + (bank + 1) * 0x1000000, 31, 0⟩
def Reg.TRK_LINK_KEY.key_id (port bank : Nat) : Fld := ⟨0x06004C + port * 0x1000 + (bank + 1) * 0x1000000, 15, 0⟩
/-- The whole word of TRK_LINK_FC (R275). -/
def Reg.TRK_LINK_FC.word (port bank : Nat) : Fld := ⟨0x060050 + port * 0x1000 + (bank + 1) * 0x1000000, 31, 0⟩
/-- The whole word of TRK_LINK_SEQ (R275). -/
def Reg.TRK_LINK_SEQ.word (port : Nat) : Fld := ⟨0x060054 + port * 0x1000, 31, 0⟩
def Reg.TRK_LINK_SEQ.rx_seq (port : Nat) : Fld := ⟨0x060054 + port * 0x1000, 31, 16⟩
def Reg.TRK_LINK_SEQ.tx_seq (port : Nat) : Fld := ⟨0x060054 + port * 0x1000, 15, 0⟩
/-- The whole word of TRK_LINK_CREDIT (R275). -/
def Reg.TRK_LINK_CREDIT.word (port : Nat) : Fld := ⟨0x060058 + port * 0x1000, 31, 0⟩
def Reg.TRK_LINK_CREDIT.rx_limit (port : Nat) : Fld := ⟨0x060058 + port * 0x1000, 31, 16⟩
def Reg.TRK_LINK_CREDIT.tx_limit (port : Nat) : Fld := ⟨0x060058 + port * 0x1000, 15, 0⟩
/-- The whole word of TRK_LINK_STATE (R275). -/
def Reg.TRK_LINK_STATE.word (port : Nat) : Fld := ⟨0x06005C + port * 0x1000, 31, 0⟩
def Reg.TRK_LINK_STATE.frames (port : Nat) : Fld := ⟨0x06005C + port * 0x1000, 10, 4⟩
def Reg.TRK_LINK_STATE.cause (port : Nat) : Fld := ⟨0x06005C + port * 0x1000, 3, 2⟩
def Reg.TRK_LINK_STATE.state (port : Nat) : Fld := ⟨0x06005C + port * 0x1000, 1, 0⟩
/-- The whole word of TRK_RAW_BASE (R275). -/
def Reg.TRK_RAW_BASE.word (port : Nat) : Fld := ⟨0x060060 + port * 0x1000, 31, 0⟩
def Reg.TRK_RAW_BASE.base (port : Nat) : Fld := ⟨0x060060 + port * 0x1000, 28, 0⟩
/-- The whole word of TRK_RAW_CFG (R275). -/
def Reg.TRK_RAW_CFG.word (port : Nat) : Fld := ⟨0x060064 + port * 0x1000, 31, 0⟩
def Reg.TRK_RAW_CFG.free (port : Nat) : Fld := ⟨0x060064 + port * 0x1000, 26, 16⟩
def Reg.TRK_RAW_CFG.slots (port : Nat) : Fld := ⟨0x060064 + port * 0x1000, 10, 0⟩
/-- The whole word of TRK_RAW_FREE (R275). -/
def Reg.TRK_RAW_FREE.word (port : Nat) : Fld := ⟨0x060068 + port * 0x1000, 31, 0⟩
def Reg.TRK_RAW_FREE.slot (port : Nat) : Fld := ⟨0x060068 + port * 0x1000, 9, 0⟩
/-- The whole word of TRK_LINK_CTRL (R275). -/
def Reg.TRK_LINK_CTRL.word (port bank : Nat) : Fld := ⟨0x060070 + port * 0x1000 + (bank + 1) * 0x1000000, 31, 0⟩
def Reg.TRK_LINK_CTRL.report (port bank : Nat) : Fld := ⟨0x060070 + port * 0x1000 + (bank + 1) * 0x1000000, 3, 3⟩
def Reg.TRK_LINK_CTRL.op (port bank : Nat) : Fld := ⟨0x060070 + port * 0x1000 + (bank + 1) * 0x1000000, 2, 0⟩
/-- The whole word of TRK_LINK_STATUS (R275). -/
def Reg.TRK_LINK_STATUS.word (port bank : Nat) : Fld := ⟨0x060074 + port * 0x1000 + (bank + 1) * 0x1000000, 31, 0⟩
def Reg.TRK_LINK_STATUS.status (port bank : Nat) : Fld := ⟨0x060074 + port * 0x1000 + (bank + 1) * 0x1000000, 7, 0⟩
/-- The whole word of TRK_IRQ_STATUS (R275). -/
def Reg.TRK_IRQ_STATUS.word (port : Nat) : Fld := ⟨0x060080 + port * 0x1000, 31, 0⟩
def Reg.TRK_IRQ_STATUS.port_link (port : Nat) : Fld := ⟨0x060080 + port * 0x1000, 6, 6⟩
def Reg.TRK_IRQ_STATUS.plca_conflict (port : Nat) : Fld := ⟨0x060080 + port * 0x1000, 5, 5⟩
def Reg.TRK_IRQ_STATUS.wake (port : Nat) : Fld := ⟨0x060080 + port * 0x1000, 4, 4⟩
def Reg.TRK_IRQ_STATUS.pause (port : Nat) : Fld := ⟨0x060080 + port * 0x1000, 3, 3⟩
def Reg.TRK_IRQ_STATUS.c0_suspended (port : Nat) : Fld := ⟨0x060080 + port * 0x1000, 2, 2⟩
def Reg.TRK_IRQ_STATUS.tx_dropped (port : Nat) : Fld := ⟨0x060080 + port * 0x1000, 1, 1⟩
def Reg.TRK_IRQ_STATUS.link_lost (port : Nat) : Fld := ⟨0x060080 + port * 0x1000, 0, 0⟩
/-- The whole word of TRK_IRQ_ENABLE (R275). -/
def Reg.TRK_IRQ_ENABLE.word (port : Nat) : Fld := ⟨0x060084 + port * 0x1000, 31, 0⟩
def Reg.TRK_IRQ_ENABLE.enable (port : Nat) : Fld := ⟨0x060084 + port * 0x1000, 6, 0⟩
/-- The whole word of TRK_MDIO_CMD (R275). -/
def Reg.TRK_MDIO_CMD.word (port : Nat) : Fld := ⟨0x060090 + port * 0x1000, 31, 0⟩
def Reg.TRK_MDIO_CMD.busy (port : Nat) : Fld := ⟨0x060090 + port * 0x1000, 31, 31⟩
def Reg.TRK_MDIO_CMD.op (port : Nat) : Fld := ⟨0x060090 + port * 0x1000, 30, 28⟩
def Reg.TRK_MDIO_CMD.phy (port : Nat) : Fld := ⟨0x060090 + port * 0x1000, 25, 21⟩
def Reg.TRK_MDIO_CMD.reg (port : Nat) : Fld := ⟨0x060090 + port * 0x1000, 20, 16⟩
/-- The whole word of TRK_MDIO_DATA (R275). -/
def Reg.TRK_MDIO_DATA.word (port : Nat) : Fld := ⟨0x060094 + port * 0x1000, 31, 0⟩
def Reg.TRK_MDIO_DATA.data (port : Nat) : Fld := ⟨0x060094 + port * 0x1000, 15, 0⟩
/-- The whole word of TRK_CNT (R275). -/
def Reg.TRK_CNT.word (port i : Nat) : Fld := ⟨0x060100 + port * 0x1000 + 4 * i, 31, 0⟩
/-- The whole word of TIME_STATUS (R300). -/
def Reg.TIME_STATUS.word : Fld := ⟨0x070000, 31, 0⟩
def Reg.TIME_STATUS.leap_pending : Fld := ⟨0x070000, 7, 7⟩
def Reg.TIME_STATUS.in_tol : Fld := ⟨0x070000, 6, 6⟩
def Reg.TIME_STATUS.locked : Fld := ⟨0x070000, 5, 5⟩
def Reg.TIME_STATUS.pps_ok : Fld := ⟨0x070000, 4, 4⟩
def Reg.TIME_STATUS.slewing : Fld := ⟨0x070000, 3, 3⟩
def Reg.TIME_STATUS.quality : Fld := ⟨0x070000, 2, 0⟩
/-- The whole word of TIME_NOW_SEC_LO (R300). -/
def Reg.TIME_NOW_SEC_LO.word : Fld := ⟨0x070004, 31, 0⟩
/-- The whole word of TIME_NOW_SEC_HI (R300). -/
def Reg.TIME_NOW_SEC_HI.word : Fld := ⟨0x070008, 31, 0⟩
/-- The whole word of TIME_NOW_NS (R300). -/
def Reg.TIME_NOW_NS.word : Fld := ⟨0x07000C, 31, 0⟩
def Reg.TIME_NOW_NS.ns : Fld := ⟨0x07000C, 29, 0⟩
/-- The whole word of TIME_NOW_FRAC (R300). -/
def Reg.TIME_NOW_FRAC.word : Fld := ⟨0x070010, 31, 0⟩
def Reg.TIME_NOW_FRAC.frac : Fld := ⟨0x070010, 15, 0⟩
/-- The whole word of TIME_UTC (R300). -/
def Reg.TIME_UTC.word : Fld := ⟨0x070014, 31, 0⟩
def Reg.TIME_UTC.leap59 : Fld := ⟨0x070014, 17, 17⟩
def Reg.TIME_UTC.leap61 : Fld := ⟨0x070014, 16, 16⟩
def Reg.TIME_UTC.utc_offset : Fld := ⟨0x070014, 15, 0⟩
/-- The whole word of TIME_FREQ (R300). -/
def Reg.TIME_FREQ.word : Fld := ⟨0x070018, 31, 0⟩
/-- The whole word of TIME_SLEW (R300). -/
def Reg.TIME_SLEW.word : Fld := ⟨0x07001C, 31, 0⟩
/-- The whole word of TIME_JUMP_THR (R300). -/
def Reg.TIME_JUMP_THR.word : Fld := ⟨0x070020, 31, 0⟩
def Reg.TIME_JUMP_THR.us : Fld := ⟨0x070020, 19, 0⟩
/-- The whole word of TIME_PTP_CFG (R300). -/
def Reg.TIME_PTP_CFG.word : Fld := ⟨0x070030, 31, 0⟩
def Reg.TIME_PTP_CFG.domain : Fld := ⟨0x070030, 11, 4⟩
def Reg.TIME_PTP_CFG.slave_only : Fld := ⟨0x070030, 3, 3⟩
def Reg.TIME_PTP_CFG.boundary : Fld := ⟨0x070030, 2, 2⟩
def Reg.TIME_PTP_CFG.p2p : Fld := ⟨0x070030, 1, 1⟩
def Reg.TIME_PTP_CFG.enable : Fld := ⟨0x070030, 0, 0⟩
/-- The whole word of TIME_PTP_PORTS (R300). -/
def Reg.TIME_PTP_PORTS.word : Fld := ⟨0x070034, 31, 0⟩
def Reg.TIME_PTP_PORTS.ports : Fld := ⟨0x070034, 9, 0⟩
/-- The whole word of TIME_PTP_INTV (R300). -/
def Reg.TIME_PTP_INTV.word : Fld := ⟨0x070038, 31, 0⟩
def Reg.TIME_PTP_INTV.ann_timeout : Fld := ⟨0x070038, 19, 16⟩
def Reg.TIME_PTP_INTV.log_delay : Fld := ⟨0x070038, 15, 12⟩
def Reg.TIME_PTP_INTV.log_announce : Fld := ⟨0x070038, 11, 8⟩
def Reg.TIME_PTP_INTV.log_sync : Fld := ⟨0x070038, 7, 4⟩
/-- The whole word of TIME_PTP_PRIO (R300). -/
def Reg.TIME_PTP_PRIO.word : Fld := ⟨0x07003C, 31, 0⟩
def Reg.TIME_PTP_PRIO.priority1 : Fld := ⟨0x07003C, 31, 24⟩
def Reg.TIME_PTP_PRIO.priority2 : Fld := ⟨0x07003C, 23, 16⟩
def Reg.TIME_PTP_PRIO.clock_class : Fld := ⟨0x07003C, 15, 8⟩
/-- The whole word of TIME_PTP_LOCK (R300). -/
def Reg.TIME_PTP_LOCK.word : Fld := ⟨0x070040, 31, 0⟩
def Reg.TIME_PTP_LOCK.lock_ns : Fld := ⟨0x070040, 15, 0⟩
/-- The whole word of TIME_PTP_OFFSET (R300). -/
def Reg.TIME_PTP_OFFSET.word : Fld := ⟨0x070044, 31, 0⟩
/-- The whole word of TIME_PTP_STATE (R300). -/
def Reg.TIME_PTP_STATE.word : Fld := ⟨0x070048, 31, 0⟩
def Reg.TIME_PTP_STATE.states : Fld := ⟨0x070048, 29, 0⟩
/-- The whole word of TIME_PTP_GM_LO (R300). -/
def Reg.TIME_PTP_GM_LO.word : Fld := ⟨0x07004C, 31, 0⟩
/-- The whole word of TIME_PTP_GM_HI (R300). -/
def Reg.TIME_PTP_GM_HI.word : Fld := ⟨0x070050, 31, 0⟩
/-- The whole word of TIME_PPS_OUT (R300). -/
def Reg.TIME_PPS_OUT.word : Fld := ⟨0x070060, 31, 0⟩
def Reg.TIME_PPS_OUT.width_ms : Fld := ⟨0x070060, 10, 1⟩
def Reg.TIME_PPS_OUT.pps_en : Fld := ⟨0x070060, 0, 0⟩
/-- The whole word of TIME_TPO_SEL (R300). -/
def Reg.TIME_TPO_SEL.word : Fld := ⟨0x070070, 31, 0⟩
def Reg.TIME_TPO_SEL.tpo : Fld := ⟨0x070070, 1, 0⟩
/-- The whole word of TIME_TPO_START_SEC (R300). -/
def Reg.TIME_TPO_START_SEC.word : Fld := ⟨0x070074, 31, 0⟩
/-- The whole word of TIME_TPO_START_NS (R300). -/
def Reg.TIME_TPO_START_NS.word : Fld := ⟨0x070078, 31, 0⟩
/-- The whole word of TIME_TPO_PERIOD (R300). -/
def Reg.TIME_TPO_PERIOD.word : Fld := ⟨0x07007C, 31, 0⟩
/-- The whole word of TIME_TPO_WIDTH (R300). -/
def Reg.TIME_TPO_WIDTH.word : Fld := ⟨0x070080, 31, 0⟩
/-- The whole word of TIME_TPO_CTRL (R300). -/
def Reg.TIME_TPO_CTRL.word : Fld := ⟨0x070084, 31, 0⟩
def Reg.TIME_TPO_CTRL.bad : Fld := ⟨0x070084, 4, 4⟩
def Reg.TIME_TPO_CTRL.late : Fld := ⟨0x070084, 3, 3⟩
def Reg.TIME_TPO_CTRL.armed : Fld := ⟨0x070084, 2, 2⟩
def Reg.TIME_TPO_CTRL.invert : Fld := ⟨0x070084, 1, 1⟩
def Reg.TIME_TPO_CTRL.arm : Fld := ⟨0x070084, 0, 0⟩
/-- The whole word of TIME_TSQ_SEL (R300). -/
def Reg.TIME_TSQ_SEL.word : Fld := ⟨0x070090, 31, 0⟩
def Reg.TIME_TSQ_SEL.port : Fld := ⟨0x070090, 3, 0⟩
/-- The whole word of TIME_TSQ_STATUS (R300). -/
def Reg.TIME_TSQ_STATUS.word : Fld := ⟨0x070094, 31, 0⟩
def Reg.TIME_TSQ_STATUS.last_lost_tag : Fld := ⟨0x070094, 31, 16⟩
def Reg.TIME_TSQ_STATUS.ts_ovf : Fld := ⟨0x070094, 15, 7⟩
def Reg.TIME_TSQ_STATUS.fill : Fld := ⟨0x070094, 6, 0⟩
/-- The whole word of TIME_TSQ_W (R300). -/
def Reg.TIME_TSQ_W.word (i : Nat) : Fld := ⟨0x070098 + 4 * i, 31, 0⟩
/-- The whole word of TIME_LAUNCH (R300). -/
def Reg.TIME_LAUNCH.word : Fld := ⟨0x0700A8, 31, 0⟩
def Reg.TIME_LAUNCH.late_discard : Fld := ⟨0x0700A8, 9, 0⟩
/-- The whole word of TIME_IRQ_STATUS (R300). -/
def Reg.TIME_IRQ_STATUS.word : Fld := ⟨0x0700B0, 31, 0⟩
def Reg.TIME_IRQ_STATUS.launch_late : Fld := ⟨0x0700B0, 4, 4⟩
def Reg.TIME_IRQ_STATUS.ts_ovf : Fld := ⟨0x0700B0, 3, 3⟩
def Reg.TIME_IRQ_STATUS.jump_refused : Fld := ⟨0x0700B0, 2, 2⟩
def Reg.TIME_IRQ_STATUS.unlock : Fld := ⟨0x0700B0, 1, 1⟩
def Reg.TIME_IRQ_STATUS.lock : Fld := ⟨0x0700B0, 0, 0⟩
/-- The whole word of TIME_IRQ_ENABLE (R300). -/
def Reg.TIME_IRQ_ENABLE.word : Fld := ⟨0x0700B4, 31, 0⟩
def Reg.TIME_IRQ_ENABLE.enable : Fld := ⟨0x0700B4, 4, 0⟩
/-- The whole word of RTC_STATUS (R301). -/
def Reg.RTC_STATUS.word : Fld := ⟨0x080000, 31, 0⟩
def Reg.RTC_STATUS.temp : Fld := ⟨0x080000, 15, 8⟩
def Reg.RTC_STATUS.on_vbat : Fld := ⟨0x080000, 0, 0⟩
/-- The whole word of RTC_VALID (R301). -/
def Reg.RTC_VALID.word : Fld := ⟨0x080004, 31, 0⟩
def Reg.RTC_VALID.valid : Fld := ⟨0x080004, 0, 0⟩
/-- The whole word of RTC_TICK_LO (R301). -/
def Reg.RTC_TICK_LO.word : Fld := ⟨0x080008, 31, 0⟩
/-- The whole word of RTC_TICK_HI (R301). -/
def Reg.RTC_TICK_HI.word : Fld := ⟨0x08000C, 31, 0⟩
/-- The whole word of RTC_CAL_TIME (R301). -/
def Reg.RTC_CAL_TIME.word : Fld := ⟨0x080010, 31, 0⟩
def Reg.RTC_CAL_TIME.weekday : Fld := ⟨0x080010, 22, 20⟩
def Reg.RTC_CAL_TIME.hour : Fld := ⟨0x080010, 19, 15⟩
def Reg.RTC_CAL_TIME.minute : Fld := ⟨0x080010, 11, 6⟩
def Reg.RTC_CAL_TIME.second : Fld := ⟨0x080010, 5, 0⟩
/-- The whole word of RTC_CAL_SET_TIME (R301). -/
def Reg.RTC_CAL_SET_TIME.word : Fld := ⟨0x080018, 31, 0⟩
def Reg.RTC_CAL_SET_TIME.weekday : Fld := ⟨0x080018, 22, 20⟩
def Reg.RTC_CAL_SET_TIME.hour : Fld := ⟨0x080018, 19, 15⟩
def Reg.RTC_CAL_SET_TIME.minute : Fld := ⟨0x080018, 11, 6⟩
def Reg.RTC_CAL_SET_TIME.second : Fld := ⟨0x080018, 5, 0⟩
/-- The whole word of RTC_CAL_DATE (R301). -/
def Reg.RTC_CAL_DATE.word : Fld := ⟨0x080014, 31, 0⟩
def Reg.RTC_CAL_DATE.year : Fld := ⟨0x080014, 15, 9⟩
def Reg.RTC_CAL_DATE.month : Fld := ⟨0x080014, 8, 5⟩
def Reg.RTC_CAL_DATE.day : Fld := ⟨0x080014, 4, 0⟩
/-- The whole word of RTC_CAL_SET_DATE (R301). -/
def Reg.RTC_CAL_SET_DATE.word : Fld := ⟨0x08001C, 31, 0⟩
def Reg.RTC_CAL_SET_DATE.year : Fld := ⟨0x08001C, 15, 9⟩
def Reg.RTC_CAL_SET_DATE.month : Fld := ⟨0x08001C, 8, 5⟩
def Reg.RTC_CAL_SET_DATE.day : Fld := ⟨0x08001C, 4, 0⟩
/-- The whole word of RTC_CAL_CTRL (R301). -/
def Reg.RTC_CAL_CTRL.word : Fld := ⟨0x080020, 31, 0⟩
def Reg.RTC_CAL_CTRL.load : Fld := ⟨0x080020, 0, 0⟩
/-- The whole word of RTC_ALM0_TIME (R301). -/
def Reg.RTC_ALM0_TIME.word : Fld := ⟨0x080030, 31, 0⟩
def Reg.RTC_ALM0_TIME.mask : Fld := ⟨0x080030, 26, 23⟩
def Reg.RTC_ALM0_TIME.match : Fld := ⟨0x080030, 22, 0⟩
/-- The whole word of RTC_ALM1_TIME (R301). -/
def Reg.RTC_ALM1_TIME.word : Fld := ⟨0x080038, 31, 0⟩
def Reg.RTC_ALM1_TIME.mask : Fld := ⟨0x080038, 26, 23⟩
def Reg.RTC_ALM1_TIME.match : Fld := ⟨0x080038, 22, 0⟩
/-- The whole word of RTC_ALM0_DATE (R301). -/
def Reg.RTC_ALM0_DATE.word : Fld := ⟨0x080034, 31, 0⟩
def Reg.RTC_ALM0_DATE.enable : Fld := ⟨0x080034, 31, 31⟩
def Reg.RTC_ALM0_DATE.mask : Fld := ⟨0x080034, 18, 16⟩
def Reg.RTC_ALM0_DATE.match : Fld := ⟨0x080034, 15, 0⟩
/-- The whole word of RTC_ALM1_DATE (R301). -/
def Reg.RTC_ALM1_DATE.word : Fld := ⟨0x08003C, 31, 0⟩
def Reg.RTC_ALM1_DATE.enable : Fld := ⟨0x08003C, 31, 31⟩
def Reg.RTC_ALM1_DATE.mask : Fld := ⟨0x08003C, 18, 16⟩
def Reg.RTC_ALM1_DATE.match : Fld := ⟨0x08003C, 15, 0⟩
/-- The whole word of RTC_TALM_LO (R301). -/
def Reg.RTC_TALM_LO.word : Fld := ⟨0x080040, 31, 0⟩
/-- The whole word of RTC_TALM_HI (R301). -/
def Reg.RTC_TALM_HI.word : Fld := ⟨0x080044, 31, 0⟩
/-- The whole word of RTC_COMP_SEL (R301). -/
def Reg.RTC_COMP_SEL.word : Fld := ⟨0x080050, 31, 0⟩
def Reg.RTC_COMP_SEL.point : Fld := ⟨0x080050, 3, 0⟩
/-- The whole word of RTC_COMP_PT (R301). -/
def Reg.RTC_COMP_PT.word : Fld := ⟨0x080054, 31, 0⟩
def Reg.RTC_COMP_PT.ppm : Fld := ⟨0x080054, 15, 0⟩
/-- The whole word of RTC_COMP_STATE (R301). -/
def Reg.RTC_COMP_STATE.word : Fld := ⟨0x080058, 31, 0⟩
def Reg.RTC_COMP_STATE.acc_frac : Fld := ⟨0x080058, 31, 16⟩
def Reg.RTC_COMP_STATE.last : Fld := ⟨0x080058, 7, 0⟩
/-- The whole word of RTC_IRQ_STATUS (R301). -/
def Reg.RTC_IRQ_STATUS.word : Fld := ⟨0x080060, 31, 0⟩
def Reg.RTC_IRQ_STATUS.lost : Fld := ⟨0x080060, 5, 5⟩
def Reg.RTC_IRQ_STATUS.alm1_mayskip : Fld := ⟨0x080060, 4, 4⟩
def Reg.RTC_IRQ_STATUS.alm0_mayskip : Fld := ⟨0x080060, 3, 3⟩
def Reg.RTC_IRQ_STATUS.talm : Fld := ⟨0x080060, 2, 2⟩
def Reg.RTC_IRQ_STATUS.alm1 : Fld := ⟨0x080060, 1, 1⟩
def Reg.RTC_IRQ_STATUS.alm0 : Fld := ⟨0x080060, 0, 0⟩
/-- The whole word of RTC_IRQ_ENABLE (R301). -/
def Reg.RTC_IRQ_ENABLE.word : Fld := ⟨0x080064, 31, 0⟩
def Reg.RTC_IRQ_ENABLE.enable : Fld := ⟨0x080064, 5, 0⟩
/-- The whole word of CLK_STATUS (R324). -/
def Reg.CLK_STATUS.word : Fld := ⟨0x090000, 31, 0⟩
def Reg.CLK_STATUS.trim_ref : Fld := ⟨0x090000, 7, 6⟩
def Reg.CLK_STATUS.trimmed : Fld := ⟨0x090000, 5, 5⟩
def Reg.CLK_STATUS.sys_src : Fld := ⟨0x090000, 4, 4⟩
def Reg.CLK_STATUS.pll_lock : Fld := ⟨0x090000, 3, 3⟩
def Reg.CLK_STATUS.rc_ok : Fld := ⟨0x090000, 2, 2⟩
def Reg.CLK_STATUS.xtal32_ok : Fld := ⟨0x090000, 1, 1⟩
def Reg.CLK_STATUS.xtal40_ok : Fld := ⟨0x090000, 0, 0⟩
/-- The whole word of CLK_FAIL (R324). -/
def Reg.CLK_FAIL.word : Fld := ⟨0x090004, 31, 0⟩
def Reg.CLK_FAIL.sw_refused : Fld := ⟨0x090004, 5, 5⟩
def Reg.CLK_FAIL.sw_forced : Fld := ⟨0x090004, 4, 4⟩
def Reg.CLK_FAIL.pll_unlock : Fld := ⟨0x090004, 3, 3⟩
def Reg.CLK_FAIL.rc_fail : Fld := ⟨0x090004, 2, 2⟩
def Reg.CLK_FAIL.xtal32_fail : Fld := ⟨0x090004, 1, 1⟩
def Reg.CLK_FAIL.xtal40_fail : Fld := ⟨0x090004, 0, 0⟩
/-- The whole word of CLK_RC_TRIM (R324). -/
def Reg.CLK_RC_TRIM.word : Fld := ⟨0x090008, 31, 0⟩
def Reg.CLK_RC_TRIM.err : Fld := ⟨0x090008, 31, 16⟩
def Reg.CLK_RC_TRIM.code : Fld := ⟨0x090008, 9, 0⟩
/-- The whole word of CLK_XTAL40 (R324). -/
def Reg.CLK_XTAL40.word : Fld := ⟨0x09000C, 31, 0⟩
def Reg.CLK_XTAL40.amp : Fld := ⟨0x09000C, 31, 16⟩
def Reg.CLK_XTAL40.start_us : Fld := ⟨0x09000C, 15, 0⟩
/-- The whole word of CLK_FAIL_CNT (R324). -/
def Reg.CLK_FAIL_CNT.word : Fld := ⟨0x090010, 31, 0⟩
def Reg.CLK_FAIL_CNT.forced : Fld := ⟨0x090010, 31, 16⟩
def Reg.CLK_FAIL_CNT.main : Fld := ⟨0x090010, 15, 0⟩
/-- The whole word of CLK_IRQ_ENABLE (R324). -/
def Reg.CLK_IRQ_ENABLE.word : Fld := ⟨0x090014, 31, 0⟩
def Reg.CLK_IRQ_ENABLE.enable : Fld := ⟨0x090014, 5, 0⟩
/-- The whole word of PWR_STATUS (R325). -/
def Reg.PWR_STATUS.word : Fld := ⟨0x0A0000, 31, 0⟩
def Reg.PWR_STATUS.last_clean : Fld := ⟨0x0A0000, 4, 4⟩
def Reg.PWR_STATUS.holdup_met : Fld := ⟨0x0A0000, 3, 3⟩
def Reg.PWR_STATUS.charging : Fld := ⟨0x0A0000, 2, 2⟩
def Reg.PWR_STATUS.vhold_ok : Fld := ⟨0x0A0000, 1, 1⟩
def Reg.PWR_STATUS.pf_armed : Fld := ⟨0x0A0000, 0, 0⟩
/-- The whole word of PWR_VIN (R325). -/
def Reg.PWR_VIN.word : Fld := ⟨0x0A0004, 31, 0⟩
def Reg.PWR_VIN.dips : Fld := ⟨0x0A0004, 31, 16⟩
def Reg.PWR_VIN.mv : Fld := ⟨0x0A0004, 15, 0⟩
/-- The whole word of PWR_VHOLD (R325). -/
def Reg.PWR_VHOLD.word : Fld := ⟨0x0A0008, 31, 0⟩
def Reg.PWR_VHOLD.dips : Fld := ⟨0x0A0008, 31, 16⟩
def Reg.PWR_VHOLD.mv : Fld := ⟨0x0A0008, 15, 0⟩
/-- The whole word of PWR_HOLDUP (R325). -/
def Reg.PWR_HOLDUP.word : Fld := ⟨0x0A000C, 31, 0⟩
def Reg.PWR_HOLDUP.age_days : Fld := ⟨0x0A000C, 31, 23⟩
def Reg.PWR_HOLDUP.esr_10mohm : Fld := ⟨0x0A000C, 22, 13⟩
def Reg.PWR_HOLDUP.cap_100nf : Fld := ⟨0x0A000C, 12, 0⟩
/-- The whole word of PWR_PF_LAST (R325). -/
def Reg.PWR_PF_LAST.word : Fld := ⟨0x0A0010, 31, 0⟩
def Reg.PWR_PF_LAST.step : Fld := ⟨0x0A0010, 19, 16⟩
def Reg.PWR_PF_LAST.duration_us : Fld := ⟨0x0A0010, 15, 0⟩
/-- The whole word of PWR_PF_CNT (R325). -/
def Reg.PWR_PF_CNT.word : Fld := ⟨0x0A0014, 31, 0⟩
def Reg.PWR_PF_CNT.unclean : Fld := ⟨0x0A0014, 31, 16⟩
def Reg.PWR_PF_CNT.count : Fld := ⟨0x0A0014, 15, 0⟩
/-- The whole word of PWR_IRQ_STATUS (R325). -/
def Reg.PWR_IRQ_STATUS.word : Fld := ⟨0x0A0018, 31, 0⟩
def Reg.PWR_IRQ_STATUS.holdup_low : Fld := ⟨0x0A0018, 3, 3⟩
def Reg.PWR_IRQ_STATUS.vin_range : Fld := ⟨0x0A0018, 2, 2⟩
def Reg.PWR_IRQ_STATUS.dip : Fld := ⟨0x0A0018, 1, 1⟩
def Reg.PWR_IRQ_STATUS.measured : Fld := ⟨0x0A0018, 0, 0⟩
/-- The whole word of PWR_IRQ_ENABLE (R325). -/
def Reg.PWR_IRQ_ENABLE.word : Fld := ⟨0x0A001C, 31, 0⟩
def Reg.PWR_IRQ_ENABLE.enable : Fld := ⟨0x0A001C, 3, 0⟩
/-- The whole word of SIL_STATUS (R350). -/
def Reg.SIL_STATUS.word : Fld := ⟨0x0B0000, 31, 0⟩
def Reg.SIL_STATUS.spare_low : Fld := ⟨0x0B0000, 5, 5⟩
def Reg.SIL_STATUS.nand_ok : Fld := ⟨0x0B0000, 4, 4⟩
def Reg.SIL_STATUS.snap_busy : Fld := ⟨0x0B0000, 3, 3⟩
def Reg.SIL_STATUS.scrubbing : Fld := ⟨0x0B0000, 2, 2⟩
def Reg.SIL_STATUS.read_only : Fld := ⟨0x0B0000, 1, 1⟩
def Reg.SIL_STATUS.mounted : Fld := ⟨0x0B0000, 0, 0⟩
/-- The whole word of SIL_SEQ_LO (R350). -/
def Reg.SIL_SEQ_LO.word : Fld := ⟨0x0B0004, 31, 0⟩
/-- The whole word of SIL_SEQ_HI (R350). -/
def Reg.SIL_SEQ_HI.word : Fld := ⟨0x0B0008, 31, 0⟩
/-- The whole word of SIL_EPOCH (R350). -/
def Reg.SIL_EPOCH.word : Fld := ⟨0x0B000C, 31, 0⟩
def Reg.SIL_EPOCH.boots : Fld := ⟨0x0B000C, 31, 8⟩
def Reg.SIL_EPOCH.epoch : Fld := ⟨0x0B000C, 7, 0⟩
/-- The whole word of SIL_LEDGER_BASE (R350). -/
def Reg.SIL_LEDGER_BASE.word : Fld := ⟨0x0B0010, 31, 0⟩
def Reg.SIL_LEDGER_BASE.base : Fld := ⟨0x0B0010, 27, 0⟩
/-- The whole word of SIL_LPOST_EID (R350). -/
def Reg.SIL_LPOST_EID.word (bank : Nat) : Fld := ⟨0x0B0014 + (bank + 1) * 0x1000000, 31, 0⟩
def Reg.SIL_LPOST_EID.eid (bank : Nat) : Fld := ⟨0x0B0014 + (bank + 1) * 0x1000000, 16, 0⟩
/-- The whole word of SIL_LPOST_VAL_LO (R350). -/
def Reg.SIL_LPOST_VAL_LO.word (bank : Nat) : Fld := ⟨0x0B0018 + (bank + 1) * 0x1000000, 31, 0⟩
/-- The whole word of SIL_LPOST_VAL_HI (R350). -/
def Reg.SIL_LPOST_VAL_HI.word (bank : Nat) : Fld := ⟨0x0B001C + (bank + 1) * 0x1000000, 31, 0⟩
/-- The whole word of SIL_LPOST_CTRL (R350). -/
def Reg.SIL_LPOST_CTRL.word (bank : Nat) : Fld := ⟨0x0B0020 + (bank + 1) * 0x1000000, 31, 0⟩
def Reg.SIL_LPOST_CTRL.kind (bank : Nat) : Fld := ⟨0x0B0020 + (bank + 1) * 0x1000000, 1, 0⟩
/-- The whole word of SIL_LPOST_STATUS (R350). -/
def Reg.SIL_LPOST_STATUS.word (bank : Nat) : Fld := ⟨0x0B0024 + (bank + 1) * 0x1000000, 31, 0⟩
def Reg.SIL_LPOST_STATUS.status (bank : Nat) : Fld := ⟨0x0B0024 + (bank + 1) * 0x1000000, 7, 0⟩
/-- The whole word of SIL_SNAP (R350). -/
def Reg.SIL_SNAP.word : Fld := ⟨0x0B0028, 31, 0⟩
def Reg.SIL_SNAP.number : Fld := ⟨0x0B0028, 31, 9⟩
def Reg.SIL_SNAP.chunk : Fld := ⟨0x0B0028, 8, 0⟩
/-- The whole word of SIL_JW_ADDR_LO (R350). -/
def Reg.SIL_JW_ADDR_LO.word (bank : Nat) : Fld := ⟨0x0B0030 + (bank + 1) * 0x1000000, 31, 0⟩
/-- The whole word of SIL_JW_ADDR_HI (R350). -/
def Reg.SIL_JW_ADDR_HI.word (bank : Nat) : Fld := ⟨0x0B0034 + (bank + 1) * 0x1000000, 31, 0⟩
/-- The whole word of SIL_JW_CTRL (R350). -/
def Reg.SIL_JW_CTRL.word (bank : Nat) : Fld := ⟨0x0B0038 + (bank + 1) * 0x1000000, 31, 0⟩
def Reg.SIL_JW_CTRL.type (bank : Nat) : Fld := ⟨0x0B0038 + (bank + 1) * 0x1000000, 31, 16⟩
def Reg.SIL_JW_CTRL.length (bank : Nat) : Fld := ⟨0x0B0038 + (bank + 1) * 0x1000000, 13, 0⟩
/-- The whole word of SIL_JW_STATUS (R350). -/
def Reg.SIL_JW_STATUS.word (bank : Nat) : Fld := ⟨0x0B003C + (bank + 1) * 0x1000000, 31, 0⟩
def Reg.SIL_JW_STATUS.busy (bank : Nat) : Fld := ⟨0x0B003C + (bank + 1) * 0x1000000, 8, 8⟩
def Reg.SIL_JW_STATUS.status (bank : Nat) : Fld := ⟨0x0B003C + (bank + 1) * 0x1000000, 7, 0⟩
/-- The whole word of SIL_ECC (R350). -/
def Reg.SIL_ECC.word : Fld := ⟨0x0B0040, 31, 0⟩
def Reg.SIL_ECC.corrected : Fld := ⟨0x0B0040, 31, 16⟩
def Reg.SIL_ECC.uncorrectable : Fld := ⟨0x0B0040, 15, 0⟩
/-- The whole word of SIL_REMAP (R350). -/
def Reg.SIL_REMAP.word : Fld := ⟨0x0B0044, 31, 0⟩
def Reg.SIL_REMAP.remapped : Fld := ⟨0x0B0044, 31, 19⟩
def Reg.SIL_REMAP.spare_free : Fld := ⟨0x0B0044, 18, 0⟩
/-- The whole word of SIL_SCRUB (R350). -/
def Reg.SIL_SCRUB.word : Fld := ⟨0x0B0048, 31, 0⟩
def Reg.SIL_SCRUB.days : Fld := ⟨0x0B0048, 31, 16⟩
def Reg.SIL_SCRUB.block : Fld := ⟨0x0B0048, 11, 0⟩
/-- The whole word of SIL_NAND (R350). -/
def Reg.SIL_NAND.word : Fld := ⟨0x0B004C, 31, 0⟩
def Reg.SIL_NAND.retired : Fld := ⟨0x0B004C, 31, 16⟩
def Reg.SIL_NAND.reserve_free : Fld := ⟨0x0B004C, 15, 0⟩
/-- The whole word of SIL_IRQ_STATUS (R350). -/
def Reg.SIL_IRQ_STATUS.word : Fld := ⟨0x0B0050, 31, 0⟩
def Reg.SIL_IRQ_STATUS.nand_retired : Fld := ⟨0x0B0050, 3, 3⟩
def Reg.SIL_IRQ_STATUS.remapped : Fld := ⟨0x0B0050, 2, 2⟩
def Reg.SIL_IRQ_STATUS.journal_full : Fld := ⟨0x0B0050, 1, 1⟩
def Reg.SIL_IRQ_STATUS.jw_done : Fld := ⟨0x0B0050, 0, 0⟩
/-- The whole word of SIL_IRQ_ENABLE (R350). -/
def Reg.SIL_IRQ_ENABLE.word : Fld := ⟨0x0B0054, 31, 0⟩
def Reg.SIL_IRQ_ENABLE.enable : Fld := ⟨0x0B0054, 3, 0⟩
/-- The whole word of MTR_STATUS (R373). -/
def Reg.MTR_STATUS.word : Fld := ⟨0x0C0000, 31, 0⟩
def Reg.MTR_STATUS.no_zc : Fld := ⟨0x0C0000, 15, 12⟩
def Reg.MTR_STATUS.clipping : Fld := ⟨0x0C0000, 11, 8⟩
def Reg.MTR_STATUS.pout_active : Fld := ⟨0x0C0000, 5, 4⟩
def Reg.MTR_STATUS.measured : Fld := ⟨0x0C0000, 3, 0⟩
/-- The whole word of MTR_FAST_OVF (R373). -/
def Reg.MTR_FAST_OVF.word (bank : Nat) : Fld := ⟨0x0C0004 + (bank + 1) * 0x1000000, 31, 0⟩
def Reg.MTR_FAST_OVF.ovf (bank : Nat) : Fld := ⟨0x0C0004 + (bank + 1) * 0x1000000, 3, 0⟩
/-- The whole word of MTR_POUT0 (R373). -/
def Reg.MTR_POUT0.word : Fld := ⟨0x0C0008, 31, 0⟩
def Reg.MTR_POUT0.owed : Fld := ⟨0x0C0008, 31, 16⟩
def Reg.MTR_POUT0.emitted : Fld := ⟨0x0C0008, 15, 0⟩
/-- The whole word of MTR_POUT1 (R373). -/
def Reg.MTR_POUT1.word : Fld := ⟨0x0C000C, 31, 0⟩
def Reg.MTR_POUT1.owed : Fld := ⟨0x0C000C, 31, 16⟩
def Reg.MTR_POUT1.emitted : Fld := ⟨0x0C000C, 15, 0⟩
/-- The whole word of MTR_REC_LO (R373). -/
def Reg.MTR_REC_LO.word : Fld := ⟨0x0C0010, 31, 0⟩
/-- The whole word of MTR_REC_HI (R373). -/
def Reg.MTR_REC_HI.word : Fld := ⟨0x0C0014, 31, 0⟩
/-- The whole word of MTR_ARC_SEL_LO (R373). -/
def Reg.MTR_ARC_SEL_LO.word : Fld := ⟨0x0C0018, 31, 0⟩
/-- The whole word of MTR_ARC_SEL_HI (R373). -/
def Reg.MTR_ARC_SEL_HI.word : Fld := ⟨0x0C001C, 31, 0⟩
/-- The whole word of MTR_ARC_STATUS (R373). -/
def Reg.MTR_ARC_STATUS.word : Fld := ⟨0x0C0020, 31, 0⟩
def Reg.MTR_ARC_STATUS.rec_refused : Fld := ⟨0x0C0020, 31, 16⟩
def Reg.MTR_ARC_STATUS.busy : Fld := ⟨0x0C0020, 8, 8⟩
def Reg.MTR_ARC_STATUS.status : Fld := ⟨0x0C0020, 7, 0⟩
/-- The whole word of MTR_IRQ_STATUS (R373). -/
def Reg.MTR_IRQ_STATUS.word : Fld := ⟨0x0C0024, 31, 0⟩
def Reg.MTR_IRQ_STATUS.clipping : Fld := ⟨0x0C0024, 3, 3⟩
def Reg.MTR_IRQ_STATUS.refused : Fld := ⟨0x0C0024, 2, 2⟩
def Reg.MTR_IRQ_STATUS.fetched : Fld := ⟨0x0C0024, 1, 1⟩
def Reg.MTR_IRQ_STATUS.record : Fld := ⟨0x0C0024, 0, 0⟩
/-- The whole word of MTR_IRQ_ENABLE (R373). -/
def Reg.MTR_IRQ_ENABLE.word : Fld := ⟨0x0C0028, 31, 0⟩
def Reg.MTR_IRQ_ENABLE.enable : Fld := ⟨0x0C0028, 3, 0⟩
/-- The whole word of MTR_ARC_W (R373). -/
def Reg.MTR_ARC_W.word (i : Nat) : Fld := ⟨0x0C0080 + 4 * i, 31, 0⟩
/-- The whole word of MTR_IMP_LO (R373). -/
def Reg.MTR_IMP_LO.word (ch : Nat) : Fld := ⟨0x0C0000 + 0x200 + ch * 0x40, 31, 0⟩
/-- The whole word of MTR_IMP_HI (R373). -/
def Reg.MTR_IMP_HI.word (ch : Nat) : Fld := ⟨0x0C0004 + 0x200 + ch * 0x40, 31, 0⟩
/-- The whole word of MTR_EXP_LO (R373). -/
def Reg.MTR_EXP_LO.word (ch : Nat) : Fld := ⟨0x0C0008 + 0x200 + ch * 0x40, 31, 0⟩
/-- The whole word of MTR_EXP_HI (R373). -/
def Reg.MTR_EXP_HI.word (ch : Nat) : Fld := ⟨0x0C000C + 0x200 + ch * 0x40, 31, 0⟩
/-- The whole word of MTR_REP_LO (R373). -/
def Reg.MTR_REP_LO.word (ch : Nat) : Fld := ⟨0x0C0010 + 0x200 + ch * 0x40, 31, 0⟩
/-- The whole word of MTR_REP_HI (R373). -/
def Reg.MTR_REP_HI.word (ch : Nat) : Fld := ⟨0x0C0014 + 0x200 + ch * 0x40, 31, 0⟩
/-- The whole word of MTR_FAST (R373). -/
def Reg.MTR_FAST.word (ch : Nat) : Fld := ⟨0x0C0018 + 0x200 + ch * 0x40, 31, 0⟩
def Reg.MTR_FAST.epoch (ch : Nat) : Fld := ⟨0x0C0018 + 0x200 + ch * 0x40, 31, 24⟩
def Reg.MTR_FAST.count (ch : Nat) : Fld := ⟨0x0C0018 + 0x200 + ch * 0x40, 23, 0⟩
/-- The whole word of MTR_S0 (R373). -/
def Reg.MTR_S0.word (ch : Nat) : Fld := ⟨0x0C001C + 0x200 + ch * 0x40, 31, 0⟩
/-- The whole word of MTR_VRMS (R373). -/
def Reg.MTR_VRMS.word (ch : Nat) : Fld := ⟨0x0C0020 + 0x200 + ch * 0x40, 31, 0⟩
/-- The whole word of MTR_IRMS (R373). -/
def Reg.MTR_IRMS.word (ch : Nat) : Fld := ⟨0x0C0024 + 0x200 + ch * 0x40, 31, 0⟩
/-- The whole word of MTR_P (R373). -/
def Reg.MTR_P.word (ch : Nat) : Fld := ⟨0x0C0028 + 0x200 + ch * 0x40, 31, 0⟩
/-- The whole word of MTR_CYCLE (R373). -/
def Reg.MTR_CYCLE.word (ch : Nat) : Fld := ⟨0x0C002C + 0x200 + ch * 0x40, 31, 0⟩
def Reg.MTR_CYCLE.freq (ch : Nat) : Fld := ⟨0x0C002C + 0x200 + ch * 0x40, 31, 16⟩
def Reg.MTR_CYCLE.segment (ch : Nat) : Fld := ⟨0x0C002C + 0x200 + ch * 0x40, 2, 0⟩
/-- The whole word of MTR_CLIP (R373). -/
def Reg.MTR_CLIP.word (ch : Nat) : Fld := ⟨0x0C0030 + 0x200 + ch * 0x40, 31, 0⟩
def Reg.MTR_CLIP.i_clip (ch : Nat) : Fld := ⟨0x0C0030 + 0x200 + ch * 0x40, 31, 16⟩
def Reg.MTR_CLIP.v_clip (ch : Nat) : Fld := ⟨0x0C0030 + 0x200 + ch * 0x40, 15, 0⟩
/-- The whole word of EVR_STATUS (R386). -/
def Reg.EVR_STATUS.word : Fld := ⟨0x0D0000, 31, 0⟩
def Reg.EVR_STATUS.flushing : Fld := ⟨0x0D0000, 14, 14⟩
def Reg.EVR_STATUS.ring_full : Fld := ⟨0x0D0000, 13, 13⟩
def Reg.EVR_STATUS.fill : Fld := ⟨0x0D0000, 12, 0⟩
/-- The whole word of EVR_NEXT_SEQ (R386). -/
def Reg.EVR_NEXT_SEQ.word : Fld := ⟨0x0D0004, 31, 0⟩
/-- The whole word of EVR_OLDEST_SEQ (R386). -/
def Reg.EVR_OLDEST_SEQ.word : Fld := ⟨0x0D0008, 31, 0⟩
/-- The whole word of EVR_FLUSH (R386). -/
def Reg.EVR_FLUSH.word : Fld := ⟨0x0D000C, 31, 0⟩
def Reg.EVR_FLUSH.go : Fld := ⟨0x0D000C, 0, 0⟩
/-- The whole word of EVR_LOST (R386). -/
def Reg.EVR_LOST.word : Fld := ⟨0x0D0010, 31, 0⟩
def Reg.EVR_LOST.ring_dropped : Fld := ⟨0x0D0010, 31, 16⟩
def Reg.EVR_LOST.buf_refused : Fld := ⟨0x0D0010, 15, 0⟩
/-- The whole word of EVR_SUPP (R386). -/
def Reg.EVR_SUPP.word : Fld := ⟨0x0D0014, 31, 0⟩
/-- The whole word of EVR_RD_SEQ (R386). -/
def Reg.EVR_RD_SEQ.word : Fld := ⟨0x0D0020, 31, 0⟩
/-- The whole word of EVR_RD_STATUS (R386). -/
def Reg.EVR_RD_STATUS.word : Fld := ⟨0x0D0024, 31, 0⟩
def Reg.EVR_RD_STATUS.status : Fld := ⟨0x0D0024, 7, 0⟩
/-- The whole word of EVR_RD_W (R386). -/
def Reg.EVR_RD_W.word (i : Nat) : Fld := ⟨0x0D0040 + 4 * i, 31, 0⟩
/-- The whole word of EVR_IRQ_STATUS (R386). -/
def Reg.EVR_IRQ_STATUS.word : Fld := ⟨0x0D0028, 31, 0⟩
def Reg.EVR_IRQ_STATUS.lost : Fld := ⟨0x0D0028, 2, 2⟩
def Reg.EVR_IRQ_STATUS.flush_done : Fld := ⟨0x0D0028, 1, 1⟩
def Reg.EVR_IRQ_STATUS.severe : Fld := ⟨0x0D0028, 0, 0⟩
/-- The whole word of EVR_IRQ_ENABLE (R386). -/
def Reg.EVR_IRQ_ENABLE.word : Fld := ⟨0x0D002C, 31, 0⟩
def Reg.EVR_IRQ_ENABLE.enable : Fld := ⟨0x0D002C, 2, 0⟩
/-- The whole word of PAIR_STATUS (R412). -/
def Reg.PAIR_STATUS.word : Fld := ⟨0x0E0000, 31, 0⟩
def Reg.PAIR_STATUS.member : Fld := ⟨0x0E0000, 10, 10⟩
def Reg.PAIR_STATUS.hb_period : Fld := ⟨0x0E0000, 9, 9⟩
def Reg.PAIR_STATUS.unmirrored : Fld := ⟨0x0E0000, 8, 8⟩
def Reg.PAIR_STATUS.mirror_complete : Fld := ⟨0x0E0000, 7, 7⟩
def Reg.PAIR_STATUS.lease_held : Fld := ⟨0x0E0000, 6, 6⟩
def Reg.PAIR_STATUS.witness_ok : Fld := ⟨0x0E0000, 5, 5⟩
def Reg.PAIR_STATUS.path2_ok : Fld := ⟨0x0E0000, 4, 4⟩
def Reg.PAIR_STATUS.tie_ok : Fld := ⟨0x0E0000, 3, 3⟩
def Reg.PAIR_STATUS.role : Fld := ⟨0x0E0000, 2, 0⟩
/-- The whole word of PAIR_ACKED_LO (R412). -/
def Reg.PAIR_ACKED_LO.word : Fld := ⟨0x0E0004, 31, 0⟩
/-- The whole word of PAIR_ACKED_HI (R412). -/
def Reg.PAIR_ACKED_HI.word : Fld := ⟨0x0E0008, 31, 0⟩
/-- The whole word of PAIR_LAG (R412). -/
def Reg.PAIR_LAG.word : Fld := ⟨0x0E000C, 31, 0⟩
def Reg.PAIR_LAG.path2_miss : Fld := ⟨0x0E000C, 31, 16⟩
def Reg.PAIR_LAG.tie_miss : Fld := ⟨0x0E000C, 15, 8⟩
def Reg.PAIR_LAG.lag : Fld := ⟨0x0E000C, 7, 0⟩
/-- The whole word of PAIR_EPOCH (R412). -/
def Reg.PAIR_EPOCH.word : Fld := ⟨0x0E0010, 31, 0⟩
def Reg.PAIR_EPOCH.count : Fld := ⟨0x0E0010, 31, 8⟩
def Reg.PAIR_EPOCH.epoch : Fld := ⟨0x0E0010, 7, 0⟩
/-- The whole word of PAIR_LEASE (R412). -/
def Reg.PAIR_LEASE.word : Fld := ⟨0x0E0014, 31, 0⟩
/-- The whole word of PAIR_LEASE_LEFT (R412). -/
def Reg.PAIR_LEASE_LEFT.word : Fld := ⟨0x0E0018, 31, 0⟩
def Reg.PAIR_LEASE_LEFT.ms : Fld := ⟨0x0E0018, 10, 0⟩
/-- The whole word of PAIR_TIME_OFS (R412). -/
def Reg.PAIR_TIME_OFS.word : Fld := ⟨0x0E001C, 31, 0⟩
/-- The whole word of PAIR_CNT (R412). -/
def Reg.PAIR_CNT.word : Fld := ⟨0x0E0020, 31, 0⟩
def Reg.PAIR_CNT.bad_lease : Fld := ⟨0x0E0020, 31, 24⟩
def Reg.PAIR_CNT.mismatches : Fld := ⟨0x0E0020, 23, 16⟩
def Reg.PAIR_CNT.resyncs : Fld := ⟨0x0E0020, 15, 0⟩
/-- The whole word of PAIR_FC_SEL (R412). -/
def Reg.PAIR_FC_SEL.word : Fld := ⟨0x0E0030, 31, 0⟩
def Reg.PAIR_FC_SEL.handle : Fld := ⟨0x0E0030, 15, 0⟩
/-- The whole word of PAIR_FC (R412). -/
def Reg.PAIR_FC.word : Fld := ⟨0x0E0034, 31, 0⟩
/-- The whole word of PAIR_CTRL (R412). -/
def Reg.PAIR_CTRL.word : Fld := ⟨0x0E0040, 31, 0⟩
def Reg.PAIR_CTRL.resend_go : Fld := ⟨0x0E0040, 0, 0⟩
/-- The whole word of PAIR_RESEND (R412). -/
def Reg.PAIR_RESEND.word : Fld := ⟨0x0E0044, 31, 0⟩
def Reg.PAIR_RESEND.running : Fld := ⟨0x0E0044, 17, 17⟩
def Reg.PAIR_RESEND.cursor : Fld := ⟨0x0E0044, 16, 0⟩
/-- The whole word of PAIR_IRQ_STATUS (R412). -/
def Reg.PAIR_IRQ_STATUS.word : Fld := ⟨0x0E0050, 31, 0⟩
def Reg.PAIR_IRQ_STATUS.resend_done : Fld := ⟨0x0E0050, 4, 4⟩
def Reg.PAIR_IRQ_STATUS.mismatch : Fld := ⟨0x0E0050, 3, 3⟩
def Reg.PAIR_IRQ_STATUS.tie_lost : Fld := ⟨0x0E0050, 2, 2⟩
def Reg.PAIR_IRQ_STATUS.unmirrored : Fld := ⟨0x0E0050, 1, 1⟩
def Reg.PAIR_IRQ_STATUS.role : Fld := ⟨0x0E0050, 0, 0⟩
/-- The whole word of PAIR_IRQ_ENABLE (R412). -/
def Reg.PAIR_IRQ_ENABLE.word : Fld := ⟨0x0E0054, 31, 0⟩
def Reg.PAIR_IRQ_ENABLE.enable : Fld := ⟨0x0E0054, 4, 0⟩
/-- The whole word of KEY_STATUS (R448). -/
def Reg.KEY_STATUS.word : Fld := ⟨0x0F0000, 31, 0⟩
def Reg.KEY_STATUS.pinned : Fld := ⟨0x0F0000, 22, 16⟩
def Reg.KEY_STATUS.loaded : Fld := ⟨0x0F0000, 15, 8⟩
def Reg.KEY_STATUS.root_ok : Fld := ⟨0x0F0000, 3, 3⟩
def Reg.KEY_STATUS.lcs : Fld := ⟨0x0F0000, 2, 0⟩
/-- The whole word of KEY_DEVPUB (R448). -/
def Reg.KEY_DEVPUB.word (i : Nat) : Fld := ⟨0x0F0040 + 4 * i, 31, 0⟩
/-- The whole word of KEY_SLOT_SEL (R448). -/
def Reg.KEY_SLOT_SEL.word : Fld := ⟨0x0F0010, 31, 0⟩
def Reg.KEY_SLOT_SEL.slot : Fld := ⟨0x0F0010, 5, 0⟩
/-- The whole word of KEY_SLOT_INFO (R448). -/
def Reg.KEY_SLOT_INFO.word : Fld := ⟨0x0F0014, 31, 0⟩
def Reg.KEY_SLOT_INFO.key_id : Fld := ⟨0x0F0014, 31, 16⟩
def Reg.KEY_SLOT_INFO.pinned : Fld := ⟨0x0F0014, 3, 3⟩
def Reg.KEY_SLOT_INFO.orphaned : Fld := ⟨0x0F0014, 2, 2⟩
def Reg.KEY_SLOT_INFO.busy : Fld := ⟨0x0F0014, 1, 1⟩
def Reg.KEY_SLOT_INFO.loaded : Fld := ⟨0x0F0014, 0, 0⟩
/-- The whole word of KEY_OP_CFG (R448). -/
def Reg.KEY_OP_CFG.word (bank : Nat) : Fld := ⟨0x0F0020 + (bank + 1) * 0x1000000, 31, 0⟩
def Reg.KEY_OP_CFG.key_id (bank : Nat) : Fld := ⟨0x0F0020 + (bank + 1) * 0x1000000, 31, 16⟩
def Reg.KEY_OP_CFG.op (bank : Nat) : Fld := ⟨0x0F0020 + (bank + 1) * 0x1000000, 3, 0⟩
/-- The whole word of KEY_OP_DESC_LO (R448). -/
def Reg.KEY_OP_DESC_LO.word (bank : Nat) : Fld := ⟨0x0F0024 + (bank + 1) * 0x1000000, 31, 0⟩
/-- The whole word of KEY_OP_DESC_HI (R448). -/
def Reg.KEY_OP_DESC_HI.word (bank : Nat) : Fld := ⟨0x0F0028 + (bank + 1) * 0x1000000, 31, 0⟩
/-- The whole word of KEY_OP_STATUS (R448). -/
def Reg.KEY_OP_STATUS.word (bank : Nat) : Fld := ⟨0x0F002C + (bank + 1) * 0x1000000, 31, 0⟩
def Reg.KEY_OP_STATUS.busy (bank : Nat) : Fld := ⟨0x0F002C + (bank + 1) * 0x1000000, 8, 8⟩
def Reg.KEY_OP_STATUS.status (bank : Nat) : Fld := ⟨0x0F002C + (bank + 1) * 0x1000000, 7, 0⟩
/-- The whole word of KEY_CNT (R448). -/
def Reg.KEY_CNT.word : Fld := ⟨0x0F0030, 31, 0⟩
def Reg.KEY_CNT.refused : Fld := ⟨0x0F0030, 31, 16⟩
def Reg.KEY_CNT.loads : Fld := ⟨0x0F0030, 15, 0⟩
/-- The whole word of KEY_IRQ_STATUS (R448). -/
def Reg.KEY_IRQ_STATUS.word : Fld := ⟨0x0F0034, 31, 0⟩
def Reg.KEY_IRQ_STATUS.lifecycle : Fld := ⟨0x0F0034, 3, 3⟩
def Reg.KEY_IRQ_STATUS.orphaned : Fld := ⟨0x0F0034, 2, 2⟩
def Reg.KEY_IRQ_STATUS.refused : Fld := ⟨0x0F0034, 1, 1⟩
def Reg.KEY_IRQ_STATUS.op_done : Fld := ⟨0x0F0034, 0, 0⟩
/-- The whole word of KEY_IRQ_ENABLE (R448). -/
def Reg.KEY_IRQ_ENABLE.word : Fld := ⟨0x0F0038, 31, 0⟩
def Reg.KEY_IRQ_ENABLE.enable : Fld := ⟨0x0F0038, 3, 0⟩
/-- The whole word of BST_STATUS (R467). -/
def Reg.BST_STATUS.word : Fld := ⟨0x100000, 31, 0⟩
def Reg.BST_STATUS.step : Fld := ⟨0x100000, 11, 8⟩
def Reg.BST_STATUS.alt_used : Fld := ⟨0x100000, 7, 7⟩
def Reg.BST_STATUS.testing : Fld := ⟨0x100000, 6, 6⟩
def Reg.BST_STATUS.warm : Fld := ⟨0x100000, 5, 5⟩
/-- The whole word of BST_STEP_SEL (R467). -/
def Reg.BST_STEP_SEL.word : Fld := ⟨0x100004, 31, 0⟩
def Reg.BST_STEP_SEL.step : Fld := ⟨0x100004, 3, 0⟩
/-- The whole word of BST_STEP (R467). -/
def Reg.BST_STEP.word : Fld := ⟨0x100008, 31, 0⟩
def Reg.BST_STEP.cause : Fld := ⟨0x100008, 31, 16⟩
def Reg.BST_STEP.consec : Fld := ⟨0x100008, 15, 8⟩
def Reg.BST_STEP.path : Fld := ⟨0x100008, 7, 4⟩
def Reg.BST_STEP.phase : Fld := ⟨0x100008, 3, 0⟩
/-- The whole word of BST_BOOT_MS (R467). -/
def Reg.BST_BOOT_MS.word : Fld := ⟨0x10000C, 31, 0⟩
/-- The whole word of BST_UNIT0 (R467). -/
def Reg.BST_UNIT0.word : Fld := ⟨0x100010, 31, 0⟩
def Reg.BST_UNIT0.radios : Fld := ⟨0x100010, 27, 24⟩
def Reg.BST_UNIT0.trunks : Fld := ⟨0x100010, 23, 16⟩
def Reg.BST_UNIT0.cores : Fld := ⟨0x100010, 15, 8⟩
def Reg.BST_UNIT0.lanes : Fld := ⟨0x100010, 7, 0⟩
/-- The whole word of BST_UNIT1 (R467). -/
def Reg.BST_UNIT1.word : Fld := ⟨0x100014, 31, 0⟩
def Reg.BST_UNIT1.light : Fld := ⟨0x100014, 8, 6⟩
def Reg.BST_UNIT1.meter : Fld := ⟨0x100014, 5, 2⟩
def Reg.BST_UNIT1.ports : Fld := ⟨0x100014, 1, 0⟩
/-- The whole word of BST_UNTESTED0 (R467). -/
def Reg.BST_UNTESTED0.word : Fld := ⟨0x100018, 31, 0⟩
def Reg.BST_UNTESTED0.units : Fld := ⟨0x100018, 27, 0⟩
/-- The whole word of BST_UNTESTED1 (R467). -/
def Reg.BST_UNTESTED1.word : Fld := ⟨0x10001C, 31, 0⟩
def Reg.BST_UNTESTED1.units : Fld := ⟨0x10001C, 8, 0⟩
/-- The whole word of BST_TEST_SEL (R467). -/
def Reg.BST_TEST_SEL.word : Fld := ⟨0x100020, 31, 0⟩
def Reg.BST_TEST_SEL.index : Fld := ⟨0x100020, 7, 4⟩
def Reg.BST_TEST_SEL.test : Fld := ⟨0x100020, 3, 0⟩
/-- The whole word of BST_TEST_RES (R467). -/
def Reg.BST_TEST_RES.word : Fld := ⟨0x100024, 31, 0⟩
def Reg.BST_TEST_RES.age_days : Fld := ⟨0x100024, 31, 16⟩
def Reg.BST_TEST_RES.code : Fld := ⟨0x100024, 15, 8⟩
def Reg.BST_TEST_RES.result : Fld := ⟨0x100024, 1, 0⟩
/-- The whole word of BST_TEST_PEAK (R467). -/
def Reg.BST_TEST_PEAK.word : Fld := ⟨0x100028, 31, 0⟩
def Reg.BST_TEST_PEAK.ms : Fld := ⟨0x100028, 31, 16⟩
def Reg.BST_TEST_PEAK.mw : Fld := ⟨0x100028, 15, 0⟩
/-- The whole word of BST_EARLY (R467). -/
def Reg.BST_EARLY.word : Fld := ⟨0x100030, 31, 0⟩
def Reg.BST_EARLY.interrupted : Fld := ⟨0x100030, 8, 8⟩
def Reg.BST_EARLY.consec2 : Fld := ⟨0x100030, 7, 4⟩
def Reg.BST_EARLY.consec1 : Fld := ⟨0x100030, 3, 0⟩
/-- The whole word of BST_IRQ_STATUS (R467). -/
def Reg.BST_IRQ_STATUS.word : Fld := ⟨0x100034, 31, 0⟩
def Reg.BST_IRQ_STATUS.unit_removed : Fld := ⟨0x100034, 2, 2⟩
def Reg.BST_IRQ_STATUS.test_aborted : Fld := ⟨0x100034, 1, 1⟩
def Reg.BST_IRQ_STATUS.alternative : Fld := ⟨0x100034, 0, 0⟩
/-- The whole word of BST_IRQ_ENABLE (R467). -/
def Reg.BST_IRQ_ENABLE.word : Fld := ⟨0x100038, 31, 0⟩
def Reg.BST_IRQ_ENABLE.enable : Fld := ⟨0x100038, 2, 0⟩
/-- The whole word of FWU_STATUS (R484). -/
def Reg.FWU_STATUS.word : Fld := ⟨0x110000, 31, 0⟩
def Reg.FWU_STATUS.rev : Fld := ⟨0x110000, 12, 8⟩
def Reg.FWU_STATUS.cosign_req : Fld := ⟨0x110000, 7, 7⟩
def Reg.FWU_STATUS.trial : Fld := ⟨0x110000, 6, 6⟩
def Reg.FWU_STATUS.other : Fld := ⟨0x110000, 5, 4⟩
def Reg.FWU_STATUS.activating : Fld := ⟨0x110000, 3, 3⟩
def Reg.FWU_STATUS.committing : Fld := ⟨0x110000, 2, 2⟩
def Reg.FWU_STATUS.slot : Fld := ⟨0x110000, 0, 0⟩
/-- The whole word of FWU_VER_RUN (R484). -/
def Reg.FWU_VER_RUN.word : Fld := ⟨0x110004, 31, 0⟩
/-- The whole word of FWU_VER_OTHER (R484). -/
def Reg.FWU_VER_OTHER.word : Fld := ⟨0x110008, 31, 0⟩
/-- The whole word of FWU_FLOOR (R484). -/
def Reg.FWU_FLOOR.word : Fld := ⟨0x11000C, 31, 0⟩
/-- The whole word of FWU_STAGE_FILL (R484). -/
def Reg.FWU_STAGE_FILL.word : Fld := ⟨0x110010, 31, 0⟩
def Reg.FWU_STAGE_FILL.bytes : Fld := ⟨0x110010, 26, 0⟩
/-- The whole word of FWU_ERR (R484). -/
def Reg.FWU_ERR.word : Fld := ⟨0x110014, 31, 0⟩
def Reg.FWU_ERR.status : Fld := ⟨0x110014, 15, 8⟩
def Reg.FWU_ERR.check : Fld := ⟨0x110014, 7, 0⟩
/-- The whole word of FWU_LIB_ADDR_LO (R484). -/
def Reg.FWU_LIB_ADDR_LO.word : Fld := ⟨0x110020, 31, 0⟩
/-- The whole word of FWU_LIB_ADDR_HI (R484). -/
def Reg.FWU_LIB_ADDR_HI.word : Fld := ⟨0x110024, 31, 0⟩
/-- The whole word of FWU_LIB_CTRL (R484). -/
def Reg.FWU_LIB_CTRL.word (bank : Nat) : Fld := ⟨0x110028 + (bank + 1) * 0x1000000, 31, 0⟩
def Reg.FWU_LIB_CTRL.op (bank : Nat) : Fld := ⟨0x110028 + (bank + 1) * 0x1000000, 9, 8⟩
def Reg.FWU_LIB_CTRL.lib_id (bank : Nat) : Fld := ⟨0x110028 + (bank + 1) * 0x1000000, 7, 0⟩
/-- The whole word of FWU_LIB_STATUS (R484). -/
def Reg.FWU_LIB_STATUS.word (bank : Nat) : Fld := ⟨0x11002C + (bank + 1) * 0x1000000, 31, 0⟩
def Reg.FWU_LIB_STATUS.busy (bank : Nat) : Fld := ⟨0x11002C + (bank + 1) * 0x1000000, 8, 8⟩
def Reg.FWU_LIB_STATUS.status (bank : Nat) : Fld := ⟨0x11002C + (bank + 1) * 0x1000000, 7, 0⟩
/-- The whole word of FWU_LIB_FREE (R484). -/
def Reg.FWU_LIB_FREE.word : Fld := ⟨0x110030, 31, 0⟩
def Reg.FWU_LIB_FREE.entries : Fld := ⟨0x110030, 31, 23⟩
def Reg.FWU_LIB_FREE.kib : Fld := ⟨0x110030, 22, 0⟩
/-- The whole word of FWU_IRQ_STATUS (R484). -/
def Reg.FWU_IRQ_STATUS.word : Fld := ⟨0x110034, 31, 0⟩
def Reg.FWU_IRQ_STATUS.lib_done : Fld := ⟨0x110034, 3, 3⟩
def Reg.FWU_IRQ_STATUS.rollback : Fld := ⟨0x110034, 2, 2⟩
def Reg.FWU_IRQ_STATUS.activated : Fld := ⟨0x110034, 1, 1⟩
def Reg.FWU_IRQ_STATUS.staged : Fld := ⟨0x110034, 0, 0⟩
/-- The whole word of FWU_IRQ_ENABLE (R484). -/
def Reg.FWU_IRQ_ENABLE.word : Fld := ⟨0x110038, 31, 0⟩
def Reg.FWU_IRQ_ENABLE.enable : Fld := ⟨0x110038, 3, 0⟩
/-- The whole word of LGT_STATUS (R502). -/
def Reg.LGT_STATUS.word : Fld := ⟨0x120000, 31, 0⟩
def Reg.LGT_STATUS.c0 : Fld := ⟨0x120000, 10, 10⟩
def Reg.LGT_STATUS.sg_on : Fld := ⟨0x120000, 9, 8⟩
def Reg.LGT_STATUS.str_on : Fld := ⟨0x120000, 7, 0⟩
/-- The whole word of LGT_STR_SEL (R502). -/
def Reg.LGT_STR_SEL.word : Fld := ⟨0x120004, 31, 0⟩
def Reg.LGT_STR_SEL.string : Fld := ⟨0x120004, 2, 0⟩
/-- The whole word of LGT_STR_LEVEL (R502). -/
def Reg.LGT_STR_LEVEL.word : Fld := ⟨0x120008, 31, 0⟩
def Reg.LGT_STR_LEVEL.c0 : Fld := ⟨0x120008, 11, 11⟩
def Reg.LGT_STR_LEVEL.engine : Fld := ⟨0x120008, 10, 10⟩
def Reg.LGT_STR_LEVEL.level : Fld := ⟨0x120008, 9, 0⟩
/-- The whole word of LGT_STR_STATE (R502). -/
def Reg.LGT_STR_STATE.word : Fld := ⟨0x12000C, 31, 0⟩
def Reg.LGT_STR_STATE.diag : Fld := ⟨0x12000C, 24, 24⟩
def Reg.LGT_STR_STATE.bypassed : Fld := ⟨0x12000C, 23, 16⟩
def Reg.LGT_STR_STATE.suspect : Fld := ⟨0x12000C, 15, 8⟩
def Reg.LGT_STR_STATE.usable : Fld := ⟨0x12000C, 7, 0⟩
/-- The whole word of LGT_STR_TIME (R502). -/
def Reg.LGT_STR_TIME.word : Fld := ⟨0x120010, 31, 0⟩
def Reg.LGT_STR_TIME.debt : Fld := ⟨0x120010, 31, 16⟩
def Reg.LGT_STR_TIME.t : Fld := ⟨0x120010, 15, 0⟩
/-- The whole word of LGT_STR_DERATE (R502). -/
def Reg.LGT_STR_DERATE.word : Fld := ⟨0x120014, 31, 0⟩
def Reg.LGT_STR_DERATE.f : Fld := ⟨0x120014, 8, 0⟩
/-- The whole word of LGT_LAMP_CLEAR (R502). -/
def Reg.LGT_LAMP_CLEAR.word : Fld := ⟨0x120018, 31, 0⟩
def Reg.LGT_LAMP_CLEAR.lamps : Fld := ⟨0x120018, 7, 0⟩
/-- The whole word of LGT_SGA_CTRL (R502). -/
def Reg.LGT_SGA_CTRL.word : Fld := ⟨0x120020, 31, 0⟩
def Reg.LGT_SGA_CTRL.blank : Fld := ⟨0x120020, 16, 16⟩
def Reg.LGT_SGA_CTRL.dim : Fld := ⟨0x120020, 15, 8⟩
def Reg.LGT_SGA_CTRL.shown : Fld := ⟨0x120020, 1, 1⟩
def Reg.LGT_SGA_CTRL.flip : Fld := ⟨0x120020, 0, 0⟩
/-- The whole word of LGT_SGB_CTRL (R502). -/
def Reg.LGT_SGB_CTRL.word : Fld := ⟨0x120024, 31, 0⟩
def Reg.LGT_SGB_CTRL.blank : Fld := ⟨0x120024, 16, 16⟩
def Reg.LGT_SGB_CTRL.dim : Fld := ⟨0x120024, 15, 8⟩
def Reg.LGT_SGB_CTRL.shown : Fld := ⟨0x120024, 1, 1⟩
def Reg.LGT_SGB_CTRL.flip : Fld := ⟨0x120024, 0, 0⟩
/-- The whole word of LGT_SGA_HELD (R502). -/
def Reg.LGT_SGA_HELD.word : Fld := ⟨0x120028, 31, 0⟩
/-- The whole word of LGT_SGB_HELD (R502). -/
def Reg.LGT_SGB_HELD.word : Fld := ⟨0x12002C, 31, 0⟩
/-- The whole word of LGT_SG_HELD_LINES (R502). -/
def Reg.LGT_SG_HELD_LINES.word : Fld := ⟨0x120030, 31, 0⟩
def Reg.LGT_SG_HELD_LINES.sgb : Fld := ⟨0x120030, 31, 16⟩
def Reg.LGT_SG_HELD_LINES.sga : Fld := ⟨0x120030, 15, 0⟩
/-- The whole word of LGT_NTC (R502). -/
def Reg.LGT_NTC.word (i : Nat) : Fld := ⟨0x120040 + 4 * i, 31, 0⟩
def Reg.LGT_NTC.fault (i : Nat) : Fld := ⟨0x120040 + 4 * i, 25, 25⟩
def Reg.LGT_NTC.f (i : Nat) : Fld := ⟨0x120040 + 4 * i, 24, 16⟩
def Reg.LGT_NTC.temp (i : Nat) : Fld := ⟨0x120040 + 4 * i, 15, 0⟩
/-- The whole word of LGT_IRQ_STATUS (R502). -/
def Reg.LGT_IRQ_STATUS.word : Fld := ⟨0x120050, 31, 0⟩
def Reg.LGT_IRQ_STATUS.ntc_fault : Fld := ⟨0x120050, 3, 3⟩
def Reg.LGT_IRQ_STATUS.derating : Fld := ⟨0x120050, 2, 2⟩
def Reg.LGT_IRQ_STATUS.short : Fld := ⟨0x120050, 1, 1⟩
def Reg.LGT_IRQ_STATUS.open_f : Fld := ⟨0x120050, 0, 0⟩
/-- The whole word of LGT_IRQ_ENABLE (R502). -/
def Reg.LGT_IRQ_ENABLE.word : Fld := ⟨0x120054, 31, 0⟩
def Reg.LGT_IRQ_ENABLE.enable : Fld := ⟨0x120054, 3, 0⟩
/-- The whole word of LGT_SGA_PIX (R502). -/
def Reg.LGT_SGA_PIX.word (i : Nat) : Fld := ⟨0x121000 + 4 * i, 31, 0⟩
/-- The whole word of LGT_SGB_PIX (R502). -/
def Reg.LGT_SGB_PIX.word (i : Nat) : Fld := ⟨0x121200 + 4 * i, 31, 0⟩
/-- The whole word of HLK_STATUS (R513). -/
def Reg.HLK_STATUS.word : Fld := ⟨0x130000, 31, 0⟩
def Reg.HLK_STATUS.uprdy : Fld := ⟨0x130000, 1, 1⟩
def Reg.HLK_STATUS.dnhold : Fld := ⟨0x130000, 0, 0⟩
/-- The whole word of HLK_FILL (R513). -/
def Reg.HLK_FILL.word : Fld := ⟨0x130004, 31, 0⟩
def Reg.HLK_FILL.up_unreleased : Fld := ⟨0x130004, 31, 16⟩
def Reg.HLK_FILL.dn_fill : Fld := ⟨0x130004, 15, 0⟩
/-- The whole word of HLK_DN_MARKS (R513). -/
def Reg.HLK_DN_MARKS.word : Fld := ⟨0x130008, 31, 0⟩
def Reg.HLK_DN_MARKS.high : Fld := ⟨0x130008, 31, 16⟩
def Reg.HLK_DN_MARKS.low : Fld := ⟨0x130008, 15, 0⟩
/-- The whole word of HLK_UP_MARKS (R513). -/
def Reg.HLK_UP_MARKS.word : Fld := ⟨0x13000C, 31, 0⟩
def Reg.HLK_UP_MARKS.high : Fld := ⟨0x13000C, 31, 16⟩
def Reg.HLK_UP_MARKS.low : Fld := ⟨0x13000C, 15, 0⟩
/-- The whole word of HLK_UP_TMO (R513). -/
def Reg.HLK_UP_TMO.word : Fld := ⟨0x130010, 31, 0⟩
def Reg.HLK_UP_TMO.us : Fld := ⟨0x130010, 15, 0⟩
/-- The whole word of HLK_UP_DATA_LO (R513). -/
def Reg.HLK_UP_DATA_LO.word (bank : Nat) : Fld := ⟨0x130014 + (bank + 1) * 0x1000000, 31, 0⟩
/-- The whole word of HLK_UP_DATA_HI (R513). -/
def Reg.HLK_UP_DATA_HI.word (bank : Nat) : Fld := ⟨0x130018 + (bank + 1) * 0x1000000, 31, 0⟩
/-- The whole word of HLK_UP_CTRL (R513). -/
def Reg.HLK_UP_CTRL.word (bank : Nat) : Fld := ⟨0x13001C + (bank + 1) * 0x1000000, 31, 0⟩
def Reg.HLK_UP_CTRL.status (bank : Nat) : Fld := ⟨0x13001C + (bank + 1) * 0x1000000, 15, 8⟩
def Reg.HLK_UP_CTRL.abandon (bank : Nat) : Fld := ⟨0x13001C + (bank + 1) * 0x1000000, 1, 1⟩
def Reg.HLK_UP_CTRL.commit (bank : Nat) : Fld := ⟨0x13001C + (bank + 1) * 0x1000000, 0, 0⟩
/-- The whole word of HLK_CNT (R513). -/
def Reg.HLK_CNT.word : Fld := ⟨0x130020, 31, 0⟩
def Reg.HLK_CNT.bad_cmd : Fld := ⟨0x130020, 31, 16⟩
def Reg.HLK_CNT.dn_dropped : Fld := ⟨0x130020, 15, 0⟩
/-- The whole word of HLK_IRQ_STATUS (R513). -/
def Reg.HLK_IRQ_STATUS.word : Fld := ⟨0x130024, 31, 0⟩
def Reg.HLK_IRQ_STATUS.bad_cmd : Fld := ⟨0x130024, 2, 2⟩
def Reg.HLK_IRQ_STATUS.dropped : Fld := ⟨0x130024, 1, 1⟩
def Reg.HLK_IRQ_STATUS.up_space : Fld := ⟨0x130024, 0, 0⟩
/-- The whole word of HLK_IRQ_ENABLE (R513). -/
def Reg.HLK_IRQ_ENABLE.word : Fld := ⟨0x130028, 31, 0⟩
def Reg.HLK_IRQ_ENABLE.enable : Fld := ⟨0x130028, 2, 0⟩
/-- The whole word of USB_STATUS (R514). -/
def Reg.USB_STATUS.word : Fld := ⟨0x140000, 31, 0⟩
def Reg.USB_STATUS.frame : Fld := ⟨0x140000, 10, 0⟩
/-- The whole word of USB_STATE (R514). -/
def Reg.USB_STATE.word : Fld := ⟨0x140004, 31, 0⟩
def Reg.USB_STATE.suspended : Fld := ⟨0x140004, 2, 2⟩
def Reg.USB_STATE.configured : Fld := ⟨0x140004, 1, 1⟩
def Reg.USB_STATE.attached : Fld := ⟨0x140004, 0, 0⟩
/-- The whole word of USB_IRQ_STATUS (R514). -/
def Reg.USB_IRQ_STATUS.word : Fld := ⟨0x140008, 31, 0⟩
def Reg.USB_IRQ_STATUS.attach : Fld := ⟨0x140008, 0, 0⟩
/-- The whole word of USB_IRQ_ENABLE (R514). -/
def Reg.USB_IRQ_ENABLE.word : Fld := ⟨0x14000C, 31, 0⟩
def Reg.USB_IRQ_ENABLE.enable : Fld := ⟨0x14000C, 0, 0⟩
/-- The whole word of SYS_GPIO_IN_LO (R542). -/
def Reg.SYS_GPIO_IN_LO.word : Fld := ⟨0x000200, 31, 0⟩
/-- The whole word of SYS_GPIO_IN_HI (R542). -/
def Reg.SYS_GPIO_IN_HI.word : Fld := ⟨0x000204, 31, 0⟩
/-- The whole word of SYS_GPIO_OUT_LO (R542). -/
def Reg.SYS_GPIO_OUT_LO.word : Fld := ⟨0x000208, 31, 0⟩
/-- The whole word of SYS_GPIO_OUT_HI (R542). -/
def Reg.SYS_GPIO_OUT_HI.word : Fld := ⟨0x00020C, 31, 0⟩
/-- The whole word of SYS_SER_DESC_LO (R542). -/
def Reg.SYS_SER_DESC_LO.word (bank : Nat) : Fld := ⟨0x000220 + (bank + 1) * 0x1000000, 31, 0⟩
/-- The whole word of SYS_SER_DESC_HI (R542). -/
def Reg.SYS_SER_DESC_HI.word (bank : Nat) : Fld := ⟨0x000224 + (bank + 1) * 0x1000000, 31, 0⟩
/-- The whole word of SYS_SER_STATUS (R542). -/
def Reg.SYS_SER_STATUS.word (bank : Nat) : Fld := ⟨0x000228 + (bank + 1) * 0x1000000, 31, 0⟩
def Reg.SYS_SER_STATUS.busy (bank : Nat) : Fld := ⟨0x000228 + (bank + 1) * 0x1000000, 8, 8⟩
def Reg.SYS_SER_STATUS.status (bank : Nat) : Fld := ⟨0x000228 + (bank + 1) * 0x1000000, 7, 0⟩
/-- The whole word of SYS_PIN_STATUS (R542). -/
def Reg.SYS_PIN_STATUS.word : Fld := ⟨0x000230, 31, 0⟩
def Reg.SYS_PIN_STATUS.emg_disagree : Fld := ⟨0x000230, 7, 7⟩
def Reg.SYS_PIN_STATUS.emg_ack : Fld := ⟨0x000230, 6, 6⟩
def Reg.SYS_PIN_STATUS.emg_b : Fld := ⟨0x000230, 5, 5⟩
def Reg.SYS_PIN_STATUS.emg_a : Fld := ⟨0x000230, 4, 4⟩
def Reg.SYS_PIN_STATUS.pwr_en : Fld := ⟨0x000230, 3, 3⟩
def Reg.SYS_PIN_STATUS.straps : Fld := ⟨0x000230, 2, 0⟩

/-- The registers whose reset value is not 0 (the reset column of every register table, R30), rising by key. -/
def resetRegs : List (Nat × W32) :=
  [ (0x000000, 1#32), (0x010000, 1#32), (0x010014, 257#32), (0x010018, 3600#32), (0x01002C, 500#32), (0x060000, 192#32), (0x060010, 15#32), (0x061000, 192#32), (0x061010, 15#32), (0x062000, 192#32), (0x062010, 15#32), (0x063000, 192#32) ] ++
  [ (0x063010, 15#32), (0x064000, 192#32), (0x064010, 15#32), (0x065000, 192#32), (0x065010, 15#32), (0x066000, 192#32), (0x066010, 15#32), (0x067000, 192#32), (0x067010, 15#32), (0x06E000, 192#32), (0x06E010, 15#32), (0x06F000, 192#32) ] ++
  [ (0x06F010, 15#32), (0x070020, 1000#32), (0x070030, 8#32), (0x070038, 196864#32), (0x07003C, 2155935744#32), (0x070040, 1000#32), (0x070060, 200#32), (0x080014, 33#32), (0x08001C, 33#32), (0x080030, 125829120#32), (0x080034, 458752#32), (0x080038, 125829120#32) ] ++
  [ (0x08003C, 458752#32), (0x080060, 32#32), (0x090000, 4#32), (0x090008, 512#32), (0x100004, 1#32), (0x120014, 256#32), (0x120020, 65280#32), (0x120024, 65280#32), (0x120040, 16777216#32), (0x120044, 16777216#32), (0x120048, 16777216#32), (0x12004C, 16777216#32) ] ++
  [ (0x130008, 520097792#32), (0x13000C, 520093697#32), (0x130010, 100#32) ]

end Sys2Proof.Machine
end

