-- ==== Sys2Proof/Machine/State.lean ====
section
/-! DEFINITION. The state of the QS-740 as plain data. A register whose field holds its own storage lives in `Dev.regs`
(Machine/RegMap.lean names every field); everything the spec gives the machine that is no such register has a field
of its own below, grouped by block. State.reset is the machine right after reset. -/

namespace Sys2Proof.Machine

/-- Why a step could stop with a fault. No meaning of this model raises one: the spec names no behaviour of this block
that stops it (an access to an address that does not exist is answered as R27 states). The type is empty (safe). -/
inductive Fault where
deriving DecidableEq, Repr

/-- Why a command could be refused. -/
inductive Refusal where
  /-- Raised by exec for a command whose meaning has not been written; safe: nothing can be concluded from it. -/
  | notModelled (mnemonic : String)
deriving DecidableEq, Repr

/-- The register file: keys strictly rising, no entry equal to 0, which is what an unlisted register reads as. The key
of a field is that of Machine/RegMap.lean. -/
abbrev RegFile := List (Nat × W32)

/-- Byte-addressed memory: addresses strictly rising, no entry equal to 0, which is what an unlisted byte reads as
(DESIGN CHOICE, notes/assumptions/4). -/
abbrev Memory := List Host.Cell

/-! ### Module state, beat and time (R46-R74, R276-R283) -/

/-- Module states (R62); the code of each is its position (OFF = 0x0 … FAILSAFE = 0x7). -/
inductive ModState where
  | off | boot | unframed | ready | service | hold | test | failsafe
deriving DecidableEq, Repr

/-- Roles (R73), coded by position. -/
inductive Role where
  | solo | active | standby | syncing | ineligible
deriving DecidableEq, Repr

/-- The source of the beat phase (R48), coded by position. -/
inductive BeatSource where
  | crystal | pps | ptp
deriving DecidableEq, Repr

/-- A step of module time that is decided and waits for the step boundary (R52, R282). -/
structure StepReq where
  /-- Absolute steps set module time to `value` ns; relative ones add it. -/
  absolute : Bool
  value : Int
  /-- The utc_offset a FORCE_TIME with set_utc applies at the step boundary (R283). -/
  utc : Option Int
  /-- True for FORCE_TIME and TIME_SET (event 0x0704), false for a first PTP lock or PPS acquisition (0x0705). -/
  forced : Bool
  /-- False for a step to the active's time, whose event is 0x0E09 (R409). -/
  noted : Bool
deriving DecidableEq, Repr

/-- The beat and module time. -/
structure BeatSt where
  /-- The 64-bit beat counter (R47). -/
  count : Nat
  /-- The counter runs: boot step 1 has completed (R47). -/
  running : Bool
  /-- Beat period in force, ns (R46). -/
  period : Nat
  /-- A loaded period that waits for the next second boundary (R53), ns. -/
  nextPeriod : Option Nat
  /-- Module time at the boundary that opened the beat in progress, ns since the PTP epoch (R276). -/
  base : Nat
  /-- Module time elapsed in the beat in progress, ns. -/
  sinceBase : Nat
  /-- Length of the beat in progress in module time, ns: one period, or that of a realignment beat (R52). -/
  len : Nat
  /-- Correction still to be slewed, ns; positive advances module time (R51, R281). -/
  slew : Int
  /-- What the beat in progress corrects of it (R51). -/
  slewNow : Int
  step : Option StepReq
  /-- The source a change at the next boundary brings (R48). -/
  nextSource : Option BeatSource
  source : BeatSource
  /-- passes_now from the next boundary (R58, R59). -/
  nextPasses : Option Nat
  /-- Consecutive PPS edges rejected, and accepted since rejection stopped PPS (R49). -/
  ppsRejected : Nat
  ppsAccepted : Nat
  /-- PPS may serve as phase source (R49, R50). -/
  ppsUsable : Bool
  /-- The latest offsets of PPS edges while PPS is not the source, newest first, at most 8 (R50), ns. -/
  ppsOffsets : List Int
deriving DecidableEq, Repr

/-- A SHUTDOWN in progress: its flags, mask, channel and sequence (R458). -/
structure ShutReq where
  test : Bool
  restart : Bool
  mask : Nat
  seq : Nat
deriving DecidableEq, Repr

/-- An answer of the command port (R66). -/
structure Answer where
  chan : Chan
  code : Nat
  seq : Nat
  keyId : Nat
  status : Nat
  result : Bytes
  /-- The 4 MAC bytes as a number; 0 when the answer is unMACed. -/
  mac : Nat
  /-- The queue that takes the answer of a firmware command (R184). -/
  route : Nat
deriving DecidableEq, Repr

/-- A RISC-V access-fault exception that an application core has taken (R27): the kind of the access, its address, and the value
that a load returned, 0. -/
structure CoreFault where
  core : Nat
  kind : AccessKind
  addr : Nat
  value : Nat
deriving DecidableEq, Repr

/-- Module state, role and what the command port remembers (R62, R66, R73). -/
structure SysSt where
  mstate : ModState
  role : Role
  /-- The BOOT under way is the warm boot of a solo ACTIVATE (R63). -/
  warm : Bool
  /-- A START or STOP that waits for the next boundary (R61). -/
  startPending : Bool
  stopPending : Bool
  /-- The last answer given on each channel, in the order of `Chan` (R66). -/
  answers : List Answer
  /-- Answers of the host link that wait for room in the up FIFO. -/
  heldAnswers : List Answer
  /-- Items of answers to the firmware channel that a full or flushing queue refused, with the queue (R184). -/
  heldItems : List (Nat × List Nat)
  /-- Autostart setting (R62). -/
  autostart : Bool
  /-- Running firmware version, major then minor (R73). -/
  fwVersion : Nat
  /-- The last access fault of each application core (R27). -/
  coreFaults : List CoreFault
deriving DecidableEq, Repr

/-! ### The Cut List and the engine's tables (R76-R117, R134, R177) -/

/-- Container header (R76). -/
structure CutHeader where
  major : Nat
  minor : Nat
  hwType : Nat
  cutId : Nat
  generation : Nat
  bodyLength : Nat
  sections : Nat
  patch : Bool
  keyId : Nat
  hash : Bytes
deriving DecidableEq, Repr

/-- UNITS (R80). -/
structure Units where
  lanesReq : Nat
  coresReq : Nat
  radiosReq : Nat
  radiosOpt : Nat
  trunksReq : Nat
  trunksOpt : Nat
  portsReq : Nat
  portsOpt : Nat
  meterReq : Nat
  meterOpt : Nat
  lightReq : Nat
  ioReq : Nat
  nodeCount : Nat
deriving DecidableEq, Repr

/-- A fallback entry of BEAT (R81). -/
structure Fallback where
  lanes : Nat
  period : Nat
  passes : Nat
deriving DecidableEq, Repr

/-- BEAT (R81). -/
structure BeatSec where
  period : Nat
  passes : Nat
  slewPpm : Nat
  fallbacks : List Fallback
deriving DecidableEq, Repr

/-- Bytes 0-79 of a static record (R105). -/
structure NodeStat where
  typ : Nat
  flags : Nat
  zone : Nat
  firstEdge : Nat
  edgeCap : Nat
  edgeCount : Nat
  link : Nat
  proxyAddr : Nat
  profile : Nat
  groups : List Nat
  daylightEid : Nat
  ipeak : Nat
  decay : Nat
  hold : Nat
  waveMin : Nat
  waveMax : Nat
  dlLo : Nat
  dlHi : Nat
  dlMin : Nat
  dlTimeout : Nat
  rampUp : Nat
  rampDown : Nat
  deadband : Nat
  refresh : Nat
  local_ : Nat
  app : Bytes
deriving DecidableEq, Repr

/-- An edge (R111). -/
structure Edge where
  src : Nat
  d : Nat
  a : Nat
  mask : Nat
  speedZone : Nat
deriving DecidableEq, Repr

/-- A zone record (R113). -/
structure Zone where
  group : Nat
  compress : Bool
  learn : Bool
  headingWindow : Nat
  learnGain : Nat
  speedInit : List Nat
  refTransit : Nat
deriving DecidableEq, Repr

/-- A group record (R114). -/
structure Group where
  media : Nat
  zone : Nat
deriving DecidableEq, Repr

/-- A calendar date (R117). -/
structure Date where
  year : Nat
  month : Nat
  day : Nat
deriving DecidableEq, Repr

/-- An exception record (R117). -/
inductive SchedException where
  | unused
  | substitute (weekdays : Nat) (first last : Date) (fromProfile toProfile : Nat)
  | offset (first : Date) (minutes : Int) (minute : Nat)
deriving DecidableEq, Repr

/-- A queue record (R177). -/
structure QCfg where
  depth : Nat
  reserve : Nat
  cls : Nat
  consumer : Nat
  cores : Nat
  weight : Nat
  cmd : Bool
  hostDown : Bool
deriving DecidableEq, Repr

/-- A SAFETY frame record (R134). -/
structure SafetyFrame where
  index : Nat
  emg : Bool
  cmd : Bool
  level : Nat
  zoneFirst : Nat
  zoneLast : Nat
  media : Nat
  group : Nat
  radioTpl : Bytes
  trunkTpl : Bytes
  radioSeqAt : Nat
  trunkSeqAt : Nat
deriving DecidableEq, Repr

/-- SAFETY (R79, R134). -/
structure Safety where
  lintelMedia : Nat
  gbeNetId : Nat
  gbeC0Key : Nat
  frames : List SafetyFrame
deriving DecidableEq, Repr

/-- A KEYS record (R446). -/
structure KeyPolicy where
  keyId : Nat
  usages : Nat
  masters : Nat
  lcs : Nat
  lowest : Nat
deriving DecidableEq, Repr

/-- LEDGER (R82). -/
structure LedgerSec where
  saveInterval : Nat
  windows : List (Nat × Nat)
deriving DecidableEq, Repr

/-! ### Rafter engine (R104-R174) -/

/-- A dynamic page (R109). -/
structure Page where
  i : Nat
  a : Nat
  h : Nat
  p : Bool
  l : Nat
  t : Nat
  y : Nat
  yValid : Bool
  yAge : Nat
deriving DecidableEq, Repr

/-- The runtime area (R108). -/
structure NodeRun where
  lastSent : Nat
  seq : Nat
  refreshTmr : Nat
  pending : Bool
  /-- The refresh timer alone set the pending flag (R171). -/
  refreshOnly : Bool
  c1Eid : Bool
  c0Active : Bool
  c1Noexp : Bool
  c1Level : Nat
  c1Expiry : Nat
deriving DecidableEq, Repr

/-- A node record (R104). -/
structure Node where
  stat : NodeStat
  run : NodeRun
  page0 : Page
  page1 : Page
deriving DecidableEq, Repr

/-- A class-1 override of site, zone or group scope (R131). -/
structure Override where
  level : Nat
  noexp : Bool
  expiry : Nat
deriving DecidableEq, Repr

/-- A port entry (R122); `kind` 1 PRESENCE, 2 VACANT, 3 DAYLIGHT. -/
structure PortEntry where
  eid : Nat
  kind : Nat
  value : Nat
  rxBeat : Nat
  rxUs : Nat
deriving DecidableEq, Repr

/-- A command-path entry (R125): class-1 set or clear by scope (0 EID, 1 group, 2 zone, 3 site), or the place that a
class-0 change or an EMG edge takes. -/
inductive CmdEntry where
  | c1Set (scope id level effect duration : Nat)
  | c1Clear (scope id : Nat)
  | class0 (index : Nat) (activate : Bool)
  | emg
deriving DecidableEq, Repr

/-- A master's ingest staging (R123): the words written since W0. -/
structure IngestStage where
  bank : Nat
  words : List W32
deriving DecidableEq, Repr

/-- A batten entry that is valid (R146). -/
structure Batten where
  eid : Nat
  beat : Nat
  us : Nat
deriving DecidableEq, Repr

/-- A staged speed sample (R148). -/
structure SpeedSample where
  zone : Nat
  heading : Nat
  sample : Nat
deriving DecidableEq, Repr

/-- A change-set item (R171). -/
structure CsItem where
  eid : Nat
  level : Nat
  refresh : Bool
  group : Bool
  seq : Nat
  epoch : Nat
  link : Nat
  proxyAddr : Nat
  grp : Nat
  medium : Nat
  /-- The EIDs a refusal of the item records (R173): the node, or every member of the zone. -/
  eids : List Nat
deriving DecidableEq, Repr

/-- The whole-second sample of local time (R120). -/
structure LocalTime where
  date : Date
  weekday : Nat
  second : Nat
deriving DecidableEq, Repr

structure RftSt where
  nodes : List Node
  /-- Sequence counters of EIDs that the Cut List in force does not have, in this session epoch (R94). -/
  spareSeq : List (Nat × Nat)
  edges : List Edge
  zones : List Zone
  groups : List Group
  profiles : List (List Nat)
  exceptions : List SchedException
  /-- True when page 1 is cur (R104). -/
  cur1 : Bool
  batten : List Batten
  /-- Speed factors per zone, 8 headings each (R146). -/
  speed : List (List Nat)
  ovSite : Option Override
  ovZone : List (Nat × Override)
  ovGroup : List (Nat × Override)
  cursor : Nat
  staging : List IngestStage
  /-- Port entries buffered for the next boundary (R124), in commit order. -/
  port : List PortEntry
  /-- The port set of the beat in progress, in the order of R126, and whether a set is in progress (R124). -/
  portSet : List PortEntry
  inProgress : Bool
  /-- Entries carried from an abandoned beat or through HOLD (R57, R95). -/
  carriedPort : List PortEntry
  cmdBuf : List CmdEntry
  cmdSet : List CmdEntry
  carriedCmd : List CmdEntry
  /-- Of the carried command-path entries, those that an INGEST has already applied: their events are written. -/
  cmdNoted : Nat
  /-- The class-0 frames active for the engine: the Lintel's at its own INGEST, those of the mirrored entries at a replay. -/
  c0 : List SafetyFrame
  /-- The sweep of the beat has run and its COMMIT is awaited; the passes it ran (R151). -/
  sweeping : Bool
  passesRun : Nat
  /-- The pass page (R146, R152). -/
  passPage : List Page
  refreshed : List Nat
  stagedBatten : List Batten
  stagedSpeed : List SpeedSample
  /-- EIDs to be set pending at the next INGEST (R173). -/
  refused : List Nat
  refusedItems : Nat
  /-- First EID of the items refused in the beat (R175). -/
  refusedFirst : Nat
  /-- The local-time sample of the beat, the offset in force and the exceptions matched at it (R118-R120). -/
  sample : Option LocalTime
  sampleSec : Nat
  /-- SUBSTITUTE records and dates of which event 0x0309 has been written since BOOT or the load (R119). -/
  schedNoted : List (Nat × Nat)
  offset : Int
  matched : List Nat
  /-- Periods of the last load, for the rescaling of patches (R98, R110), as codes. -/
  pCut : Nat
  pFb : Nat
deriving DecidableEq, Repr

/-- A class-0 frame that is active (R135, R96): the copy the Lintel sends, its cause (0 CLASS0, 1 EMG), the beat that latched
it, whether a COMMIT has run since, and the beat at which it was last loaded (R243). -/
structure ActiveFrame where
  frame : SafetyFrame
  cause : Nat
  latchBeat : Nat
  committed : Bool
  loadBeat : Nat
deriving DecidableEq, Repr

/-- A class-0 change that waits for the Lintel's latch (R136). -/
inductive C0Req where
  | activate (index : Nat)
  | release (index : Nat)
  | emg
deriving DecidableEq, Repr

/-- The Lintel. -/
structure LintelSt where
  /-- The SAFETY section present, with which the Lintel acts (R96, R22). -/
  safety : Option Safety
  /-- A new SAFETY section that replaces it at the boundary that leaves HOLD (R96). -/
  nextSafety : Option Safety
  active : List ActiveFrame
  waiting : List C0Req
  /-- EMG channels after the input filter (R525). -/
  emgA : Bool
  emgB : Bool
  /-- The class-0 sequence of the session, last allocated (R220, R404). -/
  c0Seq : Nat
  emgAck : Bool
  /-- The EMG channels have disagreed for more than 100 ms and the event is written (R525). -/
  disagree : Bool
deriving DecidableEq, Repr

/-! ### Joist (R177-R204) -/

/-- A queued or held item (R179, R180); `tag` is the push counter at its commit (R186). -/
structure JItem where
  queue : Nat
  flow : Nat
  producer : Nat
  tag : Nat
  words : List Nat
  /-- For an item of the rafter engine, the EIDs it commands (R196), and the beat of its change-set (R395). -/
  eids : List Nat
  beat : Nat
deriving DecidableEq, Repr

/-- An item in service in a hold buffer of a core (R185). -/
structure HoldBuf where
  core : Nat
  buf : Nat
  item : JItem
deriving DecidableEq, Repr

/-- An item in service with a transmit engine (consumer = medium) or the safety controller (0xFE). -/
structure Service where
  consumer : Nat
  item : JItem
deriving DecidableEq, Repr

/-- A master's push staging (R181). -/
structure PushStage where
  bank : Nat
  queue : Nat
  flow : Nat
  count : Nat
  words : List Nat
  flushed : Bool
deriving DecidableEq, Repr

/-- An armed timer (R198). -/
structure Timer where
  place : Nat
  tag : Nat
  release : Nat
  order : Nat
  queue : Nat
  flow : Nat
  word : Nat
  /-- Left over by the limit of an earlier boundary (R199). -/
  leftOver : Bool
deriving DecidableEq, Repr

structure JstSt where
  /-- The 64 queue records in force; empty while no Cut List is loaded. -/
  qcfg : List QCfg
  /-- Every queued item, in the order of commit. -/
  items : List JItem
  holds : List HoldBuf
  service : List Service
  /-- Cores blocked in JST_GET, the longest wait first (R187). -/
  waiting : List Nat
  /-- For each class, the queue that took last, 63 before the first take (R187). -/
  last : List Nat
  /-- Credit of each queue (R187). -/
  credit : List Nat
  pushCount : Nat
  staging : List PushStage
  timers : List Timer
  /-- Tags of places armed since BOOT (R201). -/
  tags : List (Nat × Nat)
  armOrder : Nat
  /-- Timers released at the boundary of the beat in progress, and queues whose list stopped there (R199, R200). -/
  released : Nat
  stopped : List Nat
  /-- EIDs reported to the engine by the last flush (R196). -/
  flushEids : Nat
deriving DecidableEq, Repr


/-! ### Links, radios and wired ports (R205-R275) -/

/-- A sub-band of a profile (R209). -/
structure SubBand where
  fLo : Nat
  fHi : Nat
  window : Nat
  limit : Nat
  reserve : Nat
  maxPower : Int
deriving DecidableEq, Repr

/-- A regulatory profile (R209). -/
structure RadProfile where
  kind : Nat
  chWindow : Nat
  chLimit : Nat
  chReserve : Nat
  subBands : List SubBand
deriving DecidableEq, Repr

/-- A channel plan (R208). -/
structure RadPlan where
  radio : Nat
  profile : Nat
  mode : Nat
  nCh : Nat
  preamble : Nat
  power : Int
  watch : Bool
  wakeRx : Bool
  rxQueue : Nat
  netId : Nat
  beaconPeriod : Nat
  beaconOffset : Nat
  c0Refresh : Nat
  c0Repeat : Nat
  groupRepeat : Nat
  wakeCh : Nat
  bcastKey : Nat
  c0Key : Nat
  wakeAddr : Nat
  wakeHold : Nat
  beaconMap : Nat
  c0Map : Nat
  channels : List Nat
deriving DecidableEq, Repr

/-- A TRUNK record (R254). -/
structure TrunkCfg where
  nodeCount : Nat
  toTimer : Nat
  maxBc : Nat
  buCount : Nat
  maxFrame : Nat
  groupRepeat : Nat
  rxQueue : Nat
  netId : Nat
  bcastKey : Nat
  c0Key : Nat
  peer : Bool
  buMac : List Bytes
deriving DecidableEq, Repr

/-- A gate-list entry (R267). -/
structure GateEntry where
  start : Nat
  gates : Nat
deriving DecidableEq, Repr

/-- The parameters of a link (R224, R261); those a kind of link does not have are 0. -/
structure LinkCfg where
  interval : Nat
  anchorBeat : Nat
  anchorUs : Nat
  eventLen : Nat
  hopBase : Nat
  hopInc : Nat
  map : Nat
  supervision : Nat
  maxRetries : Nat
  window : Nat
  keyId : Nat
  wake : Bool
  wakeAddr : Nat
  ackTimeout : Nat
  keepalive : Nat
deriving DecidableEq, Repr

/-- A DATA frame placed in a ring (R230, R231): the bytes as placed, FCS left out, the EIDs of its LEVEL or PLEVEL records,
and how often it has been sent. -/
structure TxFrame where
  linkSeq : Nat
  bytes : Bytes
  eids : List Nat
  sends : Nat
deriving DecidableEq, Repr

/-- A link that is OPEN or LOST; a CLOSED link has no entry (R224-R231, R261-R263). -/
structure Link where
  index : Nat
  lost : Bool
  /-- 1 supervision, 2 retries, 3 fc32 (R246). -/
  cause : Nat
  cfg : LinkCfg
  /-- The link key derived at OPEN or RESUME (R429). -/
  key : Bytes
  /-- The fc32 of the next frame (R220). -/
  fc32 : Nat
  /-- The last fc32 accepted from the far end. -/
  rxFc : Option Nat
  txSeq : Nat
  rxSeq : Nat
  txLimit : Nat
  rxLimit : Nat
  /-- The event counter (R226). -/
  event : Nat
  /-- Frames from the mark on, in link_seq order (R231), and how many of them have been sent since the last rewind. -/
  frames : List TxFrame
  sentNow : Nat
  /-- Beat of the last valid frame received and of the last frame sent. -/
  lastRx : Nat
  lastTx : Nat
  /-- A frame received since the last ACK or DATA frame sent (R263). -/
  ackDue : Bool
  /-- The last frame sent awaits an answer (R227). -/
  awaiting : Bool
  /-- The last send of the mark, ns of module time (R263). -/
  markAt : Nat
deriving DecidableEq, Repr

/-- An entry of a transmit ring (R231): its link and link_seq, or a GROUP frame by its number, and whether it is released. -/
structure RingEntry where
  link : Option Nat
  number : Nat
  size : Nat
  released : Bool
deriving DecidableEq, Repr

/-- A GROUP frame and the repeats left (R229, R262). -/
structure GroupTx where
  number : Nat
  bytes : Bytes
  left : Nat
deriving DecidableEq, Repr

/-- A class-0 frame in a medium's buffer (R242, R243): the frame's index, the bytes to send, the slots left, and whether it
is a newly latched activation. -/
structure C0Send where
  index : Nat
  bytes : Bytes
  left : Nat
  fresh : Bool
  latchBeat : Nat
  /-- Frames of lower index that keep a newly latched frame out of the first slot; 0 once it has gone out (R20, R243). -/
  behind : Nat
deriving DecidableEq, Repr

/-- A dwell accumulator (R211): kind 0 channel, 1 sub-band; the bins, the current one first, at most 33. `noted` is true when
event 0x0504 is written in the current bin (R213). -/
structure DwellAcc where
  kind : Nat
  index : Nat
  bins : List Nat
  noted : Bool
deriving DecidableEq, Repr

/-- A link event under way (R226, R227). -/
structure EventRun where
  link : Nat
  channel : Nat
  ends : Nat
deriving DecidableEq, Repr

/-- A transmission that is booked when it ends (R211): channel, mode, booked airtime in µs, and its end in ns of module time. -/
structure AirRun where
  channel : Nat
  mode : Nat
  time : Nat
  ends : Nat
deriving DecidableEq, Repr

/-- A frame on air (R206, R207, R217): channel, mode, preamble octets, power in dBm, PHR and PSDU, and the instant at which the PA
switches on, ns of module time. -/
structure AirFrame where
  channel : Nat
  mode : Nat
  preamble : Nat
  power : Int
  bytes : Bytes
  start : Nat
deriving DecidableEq, Repr

structure RadSt where
  plan : Option RadPlan
  profile : Option RadProfile
  links : List Link
  ring : List RingEntry
  groups : List GroupTx
  groupNo : Nat
  accs : List DwellAcc
  /-- fc32 of BEACON and GROUP frames, and of CLASS0 frames (R220). -/
  bcastFc : Nat
  c0Fc : Nat
  c0 : List C0Send
  /-- The slot of the beat in progress and that of the next are claimed (R215). -/
  claimed : Bool
  claimedNext : Bool
  event : Option EventRun
  /-- Module time at which the transmission under way ends. -/
  busyUntil : Nat
  /-- The wake-up preamble of an event is being sent (R241); `ends` is the end of its sequence. -/
  waking : Option EventRun
  wakeHold : Bool
  /-- The end of the wake hold, ns of module time (R239). -/
  wakeUntil : Nat
  rxPeerFc : Option Nat
  /-- The last transmission, until it is booked (R211). -/
  pending : Option AirRun
  /-- The frames of the beat in progress, oldest first. -/
  air : List AirFrame
  /-- The last beats whose beacon (R236) and whose watch instance (R237) have been decided. -/
  beaconBeat : Option Nat
  watchBeat : Option Nat
deriving DecidableEq, Repr

/-- The open frame of a wired link (R262). -/
structure OpenFrame where
  link : Nat
  records : Bytes
  eids : List Nat
deriving DecidableEq, Repr

/-- A raw transmit item (R266, R287): address, length, tag, stamp and launch; `late` and `past` as R289 judges them. -/
structure RawTx where
  item : JItem
  addr : Nat
  len : Nat
  tag : Nat
  tsReq : Bool
  timed : Bool
  /-- Launch instant, ns of module time. -/
  launch : Nat
  late : Bool
deriving DecidableEq, Repr

/-- What is under way on a port: nothing to release, or a raw frame (R266). -/
inductive Sending where
  | plain
  | raw (r : RawTx)
deriving DecidableEq, Repr

/-- A pattern of the wake filter (R273). -/
structure WakePattern where
  mask : Nat
  check : Nat
deriving DecidableEq, Repr

/-- A wired port: 0-7 trunks, 8 UPLINK, 9 TIE. -/
structure TrkSt where
  cfg : Option TrunkCfg
  gates : List GateEntry
  links : List Link
  ring : List RingEntry
  opens : List OpenFrame
  groups : List GroupTx
  groupNo : Nat
  raw : List RawTx
  launch : List RawTx
  sending : Option Sending
  usedSlots : List Nat
  bcastFc : Nat
  c0Fc : Nat
  c0 : List C0Send
  /-- Quanta of a PAUSE received mid-frame (R270), and the end of the pause in force, ns of module time. -/
  pauseDeferred : Option Nat
  pauseEnd : Nat
  /-- Ends of the PFC pauses, by priority (R271). -/
  pfcEnd : List (Nat × Nat)
  wake : List WakePattern
  ptpOut : List Nat
  /-- The follower has stood in and is silent until the next boundary (R260). -/
  silent : Bool
  /-- A follower has received the BEACON of the beat (R260). -/
  heard : Bool
  /-- The coordinator holds the bus idle until the next boundary (R257). -/
  idle : Bool
  mdioOp : Nat
  /-- The Ethernet frames sent in the beat in progress, FCS included, oldest first (R249). -/
  wire : List Bytes
deriving DecidableEq, Repr
/-! ### PTP, time-stamps, launches, pulse outputs and the RTC (R284-R298) -/

/-- One port of the PTP engine (R284, R285): its state code, the data set of its parent, the last Sync stamps, the path
delay once known, and the consecutive Sync offset measurements taken. -/
structure PtpPort where
  state : Nat
  parent : Option PtpDataSet
  lastSync : Option (Nat × Nat)
  delay : Option Int
  measured : Nat
  /-- Module time of the last Announce and of the last Sync measurement, ns (R285). -/
  announcedAt : Nat
  measuredAt : Nat
deriving DecidableEq, Repr

/-- A time-stamp queue entry (R287). -/
structure TsEntry where
  w0 : Nat
  w1 : Nat
  w2 : Nat
  w3 : Nat
deriving DecidableEq, Repr

/-- The time-stamp queue of a wired port (0-7 trunks, 8 UPLINK, 9 TIE): entries, oldest first (R287, R288). -/
structure TsQueue where
  entries : List TsEntry
  /-- Entries lost in the beat in progress, and the tag of the last one (R288). -/
  lostBeat : Nat
  lostTag : Nat
  /-- The entry a read of TIME_TSQ_W0 latched. -/
  latched : TsEntry
deriving DecidableEq, Repr

/-- A timed pulse output (R292). -/
structure Tpo where
  startSec : Nat
  startNs : Nat
  period : Nat
  width : Nat
  invert : Bool
  armed : Bool
  late : Bool
  bad : Bool
  /-- A pulse is under way, since `rose` ns of module time. -/
  pulsing : Bool
  rose : Nat
deriving DecidableEq, Repr

structure TimSt where
  /-- The ten PTP ports in TIME_PTP_PORTS order. -/
  ptp : List PtpPort
  lockedPort : Option Nat
  gm : Nat
  /-- utc_offset (R277), signed seconds. -/
  utcOffset : Int
  tsq : List TsQueue
  /-- PPS_OUT is high, since `ppsOutAt` ns of module time (R291). -/
  ppsOutHigh : Bool
  ppsOutAt : Nat
  tpo : List Tpo
  /-- The last PTP message sent by the engine: port and type (R284). -/
  ptpSent : List (Nat × Nat)
  /-- Module time of the last step, for the 1 ms rule of PPS_OUT (R291). -/
  lastStep : Option Nat
deriving DecidableEq, Repr

/-- A posted write that has not crossed into the backup domain (R313): register key and value. -/
structure Posted where
  key : Nat
  value : Nat
deriving DecidableEq, Repr

structure RtcSt where
  /-- The 48-bit tick count (R293). -/
  ticks : Nat
  /-- The compensation curve, 16 signed points in 0.01 ppm (R294). -/
  curve : List Int
  /-- The carried fraction of the accumulator, 1/65,536 cycle (R294). -/
  frac : Int
  talmTarget : Nat
  talmArmed : Bool
  /-- Retention was lost; event 0x0801 is owed at the next start (R298). -/
  lostOwed : Bool
  posted : List Posted
  /-- The 32 kHz crystal runs, so the counters count (R305). -/
  counting : Bool
deriving DecidableEq, Repr


/-! ### Metering (R351-R373) -/

/-- A channel record (R351). -/
structure MeterCfg where
  enabled : Bool
  dc : Bool
  rogowski : Bool
  invert : Bool
  pulseOut : Nat
  reconMin : Nat
  reconQueue : Nat
  vFs : Nat
  iFs : Nat
  iNominal : Nat
  vGain : Nat
  bp : List Nat
  gain : List Nat
  phase : List Int
  creep : Nat
  fastUnit : Nat
  pulseK : Nat
  s0 : Nat
deriving DecidableEq, Repr

/-- METER: the channels and the feeder map (R351, R352). -/
structure MeterSec where
  channels : List MeterCfg
  feeders : List (Nat × Nat × Nat)
deriving DecidableEq, Repr

/-- A channel's accumulators (R356, R359): import and export in 1/65,536 mWh, R in mWh, S0, and the open interval: its
start, M and R at it, outage so far, lost by a restore, flags. -/
structure MeterCh where
  imp : Nat
  exp : Nat
  rep : Nat
  s0 : Nat
  mStart : Nat
  rStart : Nat
  s0Start : Nat
  start : Nat
  outage : Nat
  gap : Nat
  flags : Nat
  segment : Nat
  clipNoted : Bool
deriving DecidableEq, Repr

/-- What the sample path of a channel keeps between samples (R355): the states of the high-pass filters of V and I, the running sum of
the integrator, and the last current before the delay. -/
structure MeterPath where
  vFilter : Nat
  iFilter : Nat
  sum : Int
  last : Int
deriving DecidableEq, Repr

/-- A reconciliation record (R365). -/
structure Recon where
  number : Nat
  start : Nat
  length : Nat
  channel : Nat
  flags : Nat
  outage : Nat
  measured : Nat
  reported : Int
  unaccounted : Int
  gap : Nat
  s0 : Nat
deriving DecidableEq, Repr

structure MtrSt where
  cfg : Option MeterSec
  ch : List MeterCh
  /-- The sample paths of the channels (R355). -/
  paths : List MeterPath
  /-- Pulses emitted by outputs 0 and 1, and the module time of the last leading edge (R362). -/
  emitted : List Nat
  lastEdge : List Nat
  /-- Wraps since a master last read a fast counter: (bank, channel, wraps), at most 2 (R360). -/
  wraps : List (Nat × Nat × Nat)
  /-- The archive (R366) and the number of the last record. -/
  archive : List Recon
  number : Nat
  lastSave : Nat
deriving DecidableEq, Repr
/-! ### Sill and NAND (R326-R350) -/

/-- What a journal record holds, by type (R328; the layouts of R92, R68, R335, R340, R341, R343, R367, R435, R452,
R453, R473, R280, R322). -/
inductive JVal where
  | bootStep (boot step phase path consec cause seconds : Nat)
  /-- A data record of a boot step (R451), and what its data hold. -/
  | stepData (boot step path seconds : Nat) (holds : List Nat)
  | cleanStop (boot cause lastStep beat : Nat)
  | epoch (boots : Nat)
  | cutPointer (slot cutId generation : Nat) (hash : Bytes) (patches : Nat)
  | cmdSeq (keyId seq mac status : Nat) (result : Bytes) (code : Nat)
  | fwPointer (slot trial rejected version otherVersion floor : Nat) (hash otherHash : Bytes)
  | keyPointer (keyId parentId generation slot crc : Nat)
  | snapDir (number beat chunk crc : Nat)
  | gap (firstEid count firstBeat lastBeat seconds ns number : Nat)
  | rtcMap (ticks seconds ns : Nat)
  | pfCount (count : Nat)
  | flushHdr (count beat seconds ns : Nat)
  | flushChunk (chunk : Nat) (records : Bytes)
  | flushAcc (beat seconds : Nat) (atStop : Bool) (ch : List MeterCh) (emitted fast : List Nat)
  | pairState (pairId count term role : Nat)
  | application (type : Nat) (payload : Bytes)
deriving DecidableEq, Repr

/-- A journal record that counts (R329). -/
structure JRec where
  seq : Nat
  val : JVal
  /-- Where it begins in the Sill (R326). -/
  at_ : Nat
deriving DecidableEq, Repr

/-- Priorities of the journal engine (R332), highest first. -/
inductive JPrio where
  | flush | safety | snapshot | pair | events | app
deriving DecidableEq, Repr

/-- A request to the journal engine; `bank` names the master of an application write (R350). -/
structure JReq where
  prio : JPrio
  val : JVal
  bank : Nat
deriving DecidableEq, Repr

/-- A settings image region (R333). -/
structure Settings where
  generation : Nat
  schema : Nat
  autostart : Bool
  cmdPort : Nat
  hbPeriod : Nat
  witness : Nat
  body : Bytes
deriving DecidableEq, Repr

/-- A chunk of a ledger snapshot slot: 512 records of 16 bytes (R339). -/
structure SnapChunk where
  number : Nat
  chunk : Nat
  beat : Nat
  records : Bytes
deriving DecidableEq, Repr

structure SilSt where
  mounted : Bool
  readOnly : Bool
  /-- Sequence of the last record begun (R328). -/
  seq : Nat
  /-- The records in force (R329). -/
  recs : List JRec
  /-- The rings' bytes, by offset in the Sill, and the head of each ring, by the ring's first offset (R326, R331). -/
  image : Memory
  heads : List (Nat × Nat)
  /-- Records begun and never given their marker, by region and offset, until the next mount passes over them (R329, R334). -/
  torn : List (Nat × Nat)
  /-- Requests waiting, in order of request, and the one under way (R332). -/
  queue : List JReq
  current : Option JReq
  settingsA : Option Settings
  settingsB : Option Settings
  /-- Snapshot slots: every chunk written and not yet overwritten (R339). -/
  snaps : List SnapChunk
  /-- Snapshot under way: its number, first beat and next chunk; none when snapshots do not run (R339). -/
  snapNumber : Nat
  snapNext : Nat
  snapping : Bool
  /-- SNAP_DIR records of the chunks taken at the boundary of the beat in progress, which its ledger commit queues (R11, R339). -/
  chunkDue : List JVal
  /-- Restored ledger records by chunk, until firmware sets SIL_LEDGER_BASE (R342). -/
  restored : List (Nat × Bytes)
  /-- Lines that corrected an error in the pass before (R345), by line offset. -/
  weakLines : List Nat
  /-- Lines that corrected an error in the pass under way. -/
  weakNow : List Nat
  /-- Lines with an uncorrectable error that no spare line replaces (R345, R327). -/
  badLines : List Nat
  scrubPassCorrected : Nat
  /-- Module time of the last completed scrub pass, s; 0 before the first (R344). -/
  scrubAt : Nat
deriving DecidableEq, Repr


/-! ### Clocks, supply, boot and self-test (R302-R325, R449-R467) -/

/-- A power-fail sequence under way (R318): its start, ns of module time, the straps sampled when VIN returned in it, if it has (R320),
and whether RST_N is low. -/
structure PfRun where
  start : Nat
  step : Nat
  vinReturned : Option Nat
  rstLow : Bool
  /-- Records still to be handed to the journal engine, in order. -/
  toWrite : List JVal
deriving DecidableEq, Repr

structure PwrSt where
  pf : Option PfRun
  /-- Data already written out under R307. -/
  written : Bool
  /-- Module time at which the main source failed. -/
  failedAt : Option Nat
  /-- The failed RC oscillator: a later failure of the main source stops the safety controller (R309). -/
  rcFailed : Bool
  stopped : Bool
  /-- RST_N is low. -/
  rstLow : Bool
  /-- Module time of the latest hold-up measurement, s, and whether one has run since BOOT was entered (R18, R317). -/
  holdAt : Option Nat
  measured : Bool
  /-- VIN has fallen below 8 V, or PWR_EN been low for 20 µs, and has not qualified since (R315, R531). -/
  vinLow : Bool
  /-- VIN returned during the last power-fail sequence, µs from detection (R320). -/
  vinBack : Option Nat
  /-- OFF was entered by SHUTDOWN or TEST with PWR_EN high (R64). -/
  heldOff : Bool
  /-- RST_N interrupted a running module, which waits in reset for BOOT (R62, R532). -/
  rstHeld : Bool
  /-- Hold-up: the 2 s wait of boot step 1 has timed out (R316). -/
  vholdWaited : Bool
  /-- Sources of the clock muxes, by mux number: 0 PLL, 1 RC (R310, R311). -/
  muxes : List (Nat × Nat)
  /-- Straps BOOT2:0 sampled at the last entry into BOOT, and the source of a failure of the main clock. -/
  straps : Nat
deriving DecidableEq, Repr

/-- A stored self-test result (R462): test 1…14, unit index, 1 pass, 2 fail, 3 incomplete; its code, the day it was taken,
and the last complete result. -/
structure TestRes where
  test : Nat
  index : Nat
  result : Nat
  code : Nat
  day : Nat
deriving DecidableEq, Repr

/-- A self-test run (R458-R464): tests waiting, running, done, and what follows. -/
structure TestRun where
  waiting : List Nat
  running : List Nat
  passed : Nat
  failed : Nat
  incomplete : Nat
  restart : Bool
  seq : Nat
  fromStandby : Bool
  /-- Module time at which TEST was entered, and the highest draw so far, mW (R460, R467). -/
  start : Nat
  peak : Nat
deriving DecidableEq, Repr

structure BstSt where
  /-- Progress of each step of this start: phase and path by step (R467). -/
  shown : List (Nat × Nat × Nat)
  test : Option TestRun
  results : List TestRes
  /-- Saved DRAM training is valid (R449 step 5, R462). -/
  training : Bool
  /-- FAILSAFE was entered under R454, and the step that failed. -/
  failStep : Nat
  /-- Module time at the release of this start, which a start before the epoch makes negative. -/
  started : Int
  /-- The instant at which the running boot step began (R449). -/
  stepAt : Nat
  /-- A SHUTDOWN whose stop writes are under way (R458). -/
  shut : Option ShutReq
  /-- The straps select the debug start: cores held (R533). -/
  debug : Bool
deriving DecidableEq, Repr

/-! ### Firmware slots and the image library (R468-R484) -/

/-- State of the slot not in force (R484). -/
inductive SlotState where
  | empty | partialImage | verified | rejected
deriving DecidableEq, Repr

/-- A library entry (R481): header and data. -/
structure LibEntry where
  libId : Nat
  bytes : Bytes
deriving DecidableEq, Repr

/-- A library operation under way (R482). -/
structure LibRun where
  bank : Nat
  op : Nat
  libId : Nat
  status : Nat
  addr : Nat
  bytes : Bytes
deriving DecidableEq, Repr

/-- An ACTIVATE under way (R475, R480). -/
structure ActRun where
  seq : Nat
  back : ModState
  role : Role
  start : Nat
  /-- 0 waits for its boundary, or for the handover of R480; 1 stop writes; 2 warm boot. -/
  phase : Nat
  handover : Bool
deriving DecidableEq, Repr

structure FwuSt where
  /-- Contents of slots A and B, and the staged length of the slot not in force. -/
  slotA : Bytes
  slotB : Bytes
  stageLen : Nat
  other : SlotState
  committing : Option (Nat × Nat)
  activating : Option ActRun
  lib : List LibEntry
  libRuns : List LibRun
  /-- The slot step 6 runs at this start. -/
  runSlot : Nat
  raised : Bool
deriving DecidableEq, Repr
/-! ### Event recorder (R374-R386) -/

/-- An event record (R374): seconds and subsecond at acceptance; the arguments as values, in the order of the code's
table (their packing into bytes 20-31 is not given, notes/assumptions/9). -/
structure EvRec where
  seq : Nat
  seconds : Nat
  subsec : Nat
  code : Nat
  sev : Nat
  suppressed : Nat
  lost : Nat
  args : List Nat
deriving DecidableEq, Repr

/-- A record offered before the recorder has started (R383). -/
structure EvOffer where
  ev : EvCode
  args : List Nat
deriving DecidableEq, Repr

/-- A rate limit and its bucket, in 10⁻⁶ record (R376). -/
structure Bucket where
  code : Nat
  rate : Nat
  burst : Nat
  units : Nat
deriving DecidableEq, Repr

/-- A pending suppressed count of a code, and the module time of its first suppression (R378). -/
structure PendSupp where
  code : Nat
  count : Nat
  since : Nat
deriving DecidableEq, Repr

structure EvrSt where
  started : Bool
  held : List EvOffer
  /-- Records offered in the cycle of the command under way (R375); empty between commands. -/
  offers : List EvOffer
  /-- The RAM buffer, oldest first, at most 4,096 records (R377). -/
  buf : List EvRec
  nextSeq : Nat
  limits : List Bucket
  pend : List PendSupp
  /-- Records refused at the buffer since the previous accepted record (R377). -/
  lostNow : Nat
  /-- Records dropped at the ring since the previous record written there (R377). -/
  dropNow : Nat
  /-- The recent event ring: the occupied slots from slot 0 on, at most 131,072 (R380). -/
  ring : List EvRec
  /-- The event archive in NAND, oldest first (R380). -/
  archive : List EvRec
  /-- Records of the flush under way still to be written; 0 when none is under way (R379). -/
  flushLeft : Nat
  /-- The instant at which the last flush began, or the recorder started (R379). -/
  flushAt : Nat
  /-- A flush was asked for while one was under way. -/
  flushAgain : Bool
deriving DecidableEq, Repr


/-! ### The pair (R387-R412) -/

/-- PAIR (R387). -/
structure PairCfg where
  path2Trunk : Bool
  path2 : Nat
  witnessPort : Nat
  leaseKey : Nat
  witnessIp : Nat
  tieKey : Nat
  catchup : Nat
  pairId : Nat
  unit0 : Nat
  unit1 : Nat
deriving DecidableEq, Repr

/-- A mirrored ledger post (R390 kind 4). -/
structure LPost where
  kind : Nat
  eid : Nat
  value : Nat
deriving DecidableEq, Repr

/-- The control entries of a bundle (R390 kind 5): the layout of their 16 bytes is not given, so they stand here as
alternatives. -/
inductive PairCtl where
  | passes (n : Nat)
  | lowered
  | hold
  | patch (container : Bytes)
  | cutList (container : Bytes)
  /-- The Cut List of effect: the module leaves HOLD (R97). -/
  | effect
  | capture
  | epoch (count : Nat)
deriving DecidableEq, Repr

/-- BUNDLE_CLOSE (R390): 0 completed, 1 abandoned, 2 skipped. -/
structure BundleClose where
  outcome : Nat
  entries : Nat
  sample : Nat
  digest : Nat
deriving DecidableEq, Repr

/-- The mirrored inputs of a beat (R392). -/
structure Bundle where
  beat : Nat
  port : List PortEntry
  cmds : List CmdEntry
  refused : List Nat
  posts : List LPost
  controls : List PairCtl
  marks : List (Nat × Nat)
  close : Option BundleClose
deriving DecidableEq, Repr

/-- Handover and takeover (R401, R405): none; HANDOVER asked of the witness; decided at a boundary, d counted down. -/
inductive Takeover where
  | none
  | asked
  | granted
  /-- The active has stopped sweeping at this beat, and the hold of the beat before it is not complete (R405). -/
  | handing (beat : Nat)
  | decided (left : Nat) (complete : Bool) (cause : Nat)
deriving DecidableEq, Repr

/-- A REQUEST that waits for its reply (R397, R398): req_seq, the instant it left, and its unmirrored flag. -/
structure LeaseReq where
  seq : Nat
  left : Nat
  unmirrored : Bool
deriving DecidableEq, Repr

/-- What a resync carries (R408): the image so far, and how many of its bytes a standby has loaded. -/
structure ResyncRun where
  image : Bytes
  startBeat : Nat
  started : Nat
  bytes : Nat
  loaded : Nat
deriving DecidableEq, Repr

structure PairSt where
  cfg : Option PairCfg
  member : Nat
  peerRole : Role
  peerUp : Bool
  peerTest : Bool
  peerCount : Nat
  peerC0 : Nat
  peerMajor : Nat
  peerBeat : Nat
  /-- The last HEARTBEAT instances received and judged missed, by beat (R391). -/
  heard : Option Nat
  missed : Option Nat
  count : Nat
  term : Nat
  leaseEnd : Nat
  reqSeq : Nat
  /-- The instants at which the last REQUEST and the last HELLO of a handshake left (R398, R406). -/
  reqAt : Option Nat
  helloAt : Option Nat
  /-- Requests waiting for a reply: req_seq and the instant each left. -/
  asked : List LeaseReq
  noReply : Nat
  unreachableAt : Option Nat
  leased : Bool
  mirrorBroken : Bool
  gap : Bool
  incomplete : Bool
  /-- The bundle of the beat in progress at the active, bundles not yet acknowledged, or at the standby those received. -/
  bundles : List Bundle
  acked : Nat
  replayed : Nat
  unmirrored : Bool
  /-- A RENEW carrying the unmirrored flag has been granted. -/
  renewed : Bool
  handshake : Bool
  helloSeen : Bool
  takeover : Takeover
  resync : Option ResyncRun
  mismatchAt : Option Nat
  /-- The instant at which a catch-up failed (R408), and whether the Cut Lists of the two modules differed (R406, R409). -/
  failedAt : Option Nat
  cutDiffers : Bool
  haltResync : Bool
  /-- Counter marks (R403): counter and value. -/
  marks : List (Nat × Nat)
  resendAt : Option Nat
  /-- The resend begins at the next boundary (R402). -/
  resendGo : Bool
  resending : Bool
  resendCursor : Nat
  resendItems : Nat
  freshSince : List Nat
  /-- Records the pair block has sent on the Tie and messages it has sent to the witness, newest first, by kind (R390, R397). -/
  sent : List (Nat × Bytes)
  /-- Tie payloads that wait for a place in the ring of link 0x2001, and those received that the pair block has not yet taken
  (R264). -/
  out : List Bytes
  rx : List Bytes
  /-- A demotion, a role or a skip that takes effect at the next boundary (R389). -/
  nextRole : Option (Role × Nat)
  skipNext : Bool
  /-- A higher pair count that an ACTIVE takes at the next boundary (R407). -/
  nextEpoch : Option Nat
  /-- A PLCA BEACON of ID 0 came since the last boundary (R399). -/
  path2Heard : Bool
deriving DecidableEq, Repr
/-! ### Key vault (R427-R448) -/

/-- A blob as the vault opens it (R432). The wrapped bytes and the MAC are shown by whether the blob opens (`ok`); `key`
is the key it wraps. -/
structure Blob where
  keyId : Nat
  parentId : Nat
  generation : Nat
  typ : Nat
  masters : Nat
  usages : Nat
  lcs : Nat
  key : Bytes
  ok : Bool
deriving DecidableEq, Repr

/-- A loaded slot (R438-R440). -/
structure KeySlot where
  slot : Nat
  blob : Blob
  pinned : Bool
  orphaned : Bool
  /-- True when the slot was orphaned by a change of life-cycle state (ST_NOT_PERMITTED) and not by invalidation. -/
  byLcs : Bool
  /-- Operations under way on the slot. -/
  ops : Nat
  /-- Order of last use; lower is older. -/
  used : Nat
  /-- Reloads with the new generation at the next boundary (R440). -/
  reload : Bool
deriving DecidableEq, Repr

/-- A KEY_OP under way (R448): its master's bank, operation, the outcome it will report and the bytes it will write. -/
structure KeyOpRun where
  bank : Nat
  slot : Option Nat
  /-- No slot was free: the operation waits since `since` (R438). -/
  waits : Bool
  keyId : Nat
  since : Nat
  status : Nat
  dest : Nat
  out : Bytes
deriving DecidableEq, Repr

/-- A KEY_UPDATE that answered ST_PENDING (R70, R441). -/
structure KeyUpdRun where
  seq : Nat
  op : Nat
  blob : Blob
deriving DecidableEq, Repr

structure KeySt where
  /-- The root antifuses hold a root; the PROVISIONED fuse is blown (R427). -/
  rootPresent : Bool
  provisioned : Bool
  /-- Life-cycle state 0…4 (R444) and the one that takes effect at the next boundary. -/
  lcs : Nat
  nextLcs : Option Nat
  /-- Blob slots in use of the key-blob table (R435). -/
  blobs : List (Nat × Blob)
  slots : List KeySlot
  useClock : Nat
  ops : List KeyOpRun
  pending : List KeyUpdRun
  /-- A key has left force since the last boundary (R439). -/
  left : Bool
deriving DecidableEq, Repr


/-! ### Local light (R485-R502) -/

/-- A string record (R486). -/
structure StringCfg where
  enabled : Bool
  fitted : Nat
  powerOn : Nat
  vOpen : Nat
  vShort : Nat
  ntc : Nat
  c0Min : Nat
deriving DecidableEq, Repr

/-- A matrix record (R486). -/
structure MatrixCfg where
  enabled : Bool
  c0Show : Bool
  iCol : Nat
  lines : Nat
  ntc : Nat
  c0Min : Nat
  preDv : Nat
  pattern : Bytes
deriving DecidableEq, Repr

/-- An NTC record (R486). -/
structure NtcCfg where
  enabled : Bool
  beta : Nat
  r25 : Nat
  knee : Int
  cutoff : Int
deriving DecidableEq, Repr

/-- LIGHT (R486). -/
structure LightSec where
  strings : List StringCfg
  matrices : List MatrixCfg
  ntcs : List NtcCfg
deriving DecidableEq, Repr

/-- A string (R488-R496): the level in force, that waits for the next frame or boundary, the class-0 level, the lamps
bypassed, suspect and once short, the debt, and the frame of the last diagnosis period served. -/
structure StringSt where
  level : Nat
  next : Option Nat
  c0 : Option Nat
  nextC0 : Option Nat
  engine : Bool
  bypassed : Nat
  suspect : Nat
  shorted : Nat
  debt : Nat
  diagPeriod : Option Nat
  /-- Ticks each lamp's switch is open in the frame (R490). -/
  open_ : List Nat
  dark : Bool
deriving DecidableEq, Repr

/-- A matrix (R497-R499): its two pages, a flip that waits for the next frame, held columns and lines are registers; lands
found short once; ticks each column sinks, by line, in the frame. -/
structure MatrixSt where
  page0 : Bytes
  page1 : Bytes
  flip : Bool
  flipAt : Nat
  dimShown : Nat
  c0 : Bool
  nextC0 : Bool
  suspects : List (Nat × Nat)
  testLine : Nat
  scan : List (List Nat)
deriving DecidableEq, Repr

structure LgtSt where
  cfg : Option LightSec
  strings : List StringSt
  matrices : List MatrixSt
  /-- Whether an NTC input has had a valid factor since the start. -/
  ntcSeen : List Bool
  /-- Outputs derating now: strings 0-7, matrices 8 and 9. -/
  derating : List Nat
  /-- The frame counter (R489). -/
  frame : Nat
  /-- Beat and instant in it of the last string frame and of the last matrix frame (R489, R497). -/
  frameAt : Option (Nat × Nat)
  scanAt : Option (Nat × Nat)
  /-- Outputs are in the safe states of R306. -/
  safe : Bool
deriving DecidableEq, Repr

/-! ### Lands (R518-R542) -/

/-- A serial transfer under way (R541). -/
structure SerRun where
  bank : Nat
  status : Nat
  dest : Nat
  readLen : Nat
  bus : Nat
deriving DecidableEq, Repr

structure LndSt where
  pinmux : List Nat
  serial : Option SerRun
  svcOk : Bool
  role : Bool
  failsafeN : Bool
  emgAck : Bool
  /-- Outputs are driven to the safe states of R306. -/
  safe : Bool
deriving DecidableEq, Repr
/-! ### Host link (R503-R513) -/

structure HlkSt where
  /-- The down FIFO, oldest first, at most 8,192 items of 8 bytes. -/
  down : List Nat
  /-- The up FIFO from the release point on, oldest first, at most 8,192 items; mark and read pointer count from the
  release point (R508). -/
  up : List Nat
  mark : Nat
  read : Nat
  /-- Staged up items per bank (R507). -/
  staging : List (Nat × List Nat)
  dropCause : Nat
  /-- An item has stayed unread for up_tmo (R510). -/
  timedOut : Bool
  /-- Unreleased items reached up_high and have not fallen below up_low since (R510). -/
  upBlocked : Bool
  /-- Bytes or items the last READ or STATUS transaction returned (R504). -/
  sent : List Nat
  /-- Envelopes passed to the command port and not yet executed (R506). -/
  passed : Nat
  /-- When each item of the up FIFO last became unread, ns of module time (R510). -/
  upAt : List Nat
  /-- VBUS is present at the service port (R514). -/
  vbus : Bool
deriving DecidableEq, Repr

/-- A Cut List as the module loads it: every section of R79 that is present, parsed. -/
structure CutImage where
  header : CutHeader
  /-- SHA-256 of the whole container (R92, R103). -/
  hash : Bytes
  units : Units
  beat : BeatSec
  nodes : List NodeStat
  edges : List Edge
  zones : List Zone
  groups : List Group
  profiles : List (List Nat)
  exceptions : List SchedException
  queues : List QCfg
  ledger : LedgerSec
  limits : List (Nat × Nat × Nat)
  safety : Safety
  keys : Option (List KeyPolicy)
  /-- Types of skippable unknown sections (R79). -/
  unknown : List Nat
  gates : List (Nat × List GateEntry)
  plans : List RadPlan
  profilesR : List RadProfile
  trunks : List (Nat × TrunkCfg)
  meter : Option MeterSec
  light : Option LightSec
  pinmux : List Nat
  pair : Option PairCfg
deriving DecidableEq, Repr

/-- A patch (R98): node records by EID, and the edges of each in NODES order. -/
structure PatchImage where
  header : CutHeader
  nodes : List (Nat × NodeStat)
  edges : List (List Edge)
deriving DecidableEq, Repr

/-- A NAND Cut List slot: the container and its patch log (R92, R99). -/
structure NandSlot where
  container : Bytes
  patches : List Bytes
deriving DecidableEq, Repr

/-- Where a full load stands (R91): step 1 under way; done and waiting for the boundary that enters HOLD; the copy of
steps 3-5 under way; waiting for the boundary that leaves HOLD. -/
inductive LoadPhase where
  | storing | waiting | copying | leaving
deriving DecidableEq, Repr

/-- A full load under way (R91). -/
structure LoadRun where
  phase : LoadPhase
  image : CutImage
  container : Bytes
  slot : Nat
  /-- ST_OK or ST_DEGRADED, its final status. -/
  status : Nat
  seq : Nat
  fallback : Option Fallback
  /-- Optional units left unused, as (kind, index) (R89). -/
  skipped : List (Nat × Nat)
  /-- The state to return to (R62), READY when the load comes from UNFRAMED. -/
  back : ModState
  /-- Sweeps skipped so far (R93). -/
  skippedSweeps : Nat
deriving DecidableEq, Repr

/-- Where a patch stands (R99-R101): its log write under way; ready for its window; written, with its effect at the next
boundary. -/
inductive PatchPhase where
  | logging | ready | written
deriving DecidableEq, Repr

structure PatchRun where
  phase : PatchPhase
  image : PatchImage
  container : Bytes
  answer : Answer
  /-- Ready before the window of the beat in progress opened (R100). -/
  thisBeat : Bool
  /-- Time since the acceptance, up to the boundary that opened the beat in progress, ns, and whether ST_PENDING has been answered
  (R70, R101). -/
  waited : Int
  answered : Bool
deriving DecidableEq, Repr

structure CutSt where
  stage : Memory
  stageLen : Nat
  patchStage : Memory
  patchLen : Nat
  slot0 : Option NandSlot
  slot1 : Option NandSlot
  image : Option CutImage
  load : Option LoadRun
  patch : Option PatchRun
deriving DecidableEq, Repr

/-! ### The whole machine -/

/-- The upper half latched by a master's read of a _LO register (R34, R278): bank and key of the register read by it. -/
structure HiLatch where
  bank : Nat
  key : Nat
  value : Nat
deriving DecidableEq, Repr

/-- What the cycle under way has done (R35, R44, R45). A cycle is one instant of module time: it holds until time moves on
(notes/assumptions/47). -/
structure CycleSt where
  /-- W1C bits that hardware set and W1S bits that a write set, by register key and mask (R35). -/
  raised : List (Nat × Nat)
  /-- Tags of the items that joined a Joist queue (R193). -/
  pushed : List Nat
  /-- Items that joined the host link's down and up FIFOs. -/
  downNew : Nat
  upNew : Nat
  /-- Frames placed in a transmit ring, by medium and, for a frame of a link, its index and link_seq, for a GROUP frame its number. -/
  placed : List (Nat × Option Nat × Nat)
  /-- Ports whose time-stamp queue took an entry, once for each. -/
  stamped : List Nat
  /-- Sequences of the event records accepted. -/
  records : List Nat
  /-- The calendar before a load of this cycle, field by field from the second on; empty without one (R295). -/
  calWas : List Nat
  /-- Energy that posts have added to a feeder's R, by channel (R361). -/
  posted : List (Nat × Nat)
  /-- Lamps that a write of LGT_LAMP_CLEAR named, by string and lamp (R495). -/
  lampClears : List (Nat × Nat)
deriving DecidableEq, Repr

/-- A cycle in which nothing has happened yet. -/
def CycleSt.start : CycleSt where
  raised := []
  pushed := []
  downNew := 0
  upNew := 0
  placed := []
  stamped := []
  records := []
  calWas := []
  posted := []
  lampClears := []

/-- Everything the spec gives the module. -/
structure Dev where
  regs : RegFile
  mem : Memory
  /-- Per-master read latches, and staged _HI writes (R34). -/
  latches : List HiLatch
  staged : List HiLatch
  /-- The MODEL's own counter of free values, no state of the spec (notes/assumptions/2). -/
  freeCtr : Nat
  cyc : CycleSt
  sys : SysSt
  beat : BeatSt
  evr : EvrSt
  sil : SilSt
  key : KeySt
  cut : CutSt
  rft : RftSt
  lin : LintelSt
  jst : JstSt
  tim : TimSt
  rtc : RtcSt
  hlk : HlkSt
  /-- Radios 0-3. -/
  rad : List RadSt
  /-- Wired ports 0-9. -/
  trk : List TrkSt
  pwr : PwrSt
  bst : BstSt
  fwu : FwuSt
  mtr : MtrSt
  pair : PairSt
  lgt : LgtSt
  lnd : LndSt
deriving DecidableEq, Repr

/-- The machine with its queue of waiting commands, first in, first out (the MODEL's own, notes/assumptions/7). -/
structure State where
  pending : List Instr
  dev : Dev
deriving DecidableEq, Repr


/-! ### Reset -/

/-- The register file at reset: the reset columns of the register tables, and what the entry into BOOT sets: SYS_STATUS and
SYS_C0_SUSPEND (R22: no SAFETY section is present, so the bound is suspended on every medium), pf_armed (R315), and step 1 in
BST_STATUS (R449). -/
def resetFile : RegFile :=
  [(0x000000, 0x101#32), (0x000010, 0x3FFF#32)] ++ (resetRegs.filter (fun e => 0x10 < e.1 && e.1 < 0x230)) ++ [(0x000230, 8#32)] ++
    (resetRegs.filter (fun e => 0x230 < e.1 && e.1 < 0x0A0000)) ++ [(0x0A0000, 1#32), (0x100000, 0x100#32)] ++
    resetRegs.filter (fun e => 0x100000 < e.1)

/-- RadSt at reset. -/
def RadSt.reset : RadSt where
  plan := none
  profile := none
  links := []
  ring := []
  groups := []
  groupNo := 0
  accs := []
  bcastFc := 0
  c0Fc := 0
  c0 := []
  claimed := false
  claimedNext := false
  event := none
  busyUntil := 0
  waking := none
  wakeHold := false
  wakeUntil := 0
  rxPeerFc := none
  pending := none
  air := []
  beaconBeat := none
  watchBeat := none

/-- TrkSt at reset. -/
def TrkSt.reset : TrkSt where
  cfg := none
  gates := []
  links := []
  ring := []
  opens := []
  groups := []
  groupNo := 0
  raw := []
  launch := []
  sending := none
  usedSlots := []
  bcastFc := 0
  c0Fc := 0
  c0 := []
  pauseDeferred := none
  pauseEnd := 0
  pfcEnd := []
  wake := List.replicate 8 ⟨0, 0⟩
  ptpOut := []
  silent := false
  heard := false
  idle := false
  mdioOp := 0
  wire := []

/-- MeterCh at reset. -/
def MeterCh.reset : MeterCh where
  imp := 0
  exp := 0
  rep := 0
  s0 := 0
  mStart := 0
  rStart := 0
  s0Start := 0
  start := 0
  outage := 0
  gap := 0
  flags := 0
  segment := 0
  clipNoted := false

/-- StringSt at reset. -/
def StringSt.reset : StringSt where
  level := 0
  next := none
  c0 := none
  nextC0 := none
  engine := false
  bypassed := 0
  suspect := 0
  shorted := 0
  debt := 0
  diagPeriod := none
  open_ := List.replicate 8 8000
  dark := false

/-- MatrixSt at reset. -/
def MatrixSt.reset : MatrixSt where
  page0 := List.replicate 512 0
  page1 := List.replicate 512 0
  flip := false
  flipAt := 0
  dimShown := 255
  c0 := false
  nextC0 := false
  suspects := []
  testLine := 0
  scan := []

/-- SysSt at reset. -/
def SysSt.reset : SysSt where
  mstate := .boot
  role := .solo
  warm := false
  startPending := false
  stopPending := false
  answers := []
  heldAnswers := []
  heldItems := []
  autostart := true
  fwVersion := 0
  coreFaults := []

/-- BeatSt at reset. -/
def BeatSt.reset : BeatSt where
  count := 0
  running := false
  period := 0
  nextPeriod := none
  base := 0
  sinceBase := 0
  len := 4000000
  slew := 0
  slewNow := 0
  step := none
  nextSource := none
  source := .crystal
  nextPasses := none
  ppsRejected := 0
  ppsAccepted := 0
  ppsUsable := true
  ppsOffsets := []

/-- EvrSt at reset. -/
def EvrSt.reset : EvrSt where
  started := false
  held := [⟨⟨0x0001, 2⟩, [0, 1, 0]⟩]
  offers := []
  buf := []
  nextSeq := 1
  limits := [⟨0x0011, 1000, 8, 8000000⟩]
  pend := []
  lostNow := 0
  dropNow := 0
  ring := []
  archive := []
  flushLeft := 0
  flushAt := 0
  flushAgain := false

/-- SilSt at reset. -/
def SilSt.reset : SilSt where
  mounted := false
  readOnly := false
  seq := 0
  recs := []
  image := []
  heads := []
  torn := []
  queue := []
  current := none
  settingsA := none
  settingsB := none
  snaps := []
  snapNumber := 0
  snapNext := 0
  snapping := false
  chunkDue := []
  restored := []
  weakLines := []
  weakNow := []
  badLines := []
  scrubPassCorrected := 0
  scrubAt := 0

/-- KeySt at reset. -/
def KeySt.reset : KeySt where
  rootPresent := true
  provisioned := true
  lcs := 1
  nextLcs := none
  blobs := []
  slots := []
  useClock := 0
  ops := []
  pending := []
  left := false

/-- CutSt at reset. -/
def CutSt.reset : CutSt where
  stage := []
  stageLen := 0
  patchStage := []
  patchLen := 0
  slot0 := none
  slot1 := none
  image := none
  load := none
  patch := none

/-- RftSt at reset. -/
def RftSt.reset : RftSt where
  nodes := []
  spareSeq := []
  edges := []
  zones := []
  groups := []
  profiles := []
  exceptions := []
  cur1 := false
  batten := []
  speed := []
  ovSite := none
  ovZone := []
  ovGroup := []
  cursor := 0
  staging := []
  port := []
  portSet := []
  inProgress := false
  carriedPort := []
  cmdBuf := []
  cmdSet := []
  carriedCmd := []
  cmdNoted := 0
  c0 := []
  sweeping := false
  passesRun := 0
  passPage := []
  refreshed := []
  stagedBatten := []
  stagedSpeed := []
  refused := []
  refusedItems := 0
  refusedFirst := 0
  sample := none
  sampleSec := 0
  schedNoted := []
  offset := 0
  matched := []
  pCut := 0
  pFb := 0

/-- LintelSt at reset. -/
def LintelSt.reset : LintelSt where
  safety := none
  nextSafety := none
  active := []
  waiting := []
  emgA := false
  emgB := false
  c0Seq := 0
  emgAck := false
  disagree := false

/-- JstSt at reset. -/
def JstSt.reset : JstSt where
  qcfg := []
  items := []
  holds := []
  service := []
  waiting := []
  last := [63, 63, 63, 63]
  credit := List.replicate 64 0
  pushCount := 0
  staging := []
  timers := []
  tags := []
  armOrder := 0
  released := 0
  stopped := []
  flushEids := 0

/-- TimSt at reset. -/
def TimSt.reset : TimSt where
  ptp := List.replicate 10 ⟨0, none, none, none, 0, 0, 0⟩
  lockedPort := none
  gm := 0
  utcOffset := 0
  tsq := List.replicate 10 ⟨[], 0, 0, ⟨0, 0, 0, 0⟩⟩
  ppsOutHigh := false
  ppsOutAt := 0
  tpo := List.replicate 4 ⟨0, 0, 0, 0, false, false, false, false, false, 0⟩
  ptpSent := []
  lastStep := none

/-- RtcSt at reset. -/
def RtcSt.reset : RtcSt where
  ticks := 0
  curve := List.replicate 16 0
  frac := 0
  talmTarget := 0
  talmArmed := false
  lostOwed := false
  posted := []
  counting := true

/-- HlkSt at reset. -/
def HlkSt.reset : HlkSt where
  down := []
  up := []
  mark := 0
  read := 0
  staging := []
  dropCause := 0
  timedOut := false
  upBlocked := false
  sent := []
  passed := 0
  upAt := []
  vbus := false

/-- PwrSt at reset. -/
def PwrSt.reset : PwrSt where
  pf := none
  written := false
  failedAt := none
  rcFailed := false
  stopped := false
  rstLow := false
  holdAt := none
  measured := false
  vinLow := false
  vinBack := none
  heldOff := false
  rstHeld := false
  vholdWaited := false
  muxes := []
  straps := 0

/-- BstSt at reset. -/
def BstSt.reset : BstSt where
  shown := [(1, 1, 0)]
  test := none
  results := []
  training := false
  failStep := 0
  started := 0
  stepAt := 0
  shut := none
  debug := false

/-- FwuSt at reset. -/
def FwuSt.reset : FwuSt where
  slotA := []
  slotB := []
  stageLen := 0
  other := .empty
  committing := none
  activating := none
  lib := []
  libRuns := []
  runSlot := 0
  raised := false

/-- MtrSt at reset. -/
def MtrSt.reset : MtrSt where
  cfg := none
  ch := List.replicate 4 MeterCh.reset
  paths := List.replicate 4 ⟨0, 0, 0, 0⟩
  emitted := [0, 0]
  lastEdge := [0, 0]
  wraps := []
  archive := []
  number := 0
  lastSave := 0

/-- PairSt at reset. -/
def PairSt.reset : PairSt where
  cfg := none
  member := 0
  peerRole := .solo
  peerUp := false
  peerTest := false
  peerCount := 0
  peerC0 := 0
  peerMajor := 0
  peerBeat := 0
  heard := none
  missed := none
  count := 0
  term := 0
  leaseEnd := 0
  reqSeq := 0
  reqAt := none
  helloAt := none
  asked := []
  noReply := 0
  unreachableAt := none
  leased := false
  mirrorBroken := false
  gap := false
  incomplete := false
  bundles := []
  acked := 0
  replayed := 0
  unmirrored := false
  renewed := false
  handshake := false
  helloSeen := false
  takeover := .none
  resync := none
  mismatchAt := none
  failedAt := none
  cutDiffers := false
  haltResync := false
  marks := []
  resendAt := none
  resendGo := false
  resending := false
  resendCursor := 0
  resendItems := 0
  freshSince := []
  sent := []
  out := []
  rx := []
  nextRole := none
  skipNext := false
  nextEpoch := none
  path2Heard := false

/-- LgtSt at reset. -/
def LgtSt.reset : LgtSt where
  cfg := none
  strings := List.replicate 8 StringSt.reset
  matrices := List.replicate 2 MatrixSt.reset
  ntcSeen := [false, false, false, false]
  derating := []
  frame := 0
  frameAt := none
  scanAt := none
  safe := false

/-- LndSt at reset. -/
def LndSt.reset : LndSt where
  pinmux := []
  serial := none
  svcOk := false
  role := false
  failsafeN := true
  emgAck := false
  safe := false

/-- Everything at reset. -/
def Dev.reset : Dev where
  regs := resetFile
  mem := []
  latches := []
  staged := []
  freeCtr := 0
  cyc := CycleSt.start
  sys := SysSt.reset
  beat := BeatSt.reset
  evr := EvrSt.reset
  sil := SilSt.reset
  key := KeySt.reset
  cut := CutSt.reset
  rft := RftSt.reset
  lin := LintelSt.reset
  jst := JstSt.reset
  tim := TimSt.reset
  rtc := RtcSt.reset
  hlk := HlkSt.reset
  rad := List.replicate 4 RadSt.reset
  trk := List.replicate 10 TrkSt.reset
  pwr := PwrSt.reset
  bst := BstSt.reset
  fwu := FwuSt.reset
  mtr := MtrSt.reset
  pair := PairSt.reset
  lgt := LgtSt.reset
  lnd := LndSt.reset

/-- The machine right after reset: in BOOT at step 1 of a cold start, nothing loaded, no command waiting. -/
def State.reset : State := { dev := Dev.reset, pending := [] }

end Sys2Proof.Machine
end

