-- ==== Sys2Proof/Machine/Journal.lean ====
section
/-! DEFINITION. Byte memories, and what stands in the Sill byte by byte: journal records and their rings, settings images. -/

namespace Sys2Proof.Machine

/-! ### Memory: general SRAM, LPDDR and the flush plate (R26) -/

/-- The byte at an address; an unlisted byte reads 0 (DESIGN CHOICE, notes/assumptions/4). -/
def Memory.read : Memory → Nat → Byte
  | [], _ => 0
  | (k, v) :: r, a => if k = a then v else Memory.read r a

def Memory.insert (a : Nat) (v : Byte) : Memory → Memory
  | [] => [(a, v)]
  | (k, w) :: r => if a < k then (a, v) :: (k, w) :: r else (k, w) :: Memory.insert a v r

/-- Writes one byte and keeps the canonical form. -/
def Memory.write (m : Memory) (a : Nat) (v : Byte) : Memory :=
  let e : Memory := m.filter (fun x => x.1 != a)
  if v = 0 then e else Memory.insert a v e

/-- The canonical form: addresses strictly rising and no entry 0. -/
def Memory.wf (m : Memory) : Bool := rising (m.map (·.1)) && m.all (fun e => e.2 != 0)

/-- `n` bytes from an address on. -/
def Memory.readN (m : Memory) (a n : Nat) : Bytes := (List.range n).map (fun i => m.read (a + i))

/-- Writes bytes from an address on. -/
def Memory.writeN (m : Memory) (a : Nat) : Bytes → Memory
  | [] => m
  | b :: r => Memory.writeN (m.write a b) (a + 1) r

/-- The stretch lies in general SRAM or in LPDDR (R26). -/
def inSramOrLpddr (a n : Nat) : Bool :=
  (0x0010000000 ≤ a && a + n ≤ 0x0010800000) || (0x0800000000 ≤ a && a + n ≤ 0x0880000000)

/-- The base of the flush plate (R26). -/
def plateBase : Nat := 0x0040000000

/-! ### Journal records (R328, R329) -/

/-- Type and key of a record (R328, R329). Types whose layout gives no key have key 0; that of a BOOT_STEP record is its step and
kind (R451). -/
def JVal.typeKey : JVal → Nat × Nat
  | .bootStep _ s _ _ _ _ _ => (0x0001, s)
  | .stepData _ s _ _ _ => (0x0001, s + 256)
  | .cleanStop .. => (0x0002, 0)
  | .epoch _ => (0x0003, 0)
  | .cutPointer .. => (0x0010, 0)
  | .cmdSeq k _ _ _ _ _ => (0x0011, k)
  | .fwPointer .. => (0x0012, 0)
  | .keyPointer k _ _ _ _ => (0x0020, k)
  | .snapDir _ _ k _ => (0x0030, k)
  | .gap .. => (0x0031, 0)
  | .rtcMap .. => (0x0032, 0)
  | .pfCount _ => (0x0033, 0)
  | .flushHdr .. => (0x0040, 0)
  | .flushChunk k _ => (0x0041, k)
  | .flushAcc .. => (0x0042, 0)
  | .pairState .. => (0x0050, 0)
  | .application t _ => (t, 0)

/-- Payload bytes of a record. -/
def JVal.payloadLen : JVal → Nat
  | .bootStep .. => 24
  | .stepData _ _ _ _ l => 24 + min 8168 (8 * l.length)
  | .cleanStop .. => 24
  | .epoch _ => 8
  | .cutPointer .. => 48
  | .cmdSeq _ _ _ _ r _ => 12 + r.length
  | .fwPointer .. => 80
  | .keyPointer .. => 16
  | .snapDir .. => 24
  | .gap .. => 40
  | .rtcMap .. => 24
  | .pfCount _ => 8
  | .flushHdr .. => 32
  | .flushChunk _ b => b.length
  | .flushAcc .. => 296
  | .pairState .. => 24
  | .application _ b => b.length

/-- Bytes of a whole record (R328): header, padded payload, marker. -/
def JVal.size (v : JVal) : Nat := 16 + pad8 v.payloadLen + 8

/-- The ring journals of R326, by their first offset, and their sizes. -/
def JVal.region (v : JVal) : Nat × Nat :=
  let t := v.typeKey.1
  if t ≤ 0x0003 then (0x0000000, 0x10000)
  else if t ≤ 0x0012 then (0x0010000, 0x10000)
  else if t = 0x0020 then (0x0178000, 0x8000)
  else if t ≤ 0x0033 then (0x0060000, 0x20000)
  else if t ≤ 0x0042 then (0x0180000, 0x100000)
  else if t ≤ 0x005F then (0x0280000, 0x100000)
  else (0x0B80000, 0x100000)


/-- The accumulators of a channel in a FLUSH_ACC record (R367); `fast` is the fast count and epoch. -/
def MeterCh.bytes (c : MeterCh) (fast : Nat) : Bytes :=
  toLE 8 (c.imp / 65536) ++ toLE 8 (c.exp / 65536) ++ toLE 2 (c.imp % 65536) ++ toLE 2 (c.exp % 65536) ++ toLE 4 fast ++ toLE 4 c.s0 ++
  toLE 8 c.rep ++ toLE 8 c.mStart ++ toLE 8 c.rStart ++ toLE 8 c.start ++ toLE 2 (min 65535 c.outage) ++ toLE 2 0

/-- Payload bytes whose places the spec does not give: free in what the record holds (R92, R68, R280, R341, R407;
notes/assumptions/50). -/
def unlaid (v : JVal) (holds : List Nat) : Bytes := Config.bytesOf v.payloadLen (Config.unlaidByte v.typeKey.1 holds)

/-- The payload of a record (R328, R335, R340, R341, R343, R367, R435, R451, R452, R473). -/
def JVal.payload (v : JVal) : Bytes :=
  match v with
  | .bootStep b s ph pa c ca sec => toLE 8 b ++ toLE 1 s ++ toLE 1 0 ++ toLE 1 ph ++ toLE 1 pa ++ toLE 1 c ++ toLE 1 0 ++ toLE 2 ca ++ toLE 8 sec
  | .stepData b s pa sec l =>
    toLE 8 b ++ toLE 1 s ++ toLE 2 1 ++ toLE 1 pa ++ toLE 4 0 ++ toLE 8 sec ++ (unlaid v l).drop 24
  | .cleanStop b c l k => toLE 8 b ++ toLE 1 c ++ toLE 1 l ++ toLE 6 0 ++ toLE 8 k
  | .epoch n => toLE 8 n
  | .cutPointer s i g h p => unlaid v ([s, i, g, p] ++ h.map (·.toNat))
  | .cmdSeq k s m st r c => unlaid v ([k, s, m, st, c] ++ r.map (·.toNat))
  | .fwPointer s t r ve o f h oh =>
    toLE 1 s ++ toLE 1 t ++ toLE 1 r ++ toLE 1 0 ++ toLE 4 ve ++ toLE 4 o ++ toLE 4 f ++ slice h 0 32 ++ slice oh 0 32
  | .keyPointer k p g s c => toLE 2 k ++ toLE 2 p ++ toLE 4 g ++ toLE 2 s ++ toLE 2 0 ++ toLE 4 c
  | .snapDir n b k c => toLE 8 n ++ toLE 8 b ++ toLE 2 k ++ toLE 2 0 ++ toLE 4 c
  | .gap f c a b s ns n => toLE 4 f ++ toLE 4 c ++ toLE 8 a ++ toLE 8 b ++ toLE 8 s ++ toLE 4 ns ++ toLE 4 n
  | .rtcMap t s ns => unlaid v [t, s, ns]
  | .pfCount n => unlaid v [n]
  | .flushHdr c b s ns => unlaid v [c, b, s, ns]
  | .flushChunk _ b => b
  | .flushAcc b s atStop ch em fast =>
    toLE 8 b ++ toLE 8 s ++ toLE 4 (b2n atStop) ++ toLE 4 0 ++
    (List.range 4).flatMap (fun c => (ch.getD c MeterCh.reset).bytes (fast.getD c 0)) ++ toLE 8 (em.getD 0 0) ++ toLE 8 (em.getD 1 0)
  | .pairState i n t r => unlaid v [i, n, t, r]
  | .application _ b => b

/-- A whole record as the Sill holds it (R328). -/
def JRec.bytes (r : JRec) : Bytes :=
  let head := toLE 2 r.val.typeKey.1 ++ toLE 2 r.val.payloadLen
  let rest := toLE 8 r.seq ++ padded r.val.payload
  head ++ toLE 4 (crc32c (head ++ rest)) ++ rest ++ toLE 8 (Nat.xor r.seq 0xA5A5A5A5A5A5A5A5)

/-- A settings image with its header (R333). -/
def Settings.bytes (s : Settings) : Bytes :=
  let m := toLE 4 (Nat.xor s.generation 0xA5A5A5A5)
  toLE 4 s.generation ++ toLE 2 s.schema ++ toLE 2 0 ++ toLE 4 s.body.length ++ toLE 4 (crc32c s.body) ++ toLE 8 0 ++ m ++ m ++ s.body

/-! ### The rings (R331) -/

/-- The head of the ring at `base`: the offset in the ring at which its next record begins. -/
def SilSt.head (s : SilSt) (base : Nat) : Nat := match s.heads.find? (fun h => h.1 == base) with | some h => h.2 | none => 0

/-- Where a record of `n` bytes begins in a ring of `size` bytes: at the head, or at the ring's start when it would run past the
end (notes/assumptions/50). -/
def ringStart (size head n : Nat) : Nat := if head + n ≤ size then head else 0

/-- Writes a record at the head of its ring: it takes the next sequence and is the one in force of its type and key (R328, R329). -/
def SilSt.write (s : SilSt) (v : JVal) : SilSt :=
  let g := v.region
  let o := ringStart g.2 (s.head g.1) v.size
  let r : JRec := ⟨s.seq + 1, v, g.1 + o⟩
  { s with
    seq := s.seq + 1
    recs := s.recs.filter (fun x => x.val.typeKey != v.typeKey) ++ [r]
    heads := (g.1, (o + v.size) % g.2) :: s.heads.filter (fun h => h.1 != g.1)
    image := s.image.writeN (g.1 + o) r.bytes }

/-- Bytes ahead of the head that hold no record in force: the room that R331 keeps free (notes/assumptions/50). -/
def ringGap : Nat := 16384

/-- Writes again at the head, with a new sequence, the records in force that the head of a ring is about to reach (R331). -/
def SilSt.carry (region : Nat × Nat) : Nat → SilSt → SilSt
  | 0, s => s
  | n + 1, s =>
    match s.recs.find? (fun r => r.val.region == region && (r.at_ + region.2 - region.1 - s.head region.1) % region.2 < ringGap) with
    | none => s
    | some r => SilSt.carry region n (s.write r.val)

/-- Appends a record to its ring (R331). -/
def SilSt.append (s : SilSt) (v : JVal) : SilSt := (SilSt.carry v.region s.recs.length s).write v

/-- The record under way is interrupted before its marker: it does not count, and the requests behind it are lost (R330, R334). -/
def SilSt.tear (s : SilSt) : SilSt :=
  let lost (r : JReq) : Nat × Nat := (r.val.region.1, ringStart r.val.region.2 (s.head r.val.region.1) r.val.size)
  { s with queue := [], current := none, chunkDue := [], torn := s.torn ++ (s.current.map lost).toList }

/-! ### Records of the node table (R104-R109) -/

/-- Bytes 0-79 of a node record (R105). -/
def NodeStat.bytes (s : NodeStat) : Bytes :=
  toLE 1 s.typ ++ toLE 1 s.flags ++ toLE 2 s.zone ++ toLE 4 s.firstEdge ++ toLE 1 s.edgeCap ++ toLE 1 s.edgeCount ++ toLE 2 s.link ++
  toLE 2 s.proxyAddr ++ toLE 2 s.profile ++ s.groups.flatMap (toLE 2) ++ toLE 4 s.daylightEid ++ toLE 2 s.ipeak ++ toLE 2 s.decay ++
  toLE 4 s.hold ++ toLE 2 s.waveMin ++ toLE 2 s.waveMax ++ toLE 2 s.dlLo ++ toLE 2 s.dlHi ++ toLE 2 s.dlMin ++ toLE 2 s.dlTimeout ++
  toLE 2 s.rampUp ++ toLE 2 s.rampDown ++ toLE 2 s.deadband ++ toLE 2 s.refresh ++ toLE 1 s.local_ ++ toLE 7 0 ++ s.app

/-- Bytes 80-95 of a node record (R108). -/
def NodeRun.bytes (r : NodeRun) : Bytes :=
  toLE 2 r.lastSent ++ toLE 2 r.seq ++ toLE 2 r.refreshTmr ++
  toLE 1 (b2n r.pending + 2 * b2n r.c1Eid + 4 * b2n r.c0Active + 8 * b2n r.c1Noexp) ++ toLE 1 0 ++ toLE 2 r.c1Level ++ toLE 2 0 ++
  toLE 4 r.c1Expiry

/-- The 16 bytes of a dynamic page (R109). -/
def Page.bytes (p : Page) : Bytes :=
  toLE 2 p.i ++ toLE 2 p.a ++ toLE 1 p.h ++ toLE 1 (b2n p.p) ++ toLE 2 p.l ++ toLE 4 p.t ++ toLE 2 (p.y + 2 ^ 15 * b2n p.yValid) ++ toLE 2 p.yAge

/-- A node record (R104). -/
def Node.bytes (n : Node) : Bytes := n.stat.bytes ++ n.run.bytes ++ n.page0.bytes ++ n.page1.bytes

end Sys2Proof.Machine
end

