-- ==== Sys2Proof/Machine/Ops.lean ====
section
/-! DEFINITION. The named operations every block shares: registers, memory, free values, module time, events, the journal
and interrupts. -/

namespace Sys2Proof.Machine

/-! ### The register file -/

/-- The word at a key; an unlisted register reads 0. -/
def RegFile.get : RegFile → Nat → W32
  | [], _ => 0
  | (k, v) :: r, key => if k = key then v else RegFile.get r key

/-- Inserts an entry at its place in the order of keys. -/
def RegFile.insert (key : Nat) (v : W32) : RegFile → RegFile
  | [] => [(key, v)]
  | (k, w) :: r => if key < k then (key, v) :: (k, w) :: r else (k, w) :: RegFile.insert key v r

/-- The file without the entries of a key. -/
def RegFile.erase (f : RegFile) (key : Nat) : RegFile := f.filter (fun e => e.1 != key)

/-- Sets a register; a value of 0 removes its entry, so that equal files are equal data. -/
def RegFile.set (f : RegFile) (key : Nat) (v : W32) : RegFile :=
  if v = 0 then f.erase key else RegFile.insert key v (f.erase key)

/-- The canonical form: keys strictly rising and no entry 0. -/
def RegFile.wf (f : RegFile) : Bool := rising (f.map (·.1)) && f.all (fun e => e.2 != 0)

namespace Dev

/-- The value of a register field. -/
def get (d : Dev) (f : Fld) : Nat := bits (d.regs.get f.key).toNat f.hi f.lo

/-- Sets a register field and leaves the other bits of its word. -/
def put (d : Dev) (f : Fld) (v : Nat) : Dev :=
  { d with regs := d.regs.set f.key (BitVec.ofNat 32 (putBits (d.regs.get f.key).toNat v f.hi f.lo)) }

/-- Adds to a field that saturates. -/
def bump (d : Dev) (f : Fld) (k : Nat := 1) : Dev := d.put f (satAdd (f.hi + 1 - f.lo) (d.get f) k)

/-- A one-bit field as a truth value. -/
def flag (d : Dev) (f : Fld) : Bool := d.get f != 0

def putB (d : Dev) (f : Fld) (b : Bool) : Dev := d.put f (b2n b)

/-- Hardware sets bits of a W1C field, or a write sets those of a W1S field: they hold against a clear of the same cycle (R35). -/
def raiseBits (d : Dev) (f : Fld) (v : Nat) : Dev :=
  { d.put f (d.get f ||| v) with cyc := { d.cyc with raised := (f.key, v * 2 ^ f.lo) :: d.cyc.raised } }

/-- Sets a one-bit W1C or W1S field (R35). -/
def raise (d : Dev) (f : Fld) : Dev := d.raiseBits f 1

/-- The bits of a field that this cycle has set (R35). -/
def raisedNow (d : Dev) (f : Fld) : Nat :=
  bits ((d.cyc.raised.filter (fun e => e.1 == f.key)).foldl (fun n e => n ||| e.2) 0) f.hi f.lo

/-- Applies a change when a condition holds. -/
def when (d : Dev) (c : Bool) (f : Dev → Dev) : Dev := if c then f d else d

/-! ### Free values (notes/assumptions/2) -/

/-- A free value and the state whose counter has advanced. -/
def fresh (d : Dev) : Nat × Dev := (Config.free d.freeCtr, { d with freeCtr := d.freeCtr + 1 })

/-- A free string of `n` bytes. -/
def freshBytes (d : Dev) (n : Nat) : Bytes × Dev :=
  ((List.range n).map (Config.freeByte d.freeCtr), { d with freeCtr := d.freeCtr + 1 })

end Dev

/-! ### Status codes (R40) -/

def ST_OK := 0x00
def ST_REFUSED_FULL := 0x01
def ST_ILLEGAL_STATE := 0x02
def ST_BAD_ARGUMENT := 0x03
def ST_NOT_PERMITTED := 0x04
def ST_FLUSHED := 0x05
def ST_BUSY_TEST := 0x06
def ST_STALE := 0x07
def ST_INTEGRITY := 0x08
def ST_CAPACITY := 0x09
def ST_TIMEOUT := 0x0A
def ST_JUMP_REFUSED := 0x0B
def ST_DEGRADED := 0x0C
def ST_VERSION := 0x0D
def ST_ORPHANED := 0x0E
def ST_PENDING := 0x0F

/-! ### Codes of states, roles, periods and masters -/

def ModState.code : ModState → Nat
  | .off => 0 | .boot => 1 | .unframed => 2 | .ready => 3 | .service => 4 | .hold => 5 | .test => 6 | .failsafe => 7

def Role.code : Role → Nat
  | .solo => 0 | .active => 1 | .standby => 2 | .syncing => 3 | .ineligible => 4

def BeatSource.code : BeatSource → Nat
  | .crystal => 0 | .pps => 1 | .ptp => 2

/-- A beat period in ns from its code (R74); the reserved codes give 4 ms. -/
def periodNs : Nat → Nat
  | 0 => 2000000 | 1 => 4000000 | 2 => 5000000 | 3 => 8000000 | 4 => 10000000 | _ => 4000000

/-- The code of a beat period. -/
def periodCode (ns : Nat) : Nat :=
  if ns = 2000000 then 0 else if ns = 4000000 then 1 else if ns = 5000000 then 2 else if ns = 8000000 then 3 else 4

/-- The bank of a master: its own copy of every banked register and staging. -/
def bankOf : Master → Nat
  | .core n => n.val
  | .other n => 8 + n.val

/-- The master is an application core. -/
def isCore : Master → Bool
  | .core _ => true
  | .other _ => false

namespace Dev

/-! ### Module time (R276) -/

/-- Module time in ns since the PTP epoch. -/
def now (d : Dev) : Nat := d.beat.base + d.beat.sinceBase

/-- Moves the instant to `t` ns after the last boundary; time does not run back within a beat. A later instant is a new cycle. -/
def atTime (d : Dev) (t : Nat) : Dev :=
  { d with beat := { d.beat with sinceBase := max d.beat.sinceBase t }
           cyc := if d.beat.sinceBase < t then CycleSt.start else d.cyc }

def nowSec (d : Dev) : Nat := d.now / 1000000000

/-- µs since the boundary of the beat in progress. -/
def usInBeat (d : Dev) : Nat := d.beat.sinceBase / 1000

/-! ### Module state -/

def isState (d : Dev) (l : List ModState) : Bool := l.contains d.sys.mstate

/-- SERVICE as SOLO or ACTIVE. -/
def servesAsActive (d : Dev) : Bool :=
  d.sys.mstate == .service && (d.sys.role == .solo || d.sys.role == .active)

/-- READY, SERVICE or HOLD: the Joist runs (R182, R185). -/
def joistRuns (d : Dev) : Bool := d.isState [.ready, .service, .hold]

/-! ### Interrupts -/

/-- The status and the enable register of every block's, radio's and port's interrupt to the cores (R74, R103, R176, R204, R246, R275,
R300, R301, R324, R325, R350, R373, R386, R412, R448, R467, R484, R502, R513, R514). -/
def irqRegs : List (Fld × Fld) :=
  [(Reg.BEAT_IRQ_STATUS.word, Reg.BEAT_IRQ_ENABLE.word), (Reg.RFT_IRQ_STATUS.word, Reg.RFT_IRQ_ENABLE.word),
   (Reg.JST_IRQ_STATUS.word, Reg.JST_IRQ_ENABLE.word), (Reg.TIME_IRQ_STATUS.word, Reg.TIME_IRQ_ENABLE.word),
   (Reg.RTC_IRQ_STATUS.word, Reg.RTC_IRQ_ENABLE.word), (Reg.CLK_FAIL.word, Reg.CLK_IRQ_ENABLE.word),
   (Reg.PWR_IRQ_STATUS.word, Reg.PWR_IRQ_ENABLE.word), (Reg.SIL_IRQ_STATUS.word, Reg.SIL_IRQ_ENABLE.word),
   (Reg.MTR_IRQ_STATUS.word, Reg.MTR_IRQ_ENABLE.word), (Reg.EVR_IRQ_STATUS.word, Reg.EVR_IRQ_ENABLE.word),
   (Reg.PAIR_IRQ_STATUS.word, Reg.PAIR_IRQ_ENABLE.word), (Reg.KEY_IRQ_STATUS.word, Reg.KEY_IRQ_ENABLE.word)] ++
  [(Reg.BST_IRQ_STATUS.word, Reg.BST_IRQ_ENABLE.word), (Reg.FWU_IRQ_STATUS.word, Reg.FWU_IRQ_ENABLE.word),
   (Reg.LGT_IRQ_STATUS.word, Reg.LGT_IRQ_ENABLE.word), (Reg.HLK_IRQ_STATUS.word, Reg.HLK_IRQ_ENABLE.word),
   (Reg.USB_IRQ_STATUS.word, Reg.USB_IRQ_ENABLE.word)] ++
  (List.range 4).map (fun r => (Reg.RAD_IRQ_STATUS.word r, Reg.RAD_IRQ_ENABLE.word r)) ++
  [0, 1, 2, 3, 4, 5, 6, 7, 14, 15].map (fun w => (Reg.TRK_IRQ_STATUS.word w, Reg.TRK_IRQ_ENABLE.word w))

/-- The interrupts raised to the cores, by their status registers: a status bit and its enable bit are both 1. -/
def irqs (d : Dev) : List Fld := (irqRegs.filter (fun r => d.get r.1 &&& d.get r.2 != 0)).map (·.1)

/-! ### Event recorder: acceptance (R375-R379) -/

/-- Starts a flush of the records present, or remembers it while one is under way (R379). -/
def startFlush (d : Dev) : Dev :=
  if d.evr.flushLeft > 0 then { d with evr := { d.evr with flushAgain := true } }
  else
    let d1 : Dev := { d with evr := { d.evr with flushLeft := d.evr.buf.length, flushAt := d.now } }
    if d.evr.buf.isEmpty then d1.raise Reg.EVR_IRQ_STATUS.flush_done else d1

/-- The sequence after `n` (R375): 0 is skipped. -/
def nextSeqAfter (n : Nat) : Nat := if n ≥ 0xFFFFFFFF then 1 else n + 1

/-- The pending suppressed count of a code. -/
def pendingOf (d : Dev) (code : Nat) : Nat := sumOf (d.evr.pend.filter (fun p => p.code == code)) (·.count)

/-- Accepts a record into the buffer, or refuses it when the buffer is full (R375, R377, R378, R379). -/
def acceptEvent (d : Dev) (e : EvCode) (args : List Nat) : Dev :=
  if d.evr.buf.length ≥ 4096 then
    ({ d with evr := { d.evr with lostNow := d.evr.lostNow + 1 } }.bump Reg.EVR_LOST.buf_refused).raise
      Reg.EVR_IRQ_STATUS.lost
  else
    let r : EvRec := ⟨d.evr.nextSeq, d.nowSec % 2 ^ 48, d.now % 1000000000 * 65536 / 1000000000, e.code, e.sev,
      min (d.pendingOf e.code) 65535, min d.evr.lostNow 65535, args⟩
    let d1 : Dev := { d with
      evr := { d.evr with
        buf := d.evr.buf ++ [r], nextSeq := nextSeqAfter d.evr.nextSeq, lostNow := 0,
        pend := d.evr.pend.filter (fun p => p.code != e.code) }
      cyc := { d.cyc with records := r.seq :: d.cyc.records } }
    let d2 := if e.sev ≥ 5 then d1.raise Reg.EVR_IRQ_STATUS.severe else d1
    if e.sev ≥ 5 || d2.evr.buf.length ≥ 2048 then d2.startFlush else d2

/-- Counts a suppression of a code (R376, R378). -/
def suppressEvent (d : Dev) (code : Nat) : Dev :=
  let p := if d.evr.pend.any (fun p => p.code == code) then
      d.evr.pend.map (fun p => if p.code = code then { p with count := p.count + 1 } else p)
    else d.evr.pend ++ [{ code := code, count := 1, since := d.now }]
  { d with evr := { d.evr with pend := p } }.bump Reg.EVR_SUPP.word

/-- Offers a record (R376): severity 6 and 7 pass and take no token; SUPPRESSED records are never suppressed (R378); a
tracked code needs 10⁶ units of its bucket. Before the recorder has started a record waits for the first record of the run
(R383; notes/assumptions/8). -/
def offerNow (d : Dev) (e : EvCode) (args : List Nat) : Dev :=
  if !d.evr.started then { d with evr := { d.evr with held := d.evr.held ++ [⟨e, args⟩] } }
  else if e.sev ≥ 6 || e.code = 0x0D02 then d.acceptEvent e args
  else match d.evr.limits.find? (fun b => b.code == e.code) with
    | none => d.acceptEvent e args
    | some b =>
      if b.units ≥ 1000000 then
        { d with evr := { d.evr with limits := d.evr.limits.map (fun x : Bucket =>
            if x.code = e.code then { x with units := x.units - 1000000 } else x) } }.acceptEvent e args
      else d.suppressEvent e.code

/-- A record is offered in the cycle of the command: it waits for those of lower block IDs (R375). -/
def offer (d : Dev) (e : EvCode) (args : List Nat) : Dev :=
  { d with evr := { d.evr with offers := d.evr.offers ++ [⟨e, args⟩] } }

/-- The records offered in one cycle, in ascending order of block ID and in order of offer within a block (R375). -/
def offersInOrder (l : List EvOffer) : List EvOffer := sortBy (fun o : EvOffer => o.ev.code / 256) l

/-- Takes the records offered in this cycle (R375). -/
def settleOffers (d : Dev) : Dev :=
  (offersInOrder d.evr.offers).foldl (fun d o => d.offerNow o.ev o.args) { d with evr := { d.evr with offers := [] } }

/-- SUPPRESSED records for every pending count (R378). -/
def writeSuppressed (d : Dev) : Dev :=
  d.settleOffers.evr.pend.foldl (fun d p =>
    { d with evr := { d.evr with pend := d.evr.pend.filter (fun x => x.code != p.code) } }.offerNow
      Ev.SUPPRESSED [p.code, p.count]) d.settleOffers

/-- The buckets of an EVENTS section, full, with the default of 0x0011 where the section has none (R72, R376). -/
def bucketsOf (l : List (Nat × Nat × Nat)) : List Bucket :=
  let own := l.map (fun (c, r, b) => (⟨c, r, b, b * 1000000⟩ : Bucket))
  if own.any (fun b => b.code == 0x0011) then own else ⟨0x0011, 1000, 8, 8000000⟩ :: own

/-! ### The journal (R328-R332) -/

/-- Bytes of records in force in the ring of `v`, the record it replaces left out (R331). -/
def ringUsed (d : Dev) (v : JVal) : Nat :=
  sumOf (d.sil.recs.filter (fun r => r.val.region == v.region && r.val.typeKey != v.typeKey)) (fun r => r.val.size)

/-- The write leaves at least 16 KiB of its ring free of records in force (R331). -/
def ringRoom (d : Dev) (v : JVal) : Bool := d.ringUsed v + v.size + 16384 ≤ v.region.2

/-- Commits a record: it takes the next sequence and replaces the record of its type and key (R328, R329, R331). A Sill mounted
read-only takes those of the boot ledger region alone (R453). -/
def commit (d : Dev) (v : JVal) : Dev :=
  if d.sil.readOnly && 3 < v.typeKey.1 then d
  else { d with sil := d.sil.append v }

/-- Commits a record if its ring has room, else refuses it (R331). -/
def commitChecked (d : Dev) (v : JVal) : Dev × Nat :=
  if d.ringRoom v then (d.commit v, ST_OK)
  else ((d.raise Reg.SIL_IRQ_STATUS.journal_full).offer Ev.JOURNAL_FULL [v.region.1, v.typeKey.1], ST_CAPACITY)

/-- The record in force of a type and key. -/
def inForce (d : Dev) (typ key : Nat) : Option JVal :=
  (d.sil.recs.find? (fun r => r.val.typeKey == (typ, key))).map (·.val)

/-- Rank of a priority, 0 first (R332). -/
def prioRank : JPrio → Nat
  | .flush => 0 | .safety => 1 | .snapshot => 2 | .pair => 3 | .events => 4 | .app => 5

/-- The journal engine begins its next record, by priority and then by order of request, when none is under way (R332). -/
def journalStart (d : Dev) : Dev :=
  match d.sil.current, sortBy (fun r : JReq => prioRank r.prio) d.sil.queue with
  | none, r :: _ =>
    { d with sil := { d.sil with current := some r, queue := d.sil.queue.erase r } }
  | _, _ => d

/-- Asks the journal engine for a record (R332). -/
def journal (d : Dev) (p : JPrio) (v : JVal) (bank : Nat := 0) : Dev :=
  { d with sil := { d.sil with queue := d.sil.queue ++ [JReq.mk p v bank] } }.journalStart

/-- The boot count in force (R335). -/
def bootCount (d : Dev) : Nat :=
  match d.inForce 0x0003 0 with
  | some (.epoch n) => n
  | _ => 0

/-- The session epoch (R335). -/
def epoch (d : Dev) : Nat := d.bootCount % 256

/-- The staged upper half of a 64-bit writable pair, by the key of its _HI register; 0 when none is staged (R34). -/
def stagedHi (d : Dev) (bank : Nat) (hi : Fld) : Nat :=
  match d.staged.find? (fun x => x.bank == bank && x.key == hi.key) with | some x => x.value | none => 0

/-- A write of a _HI register stages it for the writing master (R34). -/
def stageHi (d : Dev) (bank : Nat) (hi : Fld) (v : Nat) : Dev :=
  { d with staged := ⟨bank, hi.key, v⟩ :: d.staged.filter (fun x => !(x.bank == bank && x.key == hi.key)) }

/-- A write of a _LO register commits both halves and spends the staged _HI (R34). -/
def commitPair (d : Dev) (bank : Nat) (lo hi : Fld) (v : Nat) : Dev :=
  (({ d with staged := d.staged.filter (fun x => !(x.bank == bank && x.key == hi.key)) } : Dev).put lo v).put hi (d.stagedHi bank hi)

/-- The land of a PINMUX entry runs its dedicated function while a Cut List is in force (R519). -/
def landDedicated (d : Dev) (i : Nat) : Bool := d.lnd.pinmux.getD i 0 % 16 == 0

/-- PPS_IN and the host link run their dedicated functions in UNFRAMED too (R520). -/
def alwaysDedicated (d : Dev) (entries : List Nat) : Bool := d.cut.image.isNone || entries.all (fun i => d.landDedicated i)

end Dev

/-- Lifts a change of the machine to a step of the state: the queue is left alone. -/
def State.run (s : State) (f : Dev → Dev) : Host.Outcome State Fault Refusal := .next { s with dev := (f s.dev).settleOffers }

/-- A step at instant `t` of the beat in progress. -/
def State.runAt (s : State) (t : Nat) (f : Dev → Dev) : Host.Outcome State Fault Refusal := s.run (fun d => f (d.atTime t))

end Sys2Proof.Machine
end

