-- ==== Sys2Proof/Machine/Joist.lean ====
section
/-! DEFINITION. The Joist: pushing, taking and releasing items, flushing, delay lists (R177-R204). -/

namespace Sys2Proof.Machine

/-- The pool of item slots (R179). -/
def poolSlots : Nat := 16384

/-- Producer IDs (R180). -/
def producerEngine := 0x08
def producerTimers := 0x09
def producerSC := 0x0A
def producerHost := 0x1A
def producerRadio (n : Nat) := 0x0B + n
def producerTrunk (port : Nat) := 0x10 + port

/-- A flow no push may name (R38). -/
def flowReserved (f : Nat) : Bool := 0x21000 ≤ f && f ≤ 0x2FFFF

namespace Dev

/-- Queued items of a queue, oldest first (R179). -/
def queued (d : Dev) (q : Nat) : List JItem := d.jst.items.filter (fun i => i.queue == q)

/-- A queue's fill (R179). -/
def fill (d : Dev) (q : Nat) : Nat := (d.queued q).length

/-- The configuration of one of the 64 queues (R179). -/
def qcfgOf (d : Dev) (q : Nat) : Option QCfg := if q < 64 then d.jst.qcfg[q]? else none

def reserveTotal (d : Dev) : Nat := sumOf d.jst.qcfg (·.reserve)

/-- Slots drawn from the shared part of the pool (R179). -/
def sharedUsed (d : Dev) : Nat :=
  sumOf (List.range 64) (fun q => d.fill q - (match d.qcfgOf q with | some c => c.reserve | none => 0))

def sharedFree (d : Dev) : Nat := poolSlots - d.reserveTotal - d.sharedUsed

/-- A slot is free for the queue: from its reserve while its fill is below it, else from the shared part (R179). -/
def slotFree (d : Dev) (q : Nat) (c : QCfg) : Bool := d.fill q < c.reserve || 0 < d.sharedFree

/-- A flush of the queue is under way (R194). -/
def flushing (d : Dev) (q : Nat) : Bool :=
  d.flag Reg.JST_FLUSH_STATUS.busy && d.get Reg.JST_FLUSH_STATUS.queue == q

/-- Check 1 of R182: the status outside READY, SERVICE and HOLD. -/
def joistState (d : Dev) : Nat :=
  if d.joistRuns then ST_OK else if d.sys.mstate = .test then ST_BUSY_TEST else ST_ILLEGAL_STATE

/-- A refusal for room (R182): counted per queue and reported by event 0x0401. -/
def pushRefused (d : Dev) (q producer : Nat) (pool : Bool) : Dev :=
  ((d.bump (Reg.JST_QREFUSED.word q)).raise Reg.JST_IRQ_STATUS.refused).offer Ev.PUSH_REFUSED
    [q, producer, d.fill q, b2n pool]

/-- Joins an item to the tail of its queue (R182, R186). -/
def enqueue (d : Dev) (q flow producer : Nat) (words eids : List Nat) : Dev :=
  { d with jst := { d.jst with
    items := d.jst.items ++ [{ queue := q, flow := flow, producer := producer, tag := (d.jst.pushCount + 1) % 65536,
                               words := words, eids := eids, beat := d.beat.count }]
    pushCount := d.jst.pushCount + 1 }
           cyc := { d.cyc with pushed := (d.jst.pushCount + 1) % 65536 :: d.cyc.pushed } }

/-- The checks 1, 3, 4 and 5 of R182 for a push, and its effect: the state, the status, and whether the pool refused. -/
def push (d : Dev) (q flow producer : Nat) (words : List Nat) (eids : List Nat := []) : Dev × Nat × Bool :=
  if d.joistState ≠ ST_OK then (d, d.joistState, false)
  else if d.flushing q then (d, ST_FLUSHED, false)
  else if flowReserved flow then (d, ST_BAD_ARGUMENT, false)
  else match d.qcfgOf q with
    | none => (d, ST_ILLEGAL_STATE, false)
    | some c =>
      if d.fill q ≥ c.depth then (d.pushRefused q producer false, ST_REFUSED_FULL, false)
      else if !d.slotFree q c then (d.pushRefused q producer true, ST_REFUSED_FULL, true)
      else (d.enqueue q flow producer words eids, ST_OK, false)

/-! ### Taking (R185-R192) -/

/-- Flows in service: in hold buffers, with transmit engines and with the safety controller (R187). -/
def busyFlows (d : Dev) : List Nat := d.jst.holds.map (·.item.flow) ++ d.jst.service.map (·.item.flow)

/-- The item is the oldest queued item of its flow, and no item of the flow is in service (R187 rule 2). -/
def mayTake (d : Dev) (i : JItem) : Bool :=
  !d.busyFlows.contains i.flow && (d.jst.items.find? (fun j => j.flow == i.flow)) == some i

/-- The oldest item of a queue that may be taken, among its first 64 (R187 rule 3); one pushed in the cycle under way is not seen
(R44, R193). -/
def takeable (d : Dev) (q : Nat) : Option JItem :=
  ((d.queued q).take 64).find? (fun i => d.mayTake i && !d.cyc.pushed.contains i.tag)

/-- The queue is open to a consumer (R187 rule 1): a core by its bit, a transmit engine by its medium, the safety
controller by 0xFE. -/
def openTo (c : QCfg) (consumer : Nat) (core : Option Nat) : Bool :=
  match core with
  | some n => c.consumer == 0xFF && bit c.cores n
  | none => c.consumer == consumer

/-- Queues of a class in the order of its turn pointer (R187 rule 5). -/
def turnOrder (d : Dev) (cls : Nat) : List Nat :=
  let start := (d.jst.last.getD cls 63 + 1) % 64
  ((List.range 64).map (fun i => (start + i) % 64)).filter (fun q =>
    match d.qcfgOf q with | some c => c.cls == cls | none => false)

def creditOf (d : Dev) (q : Nat) : Nat := d.jst.credit.getD q 0

/-- Reloads every queue of a class to its weight (R187 rule 5). -/
def reloadCredit (d : Dev) (cls : Nat) : Dev :=
  { d with jst := { d.jst with credit := (List.range 64).map (fun q =>
      match d.qcfgOf q with | some c => if c.cls = cls then c.weight else d.creditOf q | none => d.creditOf q) } }

/-- Spends one credit of the queue that took and moves its class's pointer (R187 rule 5). -/
def noteTake (d : Dev) (cls q : Nat) : Dev :=
  { d with jst := { d.jst with
    credit := modifyAt d.jst.credit q (fun c => c - 1)
    last := modifyAt d.jst.last cls (fun _ => q) } }

/-- The queues of a class open to a consumer that hold an item it may take, in turn order. -/
def candidates (d : Dev) (consumer : Nat) (core : Option Nat) (cls : Nat) : List (Nat × JItem) :=
  (d.turnOrder cls).filterMap (fun q =>
    match d.qcfgOf q with
    | some c => if openTo c consumer core then (d.takeable q).map (fun i => (q, i)) else none
    | none => none)

/-- The item a consumer takes from one class (R187 rule 5): the first candidate with credit; when none has credit, the
class is reloaded and the search made again. -/
def selectIn (d : Dev) (consumer : Nat) (core : Option Nat) (cls : Nat) : Option (JItem × Dev) :=
  let cs := d.candidates consumer core cls
  match cs.find? (fun c => 0 < d.creditOf c.1) with
  | some (q, i) => some (i, d.noteTake cls q)
  | none =>
    match cs with
    | [] => none
    | (q, i) :: _ => some (i, (d.reloadCredit cls).noteTake cls q)

/-- The item a consumer takes, class 0 first (R187 rule 4). -/
def select (d : Dev) (consumer : Nat) (core : Option Nat) : Option (JItem × Dev) :=
  [0, 1, 2, 3].findSome? (fun c => d.selectIn consumer core c)

def unqueue (d : Dev) (i : JItem) : Dev := { d with jst := { d.jst with items := d.jst.items.erase i } }

/-- The hold buffers of a core in service. -/
def heldBy (d : Dev) (core : Nat) : List HoldBuf := d.jst.holds.filter (fun h => h.core == core)

/-- The lowest free hold buffer of a core (R185). -/
def freeHold (d : Dev) (core : Nat) : Option Nat :=
  (List.range 4).find? (fun b => !(d.heldBy core).any (fun h => h.buf == b))

end Dev

/-- The descriptor of an item in a hold buffer (R186). -/
def descriptor (i : JItem) (buf : Nat) : Nat :=
  2 ^ 31 + (i.words.length - 1) * 2 ^ 28 + i.queue * 2 ^ 22 + buf * 2 ^ 20 + i.tag

namespace Dev

/-- Puts an item into a core's hold buffer and answers its load (R185, R186). -/
def deliver (d : Dev) (core buf : Nat) (i : JItem) : Dev :=
  let d1 := { d.unqueue i with jst := { (d.unqueue i).jst with holds := d.jst.holds ++ [HoldBuf.mk core buf i] } }
  ((d1.put (Reg.JST_GET.word core) (descriptor i buf)).put (Reg.JST_ITEM_SEL.hold core) buf).put
    (Reg.JST_ITEM_SEL.in_use core) (sumOf (d1.heldBy core) (fun h => 2 ^ h.buf))

/-- Takes the next item for a core, if there is one (R185, R187). -/
def takeFor (d : Dev) (core : Nat) : Option Dev :=
  match d.select 0xFF (some core), d.freeHold core with
  | some (i, d'), some b => some (d'.deliver core b i)
  | _, _ => none

/-- The load returns the idle descriptor (R185). -/
def answerIdle (d : Dev) (bank : Nat) : Dev := d.put (Reg.JST_GET.word bank) 0

/-- Takes the next item of a transmit engine's or the safety controller's own queue into service (R187, R188). -/
def takeForConsumer (d : Dev) (consumer : Nat) : Option (JItem × Dev) :=
  match d.select consumer none with
  | some (i, d') =>
    some (i, { d'.unqueue i with jst := { (d'.unqueue i).jst with service := d'.jst.service ++ [Service.mk consumer i] } })
  | none => none

/-- Ends the service of a consumer's item (R188). -/
def endService (d : Dev) (consumer : Nat) (i : JItem) : Dev :=
  { d with jst := { d.jst with service := d.jst.service.erase (Service.mk consumer i) } }

/-- Releases every item that a core holds, as if by JST_DONE (R190). -/
def releaseHeld (d : Dev) (core : Nat) : Dev :=
  let n := (d.heldBy core).length
  if n = 0 then d
  else ((({ d with jst := { d.jst with holds := d.jst.holds.filter (fun h => h.core != core) } }.put
      (Reg.JST_ITEM_SEL.in_use core) 0).raise Reg.JST_IRQ_STATUS.hold_released).offer Ev.HOLD_RELEASED [core, n])

/-- Every blocked load ends with the idle descriptor when the module leaves READY, SERVICE and HOLD (R185). -/
def endWaits (d : Dev) : Dev :=
  d.jst.waiting.foldl (fun d c => d.answerIdle c) { d with jst := { d.jst with waiting := [] } }

/-- The volatile part of the Joist is lost at an entry into BOOT and at power-fail (R202, R201); blocked loads are
abandoned with their cores (R185). -/
def joistReset (d : Dev) : Dev :=
  { d with jst := { d.jst with
    items := [], holds := [], service := [], waiting := [], staging := [], timers := [], tags := [],
    last := [63, 63, 63, 63], credit := (List.range 64).map (fun q =>
      match d.qcfgOf q with | some c => c.weight | none => 0), pushCount := 0, armOrder := 0 } }

/-! ### Flushing (R194-R197) -/

/-- The engine's items queued in `q`. -/
def queuedEngine (d : Dev) (q : Nat) : List JItem := (d.queued q).filter (fun i => i.producer == producerEngine)

/-- Discards the items queued in `q`, records the EIDs of the engine's items for the next INGEST, and marks every open item
that names the queue (R194-R196). -/
def discardQueue (d : Dev) (q : Nat) : Dev :=
  let eng := d.queuedEngine q
  let eids := eng.flatMap (·.eids)
  let d1 := { d with
    jst := { d.jst with
      items := d.jst.items.filter (fun i => i.queue != q)
      staging := d.jst.staging.map (fun s : PushStage => if s.queue = q then { s with words := s.words.map (fun _ => 0), flushed := true }
        else s) }
    rft := { d.rft with
      refused := d.rft.refused ++ eids
      refusedItems := d.rft.refusedItems + eng.length
      refusedFirst := if d.rft.refusedItems = 0 then eids.headD 0 else d.rft.refusedFirst } }
  if eng.isEmpty then d1
  else (d1.bump Reg.RFT_CS_REFUSED.word eng.length).raise Reg.RFT_IRQ_STATUS.cs_refused

/-- The flush that JST_FLUSH starts, as JST_FLUSH_STATUS shows it (R194). -/
def flushQueue (d : Dev) (q : Nat) : Dev :=
  let d1 : Dev := { d with jst := { d.jst with flushEids := ((d.queuedEngine q).flatMap (·.eids)).length } }
  ((d1.put Reg.JST_FLUSH_STATUS.discarded (d.queued q).length).put Reg.JST_FLUSH_STATUS.queue q).discardQueue q

/-- The staging of a master, if it has an item open (R181). -/
def stageOf (d : Dev) (bank : Nat) : Option PushStage := d.jst.staging.find? (fun s => s.bank == bank)

def dropStage (d : Dev) (bank : Nat) : Dev :=
  { d with jst := { d.jst with staging := d.jst.staging.filter (fun s => s.bank != bank) } }

def pushStatus (d : Dev) (bank st : Nat) (pool : Bool) : Dev :=
  ((d.put (Reg.JST_PUSH_STATUS.status bank) st).putB (Reg.JST_PUSH_STATUS.pool bank) pool).put
    (Reg.JST_PUSH_STATUS.open_f bank) 0

/-- The commit of a master's open item: the checks of R182 in order. DESIGN CHOICE (notes/assumptions/49): R180 gives a bus master that
is no application core no producer ID; the model takes 8 + n, which can equal one of the fixed IDs. -/
def pushCommit (d : Dev) (bank : Nat) : Dev :=
  let st := d.stageOf bank
  let q := match st with | some s => s.queue | none => 0
  let f := match st with | some s => s.flow | none => 0
  let bad (d : Dev) : Dev := (d.pushStatus bank ST_BAD_ARGUMENT false).offer Ev.PUSH_BAD [bank, q, f]
  if d.joistState ≠ ST_OK then (d.dropStage bank).pushStatus bank d.joistState false
  else match st with
    | none => bad d
    | some s =>
      let d0 := d.dropStage bank
      if s.flushed || d.flushing s.queue then d0.pushStatus bank ST_FLUSHED false
      else if flowReserved s.flow then bad d0
      else
        let r := d0.push s.queue s.flow bank (s.words.take s.count)
        r.1.pushStatus bank r.2.1 r.2.2

/-! ### Delay lists (R198-R201) -/

/-- The lowest-numbered free place of the timer store (R201): the first number no armed timer holds. -/
def freePlace (d : Dev) : Nat :=
  ((List.range (d.jst.timers.length + 1)).find? (fun p => !d.jst.timers.any (fun t => t.place == p))).getD 65536

def tagOf (d : Dev) (place : Nat) : Nat :=
  match d.jst.tags.find? (fun t => t.1 == place) with | some t => t.2 | none => 0

/-- Ends an arm with a status and no ID (R198, R204). -/
def armRefused (d : Dev) (bank st : Nat) : Dev :=
  (d.put (Reg.JST_TMR_STATUS.id bank) 0).put (Reg.JST_TMR_STATUS.status bank) st

/-- Arms the staged timer of a master: the checks of R198 in order. -/
def armTimer (d : Dev) (bank : Nat) : Dev :=
  let delay := d.get (Reg.JST_TMR_CFG.delay bank)
  let flow := d.get (Reg.JST_TMR_FLOW.flow bank)
  let queue := d.get (Reg.JST_TMR_CFG.queue bank)
  let word := d.get (Reg.JST_TMR_DATA_HI.word bank) * 2 ^ 32 + d.get (Reg.JST_TMR_DATA_LO.word bank)
  if d.joistState ≠ ST_OK then d.armRefused bank d.joistState
  else if delay = 0 || flowReserved flow then d.armRefused bank ST_BAD_ARGUMENT
  else if d.jst.timers.length ≥ 65536 then
    (d.armRefused bank ST_REFUSED_FULL).offer Ev.TIMER_STORE_FULL [bank, queue]
  else
    let p := d.freePlace
    let tag := d.tagOf p % 255 + 1
    let d1 : Dev := { d with jst := { d.jst with
      timers := d.jst.timers ++ [{ place := p, tag := tag, release := d.beat.count + delay, order := d.jst.armOrder,
                                   queue := queue, flow := flow, word := word, leftOver := false }]
      tags := (p, tag) :: d.jst.tags.filter (fun t => t.1 != p)
      armOrder := d.jst.armOrder + 1 } }
    ((d1.put (Reg.JST_TMR_STATUS.id bank) (tag * 65536 + p)).put (Reg.JST_TMR_STATUS.status bank) ST_OK).put
      Reg.JST_TMR_COUNT.armed (d.jst.timers.length + 1)

/-- Removes a timer from the store. -/
def dropTimer (d : Dev) (t : Timer) : Dev :=
  { d with jst := { d.jst with timers := d.jst.timers.erase t } }.put Reg.JST_TMR_COUNT.armed
    (d.jst.timers.erase t).length

/-- Cancels a timer by its ID, or finds it stale (R201). -/
def cancelTimer (d : Dev) (bank id : Nat) : Dev :=
  match d.jst.timers.find? (fun t => t.tag * 65536 + t.place == id) with
  | some t => (d.dropTimer t).put (Reg.JST_TMR_STATUS.status bank) ST_OK
  | none => d.put (Reg.JST_TMR_STATUS.status bank) ST_STALE

/-- The timers that fall due at the beat opened, in the order of R199: those left over by the limit of an earlier boundary first;
then ascending queue, release beat and arm order. -/
def dueTimers (d : Dev) : List Timer :=
  sortBy (fun t => b2n (!t.leftOver)) (sortBy (fun t => t.queue) (sortBy (fun t => t.release) (sortBy (fun t => t.order)
    (d.jst.timers.filter (fun t => t.release ≤ d.beat.count)))))

/-- At a boundary the limit of releases begins anew; where it was reached, the due timers of every list that no queue stopped are
left over (R199). -/
def newReleases (d : Dev) : Dev :=
  { d with jst := { d.jst with
    timers := if d.jst.released < 4096 then d.jst.timers
      else d.jst.timers.map (fun t : Timer => { t with leftOver := t.leftOver || (t.release ≤ d.beat.count && !d.jst.stopped.contains t.queue) })
    released := 0, stopped := [] } }

end Dev

/-! ### The commands -/

/-- JST_PUSH_OPEN (R181): a write of JST_PUSH_HDR opens an item and clears the staged words and the HI halves written ahead. -/
def execJstPushOpen (t : Nat) (m : Master) (v : W32) (s : State) : Host.Outcome State Fault Refusal :=
  s.runAt t fun d =>
    let b := bankOf m
    let d0 := d.dropStage b
    let st : PushStage := ⟨b, bits v.toNat 25 20, bits v.toNat 19 0, bits v.toNat 28 26 + 1, List.replicate 8 0, false⟩
    let d1 := (List.range 8).foldl (fun (d : Dev) k => d.put (Reg.JST_PUSH_W.word b (2 * k + 1)) 0) d0
    { d1 with jst := { d1.jst with staging := d1.jst.staging ++ [st] } }.put (Reg.JST_PUSH_STATUS.open_f b) 1

/-- JST_PUSH_WORD (R181, R34): half-word `i` of the staging, HI staged until the write of LO commits both; ignored when no
item is open, or after a flush discarded the staged words (R195). -/
def execJstPushWord (t : Nat) (m : Master) (i : Fin 16) (v : W32) (s : State) : Host.Outcome State Fault Refusal :=
  s.runAt t fun d =>
    let b := bankOf m
    match d.stageOf b with
    | none => d
    | some st =>
      if st.flushed then d
      else if i.val % 2 = 1 then d.put (Reg.JST_PUSH_W.word b i.val) v.toNat
      else
        let hi := d.get (Reg.JST_PUSH_W.word b (i.val + 1))
        let st' := { st with words := modifyAt st.words (i.val / 2) (fun _ => hi * 2 ^ 32 + v.toNat) }
        let d1 := d.put (Reg.JST_PUSH_W.word b (i.val + 1)) 0
        { d1 with jst := { d1.jst with staging := d1.jst.staging.map (fun x => if x.bank = b then st' else x) } }

/-- JST_PUSH_COMMIT with commit (R181, R182). -/
def execJstPushCommit (t : Nat) (m : Master) (s : State) : Host.Outcome State Fault Refusal :=
  s.runAt t fun d => d.pushCommit (bankOf m)

/-- JST_PUSH_COMMIT with abandon (R181): the open item is discarded and the status kept. -/
def execJstPushAbandon (t : Nat) (m : Master) (s : State) : Host.Outcome State Fault Refusal :=
  s.runAt t fun d => (d.dropStage (bankOf m)).put (Reg.JST_PUSH_STATUS.open_f (bankOf m)) 0

/-- JST_GET (R185, R189): a load returns an item, the idle descriptor, or blocks; `irq` says that an interrupt is pending
and enabled for the core. -/
def execJstGet (t : Nat) (m : Master) (irq : Bool) (s : State) : Host.Outcome State Fault Refusal :=
  s.runAt t fun d =>
    match m with
    | .other _ => d.answerIdle (bankOf m)
    | .core n =>
      if (d.heldBy n.val).length ≥ 4 then (d.answerIdle n.val).raise Reg.JST_IRQ_STATUS.held_full
      else if !d.joistRuns then d.answerIdle n.val
      else if irq then d.answerIdle n.val
      else match d.takeFor n.val with
        | some d' => d'
        | none =>
          if d.jst.waiting.contains n.val then d
          else { d with jst := { d.jst with waiting := d.jst.waiting ++ [n.val] } }

/-- JST_GET_DELIVER (R185, R187): an item that has become available goes to the core that has waited longest among those
that may take one. -/
def execJstGetDeliver (t : Nat) (s : State) : Host.Outcome State Fault Refusal :=
  s.runAt t fun d =>
    match d.jst.waiting.findSome? (fun c => (d.takeFor c).map (fun d' => (c, d'))) with
    | some (c, d') => { d' with jst := { d'.jst with waiting := d'.jst.waiting.erase c } }
    | none => d

/-- JST_GET_INTERRUPTED (R185): the wait of a core ends with the idle descriptor. -/
def execJstGetInterrupted (t : Nat) (core : Fin 8) (s : State) : Host.Outcome State Fault Refusal :=
  s.runAt t fun d =>
    if d.jst.waiting.contains core.val then
      { d with jst := { d.jst with waiting := d.jst.waiting.erase core.val } }.answerIdle core.val
    else d

/-- JST_DONE (R188): releases the item of the hold buffer named when it is in service for the core with the same tag; any other value,
the idle descriptor included, is refused with event 0x0405. -/
def execJstDone (t : Nat) (m : Master) (v : W32) (s : State) : Host.Outcome State Fault Refusal :=
  s.runAt t fun d =>
    let b := bankOf m
    match d.jst.holds.find? (fun h => h.core == b && isCore m && h.buf == bits v.toNat 21 20 && h.item.tag == bits v.toNat 15 0 &&
        v != 0) with
    | some h =>
      let d1 : Dev := { d with jst := { d.jst with holds := d.jst.holds.erase h } }
      (d1.put (Reg.JST_DONE_STATUS.status b) ST_OK).put (Reg.JST_ITEM_SEL.in_use b)
        (sumOf (d1.heldBy b) (fun x => 2 ^ x.buf))
    | none =>
      ((d.put (Reg.JST_DONE_STATUS.status b) ST_BAD_ARGUMENT).raise Reg.JST_IRQ_STATUS.bad_done).offer Ev.BAD_DONE
        [b, v.toNat]

/-- JST_FLUSH (R194-R196): a write with go; ignored while a flush is under way. -/
def execJstFlush (t : Nat) (_m : Master) (queue : Fin 64) (s : State) : Host.Outcome State Fault Refusal :=
  s.runAt t fun d =>
    if d.flag Reg.JST_FLUSH_STATUS.busy then d else (d.flushQueue queue.val).put Reg.JST_FLUSH_STATUS.busy 1

/-- JST_FLUSH_DONE (R194): the flush completes. -/
def execJstFlushDone (t : Nat) (s : State) : Host.Outcome State Fault Refusal :=
  s.runAt t fun d =>
    if d.flag Reg.JST_FLUSH_STATUS.busy then
      ((d.put Reg.JST_FLUSH_STATUS.busy 0).raise Reg.JST_IRQ_STATUS.flush_done).offer Ev.QUEUE_FLUSHED
        [d.get Reg.JST_FLUSH_STATUS.queue, d.get Reg.JST_FLUSH_STATUS.discarded, d.jst.flushEids, 0]
    else d

/-- JST_TMR_ARM (R198). -/
def execJstTmrArm (t : Nat) (m : Master) (s : State) : Host.Outcome State Fault Refusal :=
  s.runAt t fun d => d.armTimer (bankOf m)

/-- JST_TMR_CANCEL (R201). -/
def execJstTmrCancel (t : Nat) (m : Master) (v : W32) (s : State) : Host.Outcome State Fault Refusal :=
  s.runAt t fun d => d.cancelTimer (bankOf m) (bits v.toNat 23 0)

/-- JST_TIMER_RELEASE (R199, R200): the next due timer is pushed as a one-word item, at most 4,096 at one boundary. A
release its queue refuses (every one, outside READY, SERVICE and HOLD: check 1 of R182) leaves the timer armed and stops its list
for the boundary. -/
def execJstTimerRelease (t : Nat) (s : State) : Host.Outcome State Fault Refusal :=
  s.runAt t fun d =>
    if d.jst.released ≥ 4096 then d
    else match d.dueTimers.find? (fun x => !d.jst.stopped.contains x.queue) with
      | none => d
      | some x =>
        let r := d.push x.queue x.flow producerTimers [x.word]
        if r.2.1 = ST_OK then
          { r.1.dropTimer x with jst := { (r.1.dropTimer x).jst with released := d.jst.released + 1 } }
        else
          let d1 : Dev := ((r.1.bump Reg.JST_TMR_DEFER.word).raise Reg.JST_IRQ_STATUS.tmr_deferred)
          { d1 with jst := { d1.jst with stopped := d1.jst.stopped ++ [x.queue] } }

end Sys2Proof.Machine
end

