-- ==== Sys2Proof/Machine/HostLink.lean ====
section
/-! DEFINITION. Host link and USB service port (R503-R514). -/

namespace Sys2Proof.Machine

/-- Items of a host-link FIFO (R503 introduction: 64 KiB each). -/
def hlDepth : Nat := 8192

/-- The idle item, all ones (R45, R505). -/
def hlIdle : Nat := 2 ^ 64 - 1

namespace Dev

def dnFill (d : Dev) : Nat := d.hlk.down.length
def upUnreleased (d : Dev) : Nat := d.hlk.up.length
def upUnread (d : Dev) : Nat := d.hlk.up.length - d.hlk.read

/-- The signals HL_DNHOLD and HL_UPRDY after a change of a fill (R510). -/
def hlSignals (d : Dev) : Dev :=
  let hold := if d.dnFill ≥ d.get Reg.HLK_DN_MARKS.high then true
    else if d.dnFill < d.get Reg.HLK_DN_MARKS.low then false else d.flag Reg.HLK_STATUS.dnhold
  let blocked := if d.upUnreleased ≥ d.get Reg.HLK_UP_MARKS.high then true
    else if d.upUnreleased < d.get Reg.HLK_UP_MARKS.low then false else d.hlk.upBlocked
  let timedOut := d.hlk.timedOut && d.upUnread != 0
  let rdy := if blocked || d.upUnread = 0 then false
    else if d.upUnread ≥ d.get Reg.HLK_UP_MARKS.low || timedOut then true else d.flag Reg.HLK_STATUS.uprdy
  ((((({ d with hlk := { d.hlk with upBlocked := blocked, timedOut := timedOut } } : Dev).putB
    Reg.HLK_STATUS.dnhold hold).putB Reg.HLK_STATUS.uprdy rdy).put Reg.HLK_FILL.dn_fill d.dnFill).put
    Reg.HLK_FILL.up_unreleased d.upUnreleased)

/-- Discards down items for a cause (R506, R509): 1 full, 2 reserved kind, 3 state. -/
def hlDrop (d : Dev) (n cause : Nat) : Dev :=
  ((({ d with hlk := { d.hlk with dropCause := cause } } : Dev).bump Reg.HLK_CNT.dn_dropped n).raise
    Reg.HLK_IRQ_STATUS.dropped).offer Ev.DOWN_DROPPED [cause, n]

/-- Appends a whole frame to the up FIFO if it fits (R507). -/
def upAppend (d : Dev) (items : List Nat) : Option Dev :=
  if d.hlk.up.length + items.length ≤ hlDepth then
    some (({ d with
      hlk := { d.hlk with up := d.hlk.up ++ items, upAt := d.hlk.upAt ++ items.map (fun _ => d.now) }, cyc := { d.cyc with upNew := d.cyc.upNew + items.length } } : Dev).hlSignals)
  else none

/-- The host-link lands run the host link (R519, R520). -/
def hlRuns (d : Dev) : Bool := d.alwaysDedicated (List.range' 32 8)

/-- Both FIFOs are emptied at an entry into BOOT (R508). -/
def hlReset (d : Dev) : Dev :=
  ({ d with hlk := { d.hlk with down := [], up := [], upAt := [], mark := 0, read := 0, timedOut := false, passed := 0 } } : Dev).hlSignals

/-- The USB port runs while VBUS is present and the RC oscillator is trimmed (R511, R304, R514); a start or an end of that writes
event 0x1401, and an end leaves the device neither configured nor suspended. -/
def usbShow (d : Dev) : Dev :=
  let on := d.hlk.vbus && d.flag Reg.CLK_STATUS.trimmed
  if on = d.flag Reg.USB_STATE.attached then d
  else
    let d1 := d.putB Reg.USB_STATE.attached on
    let d2 := if on then d1 else (d1.put Reg.USB_STATE.configured 0).put Reg.USB_STATE.suspended 0
    (d2.raise Reg.USB_IRQ_STATUS.attach).offer Ev.USB_ATTACHED [b2n on]

end Dev

/-- The items of 8 bytes of padded bytes. -/
def toItems (b : Bytes) : List Nat :=
  (List.range (pad8 b.length / 8)).map (fun i => fieldLE b (8 * i) 8)

/-- The kind of a frame header (R505). -/
def frameKind (h : Nat) : Nat := bits h 63 60

/-- Items that follow a header of kind JOIST or ENVELOPE whose reserved bits are 0; none for any other header. -/
def frameBody (h : Nat) : Option Nat :=
  if frameKind h = 1 && bits h 59 23 = 0 then some (bits h 22 20 + 1)
  else if frameKind h = 2 && bits h 59 14 = 0 && 16 ≤ bits h 13 0 && bits h 13 0 ≤ 8208 then
    some (ceilDiv (bits h 13 0) 8)
  else none

/-- The ENVELOPE frame of an envelope's bytes (R505, R66). -/
def envelopeFrame (b : Bytes) : List Nat := (2 * 2 ^ 60 + b.length) :: toItems b

/-- HL_WRITE (R504, R509): the whole items received join the down FIFO; one that finds it full is dropped. -/
def execHlWrite (t : Nat) (items : List (BitVec 64)) (s : State) : Host.Outcome State Fault Refusal :=
  s.runAt t fun d => d.when d.hlRuns fun d =>
    let room := hlDepth - d.hlk.down.length
    let got := items.take (min room 256)
    let lost := (items.take 256).length - got.length
    let d1 := ({ d with
      hlk := { d.hlk with down := d.hlk.down ++ got.map (·.toNat) }
      cyc := { d.cyc with downNew := d.cyc.downNew + got.length } } : Dev).hlSignals
    if lost = 0 then d1 else d1.hlDrop lost 1

/-- HL_READ (R504, R508): `n` items from the read pointer; beyond the unread items the idle item, which moves nothing. A frame that
joined in this cycle is unread from the next one (R45, R509). -/
def execHlRead (t n : Nat) (s : State) : Host.Outcome State Fault Refusal :=
  s.runAt t fun d => d.when d.hlRuns fun d =>
    let k := min n 256
    let out := (d.hlk.up.drop d.hlk.read).take (min k (d.upUnread - d.cyc.upNew))
    ({ d with hlk := { d.hlk with
      read := d.hlk.read + out.length
      sent := out ++ List.replicate (k - out.length) hlIdle } } : Dev).hlSignals

/-- HL_MARK (R504). -/
def execHlMark (t : Nat) (s : State) : Host.Outcome State Fault Refusal :=
  s.runAt t fun d => d.when d.hlRuns fun d => { d with hlk := { d.hlk with mark := d.hlk.read } }

/-- HL_REWIND (R504): the items from the mark on are unread again. -/
def execHlRewind (t : Nat) (s : State) : Host.Outcome State Fault Refusal :=
  s.runAt t fun d => d.when d.hlRuns fun d => ({ d with hlk := { d.hlk with
    read := d.hlk.mark
    upAt := d.hlk.upAt.mapIdx (fun i x => if d.hlk.mark ≤ i && i < d.hlk.read then d.now else x) } } : Dev).hlSignals

/-- HL_RELEASE (R504, R508): frees up to `n` items, at most up to the read pointer; a mark that is passed moves along. -/
def execHlRelease (t n : Nat) (s : State) : Host.Outcome State Fault Refusal :=
  s.runAt t fun d => d.when d.hlRuns fun d =>
    let k := min (min n 256) d.hlk.read
    if k = 0 then d
    else (({ d with hlk := { d.hlk with
      up := d.hlk.up.drop k, upAt := d.hlk.upAt.drop k, mark := d.hlk.mark - k, read := d.hlk.read - k } } : Dev).hlSignals).raise
        Reg.HLK_IRQ_STATUS.up_space

/-- HL_STATUS (R504): eight bytes of fills, status and drop cause. -/
def execHlStatus (t : Nat) (s : State) : Host.Outcome State Fault Refusal :=
  s.runAt t fun d => d.when d.hlRuns fun d => { d with hlk := { d.hlk with
    sent := [d.dnFill + d.upUnread * 2 ^ 16 + d.upUnreleased * 2 ^ 32 +
      bits (d.get Reg.HLK_STATUS.word) 7 0 * 2 ^ 48 + d.hlk.dropCause * 2 ^ 56] } }

/-- BAD_COMMAND (R504, R512). -/
def execBadCommand (t command : Nat) (s : State) : Host.Outcome State Fault Refusal :=
  s.runAt t fun d => d.when d.hlRuns fun d => ((d.bump Reg.HLK_CNT.bad_cmd).raise Reg.HLK_IRQ_STATUS.bad_cmd).offer Ev.BAD_COMMAND [command]

/-- HL_DOWN_FRAME (R506): the frame at the head of the down FIFO; items that joined in this cycle are not seen (R45). -/
def execHlDownFrame (t : Nat) (s : State) : Host.Outcome State Fault Refusal :=
  s.runAt t fun d =>
    match d.hlk.down.take (d.dnFill - d.cyc.downNew) with
    | [] => d
    | h :: rest =>
      let drop (d : Dev) (k : Nat) : Dev := ({ d with hlk := { d.hlk with down := d.hlk.down.drop k } } : Dev).hlSignals
      match frameBody h with
      | none => (drop d 1).hlDrop 1 2
      | some n =>
        if rest.length < n then d
        else if frameKind h = 2 then
          drop { d with hlk := { d.hlk with passed := d.hlk.passed + 1 } } (n + 1)
        else if !d.joistRuns then (drop d (n + 1)).hlDrop (n + 1) 3
        else
          let q := (d.jst.qcfg.findIdx? (fun c => c.hostDown)).getD 64
          let r := d.push q (bits h 19 0) producerHost (rest.take n)
          if r.2.1 = ST_REFUSED_FULL || r.2.1 = ST_FLUSHED then r.1
          else if r.2.1 = ST_OK then drop r.1 (n + 1)
          else (drop r.1 (n + 1)).hlDrop (n + 1) 2

/-- HL_UP_DATA (R507, R34): a write of HLK_UP_DATA_LO appends one item to the master's staging, at most 9. -/
def execHlUpData (t : Nat) (m : Master) (v : W32) (s : State) : Host.Outcome State Fault Refusal :=
  s.runAt t fun d =>
    let b := bankOf m
    let w := d.stagedHi b (Reg.HLK_UP_DATA_HI.word b) * 2 ^ 32 + v.toNat
    let old := match d.hlk.staging.find? (fun x => x.1 == b) with | some x => x.2 | none => []
    let d1 := d.stageHi b (Reg.HLK_UP_DATA_HI.word b) 0
    if old.length ≥ 9 then d1
    else { d1 with hlk := { d1.hlk with staging := (b, old ++ [w]) :: d1.hlk.staging.filter (fun x => x.1 != b) } }

/-- HL_UP_COMMIT (R507): the staged items become visible as one frame, or are refused whole: discarded with ST_REFUSED_FULL (R40),
left as they are with ST_BAD_ARGUMENT (R41). -/
def execHlUpCommit (t : Nat) (m : Master) (s : State) : Host.Outcome State Fault Refusal :=
  s.runAt t fun d =>
    let b := bankOf m
    let items := match d.hlk.staging.find? (fun x => x.1 == b) with | some x => x.2 | none => []
    let d0 : Dev := { d with hlk := { d.hlk with staging := d.hlk.staging.filter (fun x => x.1 != b) } }
    let whole := match items with | [] => false | h :: r => frameBody h == some r.length
    if !whole then d.put (Reg.HLK_UP_CTRL.status b) ST_BAD_ARGUMENT
    else match d0.upAppend items with
      | some d1 => d1.put (Reg.HLK_UP_CTRL.status b) ST_OK
      | none => d0.put (Reg.HLK_UP_CTRL.status b) ST_REFUSED_FULL

/-- HL_UP_ABANDON (R507, R513). -/
def execHlUpAbandon (t : Nat) (m : Master) (s : State) : Host.Outcome State Fault Refusal :=
  s.runAt t fun d => { d with hlk := { d.hlk with staging := d.hlk.staging.filter (fun x => x.1 != bankOf m) } }

/-- HL_UP_TIMEOUT (R510): an item has stayed unread for up_tmo; before that nothing happens. -/
def execHlUpTimeout (t : Nat) (s : State) : Host.Outcome State Fault Refusal :=
  s.runAt t fun d =>
    let due := (d.hlk.upAt.drop d.hlk.read).any (fun x => x + d.get Reg.HLK_UP_TMO.us * 1000 ≤ d.now)
    if d.get Reg.HLK_UP_TMO.us = 0 || d.upUnread = 0 || !due then d
    else ({ d with hlk := { d.hlk with timedOut := true } } : Dev).hlSignals

/-- USB_ATTACHED (R511, R512, R514): VBUS comes or goes. -/
def execUsbAttached (t : Nat) (attached : Bool) (s : State) : Host.Outcome State Fault Refusal :=
  s.runAt t fun d => ({ d with hlk := { d.hlk with vbus := attached } } : Dev).usbShow

/-- USB_SUSPEND (R511): the bus is suspended or resumed, on a port that runs. -/
def execUsbSuspend (t : Nat) (suspended : Bool) (s : State) : Host.Outcome State Fault Refusal :=
  s.runAt t fun d => if d.flag Reg.USB_STATE.attached then d.putB Reg.USB_STATE.suspended suspended else d

end Sys2Proof.Machine
end

