-- ==== Sys2Proof/Machine/Keys.lean ====
section
/-! DEFINITION. The key vault's shared operations: which keys are in force, what a master may do with them, slots, and the
KDF (R428-R440). -/

namespace Sys2Proof.Machine

/-- Master bits of a blob (R432). -/
def masterAppSecure := 0
def masterAppNormal := 1
def masterSC := 2
def masterRadio := 3
def masterTrunk := 4
def masterUpdate := 5
def masterHost := 6

/-- Usage bits of a blob (R432). -/
def useCommandMac := 0
def useCutVerify := 1
def useFwVerify := 2
def useRadioLink := 3
def useTrunkLink := 4
def useBroadcast := 5
def useClass0 := 6
def usePairLease := 7
def useMacsec := 8
def useKeyImport := 9
def useDerive := 10
def useAppEncrypt := 11
def useAppMac := 12
def useAppSign := 13
def useLifecycle := 14

/-- The master of a command channel (R433). -/
def chanMaster : Chan → Nat
  | .hostLink => masterHost
  | _ => masterSC

/-- The two keys of Hiornian's own (R430). -/
def fixedBlob (id : Nat) : Option Blob :=
  if id = 0xFF01 then
    some ⟨0xFF01, 0, 1, 5, 2 ^ masterUpdate, 2 ^ useFwVerify, 7, Config.firmwareKey, true⟩
  else if id = 0xFF10 then
    some ⟨0xFF10, 0, 1, 3, 2 ^ masterSC + 2 ^ masterHost, 2 ^ useCommandMac + 2 ^ useKeyImport, 1,
      Config.commissioningKey, true⟩
  else none

/-- Where a key stands (R434, R435): in force with its blob; invalidated, or excluded by its parent chain; or never in
force. -/
inductive KeyStanding where
  | inForce (b : Blob)
  | orphaned
  | absent
deriving DecidableEq, Repr

/-- NIST SP 800-108 in counter mode with HMAC-SHA-256 (R428): label, context, output bits. -/
def kdf (key label context : Bytes) (bits : Nat) : Bytes :=
  ((List.range (ceilDiv bits 256)).flatMap (fun i =>
    Config.hmac key (toBE 4 (i + 1) ++ label ++ [0] ++ context ++ toBE 4 bits))).take (bits / 8)

/-- The ASCII bytes of a label. -/
def ascii (s : String) : Bytes := s.toList.map (fun c => BitVec.ofNat 8 c.toNat)

/-- The unit ID, little-endian (R428). -/
def unitIdBytes : Bytes := toLE 8 Config.unitId.toNat

namespace Dev

/-- The key's pointer record in force: parent, generation, blob slot (R435). -/
def pointer (d : Dev) (id : Nat) : Option (Nat × Nat × Nat) :=
  match d.inForce 0x0020 id with
  | some (.keyPointer _ p g s _) => some (p, g, s)
  | _ => none

def blobAt (d : Dev) (slot : Nat) : Option Blob := (d.key.blobs.find? (fun b => b.1 == slot)).map (·.2)

/-- The life-cycle state in force permits the key (R434, R444); the firmware key is permitted in every state (R430). -/
def lcsPermits (d : Dev) (b : Blob) : Bool :=
  b.keyId == 0xFF01 || (1 ≤ d.key.lcs && d.key.lcs ≤ 3 && bit b.lcs (d.key.lcs - 1))

/-- Where a key stands, life-cycle exclusion of the key itself apart, following its parent chain (R434, R435); the chain is no longer than the table's 320 keys. -/
def standing (d : Dev) : Nat → Nat → KeyStanding
  | 0, _ => .absent
  | fuel + 1, id =>
    match fixedBlob id with
    | some b => .inForce b
    | none =>
      match d.pointer id with
      | none => .absent
      | some (parent, _, slot) =>
        if slot = 0xFFFF then .orphaned
        else match d.blobAt slot with
          | none => .absent
          | some b =>
            if !b.ok then .absent
            else if parent = 0 then .inForce b
            else match d.standing fuel parent with
              | .inForce p => if d.lcsPermits p then .inForce b else .orphaned
              | _ => .orphaned

/-- Where a key stands: one that the life-cycle state excludes has left force (R444). -/
def keyStanding (d : Dev) (id : Nat) : KeyStanding :=
  match d.standing 321 id with
  | .inForce b => if d.lcsPermits b then .inForce b else .absent
  | k => k

/-- The key as new operations use it: a slot that keeps the old generation up to the boundary gives that one, attributes and all
(R440). -/
def slotBlob (d : Dev) (b : Blob) : Blob :=
  match d.key.slots.find? (fun s => s.blob.keyId == b.keyId && !s.orphaned) with
  | some s => s.blob
  | none => b

def keyBytes (d : Dev) (b : Blob) : Bytes := (d.slotBlob b).key

/-- The status of R434 for an operation on a key, and its blob when permitted. -/
def permit (d : Dev) (id master usage : Nat) : Nat × Option Blob :=
  match d.keyStanding id with
  | .orphaned => (ST_ORPHANED, none)
  | .absent => (ST_NOT_PERMITTED, none)
  | .inForce b =>
    let x := d.slotBlob b
    if bit x.masters master && bit x.usages usage && d.lcsPermits x then (ST_OK, some x) else (ST_NOT_PERMITTED, none)

/-- Shows the slot counts in KEY_STATUS (R448). -/
def showSlots (d : Dev) : Dev :=
  (d.put Reg.KEY_STATUS.loaded d.key.slots.length).put Reg.KEY_STATUS.pinned
    (d.key.slots.filter (fun s => s.pinned)).length

/-- The lowest slot number not in use. -/
def freeKeySlot (d : Dev) : Option Nat :=
  (List.range 64).find? (fun i => !d.key.slots.any (fun s => s.slot == i))

/-- The least recently used slot with no operation under way that is not pinned (R438). -/
def evictable (d : Dev) : Option KeySlot :=
  (sortBy (fun s : KeySlot => s.used) (d.key.slots.filter (fun s => s.ops == 0 && !s.pinned))).head?

/-- Class-0 keys and keys with usage command MAC or pair lease are pinned (R438). -/
def pins (b : Blob) : Bool := bit b.usages useCommandMac || bit b.usages usePairLease || bit b.usages useClass0

/-- A key takes a pinned slot: at most 32 slots are pinned (R438). -/
def pinsNow (d : Dev) (b : Blob) : Bool := pins b && decide ((d.key.slots.filter (fun s => s.pinned)).length < 32)

/-- Loads a key into a slot, evicting where it must; none when every slot is busy or pinned (R438). -/
def loadKey (d : Dev) (b : Blob) : Option (Nat × Dev) :=
  match d.key.slots.find? (fun s => s.blob.keyId == b.keyId && !s.orphaned) with
  | some s =>
    some (s.slot, { d with key := { d.key with
      slots := d.key.slots.map (fun x => if x.slot = s.slot then { x with used := d.key.useClock } else x)
      useClock := d.key.useClock + 1 } })
  | none =>
    let into (i : Nat) (keep : List KeySlot) : Nat × Dev :=
      (i, (({ d with key := { d.key with
        slots := keep ++ [{ slot := i, blob := b, pinned := d.pinsNow b, orphaned := false, byLcs := false, ops := 0,
                            used := d.key.useClock, reload := false }]
        useClock := d.key.useClock + 1 } } : Dev).showSlots).bump Reg.KEY_CNT.loads)
    match d.freeKeySlot with
    | some i => some (into i d.key.slots)
    | none =>
      match d.evictable with
      | some s => some (into s.slot (d.key.slots.filter (fun x => x.slot != s.slot)))
      | none => none

/-- Loads those of the keys that are in force, as far as slots go (R438). -/
def loadKeys (d : Dev) (l : List Nat) : Dev :=
  l.foldl (fun (d : Dev) k => match d.keyStanding k with
    | .inForce b => (match d.loadKey b with | some r => r.2 | none => d)
    | _ => d) d

/-- A refused use of a key (R434): event 0x0F05, and 0x0F06 when its blob did not open. -/
def keyRefused (d : Dev) (id master usage : Nat) : Dev :=
  let bad := match d.pointer id with
    | some (_, _, s) => match d.blobAt s with | some b => !b.ok | none => false
    | none => false
  let d1 := ((d.bump Reg.KEY_CNT.refused).raise Reg.KEY_IRQ_STATUS.refused).offer Ev.USE_REFUSED [id, master, usage]
  if bad then d1.offer Ev.BLOB_INTEGRITY [id, match d.pointer id with | some (_, _, s) => s | none => 0] else d1

/-- An operation on a key that is complete within the step: the status of R434, the key's bytes when permitted, and the
state with its slot used or the refusal written. -/
def useKey (d : Dev) (id master usage : Nat) : Nat × Bytes × Dev :=
  match d.permit id master usage with
  | (st, some b) =>
    (st, d.keyBytes b, match d.loadKey b with | some (_, d') => d' | none => d)
  | (st, none) => (st, [], d.keyRefused id master usage)

/-- The key IDs with a pointer record in force (R435). -/
def pointerIds (d : Dev) : List Nat :=
  d.sil.recs.filterMap (fun r => match r.val with | .keyPointer k _ _ _ _ => some k | _ => none)

/-- A blob slot that no record in force names (R436). -/
def freeBlobSlot (d : Dev) : Option Nat :=
  let named := d.sil.recs.filterMap (fun r => match r.val with | .keyPointer _ _ _ s _ => some s | _ => none)
  (List.range 1984).find? (fun i => !named.contains i)

/-- Descendants of a key: keys in the table whose parent chain reaches it (R437). -/
def descendsFrom (d : Dev) : Nat → Nat → Nat → Bool
  | 0, _, _ => false
  | fuel + 1, id, anc =>
    match d.pointer id with
    | none => false
    | some (p, _, _) => p != 0 && (p == anc || d.descendsFrom fuel p anc)

/-- The keys of the table that the vault pins (R438). -/
def pinnable (d : Dev) : List Nat :=
  d.pointerIds.filter (fun k => match d.keyStanding k with | .inForce b => pins b | _ => false)

/-- A key has left force: the slots whose key has are orphaned (R439). -/
def orphanSlots (dv : Dev) (byLcs : Bool) : Dev :=
  let d : Dev := { dv with key := { dv.key with left := true } }
  let hit (s : KeySlot) : Bool := !s.orphaned && (match d.keyStanding s.blob.keyId with
    | .inForce _ => false
    | _ => true)
  let n := (d.key.slots.filter hit).length
  if n = 0 then d
  else { d with key := { d.key with slots := d.key.slots.map (fun s : KeySlot =>
      if hit s then { s with orphaned := true, byLcs := byLcs } else s) } }.raise Reg.KEY_IRQ_STATUS.orphaned

end Dev

end Sys2Proof.Machine
end

