-- ==== Sys2Proof/Machine/Operands.lean ====
section
/-! DEFINITION. Operand forms: the command envelope's bytes and the payload layouts of the commands (R65, R66, R59, R88,
R130, R135, R282, R384, R441, R443). -/

namespace Sys2Proof.Machine

/-- The envelope magic (R65). -/
def envelopeMagic : Nat := 0x5154

/-- The largest payload (R65). -/
def maxPayload : Nat := 8192

/-- Bytes 0-11 of an envelope's header (R65). -/
def headerBytes (magic version code seq length keyId : Nat) : Bytes :=
  toLE 2 magic ++ toLE 1 version ++ toLE 1 code ++ toLE 4 seq ++ toLE 2 length ++ toLE 2 keyId

end Sys2Proof.Machine

namespace Sys2Proof

open Machine

/-- The payload proper: on the host link the bytes received are padded (R66). -/
def Envelope.body (e : Envelope) : Bytes := e.payload.take e.length

/-- The length field matches the bytes received (R66, R67 check 3). -/
def Envelope.lengthOk (e : Envelope) : Bool :=
  e.length ≤ maxPayload &&
    (if e.chan = .hostLink then 16 + e.payload.length == pad8 (16 + e.length) else e.payload.length == e.length)

/-- The bytes an envelope's MAC covers (R65). -/
def Envelope.macInput (e : Envelope) (code : Nat) : Bytes :=
  headerBytes e.magic e.version code e.seq e.length e.keyId ++ e.body

end Sys2Proof

namespace Sys2Proof.Machine

/-- CUT_STAGE (R88). -/
structure StageArgs where
  target : Nat
  reset : Nat
  offset : Nat
  data : Bytes
deriving DecidableEq, Repr

def stageArgs (p : Bytes) : StageArgs := ⟨byteAt p 0, byteAt p 1, fieldLE p 4 4, p.drop 8⟩

/-- OVERRIDE_C1 (R130). -/
structure C1Args where
  action : Nat
  scope : Nat
  id : Nat
  level : Nat
  duration : Nat
deriving DecidableEq, Repr

def c1Args (p : Bytes) : C1Args := ⟨byteAt p 0, byteAt p 1, fieldLE p 4 4, fieldLE p 8 2, fieldLE p 12 4⟩

/-- TIME_SET and FORCE_TIME (R282). -/
structure TimeArgs where
  absolute : Bool
  setUtc : Bool
  utcOffset : Int
  value : Nat
  ns : Nat
deriving DecidableEq, Repr

def timeArgs (p : Bytes) : TimeArgs :=
  ⟨byteAt p 0 == 1, bit (byteAt p 1) 0, sext 16 (fieldLE p 2 2), fieldLE p 4 8, fieldLE p 12 4⟩

/-- READ_EVENTS (R384). -/
structure ReadEventsArgs where
  start : Nat
  max : Nat
  minSev : Nat
deriving DecidableEq, Repr

def readEventsArgs (p : Bytes) : ReadEventsArgs := ⟨fieldLE p 0 4, fieldLE p 4 2, byteAt p 6⟩

/-- KEY_UPDATE (R441). -/
structure KeyUpdArgs where
  op : Nat
  keyId : Nat
  parentId : Nat
  typ : Nat
  masters : Nat
  usages : Nat
  lcs : Nat
  generation : Nat
  eph : Bytes
  wlen : Nat
  wrapped : Bytes
deriving DecidableEq, Repr

def keyUpdArgs (p : Bytes) : KeyUpdArgs :=
  ⟨byteAt p 0, fieldLE p 2 2, fieldLE p 4 2, byteAt p 6, byteAt p 7, fieldLE p 8 2, byteAt p 10, fieldLE p 12 4,
    slice p 16 64, fieldLE p 80 2, slice p 82 72⟩

end Sys2Proof.Machine
end

