-- ==== Sys2Proof/Machine/Command.lean ====
section
/-! DEFINITION. The command port: the ordered checks of R67, the repeat rule of R68, the legality matrix of R71, the
answers of R66, and transitions between module states (R62). -/

namespace Sys2Proof.Machine

/-- Command codes (R65 table of commands). -/
def cmdGetStatus := 0x01
def cmdReadEvents := 0x02
def cmdReset := 0x03
def cmdStart := 0x04
def cmdStop := 0x05
def cmdShutdown := 0x06
def cmdCutStage := 0x10
def cmdCutLoad := 0x11
def cmdCutPatch := 0x12
def cmdSetPasses := 0x13
def cmdOverrideC1 := 0x20
def cmdClass0 := 0x21
def cmdTimeSet := 0x30
def cmdForceTime := 0x31
def cmdFwStage := 0x40
def cmdActivate := 0x41
def cmdPairTakeover := 0x50
def cmdPairDemote := 0x51
def cmdKeyUpdate := 0x60
def cmdKeyInvalidate := 0x61
def cmdMeterSnapshot := 0x70

/-- The rows of the legality matrix (R71), one truth value per column BOOT, UNFRAMED, READY, SOLO or ACTIVE, STANDBY, HOLD,
TEST, FAILSAFE; none for a code that is not defined. -/
def matrixRow (code : Nat) : Option (List Bool) :=
  let y := true
  let n := false
  if code = 0x01 then some [y, y, y, y, y, y, y, y]
  else if code = 0x02 then some [n, y, y, y, y, y, y, y]
  else if code = 0x03 then some [y, y, y, y, y, y, y, y]
  else if code = 0x04 then some [n, n, y, n, n, n, n, n]
  else if code = 0x05 then some [n, n, n, y, y, n, n, n]
  else if code = 0x06 then some [n, y, y, y, y, n, n, y]
  else if code = 0x10 then some [n, y, y, y, n, n, n, n]
  else if code = 0x11 then some [n, y, y, y, n, n, n, n]
  else if code = 0x12 then some [n, n, y, y, n, n, n, n]
  else if code = 0x13 then some [n, n, y, y, n, n, n, n]
  else if code = 0x20 then some [n, n, n, y, n, n, n, n]
  else if code = 0x21 then some [y, n, y, y, y, y, y, y]
  else if code = 0x30 then some [n, y, y, y, n, n, n, n]
  else if code = 0x31 then some [n, y, y, y, n, n, n, n]
  else if code = 0x40 then some [n, y, y, y, y, n, n, y]
  else if code = 0x41 then some [n, y, y, y, y, n, n, n]
  else if code = 0x50 then some [n, n, n, n, y, n, y, n]
  else if code = 0x51 then some [n, n, n, y, n, n, n, n]
  else if code = 0x60 then some [n, y, y, y, y, n, n, n]
  else if code = 0x61 then some [n, y, y, y, y, n, n, n]
  else if code = 0x70 then some [n, n, y, y, y, n, n, n]
  else none

namespace Dev

/-- The column of the matrix for the present state and role (R71); none in OFF, where no command is taken. -/
def matrixColumn (d : Dev) : Option Nat :=
  match d.sys.mstate with
  | .off => none
  | .boot => some 0
  | .unframed => some 1
  | .ready => some 2
  | .service => if d.sys.role = .solo || d.sys.role = .active then some 3 else some 4
  | .hold => some 5
  | .test => some 6
  | .failsafe => some 7

/-- The 40 MHz source runs (R71 footnote 4). -/
def mainClockRuns (d : Dev) : Bool := d.flag Reg.CLK_STATUS.xtal40_ok && d.flag Reg.CLK_STATUS.pll_lock

/-- The SAFETY section is present with the Lintel (R22, R71 footnote 1). -/
def safetyPresent (d : Dev) : Bool := d.lin.safety.isSome

/-- A CUT_LOAD or ACTIVATE is pending (R70). -/
def loadOrActivatePending (d : Dev) : Bool := d.cut.load.isSome || d.fwu.activating.isSome

/-- The refusals of R70, R101 and R471 at check 8. -/
def refusedPending (d : Dev) (code : Nat) : Bool :=
  (d.loadOrActivatePending && (code == cmdCutStage || code == cmdCutLoad || code == cmdCutPatch || code == cmdActivate))
  || (d.cut.patch.isSome && (code == cmdCutLoad || code == cmdCutPatch || code == cmdCutStage))
  || (code == cmdFwStage && (d.fwu.activating.isSome || d.fwu.committing.isSome))

/-- Check 8 of R67: the matrix with its footnotes (R71), R70, and the refusals of ACTIVATE (R475, R480). -/
def legal (d : Dev) (code : Nat) (body : Bytes) : Bool :=
  match matrixRow code, d.matrixColumn with
  | some row, some col =>
    row.getD col false
    && !(code == cmdClass0 && col == 0 && !d.safetyPresent)
    && !(code == cmdPairTakeover && (d.sys.role == .syncing || d.sys.role == .ineligible))
    && !(code == cmdPairTakeover && col == 6 && !(match d.bst.test with | some r => r.fromStandby | none => false))
    && !(code == cmdPairDemote && !(d.sys.role == .active && d.pair.peerRole == .standby && d.pair.peerUp))
    && !(code == cmdShutdown && col == 7 && bit (byteAt body 0) 0 && !d.mainClockRuns)
    && !(code == cmdActivate && (d.fwu.other != .verified || (d.sys.role == .active && !(d.pair.peerRole == .standby && d.pair.peerUp) &&
      !bit (byteAt body 0) 1)))
    && !d.refusedPending code
  | _, _ => false

/-! ### Answers (R66, R68) -/

/-- The bytes of an answer (R66): code with bit 7 set, payload byte 0 the status. -/
def answerBytes (a : Answer) : Bytes :=
  headerBytes envelopeMagic 1 (a.code % 128 + 128) a.seq (1 + a.result.length) a.keyId ++ toLE 4 a.mac ++
    toLE 1 a.status ++ a.result

/-- The items that carry an answer to the firmware channel: its bytes, padded to whole words, in items of up to 8 words (R180;
notes/assumptions/48). -/
def answerItems (a : Answer) : List (Nat × List Nat) :=
  let words := toItems (answerBytes a)
  (List.range (ceilDiv words.length 8)).map (fun k => (a.route, (words.drop (8 * k)).take 8))

/-- Pushes items of answers in order as the safety controller, flow 0xF_0000; one that a full or flushing queue refuses is held,
and with it those after it (R184). -/
def pushItems (d : Dev) (l : List (Nat × List Nat)) : Dev :=
  l.foldl (fun (d : Dev) x =>
    let hold (d : Dev) : Dev := { d with sys := { d.sys with heldItems := d.sys.heldItems ++ [x] } }
    if !d.sys.heldItems.isEmpty then hold d
    else
      let r := d.push x.1 0xF0000 producerSC x.2
      if r.2.1 = ST_REFUSED_FULL || r.2.1 = ST_FLUSHED then hold r.1 else r.1) d

/-- Sends an answer on its channel: the last answer of each channel is kept; on the host link it joins the up FIFO as one frame,
or waits for room, and on the firmware channel it goes to the queue that the command's response routing names (R66, R184, R507;
notes/assumptions/12). -/
def send (d : Dev) (a : Answer) : Dev :=
  let d1 : Dev := { d with sys := { d.sys with answers := a :: d.sys.answers.filter (fun x => x.chan != a.chan) } }
  match a.chan with
  | .hostLink =>
    match d1.upAppend (envelopeFrame (answerBytes a)) with
    | some d2 => d2
    | none => { d1 with sys := { d1.sys with heldAnswers := d1.sys.heldAnswers ++ [a] } }
  | .firmware => d1.pushItems (answerItems a)
  | _ => d1

/-- Offers the held answers again at a boundary, in order, until one finds no room (R184). -/
def sendHeld (d : Dev) : Dev :=
  let d := ({ d with sys := { d.sys with heldItems := [] } } : Dev).pushItems d.sys.heldItems
  d.sys.heldAnswers.foldl (fun d a =>
    match d.sys.heldAnswers with
    | h :: r =>
      if h = a then
        match d.upAppend (envelopeFrame (answerBytes a)) with
        | some d2 => { d2 with sys := { d2.sys with heldAnswers := r } }
        | none => d
      else d
    | [] => d) d

/-- The first 4 bytes of HMAC-SHA-256 as a number (R65). -/
def mac4 (key msg : Bytes) : Nat := fieldLE (Config.hmac key msg) 0 4

/-- An answer MACed under the request's key (R66). -/
def maced (d : Dev) (a : Answer) : Answer :=
  match d.keyStanding a.keyId with
  | .inForce b =>
    if a.keyId = 0 then a
    else { a with mac := mac4 (d.keyBytes b) (headerBytes envelopeMagic 1 (a.code % 128 + 128) a.seq (1 + a.result.length)
      a.keyId ++ toLE 1 a.status ++ a.result) }
  | _ => a

/-- Records a sequence and its response, before the answer (R68); nothing for key_id 0. -/
def recordSeq (d : Dev) (a : Answer) (mac : Nat) : Dev :=
  if a.keyId = 0 then d else d.commit (.cmdSeq a.keyId a.seq mac a.status a.result a.code)

/-- The record of the last accepted sequence of a key (R68): sequence, MAC, status, result. -/
def lastSeq (d : Dev) (keyId : Nat) : Option (Nat × Nat × Nat × Bytes) :=
  match d.inForce 0x0011 keyId with
  | some (.cmdSeq _ s m st r _) => some (s, m, st, r)
  | _ => none

/-- Event 0x0011 of a legality refusal (R72). -/
def illegalEvent (d : Dev) (e : Envelope) (code : Nat) : Dev :=
  d.offer Ev.ILLEGAL_STATE [match e.chan with | .hostLink => 0 | .uplink => 1 | .usb => 2 | .firmware => 3, code,
    d.sys.mstate.code, d.sys.role.code, e.keyId, e.seq]

/-- Check 6 of R67: key_id 0 is permitted GET_STATUS alone; KEY_UPDATE needs the usages of R441. -/
def keyPermits (d : Dev) (e : Envelope) (code : Nat) : Bool :=
  if e.keyId = 0 then code == cmdGetStatus
  else if code = cmdKeyUpdate then
    match d.keyStanding e.keyId with
    | .inForce b =>
      if byteAt e.body 0 = 3 then bit b.usages useLifecycle
      else if byteAt e.body 0 = 1 || byteAt e.body 0 = 2 then bit b.usages useKeyImport else true
    | _ => false
  else true

/-- The channel can have carried the envelope: the host link has passed a frame to the command port (R506), and the service port is
attached and not suspended (R511, R514). -/
def carried (d : Dev) (e : Envelope) : Bool :=
  match e.chan with
  | .hostLink => d.hlk.passed != 0
  | .usb => d.flag Reg.USB_STATE.attached && !d.flag Reg.USB_STATE.suspended
  | _ => true

/-- The item that carried a command of the firmware channel, or the frame that carried one of the host link, is released
when the command has been executed (R188, R506). DEDUCED (notes/assumptions/54): a host that sends over a bulk endpoint has configured
the device. -/
def releaseCarrier (d : Dev) (e : Envelope) : Dev :=
  match e.chan with
  | .firmware => match d.takeForConsumer 0xFE with
    | some (i, d') => d'.endService 0xFE i
    | none => d
  | .hostLink => { d with hlk := { d.hlk with passed := d.hlk.passed - 1 } }
  | .usb => d.put Reg.USB_STATE.configured 1
  | .uplink => d

end Dev

/-- What a command's own effect gives: the state, and the status with its result bytes; no status when the answer comes
later (R101). -/
structure Done where
  dev : Dev
  status : Nat
  result : Bytes := []
  answered : Bool := true

/-- How a command is judged and run: its code, check 9, check 10, and its effect. The effect is given the answer to be
completed later where it answers later. -/
structure CmdSpec where
  code : Nat
  argsOk : Dev → Bytes → Bool
  underTest : Dev → Bool := fun _ => false
  effect : Dev → Envelope → Done

namespace Dev

/-- The answer's frame for a request. -/
def answerTo (e : Envelope) (code status : Nat) (result : Bytes := []) : Answer :=
  ⟨e.chan, code, e.seq, e.keyId, status, result, 0, e.route⟩

/-- A refusal at checks 6 to 10: its sequence is consumed and the refusal recorded (R68). -/
def refuseRecorded (d : Dev) (e : Envelope) (code status : Nat) : Dev :=
  let a := d.maced (answerTo e code status)
  (d.recordSeq a e.mac).send a

/-- The checks 6 to 10 of R67 and then the command's effect and answer. -/
def judge (d : Dev) (c : CmdSpec) (e : Envelope) : Dev :=
  if !d.keyPermits e c.code then d.refuseRecorded e c.code ST_NOT_PERMITTED
  else if (matrixRow c.code).isNone then d.refuseRecorded e c.code ST_BAD_ARGUMENT
  else if !d.legal c.code e.body then (d.illegalEvent e c.code).refuseRecorded e c.code ST_ILLEGAL_STATE
  else if !c.argsOk d e.body then d.refuseRecorded e c.code ST_BAD_ARGUMENT
  else if c.underTest d then d.refuseRecorded e c.code ST_BUSY_TEST
  else
    let r := c.effect d e
    let a := d.maced (answerTo e c.code (if r.answered then r.status else ST_PENDING) r.result)
    let d1 := r.dev.recordSeq a e.mac
    if r.answered then d1.send a else d1

/-- Check 4 of R67: the key is permitted and the MAC matches; key_id 0 passes with mac 0. The state shows a refused use of
the key. -/
def macCheck (d : Dev) (e : Envelope) (code : Nat) : Bool × Dev :=
  if e.keyId = 0 then (e.mac == 0, d)
  else match d.useKey e.keyId (chanMaster e.chan) useCommandMac with
    | (st, key, d') => (st == ST_OK && mac4 key (e.macInput code) == e.mac, d')

/-- The command port (R67-R69): the ordered checks, the repeat rule, and the command's effect. No command is taken in OFF. -/
def command (d : Dev) (c : CmdSpec) (e : Envelope) : Dev :=
  if d.sys.mstate = .off || d.pwr.stopped || d.pwr.pf.isSome || !d.carried e then d
  else if e.magic ≠ envelopeMagic then (d.releaseCarrier e).bump Reg.SYS_CMD_BAD.word
  else if e.version ≠ 1 then (d.releaseCarrier e).send (answerTo e c.code ST_VERSION)
  else if !e.lengthOk then (d.releaseCarrier e).send (answerTo e c.code ST_BAD_ARGUMENT)
  else match (d.releaseCarrier e).macCheck e c.code with
    | (false, d1) =>
      (d1.offer Ev.CMD_INTEGRITY [c.code, e.keyId, e.seq]).send (answerTo e c.code ST_INTEGRITY)
    | (true, d1) =>
      if e.keyId = 0 then d1.judge c e
      else match d1.lastSeq e.keyId with
        | none => d1.judge c e
        | some (s, m, st, r) =>
          if laterMod 32 e.seq s then d1.judge c e
          else if e.seq = s && e.mac = m then d1.send (d1.maced (answerTo e c.code st r))
          else d1.send (d1.maced (answerTo e c.code ST_STALE))

/-! ### Module states (R62) -/

/-- The state and role shown on lands (R521): SVC_OK high only in SERVICE, ROLE only as SOLO or ACTIVE once the module has left
BOOT, FAILSAFE_N low in FAILSAFE, under RST_N and in the safe states of R306. -/
def showLands (d : Dev) : Dev :=
  { d with lnd := { d.lnd with
    svcOk := d.sys.mstate == .service && !d.lnd.safe
    role := d.isState [.unframed, .ready, .service, .hold, .test] && (d.sys.role == .solo || d.sys.role == .active) && !d.lnd.safe
    failsafeN := d.sys.mstate != .failsafe && !d.lnd.safe && !d.pwr.rstLow } }

/-- A transition of R62, with its event; leaving the states in which the Joist runs ends every blocked load (R185). -/
def goto (d : Dev) (s : ModState) (cause : Nat) : Dev :=
  let d1 := (({ d with sys := { d.sys with mstate := s } } : Dev).put Reg.SYS_STATUS.state s.code).offer Ev.STATE_CHANGE
    [d.sys.mstate.code, s.code, cause]
  let d2 := (d1.putB Reg.JST_STATUS.running (d1.joistRuns)).showLands
  if d2.joistRuns then d2 else d2.endWaits

/-- A role is taken: its code is shown, and the pulse outputs of a module that is neither SOLO nor ACTIVE open (R36, R362). -/
def setRole (d : Dev) (r : Role) : Dev :=
  ((({ d with sys := { d.sys with role := r } } : Dev).put Reg.SYS_STATUS.role r.code).when (r != .solo && r != .active) (fun d =>
    d.put Reg.MTR_STATUS.pout_active 0)).showLands

/-- Shows the media on which the class-0 bound is suspended (R36). -/
def setSuspended (d : Dev) (media : Nat) : Dev :=
  (d.put Reg.SYS_C0_SUSPEND.media media).putB Reg.SYS_STATUS.c0_suspended (media != 0)

end Dev

/-- Causes of a transition, as event 0x0001 carries them; the spec gives no encoding (notes/assumptions/9). -/
def causePower := 0
def causeBoot := 1
def causeCommand := 2
def causeLoad := 3
def causeActivate := 4
def causeTests := 5
def causeClock := 6
def causeReset := 7
def causeWatchdog := 8
def causePowerFail := 9
def causeBootFail := 10
def causeTakeover := 11

/-- The payload is empty. -/
def noArgs (_ : Dev) (p : Bytes) : Bool := p.isEmpty

/-- GET_STATUS's 24 result bytes (R73). -/
def statusRecord (d : Dev) : Bytes :=
  toLE 1 d.sys.mstate.code ++ toLE 1 d.sys.role.code ++
  toLE 1 (d.get Reg.SYS_STATUS.ledger_complete + 2 * d.get Reg.SYS_STATUS.c0_suspended +
    4 * d.get Reg.SYS_STATUS.degraded + 8 * d.get Reg.SYS_STATUS.hold_pending) ++
  toLE 1 (d.get Reg.BEAT_PASSES.passes_now) ++ toLE 8 d.beat.count ++
  toLE 8 (match d.cut.image with | some i => i.header.cutId | none => 0) ++
  toLE 1 d.epoch ++ toBE 2 d.sys.fwVersion ++ [0]

/-- GET_STATUS (R73). -/
def specGetStatus : CmdSpec := ⟨cmdGetStatus, noArgs, fun _ => false, fun d _ => ⟨d, ST_OK, statusRecord d, true⟩⟩

def execGetStatus (t : Nat) (e : Envelope) (s : State) : Host.Outcome State Fault Refusal :=
  s.runAt t fun d => d.command specGetStatus e

/-- START (R61): READY to SERVICE at the next boundary. -/
def specStart : CmdSpec := ⟨cmdStart, noArgs, fun _ => false,
  fun d _ => ⟨{ d with sys := { d.sys with startPending := true } }, ST_OK, [], true⟩⟩

def execStart (t : Nat) (e : Envelope) (s : State) : Host.Outcome State Fault Refusal :=
  s.runAt t fun d => d.command specStart e

/-- STOP (R61): SERVICE to READY at the next boundary. -/
def specStop : CmdSpec := ⟨cmdStop, noArgs, fun _ => false,
  fun d _ => ⟨{ d with sys := { d.sys with stopPending := true } }, ST_OK, [], true⟩⟩

def execStop (t : Nat) (e : Envelope) (s : State) : Host.Outcome State Fault Refusal :=
  s.runAt t fun d => d.command specStop e

/-- SET_PASSES (R59): 1…passes_cfg, from the next boundary. DESIGN CHOICE (notes/assumptions/49): the spec gives the payload as
'Byte 1: passes' alone; the model asks for exactly two bytes of which byte 0 is 0, and answers ST_BAD_ARGUMENT to any other. -/
def specSetPasses : CmdSpec := ⟨cmdSetPasses,
  fun d p => p.length == 2 && byteAt p 0 == 0 && 1 ≤ byteAt p 1 && byteAt p 1 ≤ d.get Reg.BEAT_PASSES.passes_cfg,
  fun _ => false,
  fun d e => ⟨({ d with beat := { d.beat with nextPasses := some (byteAt e.body 1) } } : Dev).offer Ev.PASSES_SET
    [byteAt e.body 1], ST_OK, [], true⟩⟩

def execSetPasses (t : Nat) (e : Envelope) (s : State) : Host.Outcome State Fault Refusal :=
  s.runAt t fun d => d.command specSetPasses e

/-- CODE_NOT_DEFINED (R67): bad magic is discarded and counted; an undefined code consumes its sequence and answers
ST_BAD_ARGUMENT. -/
def specUndefined (code : Nat) : CmdSpec := ⟨code, noArgs, fun _ => false, fun d _ => ⟨d, ST_BAD_ARGUMENT, [], true⟩⟩

def execCodeNotDefined (t code : Nat) (e : Envelope) (s : State) : Host.Outcome State Fault Refusal :=
  s.runAt t fun d => d.command (specUndefined code) e

end Sys2Proof.Machine
end

