-- ==== Sys2Proof/Machine/Light.lean ====
section
/-! DEFINITION. Local light outputs: strings and sign matrices (R485-R502). -/

namespace Sys2Proof.Machine

def StringSt.dark0 : StringSt := StringSt.reset

def MatrixSt.blank0 : MatrixSt := MatrixSt.reset

namespace Dev

def strCfg (d : Dev) (n : Nat) : Option StringCfg := (d.lgt.cfg.bind (fun c => c.strings[n]?)).filter (fun c => c.enabled)
def matCfg (d : Dev) (k : Nat) : Option MatrixCfg := (d.lgt.cfg.bind (fun c => c.matrices[k]?)).filter (fun c => c.enabled)
def strAt (d : Dev) (n : Nat) : StringSt := d.lgt.strings.getD n StringSt.dark0
def setStr (d : Dev) (n : Nat) (f : StringSt → StringSt) : Dev := { d with lgt := { d.lgt with strings := modifyAt d.lgt.strings n f } }
def matAt (d : Dev) (k : Nat) : MatrixSt := d.lgt.matrices.getD k MatrixSt.blank0
def setMat (d : Dev) (k : Nat) (f : MatrixSt → MatrixSt) : Dev := { d with lgt := { d.lgt with matrices := modifyAt d.lgt.matrices k f } }

/-- The lowest factor of the NTC inputs in a mask, 256 for none (R491). -/
def derate (d : Dev) (mask : Nat) : Nat :=
  ((bitList mask 4).map (fun i => d.get (Reg.LGT_NTC.f i))).foldl min 256

/-- The factor in force for a string, with the floor of class 0 (R491). -/
def strFactor (d : Dev) (n : Nat) : Nat :=
  match d.strCfg n with
  | none => 256
  | some c => if (d.strAt n).c0.isSome then max (d.derate c.ntc) (ceilDiv (256 * c.c0Min) 100) else d.derate c.ntc

/-- The factor in force for a matrix. -/
def matFactor (d : Dev) (k : Nat) : Nat :=
  match d.matCfg k with
  | none => 256
  | some c => if (d.matAt k).c0 then max (d.derate c.ntc) (ceilDiv (256 * c.c0Min) 100) else d.derate c.ntc

/-- Usable lamps of a string, ascending (R490). -/
def usable (d : Dev) (n : Nat) : List Nat :=
  match d.strCfg n with
  | none => []
  | some c => (bitList c.fitted 8).filter (fun k => !bit (d.strAt n).bypassed k)

/-- The level shown: that of class 0 while it acts (R496). -/
def shownLevel (d : Dev) (n : Nat) : Nat := match (d.strAt n).c0 with | some l => l | none => (d.strAt n).level

/-- T of R490, in ticks. -/
def strTicks (d : Dev) (n : Nat) : Nat := d.shownLevel n * (d.usable n).length * 8000 / 1023 * d.strFactor n / 256

/-- Diagnostic mode (R493). -/
def diagMode (d : Dev) (n : Nat) : Bool :=
  let t := d.strTicks n
  t < 8000 && 25 ≤ t && t < 128 && 0 < d.shownLevel n

/-- Writes the data record of a step (R451); the places and the encoding of what it holds are not the spec's
(notes/assumptions/50). -/
def noteData (d : Dev) (n path : Nat) (holds : List Nat) : Dev :=
  if d.sil.mounted then d.commit (.stepData d.bootCount n path d.nowSec holds) else d

/-- The step 4 data record: the unit map, the quick tests' results and the lamps bypassed permanently (R451, R494). -/
def noteUnits (d : Dev) (path : Nat) : Dev :=
  d.noteData 4 path ([d.get Reg.BST_UNIT0.word, d.get Reg.BST_UNIT1.word] ++
    d.bst.results.flatMap (fun r => [r.test, r.index, r.result, r.code, r.day]) ++ d.lgt.strings.map (fun s => s.bypassed))

/-- The step 4 data record is rewritten, on the path its step took (R494, R495). -/
def rewriteUnits (d : Dev) : Dev :=
  d.noteUnits (match d.inForce 0x0001 4 with | some (.bootStep _ _ _ p _ _ _) => p | _ => 0)

/-- A lamp bypassed permanently returns to use (R495). -/
def returnLamp (d : Dev) (n k : Nat) : Dev :=
  ((d.setStr n (fun s => { s with bypassed := setBit s.bypassed k false })).offer Ev.LAMP_RETURNED [n, k]).rewriteUnits

/-- An open observation confirms a suspect lamp: it is bypassed permanently, and returns at once where a clear of this cycle names it
(R494, R495). -/
def confirmOpen (d : Dev) (n k : Nat) : Dev :=
  let d1 := d.setStr n (fun s => { s with suspect := setBit s.suspect k false, bypassed := setBit s.bypassed k true })
  let d2 := ((d1.raise Reg.LGT_IRQ_STATUS.open_f).offer Ev.LAMP_OPEN [n, k, (d1.usable n).length]).rewriteUnits
  if d.cyc.lampClears.contains (n, k) then d2.returnLamp n k else d2

/-- An observation of a lamp by its voltage in mV (R492, R494). -/
def observe (d : Dev) (n k mv : Nat) (c : StringCfg) : Dev :=
  let s := d.strAt n
  if c.vOpen < mv then
    if bit s.suspect k then d.confirmOpen n k
    else ((d.setStr n (fun s => { s with suspect := setBit s.suspect k true, shorted := setBit s.shorted k false })).raise
      Reg.LGT_IRQ_STATUS.open_f).offer Ev.LAMP_OPEN_SUSPECT [n, k, mv]
  else if mv < c.vShort then
    let d1 := d.setStr n (fun x => { x with suspect := setBit x.suspect k false, shorted := setBit x.shorted k (!bit x.shorted k) })
    if bit s.shorted k then (d1.raise Reg.LGT_IRQ_STATUS.short).offer Ev.LAMP_SHORT [n, k, mv] else d1
  else d.setStr n (fun x => { x with suspect := setBit x.suspect k false, shorted := setBit x.shorted k false })

/-- Strings and matrices follow the outputs of R488 in this state (R500). -/
def lightRuns (d : Dev) : Bool := d.isState [.ready, .service, .hold, .test] || (d.sys.mstate == .boot && d.sys.warm)

/-- The outputs are held: in TEST, and over a warm boot (R500). -/
def lightHeld (d : Dev) : Bool := d.sys.mstate == .test || (d.sys.mstate == .boot && d.sys.warm)

/-- The beat is shared into frames of equal length, `perMs` to a millisecond of the period (R489, R497): how many it holds, whether
one starts now, and the length of one. -/
def framesInBeat (d : Dev) (perMs : Nat) : Nat := perMs * (d.beat.period / 1000000)

def frameDue (d : Dev) (perMs : Nat) : Bool :=
  d.beat.running && (List.range (d.framesInBeat perMs)).any (fun j => j * d.beat.len / d.framesInBeat perMs == d.beat.sinceBase)

def frameLen (d : Dev) (perMs : Nat) : Nat := ceilDiv d.beat.len (max 1 (d.framesInBeat perMs))

/-- The instant of a frame: the beat and the place in it. -/
def frameInstant (d : Dev) : Nat × Nat := (d.beat.count, d.beat.sinceBase)

/-- One frame of a string (R490, R492, R493): its windows, the observations its lamps give, the diagnostic pulse and the
debt. `mv` is what each lamp's voltage would read 12 µs after its switch opens. -/
def stringFrame (d : Dev) (n m : Nat) (mv : List Nat) : Dev :=
  match d.strCfg n with
  | none => d
  | some c =>
    let d0 := if (d.strAt n).engine || d.lightHeld then d
      else d.setStr n (fun s => { s with level := s.next.getD s.level, next := none })
    let s := d0.strAt n
    let u := d0.usable n
    let cnt := u.length
    if cnt = 0 then
      let d1 := d0.setStr n (fun s => { s with open_ := List.replicate 8 0, dark := true })
      if s.dark then d1 else (d1.raise Reg.LGT_IRQ_STATUS.open_f).offer Ev.LAMP_OPEN [n, 255, 0]
    else
      let d0 := d0.setStr n (fun s => { s with dark := false })
      let t := d0.strTicks n
      let debt := if d0.shownLevel n = 0 then 0 else s.debt
      let lamp (i : Nat) : Nat := u.getD ((m + i) % cnt) 0
      let p := m / 64
      let pulse := d0.diagMode n && debt = 0 && s.diagPeriod != some p && lamp 0 == u.getD (p % cnt) 0
      let diag := d0.diagMode n
      if pulse then
        let k := lamp 0
        let lit := if c.vOpen < mv.getD k 0 then 96 else 1600
        let d1 := d0.setStr n (fun s => { s with
          debt := lit - t, diagPeriod := some p, open_ := (List.range 8).map (fun j => if j = k then lit else 0) })
        d1.observe n k (mv.getD k 0) c
      else
        let held := min debt t
        let t' := t - held
        let full := t' / 8000
        let r := t' % 8000
        let win (i : Nat) : Nat := if i < full then 8000 else if i = full then r else 0
        let seen := (List.range cnt).filter (fun i => 128 ≤ win i && !diag)
        let ticks (i : Nat) : Nat := if 128 ≤ win i && !diag && c.vOpen < mv.getD (lamp i) 0 then 96 else win i
        let opens := (List.range 8).map (fun j => match (List.range cnt).find? (fun i => lamp i == j) with
          | some i => ticks i
          | none => 0)
        let d1 := d0.setStr n (fun s => { s with debt := debt - held, open_ := opens })
        seen.foldl (fun d i => d.observe n (lamp i) (mv.getD (lamp i) 0) c) d1

/-- A pixel of a page (R486, R497). -/
def pixel (page : Bytes) (line col : Nat) : Nat := byteAt page (32 * line + col)

/-- Held columns and lines of a matrix (R499). -/
def heldCols (d : Dev) (k : Nat) : Nat := if k = 0 then d.get Reg.LGT_SGA_HELD.word else d.get Reg.LGT_SGB_HELD.word
def heldLines (d : Dev) (k : Nat) : Nat := if k = 0 then d.get Reg.LGT_SG_HELD_LINES.sga else d.get Reg.LGT_SG_HELD_LINES.sgb
def matDim (d : Dev) (k : Nat) : Nat := if k = 0 then d.get Reg.LGT_SGA_CTRL.dim else d.get Reg.LGT_SGB_CTRL.dim
def matBlank (d : Dev) (k : Nat) : Bool := if k = 0 then d.flag Reg.LGT_SGA_CTRL.blank else d.flag Reg.LGT_SGB_CTRL.blank
def matShown (d : Dev) (k : Nat) : Nat := if k = 0 then d.get Reg.LGT_SGA_CTRL.shown else d.get Reg.LGT_SGB_CTRL.shown
def putShown (d : Dev) (k v : Nat) : Dev := if k = 0 then d.put Reg.LGT_SGA_CTRL.shown v else d.put Reg.LGT_SGB_CTRL.shown v

/-- One frame of a matrix (R496-R499): a flip written before it takes effect, and the ticks that each column of each line
sinks. In the first frame after a second boundary one line gives its slot to the neighbour test. -/
def matrixFrame (d : Dev) (k : Nat) : Dev :=
  match d.matCfg k with
  | none => d
  | some c =>
    let d0 := if (d.matAt k).flip && (d.matAt k).flipAt != d.now then
        (d.setMat k (fun x => { x with flip := false })).putShown k (1 - d.matShown k) else d
    let x := d0.matAt k
    let test := d.now % 1000000000 < d.frameLen 2
    let page := if x.c0 then c.pattern else if d0.matShown k = 1 then x.page1 else x.page0
    let dim := (if x.c0 then 255 else d0.matDim k) * d0.matFactor k / 256
    let off (line : Nat) : Bool := c.lines ≤ line || (d0.matBlank k && !x.c0) || bit (d0.heldLines k) line || (test && line == x.testLine)
    let scan := (List.range 16).map (fun line => (List.range 32).map (fun col =>
      if off line || bit (d0.heldCols k) col then 0 else pixel page line col * dim * 230 / 65025))
    d0.setMat k (fun s => { s with scan := scan, testLine := if test then (x.testLine + 1) % max 1 c.lines else x.testLine })

/-- Outputs that derate: strings 0-7, matrices 8 and 9 (R491). -/
def derating (d : Dev) : List Nat :=
  (List.range 8).filter (fun n => (d.strCfg n).any (fun c => d.derate c.ntc < 256)) ++
  ((List.range 2).filter (fun k => (d.matCfg k).any (fun c => d.derate c.ntc < 256))).map (· + 8)

/-- Marks starts and ends of derating (R491). -/
def noteDerating (d : Dev) : Dev :=
  let l := d.derating
  let ch := (List.range 10).filter (fun i => l.contains i != d.lgt.derating.contains i)
  let d1 : Dev := { d with lgt := { d.lgt with derating := l } }
  ch.foldl (fun d i =>
    let f := if i < 8 then d.strFactor i else d.matFactor (i - 8)
    (d.raise Reg.LGT_IRQ_STATUS.derating).offer Ev.DERATING [i, f, b2n (l.contains i)]) d1

/-- A matrix land is held off until the next start (R499): lands 0-31 columns and 32-47 lines of SGA, 48-95 those of SGB; any
other land is no matrix land. -/
def holdLand (d : Dev) (x : Nat) : Dev :=
  if x < 32 then d.put Reg.LGT_SGA_HELD.word (setBit (d.get Reg.LGT_SGA_HELD.word) x true)
  else if x < 48 then d.put Reg.LGT_SG_HELD_LINES.sga (setBit (d.get Reg.LGT_SG_HELD_LINES.sga) (x - 32) true)
  else if x < 80 then d.put Reg.LGT_SGB_HELD.word (setBit (d.get Reg.LGT_SGB_HELD.word) (x - 48) true)
  else if x < 96 then d.put Reg.LGT_SG_HELD_LINES.sgb (setBit (d.get Reg.LGT_SG_HELD_LINES.sgb) (x - 80) true)
  else d

/-- Shows which outputs run and whether class 0 acts on any (R502). -/
def showLight (d : Dev) : Dev :=
  let on := d.lightRuns && !d.lgt.safe
  ((d.put Reg.LGT_STATUS.str_on (sumOf ((List.range 8).filter (fun n => (d.strCfg n).isSome)) (fun n => 2 ^ n))).put
    Reg.LGT_STATUS.sg_on (if on then sumOf ((List.range 2).filter (fun k => (d.matCfg k).isSome)) (fun k => 2 ^ k) else 0)).putB
    Reg.LGT_STATUS.c0 (d.lgt.strings.any (fun s => s.c0.isSome) || d.lgt.matrices.any (fun m => m.c0))

/-- What the outputs do at a beat boundary (R488, R496, R500): levels handed over and class-0 levels take effect, unless they are held. -/
def lightBoundary (d : Dev) : Dev :=
  if d.lightHeld then d else
  ({ d with lgt := { d.lgt with
    strings := d.lgt.strings.map (fun s : StringSt => { s with
      c0 := s.nextC0, level := if s.engine then s.next.getD s.level else s.level, next := if s.engine then none else s.next })
    matrices := d.lgt.matrices.map (fun m : MatrixSt => { m with c0 := m.nextC0 }) } } : Dev).showLight

/-- The strings enter READY (R500): power_on on those the engine owns. -/
def lightReady (d : Dev) : Dev :=
  { d with lgt := { d.lgt with strings := d.lgt.strings.mapIdx (fun n s =>
      match d.strCfg n with
      | some c => if s.engine then { s with level := c.powerOn, next := none } else s
      | none => s) } }

/-- A LIGHT section takes effect (R486, R488): `owned` are the strings that a node of type 0x7 names. Permanent bypasses stay. -/
def lightLoad (d : Dev) (sec : Option LightSec) (owned : List Nat) : Dev :=
  ({ d with lgt := { d.lgt with
    cfg := sec
    strings := d.lgt.strings.mapIdx (fun n s =>
      let on := match sec.bind (fun c => c.strings[n]?) with | some c => c.powerOn | none => 0
      { StringSt.dark0 with level := on, engine := owned.contains n, bypassed := s.bypassed, open_ := s.open_ })
    matrices := d.lgt.matrices.map (fun m : MatrixSt => { m with flip := false, suspects := [], testLine := 0, scan := [] }) } } : Dev).showLight

/-- The safe states of R306: every switch open, every line and column off. -/
def lightSafe (d : Dev) : Dev :=
  ({ d with lgt := { d.lgt with
    safe := true
    strings := d.lgt.strings.map (fun s : StringSt => { s with open_ := List.replicate 8 8000 })
    matrices := d.lgt.matrices.map (fun m : MatrixSt => { m with scan := [] }) } } : Dev).showLight

end Dev

/-! ### The commands -/

/-- STRING_FRAME (R489, R490, R500): a frame starts, at an instant at which one does; every beat boundary is a frame boundary. -/
def execStringFrame (t : Nat) (mv : List (List Nat)) (s : State) : Host.Outcome State Fault Refusal :=
  s.runAt t fun d =>
    let m := d.lgt.frame
    let d1 : Dev := { d with lgt := { d.lgt with frame := (m + 1) % 2 ^ 32, frameAt := some d.frameInstant } }
    if !d.frameDue 1 || d.lgt.frameAt == some d.frameInstant then d
    else if d1.lgt.safe then d1
    else if !d1.lightRuns then
      { d1 with lgt := { d1.lgt with strings := d1.lgt.strings.map (fun s : StringSt => { s with open_ := List.replicate 8 8000 }) } }
    else (List.range 8).foldl (fun d n => d.stringFrame n m (mv.getD n [])) d1

/-- MATRIX_FRAME (R497, R498, R500): a frame starts, at an instant at which one does; a held matrix goes on as it scans. -/
def execMatrixFrame (t : Nat) (s : State) : Host.Outcome State Fault Refusal :=
  s.runAt t fun d =>
    if !d.frameDue 2 || d.lgt.scanAt == some d.frameInstant then d
    else
      let d1 : Dev := { d with lgt := { d.lgt with scanAt := some d.frameInstant } }
      if d1.lgt.safe || d1.lightHeld then d1
      else if !d1.lightRuns then
        { d1 with lgt := { d1.lgt with matrices := d1.lgt.matrices.map (fun m : MatrixSt => { m with scan := [] }) } }
      else (d1.matrixFrame 0).matrixFrame 1

/-- NTC_READ (R491): a reading in 0.1 °C. -/
def execNtcRead (t : Nat) (n : Fin 4) (temp : Int) (s : State) : Host.Outcome State Fault Refusal :=
  s.runAt t fun d =>
    match (d.lgt.cfg.bind (fun c => c.ntcs[n.val]?)).filter (fun c => c.enabled) with
    | none => d
    | some c =>
      let d0 := d.put (Reg.LGT_NTC.temp n.val) (satTwos 16 temp)
      if temp < -500 || 1500 < temp then
        let d1 := (d0.put (Reg.LGT_NTC.fault n.val) 1).put (Reg.LGT_NTC.f n.val)
          (if d.lgt.ntcSeen.getD n.val false then d.get (Reg.LGT_NTC.f n.val) else 128)
        let d2 := if d.flag (Reg.LGT_NTC.fault n.val) then d1
          else (d1.raise Reg.LGT_IRQ_STATUS.ntc_fault).offer Ev.NTC_FAULT [n.val, satTwos 16 temp]
        d2.noteDerating
      else
        let f := if temp ≤ c.knee then 256 else if c.cutoff ≤ temp then 0
          else (256 * (c.cutoff - temp) / (c.cutoff - c.knee)).toNat
        (({ d0 with lgt := { d0.lgt with ntcSeen := modifyAt d0.lgt.ntcSeen n.val (fun _ => true) } }.put
          (Reg.LGT_NTC.fault n.val) 0).put (Reg.LGT_NTC.f n.val) f).noteDerating

/-- NEIGHBOUR_SHORT (R499): the pairs of lands a matrix's test found short; one found at two tests running is held off. -/
def execNeighbourShort (t : Nat) (k : Fin 2) (pairs : List (Nat × Nat)) (s : State) : Host.Outcome State Fault Refusal :=
  s.runAt t fun d =>
    let old := (d.matAt k.val).suspects
    let hit := pairs.filter (fun p => old.contains p)
    let d1 := d.setMat k.val (fun m => { m with suspects := pairs.filter (fun p => !old.contains p) })
    hit.foldl (fun d p => (((d.holdLand p.1).holdLand p.2).raise Reg.LGT_IRQ_STATUS.short).offer Ev.NEIGHBOUR_SHORT [k.val, p.1, p.2]) d1

/-- LAMP_RETURNED (R495): a write of LGT_LAMP_CLEAR returns bypassed lamps of the selected string; the cycle keeps what it named, for a
confirmation of the same cycle. -/
def execLampReturned (t : Nat) (_m : Master) (v : W32) (s : State) : Host.Outcome State Fault Refusal :=
  s.runAt t fun d =>
    let n := d.get Reg.LGT_STR_SEL.string
    let named := bitList v.toNat 8
    let d0 : Dev := { d with cyc := { d.cyc with lampClears := d.cyc.lampClears ++ named.map (fun k => (n, k)) } }
    (named.filter (fun k => bit (d.strAt n).bypassed k)).foldl (fun d k => d.returnLamp n k) d0

/-- STR_LEVEL_WRITE (R488): ignored for a string that the engine owns; else in force from the next frame. -/
def execStrLevelWrite (t : Nat) (_m : Master) (v : W32) (s : State) : Host.Outcome State Fault Refusal :=
  s.runAt t fun d =>
    let n := d.get Reg.LGT_STR_SEL.string
    if (d.strAt n).engine || (d.strCfg n).isNone then d
    else d.setStr n (fun s => { s with next := some (bits v.toNat 9 0) })

/-- SIGN_PIX_WRITE (R498): four pixels of the page not shown. -/
def execSignPixWrite (t : Nat) (_m : Master) (k : Fin 2) (i : Fin 128) (v : W32) (s : State) : Host.Outcome State Fault Refusal :=
  s.runAt t fun d =>
    let put (p : Bytes) : Bytes := p.take (4 * i.val) ++ toLE 4 v.toNat ++ p.drop (4 * i.val + 4)
    d.setMat k.val (fun m => if d.matShown k.val = 1 then { m with page0 := put m.page0 } else { m with page1 := put m.page1 })

/-- SIGN_FLIP (R498): shows the written page from the next frame start. -/
def execSignFlip (t : Nat) (_m : Master) (k : Fin 2) (s : State) : Host.Outcome State Fault Refusal :=
  s.runAt t fun d => d.setMat k.val (fun m => { m with flip := true, flipAt := d.now })

end Sys2Proof.Machine
end

