-- ==== Sys2Proof/Machine/Recorder.lean ====
section
/-! DEFINITION. The event recorder: flush and ring, starting, reading, rate limits (R374-R386). -/

namespace Sys2Proof.Machine

/-- The sequence `k` after `n` in the space 1…0xFFFF_FFFF (R375, R383); `n` = 0 stands for no record. -/
def seqAdd (n k : Nat) : Nat := (n + k - 1) % (2 ^ 32 - 1) + 1

/-- The 32 bytes of a record (R374). -/
def EvRec.bytes (r : EvRec) : Bytes :=
  toLE 4 r.seq ++ toLE 6 r.seconds ++ toLE 2 r.subsec ++ toLE 2 r.code ++ toLE 1 r.sev ++ [0] ++ toLE 2 r.suppressed ++
    toLE 2 r.lost ++ slice (Config.packArgs r.code r.args) 0 12

/-- Slots of the recent event ring, and records of the archive (R380). -/
def ringSlots : Nat := 131072
def archiveMax : Nat := 67108864

namespace Dev

/-- How far a sequence lies behind the next one. -/
def seqBehind (d : Dev) (s : Nat) : Nat := (d.evr.nextSeq + 2 ^ 32 - s) % 2 ^ 32

/-- Records in ascending order of sequence (R375, R384). -/
def oldestFirst (d : Dev) (l : List EvRec) : List EvRec := sortBy (fun r : EvRec => 2 ^ 32 - d.seqBehind r.seq) l

/-- Writes a record to the ring (R377, R380, R381): into an empty slot, else over the oldest record whose severity is not above
its own, which passes to the archive; else it is dropped. -/
def ringWrite (d : Dev) (r : EvRec) : Dev :=
  let r' := { r with lost := min 65535 (r.lost + d.evr.dropNow) }
  if d.evr.ring.length < ringSlots then
    { d with evr := { d.evr with ring := d.evr.ring ++ [r'], dropNow := 0 } }
  else match (d.oldestFirst (d.evr.ring.filter (fun x => x.sev ≤ r.sev))).head? with
    | some x => { d with evr := { d.evr with
        ring := d.evr.ring.map (fun y => if y = x then r' else y)
        archive := (d.evr.archive ++ [x]).drop (d.evr.archive.length + 1 - archiveMax)
        dropNow := 0 } }
    | none =>
      let d1 : Dev := { d with evr := { d.evr with dropNow := d.evr.dropNow + 1 } }
      let d2 := (d1.bump Reg.EVR_LOST.ring_dropped).raise Reg.EVR_IRQ_STATUS.lost
      d2.offer Ev.RING_DROP [r.sev, d2.get Reg.EVR_LOST.ring_dropped]

/-- The oldest record of the flush under way leaves the buffer as its slot write completes (R379, R381). -/
def slotWritten (d : Dev) : Dev :=
  match d.evr.flushLeft, d.evr.buf with
  | n + 1, r :: rest =>
    let d1 := ({ d with evr := { d.evr with buf := rest, flushLeft := n } } : Dev).ringWrite r
    if n = 0 then
      let d2 := d1.raise Reg.EVR_IRQ_STATUS.flush_done
      if d1.evr.flushAgain then { d2 with evr := { d2.evr with flushAgain := false } }.startFlush else d2
    else d1
  | _, _ => d

/-- Writes the whole buffer to the ring within one step, for the stop writes (R378, R457, R458). -/
def drainBuffer (d : Dev) : Dev :=
  let d0 := d.settleOffers
  let d1 := d0.evr.buf.foldl (fun d r => d.ringWrite r) { d0 with evr := { d0.evr with buf := [], flushLeft := 0, flushAgain := false } }
  { d1 with evr := { d1.evr with buf := [] } }

/-- The volatile part of the recorder is lost (R379, R383). -/
def recorderReset (d : Dev) : Dev :=
  { d with evr := { d.evr with started := false, offers := [], held := [], buf := [], pend := [], lostNow := 0, dropNow := 0, flushLeft := 0,
                               flushAgain := false } }

/-- The recorder starts (R383): its first record, then the records that waited for it (notes/assumptions/8). -/
def startRecorder (d : Dev) (clean : Bool) : Dev :=
  let highest := match (d.oldestFirst d.evr.ring).getLast? with | some r => r.seq | none => 0
  let held := d.evr.held
  let d1 : Dev := { d with evr := { d.evr with
    started := true, held := [], buf := [], pend := [], dropNow := 0, flushLeft := 0, flushAgain := false, flushAt := d.now
    nextSeq := seqAdd highest (if clean then 1 else 4097)
    lostNow := if clean then 0 else 4096
    limits := d.evr.limits.map (fun b : Bucket => { b with units := b.burst * 1000000 }) } }
  held.foldl (fun d o => d.offerNow o.ev o.args) (d1.acceptEvent Ev.RECORDER_STARTED [highest, b2n clean])

/-- Every record held, in ascending order of sequence: the ring, then the buffer (R384). -/
def heldRecords (d : Dev) : List EvRec := d.oldestFirst d.evr.ring ++ d.evr.buf

/-- The result of READ_EVENTS after the status byte (R384). -/
def readEventsResult (d : Dev) (a : ReadEventsArgs) : Bytes :=
  let far := d.seqBehind a.start
  if far = 0 || 2 ^ 31 ≤ far then toLE 4 a.start ++ toLE 2 0 ++ toLE 2 0
  else
    let inRange := d.heldRecords.filter (fun r => d.seqBehind r.seq ≤ far && d.seqBehind r.seq != 0)
    let out := (inRange.filter (fun r => a.minSev ≤ r.sev)).take a.max
    let cont := if out.length = a.max then (match out.getLast? with | some r => nextSeqAfter r.seq | none => d.evr.nextSeq)
      else d.evr.nextSeq
    let behind := d.seqBehind cont
    let covered := far - behind - (if cont < a.start then 1 else 0)
    let heldN := (inRange.filter (fun r => behind < d.seqBehind r.seq)).length
    toLE 4 cont ++ toLE 2 out.length ++ toLE 2 (min 65535 (covered - heldN)) ++ out.flatMap (·.bytes)

end Dev

/-- READ_EVENTS (R384). -/
def specReadEvents : CmdSpec := ⟨cmdReadEvents,
  fun _ p => p.length == 8 && 1 ≤ (readEventsArgs p).start && 1 ≤ (readEventsArgs p).max && (readEventsArgs p).max ≤ 255
    && (readEventsArgs p).minSev ≤ 7 && byteAt p 7 == 0,
  fun _ => false, fun d e => ⟨d, ST_OK, d.readEventsResult (readEventsArgs e.body), true⟩⟩

def execReadEvents (t : Nat) (e : Envelope) (s : State) : Host.Outcome State Fault Refusal :=
  s.runAt t fun d => d.command specReadEvents e

/-- RATE_TOKEN_TICK (R376): every bucket gains `rate` units, up to its size. -/
def execRateTokenTick (t : Nat) (s : State) : Host.Outcome State Fault Refusal :=
  s.runAt t fun d => { d with evr := { d.evr with
    limits := d.evr.limits.map (fun b : Bucket => { b with units := min (b.burst * 1000000) (b.units + b.rate) }) } }

/-- SUPPRESSED (R378): a pending count still non-zero 60 s after its first suppression is written as a record of its own. -/
def execSuppressed (t code : Nat) (s : State) : Host.Outcome State Fault Refusal :=
  s.runAt t fun d =>
    match d.evr.pend.find? (fun p => p.code == code) with
    | none => d
    | some p => if d.now < p.since + 60 * 1000000000 then d else ({ d with evr := { d.evr with pend := d.evr.pend.filter (fun x => x.code != code) } } : Dev).offer Ev.SUPPRESSED
        [p.code, p.count]

/-- EVR_FLUSH_TIMER (R379): 1 s has passed since the last flush began. -/
def execEvrFlushTimer (t : Nat) (s : State) : Host.Outcome State Fault Refusal :=
  s.runAt t fun d => if d.evr.started && d.evr.flushAt + 1000000000 ≤ d.now then d.startFlush else d

/-- EVR_FLUSH (R379): firmware writes go. -/
def execEvrFlush (t : Nat) (_m : Master) (s : State) : Host.Outcome State Fault Refusal :=
  s.runAt t fun d => if d.evr.started then d.startFlush else d

/-- EVR_RD_SEQ (R386): latches a record into EVR_RD_W0…W7, or answers why it cannot; a record accepted in this cycle is not seen
(R45). -/
def execEvrRdSeq (t : Nat) (_m : Master) (v : W32) (s : State) : Host.Outcome State Fault Refusal :=
  s.runAt t fun d =>
    let d1 := d.put Reg.EVR_RD_SEQ.word v.toNat
    if v = 0 || d.seqBehind v.toNat = 0 || 2 ^ 31 ≤ d.seqBehind v.toNat then d1.put Reg.EVR_RD_STATUS.status ST_BAD_ARGUMENT
    else match d.heldRecords.find? (fun r => r.seq == v.toNat && !d.cyc.records.contains r.seq) with
      | none => d1.put Reg.EVR_RD_STATUS.status ST_STALE
      | some r => ((List.range 8).foldl (fun d i => d.put (Reg.EVR_RD_W.word i) (fieldLE r.bytes (4 * i) 4)) d1).put
          Reg.EVR_RD_STATUS.status ST_OK

end Sys2Proof.Machine
end

