-- ==== Sys2Proof/Machine/Sill.lean ====
section
/-! DEFINITION. The Sill: ledger posts and their mirror, snapshots, the flush plate, restore, application records, scrub (R326-R350). -/

namespace Sys2Proof.Machine

namespace Dev

/-! ### The mirror of a beat (R390, R392) -/

/-- Adds an input to the bundle of the beat in progress, at an ACTIVE module (R392); once that bundle is closed, to that of the next
beat (notes/assumptions/53). -/
def mirror (d : Dev) (f : Bundle → Bundle) : Dev :=
  if d.pair.cfg.isNone || d.sys.role ≠ .active then d
  else
    let n := d.beat.count + b2n (d.pair.bundles.any (fun b => b.beat == d.beat.count && b.close.isSome))
    let b0 : Bundle := ⟨n, [], [], [], [], [], [], none⟩
    let l := if d.pair.bundles.any (fun b => b.beat == n) then d.pair.bundles else d.pair.bundles ++ [b0]
    { d with pair := { d.pair with bundles := l.map (fun b => if b.beat = n then f b else b) } }

/-! ### The ledger (R336-R338) -/

/-- Windows of the LEDGER section in force (R82). -/
def windows (d : Dev) : List (Nat × Nat) := match d.cut.image with | some i => i.ledger.windows | none => []

end Dev

/-- The plate position of an EID in the windows, if it has one (R82, R337). -/
def platePos (base : Nat) : List (Nat × Nat) → Nat → Option Nat
  | [], _ => none
  | (f, n) :: r, eid => if f ≤ eid ∧ eid < f + n then some (base + (eid - f)) else platePos (base + n) r eid

/-- Plate positions in use. -/
def plateUsed (w : List (Nat × Nat)) : Nat := sumOf w (·.2)

/-- A record with its check (R336). -/
def ledgerRecord (energy run creditTx creditRx : Nat) : Bytes :=
  let b := toLE 6 energy ++ toLE 4 run ++ toLE 2 creditTx ++ toLE 2 creditRx
  b ++ toLE 2 (crc16 b)

/-- The check of a record holds (R336). -/
def ledgerOk (r : Bytes) : Bool := fieldLE r 14 2 == crc16 (slice r 0 14)

namespace Dev

def nodeCount (d : Dev) : Nat := match d.cut.image with | some i => i.units.nodeCount | none => 0

/-- Address of the live record of an EID (R337). -/
def liveAddr (d : Dev) (eid : Nat) : Nat :=
  match platePos 0 d.windows eid with
  | some p => plateBase + 16 * p
  | none => d.get Reg.SIL_LEDGER_BASE.base * 4096 + 16 * eid

/-- The live record of an EID; restored values stand for the table until firmware sets its base (R337, R342). -/
def liveRecord (d : Dev) (eid : Nat) : Bytes :=
  match platePos 0 d.windows eid, d.sil.restored.find? (fun c => c.1 == eid / 512) with
  | none, some c => slice c.2 (eid % 512 * 16) 16
  | _, _ => d.mem.readN (d.liveAddr eid) 16

/-- The feeder of an EID, by the feeder map (R352). -/
def feederOf (d : Dev) (eid : Nat) : Option Nat :=
  match d.mtr.cfg with
  | none => none
  | some c => (c.feeders.find? (fun f => f.1 ≤ eid && eid < f.1 + f.2.1)).map (·.2.2)

/-- Adds to a feeder's reported total R (R361). -/
def addReported (d : Dev) (eid amount : Nat) : Dev :=
  match d.feederOf eid with
  | none => d
  | some c =>
    { d with
      mtr := { d.mtr with ch := modifyAt d.mtr.ch c (fun x => { x with rep := x.rep + amount }) }
      cyc := { d.cyc with posted := (c, amount) :: d.cyc.posted } }

/-- Every feeder's R becomes the sum of the energy fields of its endpoints, as after a restore (R361, R367, R370). -/
def recountReported (d : Dev) : Dev :=
  let sum (c : Nat) : Nat := sumOf ((List.range d.nodeCount).filter (fun e => d.feederOf e == some c)) (fun e => fieldLE (d.liveRecord e) 0 6)
  { d with mtr := { d.mtr with ch := d.mtr.ch.mapIdx (fun c x => { x with rep := sum c }) } }

/-- Posts a value to a live record, the whole record at once, and the energy added to its feeder's R (R338, R361). -/
def applyPost (d : Dev) (kind eid value : Nat) : Dev :=
  let r := d.liveRecord eid
  let e := fieldLE r 0 6
  let n := fieldLE r 6 4
  let r' := if kind = 1 then ledgerRecord (min (e + value) (2 ^ 48 - 1)) n (fieldLE r 10 2) (fieldLE r 12 2)
    else if kind = 2 then ledgerRecord e (min (n + value) (2 ^ 32 - 1)) (fieldLE r 10 2) (fieldLE r 12 2)
    else ledgerRecord e n (bits value 15 0) (bits value 31 16)
  let d1 : Dev := { d with mem := d.mem.writeN (d.liveAddr eid) r' }
  if kind = 1 then d1.addReported eid (fieldLE r' 0 6 - e) else d1

/-- A post through a master's registers (R338): its status, its effect, and its mirror. -/
def post (d : Dev) (bank kind : Nat) : Dev :=
  let eid := d.get (Reg.SIL_LPOST_EID.eid bank)
  let v := d.get (Reg.SIL_LPOST_VAL_HI.word bank) * 2 ^ 32 + d.get (Reg.SIL_LPOST_VAL_LO.word bank)
  let st (d : Dev) (x : Nat) : Dev := d.put (Reg.SIL_LPOST_STATUS.status bank) x
  if d.pwr.pf.isSome then d
  else if !(d.isState [.ready, .hold] || d.servesAsActive) then st d ST_ILLEGAL_STATE
  else if d.nodeCount ≤ eid || kind = 0 || 3 < kind || (kind = 2 && 2 ^ 32 ≤ v) then st d ST_BAD_ARGUMENT
  else st ((d.applyPost kind eid v).mirror (fun b => { b with posts := b.posts ++ [⟨kind, eid, v⟩] })) ST_OK

/-! ### Snapshots (R339, R340) -/

/-- Beats per save_interval (R339). -/
def snapBeats (d : Dev) : Nat :=
  match d.cut.image with
  | some i => i.ledger.saveInterval * 1000000000 / max 1 d.beat.period
  | none => 0

/-- Chunks of a snapshot. -/
def snapChunks (d : Dev) : Nat := ceilDiv d.nodeCount 512

/-- The 8 KiB of a chunk as the live records stand (R339). -/
def chunkBytes (d : Dev) (k : Nat) : Bytes :=
  (List.range 512).flatMap (fun i => if 512 * k + i < d.nodeCount then d.liveRecord (512 * k + i) else List.replicate 16 0)

/-- Writes a chunk into the slot of its snapshot, in place, and gives the record that makes it count (R339, R340). -/
def takeChunk (d : Dev) (n k : Nat) : Dev × JVal :=
  let b := d.chunkBytes k
  ({ d with sil := { d.sil with
    snaps := d.sil.snaps.filter (fun c => !(c.number % 2 == n % 2 && c.chunk == k)) ++ [⟨n, k, d.beat.count, b⟩] } },
    .snapDir n d.beat.count k (crc32c b))

/-- The chunks that fall at the boundary of the beat opened (R339). -/
def snapBoundary (d : Dev) : Dev :=
  let b := d.snapBeats
  let c := d.snapChunks
  if b = 0 || c = 0 || !d.joistRuns then d.put Reg.SIL_STATUS.snap_busy 0
  else
    let n := d.beat.count / b
    let rel := d.beat.count % b
    let ks := (List.range c).filter (fun k => k * b / c == rel)
    let d1 := ks.foldl (fun (d : Dev) k =>
      let x := d.takeChunk n k
      { x.1 with sil := { x.1.sil with chunkDue := x.1.sil.chunkDue ++ [x.2] } }) { d with sil := { d.sil with chunkDue := [] } }
    let next := ((List.range c).filter (fun k => k * b / c ≤ rel)).length
    ((({ d1 with sil := { d1.sil with snapNumber := n, snapNext := next, snapping := true } } : Dev).put
      Reg.SIL_SNAP.number n).put Reg.SIL_SNAP.chunk next).put Reg.SIL_STATUS.snap_busy 1

/-- The beat's ledger commit: the records of the chunks taken at its boundary are queued, after COMMIT or in a beat without a sweep
(R11, R339). -/
def ledgerCommit (d : Dev) : Dev :=
  d.sil.chunkDue.foldl (fun d v => d.journal .snapshot v) { d with sil := { d.sil with chunkDue := [] } }

/-- An abandoned beat makes no ledger commit (R11). -/
def dropLedgerCommit (d : Dev) : Dev := { d with sil := { d.sil with chunkDue := [] } }

/-- The chunks taken whose records are not yet committed. -/
def chunksOpen (d : Dev) : List JVal := (d.sil.queue.filter (fun r => r.prio == .snapshot)).map (·.val) ++ d.sil.chunkDue

/-- Every remaining chunk of the snapshot under way, committed at once (R341). -/
def finishSnapshot (d : Dev) : Dev :=
  if !d.sil.snapping then d
  else (List.range (d.snapChunks - d.sil.snapNext)).foldl (fun d i =>
    let x := d.takeChunk d.sil.snapNumber (d.sil.snapNext + i)
    x.1.commit x.2) (d.chunksOpen.foldl (fun d v => d.commit v)
      { d with sil := { d.sil with chunkDue := [], queue := d.sil.queue.filter (fun r => r.prio != .snapshot) } })

/-- A full snapshot committed at once (R342, R93). -/
def fullSnapshot (d : Dev) (n : Nat) : Dev :=
  (List.range d.snapChunks).foldl (fun d k => let x := d.takeChunk n k; x.1.commit x.2) d

/-! ### The flush plate (R341) -/

/-- The power-fail count in force. -/
def pfCount (d : Dev) : Nat := match d.inForce 0x0033 0 with | some (.pfCount n) => n | _ => 0

/-- The records that carry the plate into the flush area, FLUSH_HDR first (R341). -/
def plateRecords (d : Dev) : List JVal :=
  let used := plateUsed d.windows
  .flushHdr d.pfCount d.beat.count d.nowSec (d.now % 1000000000) ::
  (List.range (ceilDiv used 512)).map (fun k =>
    .flushChunk k (d.mem.readN (plateBase + 8192 * k) (16 * min 512 (used - 512 * k))))

/-! ### Restore (R342, R343) -/

/-- The sequence of the latest FLUSH_HDR. -/
def hdrSeq (d : Dev) : Nat := sumOf (d.sil.recs.filter (fun r => match r.val with | .flushHdr .. => true | _ => false)) (·.seq)

/-- The snapshot chunk in force for index `k`, with the sequence of its SNAP_DIR record (R340). -/
def chunkInForce (d : Dev) (k : Nat) : Option (Nat × SnapChunk) :=
  let ok (r : JRec) : Option (Nat × SnapChunk) := match r.val with
    | .snapDir n _ c crc => if c = k then
        (d.sil.snaps.find? (fun s => s.number == n && s.chunk == k && crc32c s.records == crc)).map (fun s => (r.seq, s))
      else none
    | _ => none
  d.sil.recs.findSome? ok

/-- The flush chunk that follows the latest FLUSH_HDR, with its sequence (R342). -/
def flushInForce (d : Dev) (k : Nat) : Option (Nat × Bytes) :=
  d.sil.recs.findSome? (fun r => match r.val with
    | .flushChunk c b => if c = k ∧ d.hdrSeq < r.seq ∧ 0 < d.hdrSeq then some (r.seq, b) else none
    | _ => none)

/-- Where the restored value of an EID comes from: its bytes, whether a flush chunk gave it, whether a flush record's check
failed, and the snapshot number and beat when a snapshot chunk gave it. -/
structure Restored where
  bytes : Bytes
  flushed : Bool
  failed : Bool
  snap : Option (Nat × Nat)

/-- The restored record of an EID (R342). -/
def restoredOf (d : Dev) (w : List (Nat × Nat)) (eid : Nat) : Restored :=
  let snap := d.chunkInForce (eid / 512)
  let fromSnap (failed : Bool) : Restored := match snap with
    | some (_, c) => ⟨slice c.records (eid % 512 * 16) 16, false, failed, some (c.number, c.beat)⟩
    | none => ⟨List.replicate 16 0, false, failed, none⟩
  match (platePos 0 w eid).bind (fun p => (d.flushInForce (p / 512)).map (fun x => (x.1, slice x.2 (p % 512 * 16) 16))) with
  | some (s, r) =>
    if snap.all (fun x => x.1 < s) then
      (if ledgerOk r then ⟨r, true, false, none⟩ else fromSnap true)
    else fromSnap false
  | none => fromSnap false

/-- A run of EIDs restored from snapshot chunks (R343). -/
structure GapRun where
  first : Nat
  count : Nat
  number : Nat
  firstBeat : Nat
  lastBeat : Nat
  window : Bool

/-- Extends the runs, newest first, by one EID (R343). -/
def gapStep (l : List GapRun) (eid number beat : Nat) (window : Bool) : List GapRun :=
  match l with
  | g :: r => if g.first + g.count = eid ∧ g.number = number ∧ g.window = window ∧ !window then
      { g with count := g.count + 1, lastBeat := beat } :: r
    else ⟨eid, 1, number, beat, beat, window⟩ :: l
  | [] => [⟨eid, 1, number, beat, beat, window⟩]

/-- Restores the ledger (R342, R343): the plate takes the window records and the others wait for the table's base; GAP records
after a stop without a final snapshot. `w` and `n` are the windows and node count of the Cut List in force; `stop` the stop
time. -/
def restoreLedger (d : Dev) (w : List (Nat × Nat)) (n : Nat) (finalSnapshot : Bool) (stop : Nat) : Dev × Bool :=
  let rs := (List.range n).map (fun e => (e, d.restoredOf w e))
  let mem := rs.foldl (fun (m : Memory) x => match platePos 0 w x.1 with
    | some p => m.writeN (plateBase + 16 * p) x.2.bytes
    | none => m) d.mem
  let chunks := (List.range (ceilDiv n 512)).map (fun k =>
    (k, (List.range 512).flatMap (fun i => match rs[512 * k + i]? with | some x => x.2.bytes | none => List.replicate 16 0)))
  let gaps := if finalSnapshot then [] else (rs.foldl (fun l x =>
      match x.2.snap with
      | some (num, beat) =>
        gapStep l x.1 num beat x.2.failed
      | none => l) []).reverse
  let used := ((List.range (ceilDiv (plateUsed w) 512)).filter (fun k => (d.flushInForce k).isSome)).length
  let failed := (rs.filter (fun x => x.2.failed)).length
  let d1 : Dev := { d with mem := mem, sil := { d.sil with restored := chunks } }
  let d2 := gaps.foldl (fun d g => d.commit (.gap g.first g.count g.firstBeat g.lastBeat (stop / 1000000000) (stop % 1000000000)
    g.number)) d1
  (d2.offer Ev.LEDGER_RESTORED [used, gaps.length, failed], 0 < used)

/-- Firmware sets the base of the ledger table: the restored records of the other EIDs go to it (R342). -/
def setLedgerBase (d : Dev) (v : Nat) : Dev :=
  let d1 := d.put Reg.SIL_LEDGER_BASE.base v
  if d.sil.restored.isEmpty then d1
  else
    let m := (List.range d.nodeCount).foldl (fun (m : Memory) e =>
      if (platePos 0 d.windows e).isSome then m else m.writeN (d1.liveAddr e) (d.liveRecord e)) d1.mem
    { d1 with mem := m, sil := { d1.sil with restored := [] } }

/-! ### The journal engine at work (R330, R332, R350) -/

/-- The record under way is complete: it counts, or its ring refuses it; the next one begins. -/
def recordDone (d : Dev) : Dev :=
  match d.sil.current with
  | none => d
  | some r =>
    let x := d.commitChecked r.val
    let d1 := { x.1 with sil := { x.1.sil with current := none } }.journalStart
    match r.val with
    | .application .. =>
      ((d1.put (Reg.SIL_JW_STATUS.status r.bank) x.2).put (Reg.SIL_JW_STATUS.busy r.bank) 0).raise Reg.SIL_IRQ_STATUS.jw_done
    | _ => d1

/-- What an uncorrectable word of a line takes with it: a record that stands on the line does not count (R329, R345), a settings image
and a snapshot chunk on it fail their CRC (R333, R340). -/
def spoilLine (d : Dev) (line : Nat) : Dev :=
  let on (a n : Nat) : Bool := a < line + 64 && line < a + n
  let lost := d.sil.recs.filter (fun r => on r.at_ r.val.size)
  let keep (base : Nat) (s : Option Settings) : Option Settings := s.filter (fun x => !on base (32 + x.body.length))
  let d1 : Dev := { d with sil := { d.sil with
    recs := d.sil.recs.filter (fun r => !on r.at_ r.val.size)
    settingsA := keep 0x20000 d.sil.settingsA
    settingsB := keep 0x40000 d.sil.settingsB
    snaps := d.sil.snaps.filter (fun c => !on (0x380000 + 0x200000 * (c.number % 2) + 8192 * c.chunk) 8192) } }
  lost.foldl (fun (d : Dev) r => d.offer Ev.RECORD_DISCARDED [r.val.region.1, r.at_ - r.val.region.1, 1]) d1

end Dev

/-! ### The commands -/

/-- ADD_ENERGY, ADD_RUN and SET_CREDIT (R338). -/
def execAddEnergy (t : Nat) (m : Master) (s : State) : Host.Outcome State Fault Refusal :=
  s.runAt t fun d => d.post (bankOf m) 1

def execAddRun (t : Nat) (m : Master) (s : State) : Host.Outcome State Fault Refusal :=
  s.runAt t fun d => d.post (bankOf m) 2

def execSetCredit (t : Nat) (m : Master) (s : State) : Host.Outcome State Fault Refusal :=
  s.runAt t fun d => d.post (bankOf m) 3

/-- SIL_JW_WRITE (R350, R328): a write of SIL_JW_CTRL starts an application record. -/
def execSilJwWrite (t : Nat) (m : Master) (v : W32) (s : State) : Host.Outcome State Fault Refusal :=
  s.runAt t fun d =>
    let b := bankOf m
    let typ := bits v.toNat 31 16
    let len := bits v.toNat 13 0
    let addr := bits (d.get (Reg.SIL_JW_ADDR_HI.word b)) 7 0 * 2 ^ 32 + d.get (Reg.SIL_JW_ADDR_LO.word b)
    if typ < 0x8000 || 8192 < len || !inSramOrLpddr addr len then d.put (Reg.SIL_JW_STATUS.status b) ST_BAD_ARGUMENT
    else (d.put (Reg.SIL_JW_STATUS.busy b) 1).journal .app (.application typ (d.mem.readN addr len)) b

/-- SCRUB_BLOCK (R344, R345): one 8 KiB block is read and rewritten; a line with an uncorrectable error, or one that corrected
errors in two passes running, is remapped; the last block completes the pass. -/
def execScrubBlock (t : Nat) (corrected bad : List Nat) (s : State) : Host.Outcome State Fault Refusal :=
  s.runAt t fun d =>
    if !d.sil.mounted then d
    else
      let weak := corrected.filter (fun l => d.sil.weakLines.contains l)
      let remap (d : Dev) (line : Nat) : Dev :=
        let left := d.get Reg.SIL_REMAP.spare_free
        if left = 0 then ({ d with sil := { d.sil with badLines := d.sil.badLines ++ [line] } } : Dev).offer Ev.SPARE_EXHAUSTED [line]
        else
          let d1 := (((d.put Reg.SIL_REMAP.spare_free (left - 1)).bump Reg.SIL_REMAP.remapped).raise Reg.SIL_IRQ_STATUS.remapped).offer
            Ev.LINE_REMAPPED [line]
          let d2 := if left - 1 < 1024 && !d1.flag Reg.SIL_STATUS.spare_low then
              (d1.put Reg.SIL_STATUS.spare_low 1).offer Ev.SPARE_LOW [left - 1] else d1
          if left = 1 then d2.offer Ev.SPARE_EXHAUSTED [line] else d2
      let d1 := ({ d with sil := { d.sil with
        scrubPassCorrected := d.sil.scrubPassCorrected + corrected.length
        weakNow := d.sil.weakNow ++ corrected } } : Dev)
      let d2 := ((d1.bump Reg.SIL_ECC.corrected corrected.length).bump Reg.SIL_ECC.uncorrectable bad.length).put
        Reg.SIL_STATUS.scrubbing 1
      let d3 := (bad ++ weak).foldl remap (bad.foldl (fun (d : Dev) l => d.spoilLine l) d2)
      let b := d.get Reg.SIL_SCRUB.block
      if b < 4095 then d3.put Reg.SIL_SCRUB.block (b + 1)
      else
        (((({ d3 with sil := { d3.sil with weakLines := d3.sil.weakNow, weakNow := [], scrubPassCorrected := 0, scrubAt := d.nowSec } } : Dev).put
          Reg.SIL_SCRUB.block 0)).put Reg.SIL_STATUS.scrubbing 0).offer Ev.SCRUB_PASS
            [d3.sil.scrubPassCorrected]

/-- NAND_REFRESH (R348): a block is rewritten; one that fails is retired to the reserve. -/
def execNandRefresh (t part block : Nat) (retired : Bool) (s : State) : Host.Outcome State Fault Refusal :=
  s.runAt t fun d =>
    if !retired then d
    else
      let left := d.get Reg.SIL_NAND.reserve_free - 1
      (((d.bump Reg.SIL_NAND.retired).put Reg.SIL_NAND.reserve_free left).raise Reg.SIL_IRQ_STATUS.nand_retired).offer
        Ev.NAND_BLOCK_RETIRED [part, block, left]

end Sys2Proof.Machine
end

