-- ==== Sys2Proof/Machine/Engine.lean ====
section
/-! DEFINITION. The rafter engine: local time, INGEST, SWEEP, COMMIT, the change-set and the digest (R104-R176). -/

namespace Sys2Proof.Machine

/-! ### The calendar (R117-R120, R296) -/

def leapYear (y : Nat) : Bool := y % 4 = 0 && (y % 100 ≠ 0 || y % 400 = 0)

def daysInMonth (y m : Nat) : Nat :=
  if m = 2 then (if leapYear y then 29 else 28) else if m = 4 || m = 6 || m = 9 || m = 11 then 30 else 31

/-- A real calendar date (R117). -/
def Date.real (x : Date) : Bool := 1 ≤ x.month && x.month ≤ 12 && 1 ≤ x.day && x.day ≤ daysInMonth x.year x.month

/-- The date `n` days after 1970-01-01, by the era of 400 years. -/
def dateOfDays (n : Nat) : Date :=
  let z := n + 719468
  let era := z / 146097
  let doe := z % 146097
  let yoe := (doe - doe / 1460 + doe / 36524 - doe / 146096) / 365
  let doy := doe - (365 * yoe + yoe / 4 - yoe / 100)
  let mp := (5 * doy + 2) / 153
  let m := if mp < 10 then mp + 3 else mp - 9
  ⟨yoe + era * 400 + (if m ≤ 2 then 1 else 0), m, doy - (153 * mp + 2) / 5 + 1⟩

/-- Days from 1970-01-01 to a date from that day on. -/
def daysOfDate (x : Date) : Nat :=
  let y := if x.month ≤ 2 then x.year - 1 else x.year
  let mp := if x.month > 2 then x.month - 3 else x.month + 9
  y / 400 * 146097 + (y % 400 * 365 + y % 400 / 4 - y % 400 / 100) + (153 * mp + 2) / 5 + (x.day - 1) - 719468

/-- Bit of the weekday in a weekdays mask: 0 Monday (R117); 1970-01-01 was a Thursday. -/
def weekdayOfDays (n : Nat) : Nat := (n + 3) % 7

/-- A date as one number, in the order of dates. -/
def Date.code (x : Date) : Nat := x.year * 65536 + x.month * 256 + x.day

/-! ### Nodes -/

def NodeStat.presence (s : NodeStat) : Bool := bit s.flags 0
def NodeStat.daylight (s : NodeStat) : Bool := bit s.flags 1
def NodeStat.drives (s : NodeStat) : Bool := bit s.flags 2
def NodeStat.follow (s : NodeStat) : Bool := bit s.flags 3
def NodeStat.latch (s : NodeStat) : Bool := bit s.flags 4

/-- The node's flags accept an entry of the kind (R105, R122). -/
def NodeStat.takes (s : NodeStat) (kind : Nat) : Bool :=
  ((kind == 1 || kind == 2) && s.presence) || (kind == 3 && s.daylight)

/-- A page as R94 sets it, with R109's Y and Yage. -/
def Page.fresh : Page := ⟨0, 65535, 0, false, 0, 0, 0, false, 65535⟩

/-- The media of a unicast item (R171); none for no link. -/
def linkMedium (link : Nat) : Option Nat :=
  if link < 0x1000 then some (link / 0x400)
  else if link < 0x1080 then some (4 + (link - 0x1000) / 16)
  else if link = 0x2000 then some 12
  else if link = 0x2001 then some 13
  else none

/-- The single default zone of a Cut List without ZONES (R115). -/
def Zone.sole : Zone := ⟨0xFFFF, false, false, 0, 0, List.replicate 8 256, 0⟩

/-- An override has expired at beat `b` (R132). -/
def expired (noexp : Bool) (expiry b : Nat) : Bool := !noexp && (b + 2 ^ 32 - expiry % 2 ^ 32) % 2 ^ 32 < 2 ^ 31

/-- A node of type 0x7 is covered only by a frame whose media include the local outputs, bit 14 (R137). -/
def covers (f : SafetyFrame) (s : NodeStat) : Bool :=
  s.drives && f.zoneFirst ≤ s.zone && s.zone ≤ f.zoneLast && (s.typ ≠ 7 || bit f.media 14)

/-- The wave map (R139). -/
def waveMap (i lo hi : Nat) : Nat := if i = 0 then 0 else lo + (hi - lo) * i / 1023

/-- One step of the ramp limiter toward a target, in Q6 levels (R141). -/
def ramp (l t6 up down : Nat) : Nat :=
  if t6 > l then (if up = 0 then t6 else min t6 (l + up))
  else if t6 < l then (if down = 0 then t6 else max t6 (l - down))
  else l

/-- The distance of two levels. -/
def levelGap (a b : Nat) : Nat := (a - b) + (b - a)

namespace Dev

def curPage (d : Dev) (n : Node) : Page := if d.rft.cur1 then n.page1 else n.page0
def setCurPage (d : Dev) (n : Node) (p : Page) : Node := if d.rft.cur1 then { n with page1 := p } else { n with page0 := p }
def setNxtPage (d : Dev) (n : Node) (p : Page) : Node := if d.rft.cur1 then { n with page0 := p } else { n with page1 := p }

def nodeAt (d : Dev) (eid : Nat) : Option Node := d.rft.nodes[eid]?

def setNode (d : Dev) (eid : Nat) (f : Node → Node) : Dev := { d with rft := { d.rft with nodes := modifyAt d.rft.nodes eid f } }

def mapNodes (d : Dev) (f : Nat → Node → Node) : Dev := { d with rft := { d.rft with nodes := d.rft.nodes.mapIdx f } }

/-- Changes the current page of a node. -/
def onPage (d : Dev) (eid : Nat) (f : Page → Page) : Dev := d.setNode eid (fun n => d.setCurPage n (f (d.curPage n)))

/-- The edges of a node, in edge order (R111). -/
def edgesOf (d : Dev) (s : NodeStat) : List Edge := (d.rft.edges.drop s.firstEdge).take s.edgeCount

def zoneOf (d : Dev) (z : Nat) : Zone := d.rft.zones.getD z Zone.sole

def battenOf (d : Dev) (eid : Nat) : Option Batten := d.rft.batten.find? (fun b => b.eid == eid)

def speedOf (d : Dev) (z h : Nat) : Nat := (d.rft.speed.getD z []).getD h 256

/-- Sets pending for an EID that drives a light (R173). -/
def setPending (d : Dev) (eid : Nat) : Dev :=
  d.setNode eid (fun n => if n.stat.drives then { n with run := { n.run with pending := true, refreshOnly := false } } else n)

/-! ### Cost and budget (R160-R161, R89) -/

/-- Cycles of one evaluation (R160). -/
def nodeCost (s : NodeStat) : Nat := if s.typ = 0 then 16 else 16 + 2 * (s.edgeCount - 8)

def lanes (d : Dev) : Nat := popCount (d.get Reg.RFT_STATUS.lanes) 8

def sweepCost (d : Dev) : Nat := sumOf d.rft.nodes (fun n => nodeCost n.stat)

/-- The commit reserve in engine cycles (R55). -/
def commitReserve (d : Dev) : Nat := ceilDiv (3 * d.rft.nodes.length) (max 1 d.lanes) + 2000

/-- t_pred in engine cycles (R161). -/
def predicted (d : Dev) : Nat :=
  let l := max 1 d.lanes
  ceilDiv 32768 l + 64 + d.get Reg.BEAT_PASSES.passes_now * (ceilDiv d.sweepCost l + 256) + d.commitReserve

/-- Node-passes a beat holds (R89): lanes × 37.5 M × period × 0.85. -/
def capacityAt (lanes periodNs : Nat) : Nat := lanes * 31875000 * periodNs / 1000000000

/-- Shows cost, budget and capacity, and warns when t_pred exceeds the deadline (R161). The deadline is that of the Cut
List's period, also while that period still waits for its second boundary (DEDUCED, assumption 38). -/
def showBudget (d : Dev) : Dev :=
  let t := d.predicted
  let late := t * 1000 > 9 * d.beat.nextPeriod.getD d.beat.period * 60
  let d1 := (((d.put Reg.RFT_COST.word d.sweepCost).put Reg.RFT_BUDGET.pred_us (min 65535 (ceilDiv t 600))).put
    Reg.RFT_CAPACITY.word (capacityAt d.lanes d.beat.period)).putB Reg.RFT_STATUS.budget_warn late
  let d2 := d1.put Reg.BEAT_TIMING.commit_rsv (min 65535 (ceilDiv d.commitReserve 8))
  if late then (d2.raise Reg.RFT_IRQ_STATUS.budget_warn).offer Ev.BUDGET_WARNING
    [ceilDiv t 600, 9 * d.beat.nextPeriod.getD d.beat.period / 10000, d.lanes, d.get Reg.BEAT_PASSES.passes_now]
  else d2

/-! ### Schedules (R116-R120) -/

/-- UTC seconds since 1970-01-01 (R118, R276, R277). -/
def utcSec (d : Dev) : Nat := ((d.nowSec : Int) - d.tim.utcOffset).toNat

/-- The OFFSET record in force and its minutes (R118). -/
def offsetNow (d : Dev) : Option Nat × Int :=
  let day := d.utcSec / 86400
  let minute := d.utcSec % 86400 / 60
  d.rft.exceptions.zipIdx.foldl (fun (acc : Option Nat × Int) (x, i) =>
    match x with
    | .offset first m at_ => if (dateOfDays day).code * 2048 + minute < first.code * 2048 + at_ then acc else (some i, m)
    | _ => acc) (none, 0)

/-- Local time to the whole second, from UTC seconds and an offset (R118, R120). -/
def localAt (utc : Nat) (minutes : Int) : LocalTime :=
  let s := ((utc : Int) + minutes * 60).toNat
  ⟨dateOfDays (s / 86400), weekdayOfDays (s / 86400), s % 86400⟩

/-- A SUBSTITUTE record takes in a local date (R119). -/
def substitutes (x : SchedException) (l : LocalTime) : Bool :=
  match x with
  | .substitute w a b _ _ => a.code ≤ l.date.code && l.date.code ≤ b.code && bit w l.weekday
  | _ => false

/-- The indices of the SUBSTITUTE records that take in a local date. -/
def matchedAt (d : Dev) (l : LocalTime) : List Nat :=
  (d.rft.exceptions.zipIdx.filter (fun (x, _) => substitutes x l)).map (·.2)

/-- Takes a sample of local time, given as its seconds, with the events of a change of offset or of the substitutions (R118-R120); none
of them at the first sample after BOOT. A record is judged at the previous sample's date by the section now in force. DESIGN CHOICE
(notes/assumptions/49): event 0x030A shows index 0xFFFF where no OFFSET record is in force. -/
def takeSample (d : Dev) (sec : Nat) (off : Option Nat × Int) : Dev :=
  let l := localAt sec 0
  let m := d.matchedAt l
  let d1 := { d with rft := { d.rft with sample := some l, sampleSec := sec, offset := off.2, matched := m } }
  match d.rft.sample with
  | none => d1
  | some was =>
    let d2 := if off.2 ≠ d.rft.offset then d1.offer Ev.OFFSET_CHANGE
      [toTwos 16 d.rft.offset, toTwos 16 off.2, off.1.getD 0xFFFF] else d1
    let old := d.matchedAt was
    (m.filter (fun i => !old.contains i && !d.rft.schedNoted.contains (i, l.date.code))).foldl (fun (d : Dev) i =>
      ({ d with rft := { d.rft with schedNoted := d.rft.schedNoted ++ [(i, l.date.code)] } } : Dev).offer Ev.SCHEDULE_EXCEPTION
        [i, l.date.code]) d2

/-- The sample of the beat opened (R120). DESIGN CHOICE (notes/assumptions/49): samples are taken while a Cut List is loaded; before
boot step 7 and in UNFRAMED there is no schedule, and none is taken. -/
def sampleTime (d : Dev) : Dev :=
  let off := d.offsetNow
  if d.flag Reg.CUT_STATUS.loaded then d.takeSample ((d.utcSec : Int) + off.2 * 60).toNat off else d

/-- The floor of a node (R116, R119): the lowest-indexed record that matches its profile decides. -/
def floorOf (d : Dev) (s : NodeStat) : Nat :=
  match d.rft.sample with
  | none => 0
  | some l =>
    let hit := d.rft.matched.findSome? (fun i =>
      match d.rft.exceptions[i]? with
      | some (SchedException.substitute _ _ _ fromP toP) => if fromP = s.profile || fromP = 0xFFFF then some toP else none
      | _ => none)
    let p := hit.getD s.profile
    if p = 0xFFFF then 0 else (d.rft.profiles.getD p []).getD (l.second / 900) 0

/-! ### INGEST (R122-R133, R148) -/

/-- The event of a class-1 set (R132). -/
def c1SetEvent (d : Dev) (scope id level effect duration : Nat) : Dev :=
  d.offer Ev.C1_SET [scope, id, level, effect, duration]

/-- The event of a class-1 override that ends: cause 0 cleared, 1 expired (R132). -/
def c1ClearedEvent (d : Dev) (scope id cause : Nat) : Dev := d.offer Ev.C1_CLEARED [scope, id, cause]

/-- An override of this scope and id is set (R131). -/
def c1IsSet (d : Dev) (scope id : Nat) : Bool :=
  if scope = 0 then (match d.nodeAt id with | some n => n.run.c1Eid | none => false)
  else if scope = 1 then d.rft.ovGroup.any (fun o => o.1 == id)
  else if scope = 2 then d.rft.ovZone.any (fun o => o.1 == id)
  else d.rft.ovSite.isSome

/-- Removes an override (R131, R132). DESIGN CHOICE (notes/assumptions/49): the level, noexp and expiry of an override that is not set, and
the expiry of one with noexp set, are 0. -/
def c1Remove (d : Dev) (scope id : Nat) : Dev :=
  if scope = 0 then d.setNode id (fun n => { n with run := { n.run with c1Eid := false, c1Noexp := false, c1Level := 0, c1Expiry := 0 } })
  else if scope = 1 then { d with rft := { d.rft with ovGroup := d.rft.ovGroup.filter (fun o => o.1 != id) } }
  else if scope = 2 then { d with rft := { d.rft with ovZone := d.rft.ovZone.filter (fun o => o.1 != id) } }
  else { d with rft := { d.rft with ovSite := none } }

/-- Enters an override, replacing one of the same scope and id (R131, R132). -/
def c1Enter (d : Dev) (scope id level effect duration : Nat) : Dev :=
  let noexp := duration == 0
  let e := if noexp then 0 else (effect + duration) % 2 ^ 32
  let o : Override := ⟨level, noexp, e⟩
  if scope = 0 then d.setNode id (fun n => { n with run := { n.run with c1Eid := true, c1Noexp := noexp, c1Level := level, c1Expiry := e } })
  else if scope = 1 then { d with rft := { d.rft with ovGroup := d.rft.ovGroup.filter (fun x => x.1 != id) ++ [(id, o)] } }
  else if scope = 2 then { d with rft := { d.rft with ovZone := d.rft.ovZone.filter (fun x => x.1 != id) ++ [(id, o)] } }
  else { d with rft := { d.rft with ovSite := some o } }

/-- A command-path entry at INGEST (R126, R131); `quiet` when an INGEST has already applied it and written its event. At its own
INGEST the engine counts as active the frames that the Lintel has latched; at a replay a class-0 entry sets them, and an EMG edge has
come as the entries of its frames (`mirroredCmds`). -/
def applyCmd (d : Dev) (quiet : Bool) (c : CmdEntry) : Dev :=
  match c with
  | .c1Set scope id level effect duration =>
    let d1 := d.c1Enter scope id level effect duration
    if quiet then d1 else d1.c1SetEvent scope id level effect duration
  | .c1Clear scope id =>
    if d.c1IsSet scope id then
      let d1 := d.c1Remove scope id
      if quiet then d1 else d1.c1ClearedEvent scope id 0
    else d
  | .class0 index activate =>
    if d.servesAsActive then d else
    let rest := d.rft.c0.filter (fun f => f.index != index)
    if activate then
      match d.lin.safety.bind (fun s => s.frames.find? (fun f => f.index == index)) with
      | some f => { d with rft := { d.rft with c0 := rest ++ [f] } }
      | none => d
    else { d with rft := { d.rft with c0 := rest } }
  | .emg => d

/-- The heading procedure of a PRESENCE entry, on the batten table as at the start of the beat (R148); a window of 0 never sets a heading
(R149). -/
def heading (d : Dev) (x : PortEntry) (s : NodeStat) : Dev :=
  let z := d.zoneOf s.zone
  let us := d.beat.period / 1000
  let best := (d.edgesOf s).foldl (fun (best : Option (Edge × Nat)) e =>
    match d.battenOf e.src with
    | some b =>
      let db := (x.rxBeat + 2 ^ 32 - b.beat) % 2 ^ 32
      let dus : Int := (db * us : Nat) + (x.rxUs : Int) - b.us
      if e.mask / 2 % 128 ≠ 0 && z.headingWindow ≠ 0 && db ≤ z.headingWindow && 0 < dus &&
          (match best with | none => true | some (_, v) => dus < v) then some (e, dus.toNat) else best
    | none => best) none
  let d1 := match best with
    | none => d.onPage x.eid (fun p => { p with h := 0 })
    | some (e, dus) =>
      let h := ((List.range 7).map (· + 1)).find? (fun h => bit e.mask h)
      let d1 := d.onPage x.eid (fun p => { p with h := h.getD 0 })
      if z.learn then
        let smp := dus * 256 / max 1 (z.refTransit * us)
        { d1 with rft := { d1.rft with stagedSpeed := d1.rft.stagedSpeed ++ [SpeedSample.mk s.zone (h.getD 0) (clampNat smp 64 1024)] } }
      else d1
  { d1 with rft := { d1.rft with stagedBatten := d1.rft.stagedBatten ++ [Batten.mk x.eid x.rxBeat x.rxUs] } }

/-- A port entry at INGEST (R126, R127): judged again, then applied to page cur. The flag P takes its sweep value once the
whole set is in (`sweepP`). -/
def applyPort (d : Dev) (x : PortEntry) : Dev :=
  match d.nodeAt x.eid with
  | none => d.bump Reg.RFT_INGEST_BAD.word
  | some n =>
    if !n.stat.takes x.kind then d.bump Reg.RFT_INGEST_BAD.word
    else
      let d0 := { d with rft := { d.rft with portSet := d.rft.portSet ++ [x] } }
      if x.kind = 1 then d0.heading x n.stat
      else if x.kind = 3 then d0.onPage x.eid (fun p => { p with y := x.value, yValid := true, yAge := 0 })
      else d0

/-- The beat's set holds an entry of the kind for an EID. -/
def inSet (d : Dev) (eid kind : Nat) : Bool := d.rft.portSet.any (fun x => x.eid == eid && x.kind == kind)

/-- The sweep value of P (R128). -/
def sweepP (d : Dev) (eid : Nat) (p : Bool) : Bool := d.inSet eid 1 || (p && !d.inSet eid 2)

/-- The EIDs named by the set, and those of the refusals. -/
def showFill (d : Dev) : Dev :=
  (d.put Reg.RFT_INGEST_FILL.fill (min 65535 d.rft.port.length)).put Reg.RFT_INGEST_FILL.in_progress
    (if d.rft.inProgress then min 65535 d.rft.portSet.length else 0)

/-- INGEST of a set (R126): the recorded refusals become pending (R173), then the command-path entries in order, then the port
entries by ascending EID, each EID's in the order given. The first `noted` command entries were applied before. -/
def ingest (d : Dev) (cmds : List CmdEntry) (noted : Nat) (ports : List PortEntry) (refused : List Nat) : Dev :=
  let d0 := { d with rft := { d.rft with
    refreshed := [], stagedBatten := [], stagedSpeed := [], portSet := [], cmdSet := cmds, inProgress := true } }
  let d1 := refused.foldl setPending d0
  let d2 := cmds.zipIdx.foldl (fun d (c, i) => d.applyCmd (i < noted) c) d1
  let d3 := (sortBy (fun x : PortEntry => x.eid) ports).foldl applyPort d2
  (d3.mapNodes (fun i n => d3.setCurPage n { d3.curPage n with p := d3.sweepP i (d3.curPage n).p })).showFill

/-! ### SWEEP (R151-R154) -/

/-- Takes what an edge offers a node (R151): `q` the node's page so far, whether it has been refreshed. -/
def edgeStep (d : Dev) (src : List Page) (hold : Nat) (acc : Page × Bool) (e : Edge) : Page × Bool :=
  let s := src.getD e.src Page.fresh
  let dEff := e.d * d.speedOf e.speedZone s.h / 256
  if s.a ≥ dEff && bit e.mask s.h && s.i > e.a then
    let c := s.i - e.a
    if c > acc.1.i then ({ acc.1 with i := c, a := 0, h := s.h, t := hold }, true)
    else if c = acc.1.i then ({ acc.1 with t := hold }, acc.2)
    else acc
  else acc

/-- One evaluation of a node in a pass (R151, R153). -/
def sweepNode (d : Dev) (first : Bool) (src : List Page) (i : Nat) (n : Node) : Page × Bool :=
  let p := src.getD i Page.fresh
  let present := (d.curPage n).p
  let s := n.stat
  let base : Page × Bool :=
    if !first then (p, false)
    else if present then
      (if p.i < s.ipeak then { p with i := s.ipeak, a := 0, t := s.hold } else { p with t := s.hold }, p.i < s.ipeak)
    else if p.t > 0 then ({ p with t := p.t - 1 }, false)
    else
      let v := p.i - s.decay
      (if v = 0 then { p with i := 0, h := 0 } else { p with i := v }, false)
  if present then base else (d.edgesOf s).foldl (d.edgeStep src s.hold) base

/-- One pass: the pages it reads, and those it gives with the EIDs refreshed so far. -/
def sweepPass (d : Dev) (first : Bool) (st : List Page × List Nat) : List Page × List Nat :=
  let r := d.rft.nodes.zipIdx.map (fun (n, i) => d.sweepNode first st.1 i n)
  (r.map (·.1), st.2 ++ (r.zipIdx.filter (fun (x, i) => x.2 && !st.2.contains i)).map (·.2))

/-- The passes of a sweep (R152): each reads the output of the pass before it. -/
def sweepPasses (d : Dev) : Nat → Bool → List Page × List Nat → List Page × List Nat
  | 0, _, st => st
  | k + 1, first, st => sweepPasses d k false (d.sweepPass first st)

/-- The sweep of the beat begins; its passes are counted (R151). -/
def startSweep (d : Dev) (passes : Nat) : Dev := { d with rft := { d.rft with sweeping := true, passesRun := passes } }

/-- SWEEP of `passes` passes of which the first `k` are run (R151, R152): pass j writes page nxt when passes - j is even and the pass
page otherwise. A page that no pass has written stays. -/
def runSweep (d : Dev) (passes k : Nat) : Dev :=
  let run (j : Nat) : List Page × List Nat := d.sweepPasses j true (d.rft.nodes.map d.curPage, [])
  let even := (passes - k) % 2 == 0
  let toNxt := if even then k else k - 1
  let toPass := if even then k - 1 else k
  let d1 := if toNxt = 0 then d else d.mapNodes (fun i n => d.setNxtPage n ((run toNxt).1.getD i Page.fresh))
  { d1 with rft := { d1.rft with
    passPage := if toPass = 0 then d.rft.passPage else (run toPass).1
    refreshed := (run k).2 } }

/-! ### COMMIT (R155) -/

/-- The class-0 level of a node (R137): that of the lowest-indexed active frame that covers it. -/
def class0Level (d : Dev) (s : NodeStat) : Option Nat :=
  ((sortBy (fun f : SafetyFrame => f.index) d.rft.c0).find? (fun f => covers f s)).map (·.level)

/-- The class-1 level of a node (R132). -/
def class1Level (d : Dev) (n : Node) : Option Nat :=
  if n.run.c1Eid then some n.run.c1Level
  else match n.stat.groups.findSome? (fun g => d.rft.ovGroup.find? (fun o => o.1 == g)) with
    | some o => some o.2.level
    | none =>
      match d.rft.ovZone.find? (fun o => o.1 == n.stat.zone) with
      | some o => some o.2.level
      | none => d.rft.ovSite.map (·.level)

/-- The daylight ceiling of a node, if one applies (R140). -/
def ceilingOf (d : Dev) (s : NodeStat) : Option Nat :=
  if !s.follow then none
  else match d.nodeAt s.daylightEid with
    | none => none
    | some m =>
      let p := d.curPage m
      if p.yValid && (p.yAge ≤ s.dlTimeout || s.dlTimeout = 65535) then
        some (if p.y ≤ s.dlLo then 1023 else if p.y ≥ s.dlHi then s.dlMin
          else 1023 - (p.y - s.dlLo) * (1023 - s.dlMin) / (s.dlHi - s.dlLo))
      else none

/-- The target level of a node with drives_light before class 0 (level pipeline). -/
def target (d : Dev) (n : Node) (c1 : Option Nat) : Nat :=
  let t := max (d.floorOf n.stat) (waveMap (d.curPage n).i n.stat.waveMin n.stat.waveMax)
  match c1 with
  | some l => l
  | none => match d.ceilingOf n.stat with | some c => min t c | none => t

/-- The level pipeline of one node (R139-R142). -/
def pipeline (d : Dev) (n : Node) : Node :=
  if !n.stat.drives then n
  else match d.class0Level n.stat with
    | some c0 => d.setCurPage { n with run := { n.run with
        lastSent := c0, c0Active := true, pending := false, refreshOnly := false } } { d.curPage n with l := c0 * 64 }
    | none =>
      let tgt := d.target n (d.class1Level n)
      let l := ramp (d.curPage n).l (tgt * 64) n.stat.rampUp n.stat.rampDown
      let lvl := l / 64
      let other := n.run.c0Active || n.stat.deadband ≤ levelGap lvl n.run.lastSent || (lvl = tgt && lvl ≠ n.run.lastSent)
      let due := n.stat.refresh ≠ 0 && n.run.refreshTmr = 0
      let only := if other then false else if due && !n.run.pending then true else n.run.refreshOnly
      d.setCurPage { n with run := { n.run with c0Active := false, pending := n.run.pending || other || due, refreshOnly := only } }
        { d.curPage n with l := l }

/-- The updates of a COMMIT before the pipeline, on one node: age (R155), P (R128), Yage (R129), the refresh countdown (R143);
`b` is the beat. A covered node's timer does not count down (R137). -/
def settle (d : Dev) (b i : Nat) (n : Node) : Node :=
  let p := d.curPage n
  let a := if d.rft.refreshed.contains i then p.a else min (p.a + 1) 65535
  let last := (d.rft.portSet.filter (fun x => x.eid == i && (x.kind == 1 || x.kind == 2))).getLast?
  let pl := if !n.stat.latch then false else match last with | some x => x.kind == 1 | none => p.p
  let ya := if d.inSet i 3 then p.yAge else min (p.yAge + 1) 65535
  let tmr := if b % 16 = 0 && (d.class0Level n.stat).isNone then n.run.refreshTmr - 1 else n.run.refreshTmr
  d.setCurPage { n with run := { n.run with refreshTmr := tmr } } { p with a := a, p := pl, yAge := ya }

/-- The staged speed samples and batten entries take effect (R150). -/
def applyStaged (d : Dev) : Dev :=
  let sp := d.rft.stagedSpeed.foldl (fun (sp : List (List Nat)) x =>
    modifyAt sp x.zone (fun r => modifyAt r x.heading (fun f =>
      let v : Int := f + (((x.sample : Int) - f) * (d.zoneOf x.zone).learnGain) / 256
      (max 64 (min v 1024)).toNat))) d.rft.speed
  let bt := d.rft.stagedBatten.foldl (fun (bt : List Batten) x => bt.filter (fun y => y.eid != x.eid) ++ [x]) d.rft.batten
  { d with rft := { d.rft with speed := sp, batten := sortBy (fun b : Batten => b.eid) bt, stagedSpeed := [], stagedBatten := [] } }

/-- Overrides that have expired at beat `b` are removed, each with its event (R132). -/
def expireC1 (d : Dev) (b : Nat) : Dev :=
  let eids := (d.rft.nodes.zipIdx.filter (fun (n, _) => n.run.c1Eid && expired n.run.c1Noexp n.run.c1Expiry b)).map (·.2)
  let gone : List (Nat × Nat) := eids.map (fun i => (0, i))
    ++ ((d.rft.ovGroup.filter (fun o => expired o.2.noexp o.2.expiry b)).map (fun o => (1, o.1)))
    ++ ((d.rft.ovZone.filter (fun o => expired o.2.noexp o.2.expiry b)).map (fun o => (2, o.1)))
    ++ (match d.rft.ovSite with | some o => if expired o.noexp o.expiry b then [(3, 0)] else [] | none => [])
  gone.foldl (fun d x => (d.c1Remove x.1 x.2).c1ClearedEvent x.1 x.2 1) d

/-- What sending a command does to a node (R166, R168). -/
def sent (n : Node) (seq level : Nat) : Node :=
  { n with run := { n.run with seq := seq, lastSent := level, refreshTmr := n.stat.refresh, pending := false, refreshOnly := false } }

/-- Pending local outputs take their levels (R164): the strings take them from the next boundary. -/
def localLevels (d : Dev) : Dev :=
  d.rft.nodes.zipIdx.foldl (fun d (n, i) =>
    if n.stat.typ = 7 && n.run.pending then
      let lvl := (d.curPage n).l / 64
      (d.setNode i (fun n => sent n n.run.seq lvl)).setStr n.stat.local_ (fun s => { s with next := some lvl })
    else d) d

/-- A change-set under construction: items in order, groups among them, zones left out of the beat. -/
structure CsBuild where
  dev : Dev
  items : List CsItem
  groups : Nat
  skipped : List Nat

/-- The members of a zone that a group item would command (R165). -/
def zoneMembers (d : Dev) (z : Nat) : List (Nat × Node) :=
  (d.rft.nodes.zipIdx.filter (fun (n, _) => n.stat.zone == z && n.stat.drives && n.stat.typ != 7)).map (fun (n, i) => (i, n))

/-- The limit of a change-set (R167). -/
def csLimit : Nat := 16384

/-- One zone in step 1 of R167: compressed under R165 and R166, left out for want of room, or passed over. -/
def groupStep (c : CsBuild) (z : Nat) (zn : Zone) : CsBuild :=
  let d := c.dev
  let ms := d.zoneMembers z
  match ms, d.rft.groups[zn.group]? with
  | (r, rn) :: _ :: _, some g =>
    let lvl := (d.curPage rn).l / 64
    let deltas : List Int := ms.map (fun (_, n) => sext 16 (n.run.seq + 65536 - rn.run.seq))
    let hi := deltas.foldl max 0
    let lo := deltas.foldl min 0
    if zn.compress && zn.group ≠ 0xFFFF && g.media ≠ 0 && hi - lo ≤ 16384 &&
        ms.all (fun (_, n) => n.run.pending && !n.run.c0Active && (d.curPage n).l / 64 == lvl) then
      let media := bitList g.media 14
      if c.items.length + media.length > csLimit then { c with skipped := c.skipped ++ [z] }
      else
        let new := toTwos 16 (rn.run.seq + hi + 1)
        let only := ms.all (fun (_, n) => n.run.refreshOnly)
        let items := media.map (fun m => (⟨r, lvl, only, true, new, d.epoch, 0xFFFF, 0x7FF, zn.group, m, ms.map (·.1)⟩ : CsItem))
        { c with
          dev := ms.foldl (fun (d : Dev) (x : Nat × Node) => d.setNode x.1 (fun n => sent n new lvl)) d
          items := c.items ++ items
          groups := c.groups + items.length }
    else c
  | _, _ => c

/-- One node in step 2 of R167 (R168). -/
def unicastStep (c : CsBuild) (last : Option Nat) (i : Nat) : CsBuild × Option Nat :=
  match c.dev.nodeAt i with
  | some n =>
    match linkMedium n.stat.link with
    | some m =>
      if n.run.pending && n.stat.typ ≠ 7 && !c.skipped.contains n.stat.zone && c.items.length < csLimit then
        let lvl := (c.dev.curPage n).l / 64
        let seq := (n.run.seq + 1) % 65536
        let addr := if n.stat.proxyAddr = 0xFFFF then 0x7FF else n.stat.proxyAddr
        ({ c with
          dev := c.dev.setNode i (fun n => sent n seq lvl)
          items := c.items ++ [⟨i, lvl, n.run.refreshOnly, false, seq, c.dev.epoch, n.stat.link, addr, 0, m, [i]⟩] }, some i)
      else (c, last)
    | none => (c, last)
  | none => (c, last)

/-- EIDs left pending for step 2. -/
def leftPending (d : Dev) : Nat := (d.rft.nodes.filter (fun n => n.run.pending)).length

/-- The change-set (R165-R170, R174), and the state after its allocation; `b` is the beat. -/
def changeSet (d : Dev) (b : Nat) : Dev × List CsItem :=
  let c1 := d.rft.zones.zipIdx.foldl (fun c (zn, z) => groupStep c z zn) (CsBuild.mk d [] 0 [])
  let n := d.rft.nodes.length
  let order := (List.range n).map (fun k => (d.rft.cursor + k) % n)
  let r := order.foldl (fun (x : CsBuild × Option Nat) i => unicastStep x.1 x.2 i) (c1, none)
  let c2 := r.1
  let full := c2.items.length ≥ csLimit
  let waiting := (c2.dev.rft.nodes.filter (fun m => m.run.pending && m.stat.typ != 7 && m.stat.link != 0xFFFF &&
    !c2.skipped.contains m.stat.zone)).length
  let cursor := if full && waiting > 0 then (match r.2 with | some i => (i + 1) % max 1 n | none => d.rft.cursor) else 0
  let left := c2.dev.leftPending
  let d1 := ((((({ c2.dev with rft := { c2.dev.rft with cursor := cursor } } : Dev).put Reg.RFT_CS_CURSOR.cursor cursor).put
    Reg.RFT_CS_LAST.groups c2.groups).put Reg.RFT_CS_LAST.items c2.items.length).put Reg.RFT_CS_PENDING.pending left)
  let d2 := if full then ((d1.bump Reg.RFT_CS_LIMIT_CNT.word).raise Reg.RFT_IRQ_STATUS.cs_limit).offer Ev.CS_LIMIT
    [b, c2.items.length, left, cursor] else d1
  (d2, c2.items)

/-- The beat digest (R159). -/
def digest (d : Dev) : Nat :=
  crc64 (d.rft.nodes.zipIdx.flatMap (fun (n, i) =>
    let p := d.curPage n
    toLE 4 i ++ toLE 2 p.l ++ toLE 2 p.i ++ toLE 2 p.a ++ toLE 1 p.h ++ [0]))

/-- The registers of a digest (R159). -/
def showDigest (d : Dev) (b : Nat) : Dev :=
  let x := d.digest
  (((d.put Reg.RFT_DIGEST_LO.word (x % 2 ^ 32)).put Reg.RFT_DIGEST_HI.word (x / 2 ^ 32)).put
    Reg.RFT_DIGEST_BEAT_LO.word (b % 2 ^ 32)).put Reg.RFT_DIGEST_BEAT_HI.word (b / 2 ^ 32)

/-- COMMIT of a swept beat `b` (R155): the output of the last pass becomes cur; page swap, ages, P, Yage, learnt speed, the refresh countdown, expiries, the level
pipeline, the change-set and the digest, in that order. -/
def commitEngine (d : Dev) (b : Nat) : Dev × List CsItem :=
  let d1 := ({ d with rft := { d.rft with cur1 := !d.rft.cur1 } } : Dev).put Reg.RFT_STATUS.cur_page (b2n (!d.rft.cur1))
  let d2 := (d1.mapNodes (fun i n => d1.settle b i n)).applyStaged.expireC1 b
  let d3 := (d2.mapNodes (fun _ n => d2.pipeline n)).localLevels
  let r := d3.changeSet b
  let d4 := (r.1.showDigest b).put Reg.RFT_STATUS.passes_run d.rft.passesRun
  ({ d4 with rft := { d4.rft with
    sweeping := false, inProgress := false, portSet := [], cmdSet := [], carriedPort := [], carriedCmd := [], cmdNoted := 0,
    refreshed := [] } }.showFill, r.2)

/-! ### Items (R171-R173) -/

end Dev

/-- The two words of an item (R171). -/
def CsItem.words (x : CsItem) : List Nat :=
  [x.eid + x.level * 2 ^ 17 + b2n x.refresh * 2 ^ 27 + b2n x.group * 2 ^ 28 + x.seq * 2 ^ 32 + x.epoch * 2 ^ 48,
   x.link + x.proxyAddr * 2 ^ 16 + x.grp * 2 ^ 27 + x.medium * 2 ^ 39]

namespace Dev

/-- Records an item refused by the Joist (R173). -/
def itemRefused (d : Dev) (x : CsItem) : Dev :=
  ({ d with rft := { d.rft with
    refused := d.rft.refused ++ x.eids, refusedItems := d.rft.refusedItems + 1
    refusedFirst := if d.rft.refusedItems = 0 then x.eids.headD 0 else d.rft.refusedFirst } }.bump
    Reg.RFT_CS_REFUSED.word).raise Reg.RFT_IRQ_STATUS.cs_refused

/-- Pushes one item (R172). -/
def pushItem (d : Dev) (x : CsItem) : Dev :=
  let r := d.push (16 + x.medium) (if x.group then 0x20000 + x.grp else x.eid) producerEngine x.words x.eids
  if r.2.1 = ST_OK then r.1 else r.1.itemRefused x

/-- Event 0x030C, once per beat in which an item is refused, at the boundary that ends the beat `b` (R173). DESIGN CHOICE
(notes/assumptions/49): for items accepted in one beat and flushed in a later one the beat named is that of the flush. -/
def reportRefused (d : Dev) (b : Nat) : Dev :=
  if d.rft.refusedItems = 0 then d
  else ({ d with rft := { d.rft with refusedItems := 0 } } : Dev).offer Ev.CS_REFUSED
    [b, d.rft.refusedItems, d.rft.refusedFirst]

/-! ### Engine state at boot and at a load (R147, R133) -/

/-- The speed table of the zones (R147). -/
def initialSpeed (l : List Zone) : List (List Nat) := l.map (·.speedInit)

/-- Batten and speed tables and the cursor as boot and a full load leave them; cause 0 boot, 1 full load (R147). -/
def engineReset (d : Dev) (cause : Nat) : Dev :=
  (({ d with rft := { d.rft with batten := [], speed := initialSpeed d.rft.zones, cursor := 0 } } : Dev).put
    Reg.RFT_CS_CURSOR.cursor 0).offer Ev.ENGINE_STATE_RESET [cause]

/-- The port entries that wait, discarded and counted (R61). -/
def discardPort (d : Dev) : Dev :=
  (({ d with rft := { d.rft with port := [], carriedPort := [] } } : Dev).bump Reg.RFT_INGEST_DISCARD.word
    (d.rft.port.length + d.rft.carriedPort.length)).showFill

/-! ### The ingest port (R123, R124) -/

/-- The staging of a master. -/
def ingestStage (d : Dev) (b : Nat) : Option IngestStage := d.rft.staging.find? (fun s => s.bank == b)

/-- Replaces a master's staging. -/
def setIngest (d : Dev) (b : Nat) (s : Option IngestStage) : Dev :=
  { d with rft := { d.rft with staging := d.rft.staging.filter (fun x => x.bank != b) ++ s.toList } }

/-- The limit of the port buffer (R124): the set in progress counts while its beat sweeps, is held in HOLD, or has been abandoned. -/
def portLimit (d : Dev) : Nat := 32768 - ((if d.rft.inProgress then d.rft.portSet.length else 0) + d.rft.carriedPort.length)

/-- The commit of an entry's four words: state, validity, room, in that order (R123). DESIGN CHOICE (notes/assumptions/49): a value other
than 0 on PRESENCE or VACANT (R122) is refused as invalid. -/
def ingestCommit (d : Dev) (b : Nat) (w : List W32) : Dev :=
  let g (i : Nat) : Nat := (w.getD i 0).toNat
  let eid := bits (g 0) 16 0
  let kind := bits (g 1) 7 0
  let value := bits (g 1) 31 16
  let st (d : Dev) (s : Nat) : Dev := d.put (Reg.RFT_INGEST_STATUS.status b) s
  if !(d.servesAsActive || d.sys.mstate = .hold) || (d.sys.role ≠ .solo && d.sys.role ≠ .active) then
    (st d ST_ILLEGAL_STATE).bump Reg.RFT_INGEST_DISCARD.word
  else
    let ok := bits (g 0) 31 17 = 0 && bits (g 1) 15 8 = 0 && bits (g 3) 31 16 = 0 && value ≤ 1023 && (kind = 3 || value = 0) &&
      (match d.nodeAt eid with | some n => n.stat.takes kind | none => false)
    if !ok then ((st d ST_BAD_ARGUMENT).bump Reg.RFT_INGEST_BAD.word).offer Ev.INGEST_BAD [b, eid, kind]
    else if d.rft.port.length ≥ d.portLimit then
      (((st d ST_REFUSED_FULL).bump Reg.RFT_INGEST_REFUSED.word).raise Reg.RFT_IRQ_STATUS.ingest_full).offer Ev.INGEST_FULL
        [d.beat.count, d.rft.port.length, d.portLimit]
    else
      let e : PortEntry := ⟨eid, kind, value, g 2, bits (g 3) 15 0⟩
      ((st { d with rft := { d.rft with port := d.rft.port ++ [e] } } ST_OK).bump Reg.RFT_INGEST_CNT.word).showFill

end Dev

/-- RFT_INGEST_W0 (R123): starts a new entry and discards a part-written one. -/
def execRftIngestW0 (t : Nat) (m : Master) (v : W32) (s : State) : Host.Outcome State Fault Refusal :=
  s.runAt t fun d => d.setIngest (bankOf m) (some ⟨bankOf m, [v, 0, 0]⟩)

/-- RFT_INGEST_WORD (R123): W1 or W2; ignored when no entry is open. -/
def execRftIngestWord (t : Nat) (m : Master) (i : Fin 2) (v : W32) (s : State) : Host.Outcome State Fault Refusal :=
  s.runAt t fun d =>
    match d.ingestStage (bankOf m) with
    | some x => d.setIngest (bankOf m) (some { x with words := modifyAt x.words (i.val + 1) (fun _ => v) })
    | none => d

/-- RFT_INGEST_COMMIT (R123): the write of W3; ignored when no entry is open. -/
def execRftIngestCommit (t : Nat) (m : Master) (v : W32) (s : State) : Host.Outcome State Fault Refusal :=
  s.runAt t fun d =>
    match d.ingestStage (bankOf m) with
    | some x => (d.setIngest (bankOf m) none).ingestCommit (bankOf m) (x.words ++ [v])
    | none => d

/-- RFT_BATTEN_SEL (R176): latches the selected entry. -/
def execRftBattenSel (t : Nat) (_m : Master) (v : W32) (s : State) : Host.Outcome State Fault Refusal :=
  s.runAt t fun d =>
    let e := bits v.toNat 16 0
    let d1 := d.put Reg.RFT_BATTEN_SEL.eid e
    match d.battenOf e with
    | some b => ((d1.put Reg.RFT_BATTEN_BEAT.word b.beat).put Reg.RFT_BATTEN_US.rx_us b.us).put Reg.RFT_BATTEN_US.valid 1
    | none => ((d1.put Reg.RFT_BATTEN_BEAT.word 0).put Reg.RFT_BATTEN_US.rx_us 0).put Reg.RFT_BATTEN_US.valid 0

/-- RFT_SPEED_SEL (R176): latches the selected factor; a zone the table does not hold gives 0. -/
def execRftSpeedSel (t : Nat) (_m : Master) (v : W32) (s : State) : Host.Outcome State Fault Refusal :=
  s.runAt t fun d =>
    let z := bits v.toNat 13 3
    let h := bits v.toNat 2 0
    ((d.put Reg.RFT_SPEED_SEL.zone z).put Reg.RFT_SPEED_SEL.heading h).put Reg.RFT_SPEED.factor
      ((d.rft.speed.getD z []).getD h 0)

/-- C1_EXPIRED (R132): an override that has expired at the beat in progress is removed with its event; one that has not, or
is not set, stays. -/
def execC1Expired (t scope id : Nat) (s : State) : Host.Outcome State Fault Refusal :=
  s.runAt t fun d =>
    let due :=
      if scope = 0 then (match d.nodeAt id with | some n => n.run.c1Eid && expired n.run.c1Noexp n.run.c1Expiry d.beat.count | none => false)
      else
        let o := if scope = 1 then (d.rft.ovGroup.find? (fun o => o.1 == id)).map (·.2)
          else if scope = 2 then (d.rft.ovZone.find? (fun o => o.1 == id)).map (·.2) else d.rft.ovSite
        match o with | some o => expired o.noexp o.expiry d.beat.count | none => false
    if due && d.servesAsActive && d.rft.sweeping then (d.c1Remove scope id).c1ClearedEvent scope id 1 else d

/-- REFRESH_DUE (R142, R143): a node whose refresh timer has run out becomes a candidate. -/
def execRefreshDue (t eid : Nat) (s : State) : Host.Outcome State Fault Refusal :=
  s.runAt t fun d => d.setNode eid (fun n =>
    if n.stat.drives && n.stat.refresh ≠ 0 && n.run.refreshTmr = 0 && !n.run.c0Active then
      { n with run := { n.run with pending := true, refreshOnly := n.run.refreshOnly || !n.run.pending } } else n)

/-- Writes one node's result of the sweep into page nxt, while the beat sweeps. -/
def reevaluate (d : Dev) (eid : Nat) : Dev :=
  if !d.rft.sweeping then d
  else
    let r := d.sweepPasses d.rft.passesRun true (d.rft.nodes.map d.curPage, [])
    d.setNode eid (fun n => d.setNxtPage n (r.1.getD eid Page.fresh))

/-- WAVE_HOLD_EXPIRED (R151): once T has reached 0, I falls by decay in pass 1 of each beat; the sweep writes that result for this node. -/
def execWaveHoldExpired (t eid : Nat) (s : State) : Host.Outcome State Fault Refusal :=
  s.runAt t fun d => reevaluate d eid

/-- EDGE_DELAY_ELAPSED (R151, R155): a source whose age has reached d_eff offers its light; the sweep writes the result for this node. -/
def execEdgeDelayElapsed (t eid _j : Nat) (s : State) : Host.Outcome State Fault Refusal :=
  s.runAt t fun d => reevaluate d eid

/-- DAYLIGHT_STALE (R140): a reading whose Yage has passed dl_timeout lifts the ceiling. Staleness is judged from Yage at
every COMMIT, so the machine holds nothing else to change. -/
def execDaylightStale (t _eid : Nat) (s : State) : Host.Outcome State Fault Refusal :=
  s.runAt t fun d => d

end Sys2Proof.Machine
end

