-- ==== Sys2Proof/Machine/Links.lean ====
section
/-! DEFINITION. Links of radios and wired ports: handles, frames, credits, rings, opening and closing (R39, R217-R235,
R250-R252, R261-R264, R429). A medium is numbered as lintel_media: 0-3 radios, 4-11 trunks, 12 UPLINK, 13 TIE. -/

namespace Sys2Proof

/-- A PHR that the radio accepts: mode switch 0, FCS type 0, data whitening 1 (R206). The places of the fields are those of
IEEE 802.15.4g, least significant bit first (PRESUMED, notes/assumptions/51). -/
def RadioRx.phrOk (f : RadioRx) : Bool :=
  let b := Machine.byteAt f.phr 0
  !Machine.bit b 0 && !Machine.bit b 3 && Machine.bit b 4

/-- The PSDU without its FCS. -/
def RadioRx.psdu (f : RadioRx) : Bytes := f.mpdu.take (f.mpdu.length - 4)

/-- The FCS of the PSDU (R206). -/
def RadioRx.fcsOk (f : RadioRx) : Bool := f.mpdu.drop (f.mpdu.length - 4) == Machine.fcs f.psdu

/-- The frame without its FCS. -/
def WiredRx.frame (f : WiredRx) : Bytes := f.wire.take (f.wire.length - 4)

/-- The FCS of the frame (R249). -/
def WiredRx.fcsOk (f : WiredRx) : Bool := f.wire.drop (f.wire.length - 4) == Machine.fcs f.frame

end Sys2Proof

namespace Sys2Proof.Machine

/-- The PHR of a PSDU of `n` bytes, FCS included: mode switch 0, FCS type 0, whitening 1, the length with its most significant bit
first (R206; PRESUMED, notes/assumptions/51). -/
def phr (n : Nat) : Bytes :=
  [BitVec.ofNat 8 (0x10 + sumOf (List.range 3) (fun i => if bit n (10 - i) then 2 ^ (5 + i) else 0)),
   BitVec.ofNat 8 (sumOf (List.range 8) (fun i => if bit n (7 - i) then 2 ^ i else 0))]

/-- PHR and PSDU of a frame given without its FCS (R206). -/
def onAir (b : Bytes) : Bytes := phr (b.length + 4) ++ b ++ fcs b

/-- An Ethernet frame as the MAC sends it: padded with zeros to 60 bytes, and its FCS (R249, R250). -/
def macFrame (b : Bytes) : Bytes :=
  let x := b ++ List.replicate (60 - b.length) 0
  x ++ fcs x

def RadSt.closed : RadSt := RadSt.reset

def TrkSt.closed : TrkSt := TrkSt.reset

/-- The handle of a medium's link (R39). -/
def linkHandle (md idx : Nat) : Nat :=
  if md < 4 then 0x400 * md + idx else if md < 12 then 0x1000 + 16 * (md - 4) + idx else 0x2000 + (md - 12)

/-- The medium and index a handle names (R39, R171). -/
def linkPlace (h : Nat) : Option (Nat × Nat) :=
  if h < 0x1000 then some (h / 0x400, h % 0x400)
  else if h < 0x1080 then some (4 + (h - 0x1000) / 16, (h - 0x1000) % 16)
  else if h = 0x2000 then some (12, 0)
  else if h = 0x2001 then some (13, 0)
  else none

/-- The register window of a wired port: trunk n at n, UPLINK at 14, TIE at 15 (R29). -/
def trkWindow (p : Nat) : Nat := if p < 8 then p else p + 6

namespace Dev

def radAt (d : Dev) (r : Nat) : RadSt := d.rad.getD r RadSt.closed
def setRad (d : Dev) (r : Nat) (f : RadSt → RadSt) : Dev := { d with rad := modifyAt d.rad r f }
def trkAt (d : Dev) (p : Nat) : TrkSt := d.trk.getD p TrkSt.closed
def setTrk (d : Dev) (p : Nat) (f : TrkSt → TrkSt) : Dev := { d with trk := modifyAt d.trk p f }

/-- Counter `i` of a radio or port (R246, R275). -/
def cnt (d : Dev) (md i : Nat) (k : Nat := 1) : Dev :=
  if md < 4 then d.bump (Reg.RAD_CNT.word md i) k else d.bump (Reg.TRK_CNT.word (trkWindow (md - 4)) i) k

def linksOf (d : Dev) (md : Nat) : List Link := if md < 4 then (d.radAt md).links else (d.trkAt (md - 4)).links

def setLinks (d : Dev) (md : Nat) (l : List Link) : Dev :=
  if md < 4 then d.setRad md (fun s => { s with links := l }) else d.setTrk (md - 4) (fun s => { s with links := l })

def findLink (d : Dev) (md idx : Nat) : Option Link := (d.linksOf md).find? (fun l => l.index == idx)

def updLink (d : Dev) (md idx : Nat) (f : Link → Link) : Dev :=
  d.setLinks md ((d.linksOf md).map (fun l => if l.index = idx then f l else l))

def ringOf (d : Dev) (md : Nat) : List RingEntry := if md < 4 then (d.radAt md).ring else (d.trkAt (md - 4)).ring

/-- Sets a ring, its tail passing every released entry, and shows the bytes used (R231). -/
def setRing (d : Dev) (md : Nat) (l : List RingEntry) : Dev :=
  let l' := l.dropWhile (fun e => e.released)
  let used := sumOf l' (·.size)
  if md < 4 then (d.setRad md (fun s => { s with ring := l' })).put (Reg.RAD_RING.used md) used
  else (d.setTrk (md - 4) (fun s => { s with ring := l' })).put (Reg.TRK_RING.used (trkWindow (md - 4))) used

/-- The ring's size: 256 KiB on radios, UPLINK and TIE, 128 KiB on trunks (R231, R247). -/
def ringSize (md : Nat) : Nat := if 4 ≤ md && md < 12 then 131072 else 262144

/-- The ring entry of a frame: an 8-byte descriptor and the frame padded to 8 bytes (R231). -/
def entrySize (n : Nat) : Nat := 8 + pad8 n

def ringFits (d : Dev) (md n : Nat) : Bool := sumOf (d.ringOf md) (·.size) + entrySize n ≤ ringSize md

/-- Marks entries released (R231). -/
def releaseRing (d : Dev) (md : Nat) (p : RingEntry → Bool) : Dev :=
  d.setRing md ((d.ringOf md).map (fun e => if p e then { e with released := true } else e))

/-- A frame enters the ring; a reader finds it from the next cycle on (R44, R45). -/
def pushRing (d : Dev) (md : Nat) (link : Option Nat) (number n : Nat) : Dev :=
  let x := d.setRing md (d.ringOf md ++ [{ link := link, number := number, size := entrySize n, released := false }])
  { x with cyc := { x.cyc with placed := (md, link, number) :: x.cyc.placed } }

/-- The unit is in the unit map and configured (R246, R275). -/
def mediumPresent (d : Dev) (md : Nat) : Bool :=
  if md < 4 then bit (d.get Reg.BST_UNIT0.radios) md && (d.radAt md).plan.isSome
  else if md < 12 then bit (d.get Reg.BST_UNIT0.trunks) (md - 4) && (d.trkAt (md - 4)).cfg.isSome
  else bit (d.get Reg.BST_UNIT1.ports) (md - 12) && d.cut.image.isSome

def inPair (d : Dev) : Bool := d.pair.cfg.isSome

def witnessLost (d : Dev) : Bool := d.pair.unreachableAt.isSome

/-- A heartbeat period is in force (R399). -/
def hbPeriod (d : Dev) : Bool := d.inPair && (!d.pair.leased || d.sys.mstate == .test || d.pair.peerTest || d.witnessLost)

/-- The peer's beacon is watched (R237). -/
def watches (d : Dev) : Bool :=
  d.inPair && ((d.sys.mstate == .service && d.sys.role != .solo && d.sys.role != .active) || d.hbPeriod)

/-- READY, SERVICE as SOLO or ACTIVE, or HOLD (R225, R236, R256). -/
def linksRun (d : Dev) : Bool := d.isState [.ready, .hold] || d.servesAsActive

/-- The tests that occupy a medium: T5 and T6 radios, T7 trunks, T6 and T8 ports, T11 every land (R459, R465). -/
def mediumTested (d : Dev) (md : Nat) : Bool :=
  match d.bst.test with
  | none => false
  | some r => r.running.any (fun t => if md < 4 then t == 5 || t == 6 else if md < 12 then t == 7 else t == 6 || t == 8)

/-- The tests that a class-0 frame on these media ends (R464). -/
def testsOnMedia (media : Nat) : List Nat :=
  (if bits media 3 0 ≠ 0 then [5] else []) ++ (if bits media 11 4 ≠ 0 then [7] else []) ++
    (if bits media 13 12 ≠ 0 then [8] else [])

/-- A test that holds a CLASS0 frame off a medium is running: one of those that its latch ends (R22, R464). -/
def c0Tested (d : Dev) (md : Nat) : Bool :=
  match d.bst.test with
  | none => false
  | some r => r.running.any (fun t => (testsOnMedia (2 ^ md)).contains t)

def mediumNetId (d : Dev) (md : Nat) : Nat :=
  if md < 4 then match (d.radAt md).plan with | some p => p.netId | none => 0
  else if md < 12 then match (d.trkAt (md - 4)).cfg with | some c => c.netId | none => 0
  else match d.lin.safety with | some s => s.gbeNetId | none => 0

/-- The medium byte of the nonces and of the link key's context (R219, R251). -/
def mediumByte (md : Nat) : Nat := if md < 4 then md else 0x80 + md

/-- The addr field of a frame (R217, R250): link index with radio, or link handle; dir in bit 15. -/
def addrField (md idx dir : Nat) : Nat :=
  (if md < 4 then idx + 0x400 * md else linkHandle md idx) + 0x8000 * dir

/-- The 13-byte nonce (R219, R251). -/
def nonce (d : Dev) (md addr dir fc32 : Nat) : Bytes :=
  toLE 2 (d.mediumNetId md) ++ toLE 1 (mediumByte md) ++ toLE 2 (if md < 4 then addr % 0x400 else addr % 0x8000) ++
    toLE 1 dir ++ toLE 4 fc32 ++ [0x06, 0, 0]

/-- The header of a Nymtil frame (R217, R250): 16 bytes, and plen on a wired port. -/
def frameHeader (d : Dev) (md fc addr linkSeq fc32 ackSeq credit plen : Nat) : Bytes :=
  toLE 1 fc ++ [0x01] ++ toLE 2 (d.mediumNetId md) ++ toLE 2 addr ++ toLE 2 linkSeq ++ toLE 4 fc32 ++ toLE 2 ackSeq ++
    toLE 2 credit ++ (if md < 4 then [] else toLE 2 plen)

/-- A secured frame: header, ciphertext and MIC (R219, R251). -/
def sealFrame (d : Dev) (md : Nat) (key : Bytes) (fc addr linkSeq fc32 ackSeq credit : Nat) (payload : Bytes) : Bytes :=
  let h := d.frameHeader md fc addr linkSeq fc32 ackSeq credit payload.length
  h ++ Config.ccmEncrypt key (d.nonce md (addr % 0x8000) (addr / 0x8000) fc32) h payload

/-- Frame types with their ack_req and secured bits (R217, R218). -/
def fcData := 0x30
def fcAck := 0x21
def fcBeacon := 0x22
def fcClass0 := 0x23
def fcGroup := 0x24

/-- The largest frame that may be placed, without FCS: max_psdu on radio, max_frame on a trunk, 1,522 bytes on UPLINK and
TIE (R216, R229, R262); Ethernet header included on a wired port. -/
def maxFrame (d : Dev) (md : Nat) : Nat :=
  if md < 4 then d.get (Reg.RAD_PLAN.max_psdu md)
  else if md < 12 then match (d.trkAt (md - 4)).cfg with | some c => c.maxFrame | none => 0
  else 1522

/-- Bytes of a frame with a payload, FCS and Ethernet header included (R217, R250, R266). -/
def frameSize (d : Dev) (md n : Nat) : Nat :=
  if md < 4 then 16 + n + 8 + 4
  else 14 + (if 12 ≤ md && d.flag (Reg.TRK_GBE_CFG.tag (trkWindow (md - 4))) then 4 else 0) + 18 + n + 8 + 4

def lostEvent (md : Nat) : EvCode := if md < 4 then Ev.RAD_LINK_LOST else Ev.TRK_LINK_LOST
def openedEvent (md : Nat) : EvCode := if md < 4 then Ev.RAD_LINK_OPENED else Ev.TRK_LINK_OPENED
def closedEvent (md : Nat) : EvCode := if md < 4 then Ev.RAD_LINK_CLOSED else Ev.TRK_LINK_CLOSED
def droppedEvent (md : Nat) : EvCode := if md < 4 then Ev.RAD_TX_DROPPED else Ev.TRK_TX_DROPPED

def unitOf (md : Nat) : Nat := if md < 4 then md else md - 4

/-- A link becomes LOST (R228, R263). -/
def loseLink (d : Dev) (md idx cause : Nat) : Dev :=
  match d.findLink md idx with
  | none => d
  | some l =>
    if l.lost then d
    else
      let d1 := (d.updLink md idx (fun l => { l with lost := true, cause := cause, awaiting := false })).offer (lostEvent md)
        [unitOf md, linkHandle md idx, cause, l.frames.length]
      if md < 4 then
        (d1.raise (Reg.RAD_IRQ_STATUS.link_lost md)).setRad md (fun s =>
          if s.event.any (fun e => e.link == idx) then { s with event := none } else s)
      else d1.raise (Reg.TRK_IRQ_STATUS.link_lost (trkWindow (md - 4)))

/-- Places a DATA frame on a link (R229-R231); its `more` bit is 0, since it is encrypted before the event that sends it is known
(DEDUCED, notes/assumptions/51): sequence, counter, encryption, ring. The link goes to LOST when its counter
is exhausted (R220). -/
def place (d : Dev) (md idx : Nat) (payload : Bytes) (eids : List Nat) : Dev :=
  match d.findLink md idx with
  | none => d
  | some l =>
    if l.fc32 ≥ 0xFFFFFFFF then d.loseLink md idx 3
    else
      let seq := (l.txSeq + 1) % 65536
      let bytes := d.sealFrame md l.key fcData (addrField md idx 0) seq l.fc32 l.rxSeq l.rxLimit payload
      (d.updLink md idx (fun l => { l with
        txSeq := seq
        fc32 := l.fc32 + 1
        frames := l.frames ++ [{ linkSeq := seq, bytes := bytes, eids := eids, sends := 0 }] })).pushRing md (some idx) seq
          bytes.length

/-- A frame's first transmission has credit (R230). -/
def hasCredit (l : Link) (f : TxFrame) : Bool := f.sends > 0 || (l.txLimit + 65536 - f.linkSeq) % 65536 < 32768

/-- The next frame of the chain that may be sent now (R45, R227, R231). -/
def nextFrame (d : Dev) (md : Nat) (l : Link) : Option TxFrame :=
  ((l.frames.drop l.sentNow).head?).filter (fun f => hasCredit l f && !d.cyc.placed.contains (md, some l.index, f.linkSeq))

/-- The frame acknowledges what the link has received: its ack_seq, written when it was placed, is rx_seq (R217, R233). -/
def acknowledges (l : Link) (f : TxFrame) : Bool := fieldLE f.bytes 12 2 == l.rxSeq

/-- The ACK frame of a link, `more` when a further frame of the event follows (R217), and the link that has built it (R220, R227);
none when its counter is exhausted. -/
def ackFrame (d : Dev) (md : Nat) (l : Link) (more : Bool) : Option (Bytes × Link) :=
  if l.fc32 ≥ 0xFFFFFFFF then none
  else some (d.sealFrame md l.key (fcAck + 0x40 * b2n more) (addrField md l.index 0) 0 l.fc32 l.rxSeq l.rxLimit [],
    { l with fc32 := l.fc32 + 1 })

/-- The link rewinds to its mark (R231). -/
def rewind (d : Dev) (md idx : Nat) : Dev := d.updLink md idx (fun l => { l with sentNow := 0, awaiting := false })

/-- A valid frame of the far end updates credits, releases frames and the supervision timer (R230). -/
def creditUpdate (d : Dev) (md idx ackSeq credit fc32 : Nat) : Dev :=
  match d.findLink md idx with
  | none => d
  | some l =>
    let gone (f : TxFrame) : Bool := (ackSeq + 65536 - f.linkSeq) % 65536 < 32768
    let n := (l.frames.filter gone).length
    let d1 := d.updLink md idx (fun l => { l with
      txLimit := if laterMod 16 credit l.txLimit then credit else l.txLimit
      frames := l.frames.filter (fun f => !gone f)
      sentNow := l.sentNow - n
      rxFc := some fc32
      lastRx := d.beat.count
      awaiting := false })
    d1.releaseRing md (fun e => e.link == some idx && (l.frames.filter gone).any (fun f => f.linkSeq == e.number))

/-- EIDs that the engine sets pending at the next INGEST (R173, R229, R225). -/
def refuseEids (d : Dev) (eids : List Nat) : Dev := { d with rft := { d.rft with refused := d.rft.refused ++ eids } }

/-! ### Opening, closing, resuming (R225, R261, R429) -/

/-- The link key (R428, R429). -/
def linkKey (d : Dev) (md idx : Nat) (family : Bytes) : Bytes :=
  kdf family (ascii "NYMTIL-LINK") (toLE 2 (d.mediumNetId md) ++ toLE 1 (mediumByte md) ++ toLE 2 (linkHandle md idx)) 128

/-- The staged parameters of a radio link (R224, R246). -/
def stagedRadio (d : Dev) (r b : Nat) : LinkCfg :=
  { interval := d.get (Reg.RAD_LINK_TIMING.interval r b), anchorBeat := d.get (Reg.RAD_LINK_ANCHOR.word r b),
    anchorUs := d.get (Reg.RAD_LINK_TIMING.anchor_us r b), eventLen := d.get (Reg.RAD_LINK_EVENT.event_len r b),
    hopBase := d.get (Reg.RAD_LINK_HOP.hop_base r b), hopInc := d.get (Reg.RAD_LINK_HOP.hop_inc r b),
    map := sumOf (List.range 4) (fun i => d.get (Reg.RAD_LINK_MAP.word r b i) * 2 ^ (32 * i)),
    supervision := d.get (Reg.RAD_LINK_EVENT.supervision r b), maxRetries := d.get (Reg.RAD_LINK_HOP.max_retries r b),
    window := d.get (Reg.RAD_LINK_HOP.window r b), keyId := d.get (Reg.RAD_LINK_KEY.key_id r b),
    wake := d.flag (Reg.RAD_LINK_HOP.wake r b), wakeAddr := d.get (Reg.RAD_LINK_KEY.wake_addr r b),
    ackTimeout := 0, keepalive := 0 }

/-- The staged parameters of a wired link (R261, R275). -/
def stagedWired (d : Dev) (p b : Nat) : LinkCfg :=
  let w := trkWindow p
  { interval := 0, anchorBeat := 0, anchorUs := 0, eventLen := 0, hopBase := 0, hopInc := 0, map := 0,
    supervision := d.get (Reg.TRK_LINK_SUP.supervision w b), maxRetries := d.get (Reg.TRK_LINK_CFG.max_retries w b),
    window := d.get (Reg.TRK_LINK_CFG.window w b), keyId := d.get (Reg.TRK_LINK_KEY.key_id w b), wake := false,
    wakeAddr := 0, ackTimeout := d.get (Reg.TRK_LINK_CFG.ack_timeout w b),
    keepalive := d.get (Reg.TRK_LINK_SUP.keepalive w b) }

/-- Parameters within R224. -/
def radioParams (d : Dev) (r : Nat) (c : LinkCfg) (fc32 : Nat) : Bool :=
  match (d.radAt r).plan, (d.radAt r).profile with
  | some p, some f =>
    let us := d.beat.period / 1000
    1 ≤ c.interval && c.interval ≤ 4096 && c.anchorUs < us && 1000 ≤ c.eventLen && c.eventLen ≤ us + 2000 &&
    c.hopBase < p.nCh && 1 ≤ c.hopInc && c.hopInc < p.nCh && Nat.gcd c.hopInc p.nCh == 1 &&
    2 ≤ popCount c.map 128 && c.map < 2 ^ p.nCh && (f.kind != 2 || 50 ≤ popCount c.map 128) &&
    2 * c.interval ≤ c.supervision && 1 ≤ c.maxRetries && 1 ≤ c.window && c.window ≤ 64 && fc32 ≤ 0xFFFFFFFE
  | _, _ => false

/-- Parameters within R261 and R275. -/
def wiredParams (c : LinkCfg) (fc32 : Nat) : Bool :=
  1 ≤ c.ackTimeout && c.ackTimeout ≤ 200 && 1 ≤ c.maxRetries && 1 ≤ c.window && c.window ≤ 64 && 2 ≤ c.supervision &&
  1 ≤ c.keepalive && c.keepalive < c.supervision && fc32 ≤ 0xFFFFFFFE

/-- The index a wired port admits: a branch unit, or 0 (R261). -/
def indexOk (d : Dev) (md idx : Nat) : Bool :=
  if md < 4 then true
  else if md < 12 then match (d.trkAt (md - 4)).cfg with | some c => idx < c.buCount | none => false
  else idx == 0

def linkStatus (d : Dev) (md b st : Nat) : Dev :=
  if md < 4 then d.put (Reg.RAD_LINK_STATUS.status md b) st
  else d.put (Reg.TRK_LINK_STATUS.status (trkWindow (md - 4)) b) st

def selectedLink (d : Dev) (md b : Nat) : Nat :=
  if md < 4 then d.get (Reg.RAD_LINK_SEL.link md b) else d.get (Reg.TRK_LINK_SEL.index (trkWindow (md - 4)) b)

/-- Links OPEN or LOST, shown per radio (R246). -/
def showLinks (d : Dev) (md : Nat) : Dev :=
  if md < 4 then d.put (Reg.RAD_STATUS.links_open md) (d.linksOf md).length else d

/-- Check 1 of R225. -/
def linkGate (d : Dev) (md : Nat) : Nat :=
  if d.mediumTested md then ST_BUSY_TEST
  else if d.linksRun && d.mediumPresent md then ST_OK else ST_ILLEGAL_STATE

/-- Closes a link (R225): its ring frames are discarded; with report its EIDs are refused. -/
def closeLink (d : Dev) (md idx : Nat) (report : Bool) : Dev :=
  match d.findLink md idx with
  | none => d
  | some l =>
    let opens := if md < 4 then [] else ((d.trkAt (md - 4)).opens.filter (fun o => o.link == idx))
    let eids := l.frames.flatMap (·.eids) ++ opens.flatMap (·.eids)
    let d1 := (d.setLinks md ((d.linksOf md).filter (fun x => x.index != idx))).releaseRing md (fun e => e.link == some idx)
    let d2 := if md < 4 then d1.setRad md (fun s =>
        if s.event.any (fun e => e.link == idx) then { s with event := none } else s)
      else d1.setTrk (md - 4) (fun s => { s with opens := s.opens.filter (fun o => o.link != idx) })
    let d3 := if report then d2.refuseEids eids else d2
    (d3.showLinks md).offer (closedEvent md) [unitOf md, linkHandle md idx, l.frames.length, if report then eids.length else 0]

/-- OPEN and RESUME (R225, R261): the checks in order, the key derived, the link set. RESUME sends the ring's frames from the mark,
each with its retries before it again (R227). -/
def openLink (d : Dev) (md b : Nat) (resume : Bool) : Dev :=
  let idx := d.selectedLink md b
  let fc := if md < 4 then d.get (Reg.RAD_LINK_FC.word md b) else d.get (Reg.TRK_LINK_FC.word (trkWindow (md - 4)) b)
  let c := if md < 4 then d.stagedRadio md b else d.stagedWired (md - 4) b
  let old := d.findLink md idx
  if d.linkGate md ≠ ST_OK then d.linkStatus md b (d.linkGate md)
  else if resume && !(old.any (fun l => l.lost)) || !resume && old.isSome then d.linkStatus md b ST_ILLEGAL_STATE
  else if !(d.indexOk md idx && if md < 4 then d.radioParams md c fc else wiredParams c fc) then
    d.linkStatus md b ST_BAD_ARGUMENT
  else match d.useKey c.keyId (if md < 4 then masterRadio else masterTrunk) (if md < 4 then useRadioLink else useTrunkLink) with
    | (st, fam, d1) =>
      if st ≠ ST_OK then d1.linkStatus md b ST_NOT_PERMITTED
      else
        let key := d1.linkKey md idx fam
        let fresh : Link :=
          { index := idx, lost := false, cause := 0, cfg := c, key := key, fc32 := fc, rxFc := none, txSeq := 0, rxSeq := 0,
            txLimit := c.window, rxLimit := c.window, event := 0, frames := [], sentNow := 0, lastRx := d.beat.count,
            lastTx := d.beat.count, ackDue := false, awaiting := false, markAt := 0 }
        let l : Link := match resume, old with
          | true, some o => { fresh with rxFc := o.rxFc, txSeq := o.txSeq, rxSeq := o.rxSeq, txLimit := o.txLimit,
                                         rxLimit := o.rxLimit
                                         frames := o.frames.map (fun f => { f with sends := 0 }) }
          | _, _ => fresh
        let d2 := d1.setLinks md ((d1.linksOf md).filter (fun x => x.index != idx) ++ [l])
        ((d2.showLinks md).linkStatus md b ST_OK).offer (openedEvent md) [unitOf md, linkHandle md idx, b2n resume]

/-- CLOSE (R225). -/
def closeOp (d : Dev) (md b : Nat) (report : Bool) : Dev :=
  let idx := d.selectedLink md b
  if d.linkGate md ≠ ST_OK then d.linkStatus md b (d.linkGate md)
  else if (d.findLink md idx).isNone then d.linkStatus md b ST_ILLEGAL_STATE
  else (d.closeLink md idx report).linkStatus md b ST_OK

/-! ### Receiving (R233-R235, R264) -/

/-- The beat and µs at which an SFD arrived `ago` ns before this instant (R235). -/
def rxStamp (d : Dev) (ago : Nat) : Nat × Nat :=
  if ago ≤ d.beat.sinceBase then (d.beat.count % 2 ^ 32, (d.beat.sinceBase - ago) / 1000)
  else ((d.beat.count + 2 ^ 32 - 1) % 2 ^ 32, (d.beat.period - min d.beat.period (ago - d.beat.sinceBase)) / 1000)

/-- The words of a received item (R235, R264). -/
def rxWords (beat us handle fc len rssi ch seq : Nat) (payload : Bytes) : List Nat :=
  [beat + us % 65536 * 2 ^ 32 + handle * 2 ^ 48,
   fc + len * 2 ^ 8 + rssi % 256 * 2 ^ 16 + ch % 128 * 2 ^ 24 + seq * 2 ^ 32] ++
  (List.range (ceilDiv len 8)).map (fun i => fieldLE payload (8 * i) 8)

/-- What a secured frame on a link gives at checks 3 to 6 of R233: the counter to raise, a duplicate, or the payload. -/
inductive RxVerdict where
  | count (i : Nat)
  | duplicate
  | pass (payload : Bytes)
deriving DecidableEq, Repr

/-- Checks 3 (an OPEN link and dir 1), 4, 5 and 6 of R233 on a frame whose header is `h` bytes long. -/
def rxJudge (d : Dev) (md idx : Nat) (frame : Bytes) (h : Nat) : RxVerdict :=
  let addr := fieldLE frame 4 2
  let fc32 := fieldLE frame 8 4
  let seq := fieldLE frame 6 2
  let data := byteAt frame 0 % 16 == 0
  match d.findLink md idx with
  | none => .count 10
  | some l =>
    if l.lost || addr < 0x8000 then .count 10
    else match Config.ccmDecrypt l.key (d.nonce md (addr % 0x8000) 1 fc32) (frame.take h) (frame.drop h) with
      | none => .count 5
      | some p =>
        let dup := data && l.rxFc == some fc32 && seq == l.rxSeq
        if dup then .duplicate
        else if !(match l.rxFc with | none => true | some x => x < fc32) then .count 6
        else if data && seq ≠ (l.rxSeq + 1) % 65536 then
          (if (l.rxLimit + 65536 - seq) % 65536 < 32768 then .count 7 else .count 9)
        else if data && 32768 ≤ (l.rxLimit + 65536 - seq) % 65536 then .count 9
        else .pass p

/-- A DATA frame has been delivered: rx_seq advances, credit is granted, and an acknowledgement is due (R230, R233). -/
def delivered (d : Dev) (md idx seq : Nat) : Dev :=
  (d.updLink md idx (fun l => { l with
    rxSeq := seq, rxLimit := (seq + l.cfg.window) % 65536, ackDue := true })).cnt md 2

end Dev

end Sys2Proof.Machine
end

