-- ==== Sys2Proof/Machine/Radio.lean ====
section
/-! DEFINITION. Radios: dwell, link events, frames received, beacons, wake-up and the class-0 slot (R205-R246). -/

namespace Sys2Proof.Machine

/-- Data rate of a PHY mode, kb/s (R205). -/
def phyRate : Nat → Nat
  | 0 => 50 | 1 => 100 | 2 => 150 | 3 => 200 | 4 => 200 | _ => 300

/-- Channel spacing of a PHY mode, Hz (R205). -/
def phySpacing : Nat → Nat
  | 0 => 200000 | 5 => 600000 | _ => 400000

/-- Booked airtime in µs, rounded up (R207): mode, preamble octets, PSDU bytes. -/
def airtime (mode preamble psdu : Nat) : Nat := 80 + ceilDiv (8 * (preamble + 4 + psdu) * 1000) (phyRate mode)

/-- The largest PSDU, at most 74 bytes, whose booked airtime is at most the period and 2 ms (R216); period in ns. -/
def maxPsdu (p : RadPlan) (period : Nat) : Nat :=
  ((List.range 75).reverse.find? (fun n => airtime p.mode p.preamble n ≤ period / 1000 + 2000)).getD 0

/-- The `k`-th set bit of a mask among its low `n` bits, counting from 0 in ascending order. -/
def kthBit (mask n k : Nat) : Nat := (bitList mask n).getD k 0

/-- The set bit of a mask whose turn comes at `k`. -/
def maskTurn (mask k : Nat) : Nat := kthBit mask 128 (k % max 1 (popCount mask 128))

/-- The channel of event `e` of a link (R226). -/
def hopChannel (c : LinkCfg) (nCh e : Nat) : Nat :=
  let u := (c.hopBase + e * c.hopInc) % max 1 nCh
  if bit c.map u then u else maskTurn c.map u

/-- The sub-band that holds a channel with the spacing of a mode (R209, R210). -/
def subBandOf (p : RadPlan) (f : RadProfile) (ch mode : Nat) : Option Nat :=
  let c := p.channels.getD ch 0
  let h := phySpacing mode / 2
  f.subBands.findIdx? (fun s => s.fLo ≤ c - h && c + h ≤ s.fHi)

/-- The accumulators of a plan and profile, empty (R211). -/
def newAccs (p : RadPlan) (f : RadProfile) : List DwellAcc :=
  (if f.chWindow = 0 then [] else (List.range p.nCh).map (fun i => DwellAcc.mk 0 i [0] false)) ++
  (List.range f.subBands.length).map (fun i => DwellAcc.mk 1 i [0] false)

/-- The used figure: the current bin and the 32 before it (R211). -/
def DwellAcc.used (a : DwellAcc) : Nat := sumOf a.bins id

/-- Limit and reserve of an accumulator (R209). -/
def accLimits (f : RadProfile) (a : DwellAcc) : Nat × Nat :=
  if a.kind = 0 then (f.chLimit, f.chReserve)
  else match f.subBands[a.index]? with
    | some s => (s.limit, s.reserve)
    | none => (0, 0)

/-- The accumulator is one that a transmission on a channel books to (R211). -/
def booksTo (p : RadPlan) (f : RadProfile) (ch mode : Nat) (a : DwellAcc) : Bool :=
  if a.kind = 0 then a.index == ch else subBandOf p f ch mode == some a.index

/-- Books airtime to the current bins (R211). -/
def bookAir (s : RadSt) (ch mode t : Nat) : RadSt :=
  match s.plan, s.profile with
  | some p, some f => { s with accs := s.accs.map (fun a : DwellAcc =>
      if booksTo p f ch mode a then { a with bins := match a.bins with | b :: r => (b + t) :: r | [] => [t] } else a) }
  | _, _ => s

/-- The last transmission is booked, to the bins current now (R211). -/
def RadSt.settled (s : RadSt) : RadSt :=
  match s.pending with
  | some x => { bookAir s x.channel x.mode x.time with pending := none }
  | none => s

/-- The last transmission is booked if it has ended by `now`. -/
def RadSt.settledAt (s : RadSt) (now : Nat) : RadSt := if s.pending.any (fun x => x.ends ≤ now) then s.settled else s

/-- The first accumulator that refuses a transmission of `t` µs (R212), as it stands with the last transmission booked; `c0` selects
the whole limit. -/
def dwellRefuses (s : RadSt) (ch mode t : Nat) (c0 : Bool) : Option DwellAcc :=
  match s.plan, s.profile with
  | some p, some f => s.settled.accs.find? (fun a => booksTo p f ch mode a &&
      (accLimits f a).1 < a.used + t + (if c0 then 0 else (accLimits f a).2))
  | _, _ => none

/-- The power of a transmission on a channel: the lower of the plan's power and the max_power of its sub-band (R207). -/
def txPower (s : RadSt) (ch mode : Nat) : Int :=
  match s.plan, s.profile with
  | some p, some f => match (subBandOf p f ch mode).bind (fun i => f.subBands[i]?) with
    | some b => min p.power b.maxPower
    | none => p.power
  | _, _ => 0

/-- Time of so many octets in a PHY mode, ns (R205). -/
def octetsNs (mode n : Nat) : Nat := 8 * n * 1000000 / phyRate mode

/-- The watch window of an instance, ns after the boundary: from 100 µs before beacon_offset to 100 µs after the expected SFD, which
ends 40 µs and the preamble and SFD octets after it (R207, R237; DEDUCED, notes/assumptions/51). -/
def watchWindow (p : RadPlan) : Nat × Nat :=
  (p.beaconOffset * 1000 - 100000, p.beaconOffset * 1000 + 40000 + octetsNs p.mode (p.preamble + 2) + 100000)

/-- A beat whose counter is a multiple of beacon_period (R236). -/
def beaconBeat (p : RadPlan) (b : Nat) : Bool := p.beaconPeriod != 0 && b % p.beaconPeriod == 0

namespace Dev

/-- Module time of the boundary that ends the beat in progress, ns. -/
def boundaryAt (d : Dev) : Nat := d.beat.base + d.beat.len

/-- Runs `f` at an instant of the same or the next beat, `t` ns after the boundary; the instant of the command stands again after
it. -/
def later (d : Dev) (t : Nat) (f : Dev → Dev) : Dev :=
  let x := f { d with beat := { d.beat with sinceBase := max d.beat.sinceBase t } }
  { x with beat := { x.beat with sinceBase := d.beat.sinceBase } }

/-- The time by which a normal transmission that starts now ends (R216). One that starts past the next boundary ends by the one after
it, whether or not the slot there is claimed. -/
def airBound (d : Dev) (r : Nat) : Nat :=
  if d.boundaryAt ≤ d.now then d.boundaryAt + d.beat.period
  else if (d.radAt r).claimedNext then d.boundaryAt else d.boundaryAt + 2000000

/-- The instant lies in a claimed slot (R215). -/
def inClaimed (d : Dev) (r : Nat) : Bool :=
  if d.boundaryAt ≤ d.now then (d.radAt r).claimedNext && d.now < d.boundaryAt + 2000000
  else (d.radAt r).claimed && d.beat.sinceBase < 2000000

/-- The end of the watch window of this beat or the next that a span of `t` µs from an instant on meets (R215, R237). -/
def watchMeets (d : Dev) (r now t : Nat) : Option Nat :=
  match (d.radAt r).plan with
  | none => none
  | some p =>
    if !p.watch || !d.watches then none
    else ([(d.beat.count, d.beat.base), (d.beat.count + 1, d.boundaryAt)].find? (fun b =>
      beaconBeat p b.1 && now < b.2 + (watchWindow p).2 && b.2 + (watchWindow p).1 < now + t * 1000)).map (fun b =>
        b.2 + (watchWindow p).2)

/-- A deferral (R213): counted, and event 0x0504 at most once per accumulator and bin. -/
def dwellDefer (d : Dev) (r : Nat) (a : DwellAcc) : Dev :=
  let lim := match (d.radAt r).profile with | some f => (accLimits f a).1 | none => 0
  let d1 := (d.cnt r 11).raise (Reg.RAD_IRQ_STATUS.dwell_defer r)
  if a.noted then d1
  else (d1.setRad r (fun s => { s with accs := s.accs.map (fun x : DwellAcc =>
      if x.kind = a.kind ∧ x.index = a.index then { x with noted := true } else x) })).offer Ev.RAD_DWELL_DEFER
        [r, a.kind, a.index, a.used, lim]

/-- What a normal transmission meets. -/
inductive TxTry where
  | sent
  | dwell (a : DwellAcc)
  | late
deriving DecidableEq, Repr

/-- A frame goes on air (R206, R207), or a preamble, which has no bytes (R241); it is booked when it ends (R211). -/
def transmit (d : Dev) (r ch mode preamble t : Nat) (bytes : Bytes) : Dev :=
  d.setRad r (fun s => { s.settled with
    pending := some ⟨ch, mode, t, d.now + t * 1000⟩
    busyUntil := d.now + t * 1000
    air := s.air ++ [⟨ch, mode, preamble, txPower s ch mode, bytes, d.now⟩] })

/-- Tries a normal transmission of a PSDU, given without its FCS, now: not while the radio sends, during a preamble, in a claimed slot
or a watch window, nor past R216's bound (R212, R215, R216). -/
def tryAir (d : Dev) (r ch mode preamble : Nat) (psdu : Bytes) : TxTry × Dev :=
  let t := airtime mode preamble (psdu.length + 4)
  if d.now < (d.radAt r).busyUntil || (d.radAt r).waking.isSome || (d.watchMeets r d.now t).isSome || d.inClaimed r
      || d.airBound r < d.now + t * 1000 then (.late, d)
  else match dwellRefuses (d.radAt r) ch mode t false with
    | some a => (.dwell a, d.dwellDefer r a)
    | none => (.sent, d.transmit r ch mode preamble t (onAir psdu))

/-- Ends a link event (R226); frames that were sent and not released are sent again from the mark (R231). -/
def endEvent (d : Dev) (r idx : Nat) : Dev :=
  (d.setRad r (fun s => if s.event.any (fun e => e.link == idx) then { s with event := none } else s)).rewind r idx

/-- A frame of a link event goes on air if it ends within the event (R226); whether it was sent. -/
def eventAir (d : Dev) (r : Nat) (ev : EventRun) (p : RadPlan) (psdu : Bytes) : Bool × Dev :=
  if ev.ends < d.now + airtime p.mode p.preamble (psdu.length + 4) * 1000 then (false, d)
  else match d.tryAir r ev.channel p.mode p.preamble psdu with
    | (.sent, d1) => (true, d1.cnt r 0)
    | (_, d1) => (false, d1)

/-- An ACK of a link goes on air, which polls when `poll` (R227); whether it was sent. -/
def eventAck (d : Dev) (r : Nat) (l : Link) (ev : EventRun) (p : RadPlan) (poll more : Bool) : Bool × Dev :=
  match d.ackFrame r l more with
  | none => (false, d.loseLink r l.index 3)
  | some (b, l') =>
    match d.eventAir r ev p b with
    | (true, d1) => (true, d1.updLink r l.index (fun _ => { l' with lastTx := d.beat.count, ackDue := false, awaiting := poll }))
    | x => x

/-- A DATA frame of a link goes on air in its event, or the event ends (R213, R227); one sent too often loses the link. -/
def eventData (d : Dev) (r : Nat) (l : Link) (ev : EventRun) (p : RadPlan) (f : TxFrame) : Dev :=
  if f.sends ≥ l.cfg.maxRetries + 1 then d.loseLink r l.index 2
  else match d.eventAir r ev p f.bytes with
    | (true, d1) =>
      (d1.updLink r l.index (fun l => { l with
        frames := l.frames.map (fun x : TxFrame => if x.linkSeq = f.linkSeq then { x with sends := x.sends + 1 } else x)
        sentNow := l.sentNow + 1, lastTx := d.beat.count, ackDue := false, awaiting := true })).when (f.sends > 0) (fun d => d.cnt r 1)
    | (false, d1) => d1.endEvent r l.index

/-- Sends the next frame of a link within its event (R227): its next DATA frame with credit, after an ACK where that frame does not
acknowledge what was received; else an ACK, which polls when `poll`, or acknowledges. With nothing to send the event ends, unless the
endpoint has a further frame (`more`, R226). -/
def eventSend (d : Dev) (r idx : Nat) (poll more : Bool) : Dev :=
  match d.findLink r idx, (d.radAt r).event, (d.radAt r).plan with
  | some l, some ev, some p =>
    match d.nextFrame r l with
    | some f =>
      if !l.ackDue || acknowledges l f then d.eventData r l ev p f
      else
        let a := d.eventAck r l ev p false true
        if a.1 then a.2.later ((a.2.radAt r).busyUntil - d.beat.base) (fun d => d.eventData r l ev p f) else a.2
    | none =>
      if !(poll || l.ackDue) then (if more then d else d.endEvent r idx)
      else
        let a := d.eventAck r l ev p poll false
        if a.1 then (if poll || more then a.2 else a.2.endEvent r idx) else if poll then a.2.endEvent r idx else a.2
  | _, _, _ => d

/-- The event of a link is skipped (R226): the counter has advanced. -/
def skipEvent (d : Dev) (r : Nat) : Dev := d.cnt r 12

/-- Begins the first frame of an event (R226, R227). -/
def beginEvent (d : Dev) (r idx ch len : Nat) : Dev :=
  (d.setRad r (fun s => { s with event := some ⟨idx, ch, d.now + len * 1000⟩ })).eventSend r idx true false

/-- The beat of a link's next event, modulo 2^32 (R226). -/
def eventDue (d : Dev) (l : Link) : Bool :=
  (l.cfg.anchorBeat + l.event * l.cfg.interval) % 2 ^ 32 == d.beat.count % 2 ^ 32

/-- The channel of a link's event: the counter is 16 bits (R226). -/
def eventChannel (l : Link) (p : RadPlan) : Nat := hopChannel l.cfg p.nCh (l.event % 65536)

/-- The first instant from the anchor on at which an event may start: after the frame on air and the watch window (R215, R226). -/
def eventStart (d : Dev) (r anchor : Nat) : Nat :=
  let a := max (max d.now anchor) (d.radAt r).busyUntil
  max a ((d.watchMeets r a 1).getD 0)

/-- An event starts or is skipped (R226, R241). -/
def linkEvent (d : Dev) (r idx : Nat) : Dev :=
  match d.findLink r idx, (d.radAt r).plan with
  | some l, some p =>
    if l.lost || !d.linksRun || !d.mediumPresent r || d.mediumTested r || !d.eventDue l then d
    else
      let d1 := d.updLink r idx (fun l => { l with event := l.event + 1 })
      let anchor := d.beat.base + l.cfg.anchorUs * 1000
      let s := d.radAt r
      let start := d.eventStart r anchor
      if anchor + 500000 < start || s.event.isSome || s.waking.isSome || (s.claimed && l.cfg.anchorUs < 2000) then d1.skipEvent r
      else d1.later (start - d.beat.base) fun d =>
        if l.cfg.wake then
          match dwellRefuses s p.wakeCh p.mode 32080 false with
          | some a => (d.dwellDefer r a).skipEvent r
          | none => (d.transmit r p.wakeCh p.mode 0 32080 []).setRad r (fun s => { s with
              waking := some ⟨idx, eventChannel l p, d.now + 32000000⟩ })
        else d.beginEvent r idx (eventChannel l p) l.cfg.eventLen
  | _, _ => d

/-- A boundary that opens a claimed slot stops a wake-up preamble, and the event is skipped (R241): what was sent is booked. -/
def wakeCut (d : Dev) (r : Nat) : Dev :=
  match (d.radAt r).waking with
  | some w =>
    if (d.radAt r).claimed && d.now < w.ends then
      (d.setRad r (fun s => { s with
        waking := none, busyUntil := d.now
        pending := s.pending.map (fun x : AirRun => { x with time := 32080 - min 32080 ((w.ends - d.now) / 1000), ends := d.now }) })).skipEvent r
    else d
  | none => d

/-- The first frame of an event follows 2 ms after the end of its wake-up preamble, in the beat that holds that instant (R241). -/
def wakeStep (d : Dev) (r : Nat) : Dev :=
  match (d.radAt r).waking with
  | some w =>
    if d.boundaryAt ≤ w.ends + 2000000 then d
    else
      let d1 := d.setRad r (fun s => { s with waking := none })
      match d.findLink r w.link with
      | none => d1
      | some l =>
        if l.lost then d1
        else d1.later (w.ends + 2000000 - d.beat.base) (fun d => d.beginEvent r w.link w.channel l.cfg.eventLen)
  | none => d

/-! ### Broadcast frames (R219-R222, R236) -/

/-- A broadcast frame of a radio (R217, R219): its bytes, under the key given, and the counter advanced. -/
def broadcast (d : Dev) (md : Nat) (key : Bytes) (fc : Nat) (payload : Bytes) : Bytes × Dev :=
  let f := if md < 4 then (d.radAt md).bcastFc else (d.trkAt (md - 4)).bcastFc
  let addr := if md < 4 then 0x3FF + 0x400 * md else 0x7FFF
  (d.sealFrame md key fc addr 0 f 0 0 payload,
    if md < 4 then d.setRad md (fun s => { s with bcastFc := f + 1 })
    else d.setTrk (md - 4) (fun s => { s with bcastFc := f + 1 }))

/-- The BEACON payload (R222). -/
def beaconPayload (d : Dev) : Bytes :=
  toLE 4 d.beat.count ++ toLE 4 d.nowSec ++ toLE 1 d.epoch ++ toLE 1 (if d.sys.role = .solo then 0 else 1) ++
    toLE 1 (if d.sys.role = .solo then 0xFF else d.pair.member) ++ [0]

/-- A BEACON (R236), once at each due beat, beacon_offset after the boundary. DESIGN CHOICE (notes/assumptions/51): one that meets a
frame on air, a link event or a preamble is withheld as in a claimed slot. -/
def beacon (d : Dev) (r : Nat) : Dev :=
  match (d.radAt r).plan with
  | none => d
  | some p =>
    if !d.linksRun || !d.mediumPresent r || d.mediumTested r || !beaconBeat p d.beat.count || d.beat.sinceBase / 1000 ≠ p.beaconOffset
        || (d.radAt r).beaconBeat = some d.beat.count then d
    else
      let d0 := d.setRad r (fun s => { s with beaconBeat := some d.beat.count })
      let withheld (d : Dev) (cause : Nat) : Dev := (d.cnt r 14).offer Ev.RAD_BEACON_WITHHELD [r, d.beat.count, cause]
      let ch := maskTurn p.beaconMap (d.beat.count / p.beaconPeriod)
      match d0.useKey p.bcastKey masterRadio useBroadcast with
      | (st, key, d1) =>
        if st ≠ ST_OK then d1
        else if (d1.radAt r).event.isSome then withheld d1 0
        else
          let b := d1.broadcast r key fcBeacon d1.beaconPayload
          match d1.tryAir r ch p.mode p.preamble b.1 with
          | (.sent, d2) => (d2.setRad r (fun s => { s with bcastFc := (b.2.radAt r).bcastFc })).cnt r 0
          | (.dwell _, d2) => withheld d2 1
          | (.late, d2) => withheld d2 0

/-! ### The class-0 slot (R214, R215, R242, R243) -/

/-- Media on which the class-0 bound is suspended, as a mask (R36). -/
def suspendC0 (d : Dev) (md : Nat) (b : Bool) : Dev := d.setSuspended (setBit (d.get Reg.SYS_C0_SUSPEND.media) md b)

/-- The order of the slot (R243): newly latched frames before refreshes, those with more slots left first, ascending index. -/
def slotOrder (l : List C0Send) : List C0Send :=
  sortBy (fun c : C0Send => if c.fresh then 0 else 1) (sortBy (fun c : C0Send => 16 - c.left) (sortBy (fun c : C0Send => c.index) l))

/-- A newly latched frame of the radio still waits behind one of lower index (R20, R243). -/
def c0Queued (d : Dev) (r : Nat) : Bool := (d.radAt r).c0.any (fun c => c.behind != 0)

/-- The last frame that waited has gone out: the bound holds on the radio again, unless R214 suspends it (R21, R243). -/
def c0Unqueued (d : Dev) (r : Nat) (waited : Bool) : Dev :=
  if !waited || d.c0Queued r || d.flag (Reg.RAD_STATUS.c0_suspended r) then d
  else (d.suspendC0 r false).offer Ev.RAD_C0_BOUND_RESTORED [r, d.beat.count]

/-- Sends the slot's CLASS0 frame at the boundary that opens the slot, or holds it back (R213, R214, R242, R243): event 0x0505 is
written when the bound becomes suspended. -/
def c0Slot (d : Dev) (r : Nat) : Dev :=
  match (d.radAt r).plan, (slotOrder (d.radAt r).c0) with
  | some p, c :: _ =>
    if !(d.radAt r).claimed || d.c0Tested r then d
    else
      let ch := maskTurn p.c0Map d.beat.count
      match dwellRefuses (d.radAt r) ch 4 2000 true with
      | some a =>
        let lim := match (d.radAt r).profile with | some f => (accLimits f a).1 | none => 0
        let d1 := ((d.bump (Reg.RAD_C0.held r)).dwellDefer r a).raise (Reg.RAD_IRQ_STATUS.c0_suspended r)
        if d.flag (Reg.RAD_STATUS.c0_suspended r) then d1
        else ((d1.put (Reg.RAD_STATUS.c0_suspended r) 1).suspendC0 r true).offer Ev.RAD_C0_BOUND_SUSPENDED [r, a.kind, a.index, a.used, lim]
      | none =>
        ((((d.transmit r ch 4 4 2000 c.bytes).setRad r (fun s => { s with
          c0 := (s.c0.map (fun x : C0Send => if x = c then { x with left := x.left - 1, behind := 0 } else x)).filter
            (fun x => x.left != 0) })).bump (Reg.RAD_C0.sent r)).cnt r 0).c0Unqueued r (c.behind != 0)
  | _, _ => d

/-- Every slot accumulator has room for one CLASS0 frame (R214). -/
def c0Room (d : Dev) (r : Nat) : Bool :=
  match (d.radAt r).plan with
  | none => true
  | some p => (bitList p.c0Map 128).all (fun ch => (dwellRefuses (d.radAt r) ch 4 2000 true).isNone)

/-- Restores the bound at a boundary (R214). -/
def c0Restore (d : Dev) (r : Nat) : Dev :=
  if d.flag (Reg.RAD_STATUS.c0_suspended r) && d.c0Room r then
    ((d.put (Reg.RAD_STATUS.c0_suspended r) 0).suspendC0 r (d.c0Queued r)).offer Ev.RAD_C0_BOUND_RESTORED [r, d.beat.count]
  else d

/-- Sends the oldest GROUP frame in an unclaimed slot, once per slot (R213, R215, R229); it waits while a link event runs
(DESIGN CHOICE, notes/assumptions/51). -/
def groupSlot (d : Dev) (r : Nat) : Dev :=
  match (d.radAt r).plan, (d.radAt r).groups with
  | some p, g :: rest =>
    if (d.radAt r).claimed || (d.radAt r).event.isSome || !d.linksRun || !d.mediumPresent r || d.mediumTested r then d
    else match d.tryAir r (maskTurn p.c0Map d.beat.count) 4 4 g.bytes with
      | (.sent, d1) =>
        let d2 := d1.cnt r 0
        if g.left ≤ 1 then (d2.setRad r (fun s => { s with groups := rest })).releaseRing r
            (fun e => e.link.isNone && e.number == g.number)
        else d2.setRad r (fun s => { s with groups := { g with left := g.left - 1 } :: rest })
      | (_, d1) => d1
  | _, _ => d

/-- What a radio does at the boundary that opens a beat, before the Lintel's latch: the claim of the slot takes effect, the
bound is restored, and the slot is served. -/
def radioBoundary (d : Dev) (r : Nat) : Dev :=
  let d1 := d.setRad r (fun s => { s.settledAt d.now with claimed := s.claimedNext && !s.c0.isEmpty, claimedNext := false, air := [] })
  ((((d1.c0Restore r).wakeCut r).c0Slot r).groupSlot r)

/-! ### The main receiver (R239, R240) -/

/-- An event of an OPEN link runs, or begins within 1 ms (R240). -/
def eventNear (d : Dev) (r : Nat) : Bool :=
  (d.radAt r).event.isSome || (d.radAt r).waking.isSome || (d.radAt r).links.any (fun l => !l.lost &&
    ((d.eventDue l && d.beat.base + l.cfg.anchorUs * 1000 ≤ d.now + 1000000) ||
     ((l.cfg.anchorBeat + l.event * l.cfg.interval) % 2 ^ 32 == (d.beat.count + 1) % 2 ^ 32 &&
       d.boundaryAt + l.cfg.anchorUs * 1000 ≤ d.now + 1000000)))

/-- A slot to serve: the one in progress or one within 1 ms, with a CLASS0 or GROUP frame (R240). -/
def slotNear (d : Dev) (r : Nat) : Bool :=
  (d.beat.sinceBase < 2000000 && (d.radAt r).claimed) ||
    ((!(d.radAt r).groups.isEmpty || (d.radAt r).claimedNext) && d.boundaryAt ≤ d.now + 1000000)

/-- A beacon to send within 1 ms (R236, R240). -/
def beaconNear (d : Dev) (r : Nat) : Bool :=
  match (d.radAt r).plan with
  | none => false
  | some p => d.linksRun && [(d.beat.count, d.beat.base), (d.beat.count + 1, d.boundaryAt)].any (fun b =>
      beaconBeat p b.1 && d.now ≤ b.2 + p.beaconOffset * 1000 && b.2 + p.beaconOffset * 1000 ≤ d.now + 1000000)

/-- The main receiver of a radio is on (R239, R240): always without wake_rx; else for an event, a slot, a beacon, a watch instance, a
wake hold or a transmission. -/
def mainReceiver (d : Dev) (r : Nat) : Bool :=
  (match (d.radAt r).plan with | some p => !p.wakeRx | none => true) || (d.radAt r).wakeHold || d.now < (d.radAt r).busyUntil ||
    d.eventNear r || d.slotNear r || d.beaconNear r || (d.watchMeets r d.now 1000).isSome

/-! ### Items (R229) -/

/-- The GROUP payload (R222) of a change-set item (R171). -/
def groupPayload (w0 w1 : Nat) : Bytes :=
  toLE 2 (bits w1 38 27) ++ toLE 2 (bits w0 26 17) ++ toLE 2 (bits w0 47 32) ++ toLE 1 (bits w0 55 48) ++
    toLE 1 (bits w0 27 27) ++ [0, 0, 0, 0]

/-- The LEVEL record of a change-set item (R221). -/
def levelRecord (w0 : Nat) : Bytes :=
  [0x01] ++ toLE 1 (bits w0 27 27) ++ toLE 1 (bits w0 55 48) ++ [0] ++ toLE 2 (bits w0 47 32) ++ toLE 2 (bits w0 26 17)

/-- An item is dropped (R229): 0 no link, 1 quota, 2 length. Its EIDs are refused when its link is full. A GROUP item whose key is
refused is dropped as one without a link (DESIGN CHOICE, notes/assumptions/51). -/
def txDrop (d : Dev) (md handle cause : Nat) (i : JItem) : Dev :=
  let d1 := (d.cnt md 13).offer (droppedEvent md) [unitOf md, handle, cause]
  let d2 := if md < 4 then d1.raise (Reg.RAD_IRQ_STATUS.tx_dropped md)
    else d1.raise (Reg.TRK_IRQ_STATUS.tx_dropped (trkWindow (md - 4)))
  if cause = 1 && i.producer = producerEngine then d2.refuseEids i.eids else d2

/-- The payload bytes of a software item, of the length its first word gives (R229, R262); what its words do not hold is 0
(DESIGN CHOICE, notes/assumptions/51). -/
def softPayload (i : JItem) : Bytes := slice ((i.words.drop 1).flatMap (fun w => toLE 8 w)) 0 (bits (i.words.headD 0) 23 16)

/-- An item of a change-set that waits for its mirror (R395, R396). -/
def mirrorHeld (d : Dev) (i : JItem) : Bool :=
  i.producer == producerEngine && (d.beat.count ≤ i.beat ||
    (d.sys.role == .active && d.pair.peerRole == .standby && !d.pair.unmirrored && d.pair.acked < i.beat))

/-- Places one item on a radio (R229). -/
def placeRadio (d : Dev) (r : Nat) (i : JItem) : Dev :=
  let w0 := i.words.headD 0
  let w1 := i.words.getD 1 0
  match (d.radAt r).plan with
  | none => d
  | some p =>
    if i.producer = producerEngine && bit w0 28 then
      if d.maxFrame r < 40 then d.txDrop r (bits w1 15 0) 2 i
      else match d.useKey p.bcastKey masterRadio useBroadcast with
      | (st, key, d1) =>
        if st ≠ ST_OK then d1.txDrop r (bits w1 15 0) 0 i
        else
          let b := d1.broadcast r key fcGroup (groupPayload w0 w1)
          (b.2.setRad r (fun s => { s with
            groups := s.groups ++ [GroupTx.mk s.groupNo b.1 p.groupRepeat], groupNo := s.groupNo + 1 })).pushRing r none
              (d1.radAt r).groupNo b.1.length
    else
      let handle := if i.producer = producerEngine then bits w1 15 0 else bits w0 15 0
      let payload := if i.producer = producerEngine then levelRecord w0 else softPayload i
      match linkPlace handle with
      | none => d.txDrop r handle 0 i
      | some (md, idx) =>
        if md ≠ r then d.txDrop r handle 0 i
        else match d.findLink r idx with
          | none => d.txDrop r handle 0 i
          | some l =>
            if l.frames.length ≥ 64 then d.txDrop r handle 1 i
            else if d.maxFrame r < 28 + payload.length then d.txDrop r handle 2 i
            else d.place r idx payload (if i.producer = producerEngine then i.eids else [])

/-- Bytes of the frame an item becomes on a radio, without its FCS, for the ring's room (R231). -/
def radioItemSize (i : JItem) : Nat :=
  if i.producer = producerEngine then (if bit (i.words.headD 0) 28 then 36 else 32)
  else 24 + bits (i.words.headD 0) 23 16

/-- The radio's transmit engine takes an item (R187, R229). -/
def takeRadio (d : Dev) (r : Nat) : Dev :=
  if !d.joistRuns || !d.mediumPresent r then d
  else match d.takeForConsumer r with
    | none => d
    | some (i, d1) =>
      if !d.ringFits r (radioItemSize i) || d.mirrorHeld i then d
      else (d1.placeRadio r i).endService r i

/-! ### Receiving (R233, R234) -/

/-- Delivers a received item (R235) with its producer; the state and whether the push was accepted. -/
def deliverRx (d : Dev) (q flow producer : Nat) (words : List Nat) : Dev × Bool :=
  let r := d.push q flow producer words
  (r.1, r.2.1 == ST_OK)

/-- A frame received by a radio (R233, R234). -/
def radioRx (d : Dev) (r : Nat) (f : RadioRx) : Dev :=
  match (d.radAt r).plan with
  | none => d
  | some p =>
    if !bit (d.get Reg.BST_UNIT0.radios) r || d.mediumTested r || !d.mainReceiver r then d
    else if !f.phrOk then d.cnt r 4
    else if !f.fcsOk then d.cnt r 3
    else
      let typ := byteAt f.psdu 0 % 16
      let head := if typ = 5 then 16 else 24
      let len := f.psdu.length - head
      let addr := fieldLE f.psdu 4 2
      let fc32 := fieldLE f.psdu 8 4
      let seq := fieldLE f.psdu 6 2
      if f.psdu.length < head || 46 < len then d.cnt r 4
      else if byteAt f.psdu 1 ≠ 1 || fieldLE f.psdu 2 2 ≠ p.netId || bits addr 11 10 ≠ r || 6 ≤ typ then d.cnt r 10
      else
        let st := d.rxStamp f.sfdAgo
        let rssi := f.rssi
        let words (handle : Nat) (pl : Bytes) : List Nat :=
          rxWords st.1 st.2 handle (byteAt f.psdu 0) pl.length rssi f.channel seq pl
        if typ = 5 then
          let x := d.deliverRx p.rxQueue 0x3FFFF (producerRadio r) (words 0xFFFF (f.psdu.drop 16))
          if x.2 then x.1.cnt r 2 else x.1.cnt r 8
        else
          let idx := addr % 0x400
          let answer (d : Dev) : Dev :=
            if (d.radAt r).event.any (fun e => e.link == idx) then d.eventSend r idx false (bit (byteAt f.psdu 0) 6) else d
          match d.rxJudge r idx f.psdu 16 with
          | .count i => d.cnt r i
          | .duplicate =>
            answer (((d.cnt r 7).updLink r idx (fun l => { l with ackDue := true, lastRx := d.beat.count })).creditUpdate r idx
              (fieldLE f.psdu 12 2) (fieldLE f.psdu 14 2) fc32)
          | .pass pl =>
            let go (d : Dev) : Dev :=
              let d1 := d.creditUpdate r idx (fieldLE f.psdu 12 2) (fieldLE f.psdu 14 2) fc32
              answer (if typ = 0 then d1.delivered r idx seq else d1)
            if typ = 0 then
              let x := d.deliverRx p.rxQueue (0x30000 + linkHandle r idx) (producerRadio r) (words (linkHandle r idx) pl)
              if x.2 then go x.1 else x.1.cnt r 8
            else go d

end Dev

/-! ### The commands -/

/-- RAD_LINK_OPEN (R225). -/
def execRadLinkOpen (t : Nat) (r : Fin 4) (m : Master) (s : State) : Host.Outcome State Fault Refusal :=
  s.runAt t fun d => d.openLink r.val (bankOf m) false

/-- RAD_LINK_CLOSE (R225). -/
def execRadLinkClose (t : Nat) (r : Fin 4) (m : Master) (report : Bool) (s : State) : Host.Outcome State Fault Refusal :=
  s.runAt t fun d => d.closeOp r.val (bankOf m) report

/-- RAD_LINK_RESUME (R225). -/
def execRadLinkResume (t : Nat) (r : Fin 4) (m : Master) (s : State) : Host.Outcome State Fault Refusal :=
  s.runAt t fun d => d.openLink r.val (bankOf m) true

/-- LINK_EVENT (R226, R227, R241). -/
def execLinkEvent (t : Nat) (r : Fin 4) (link : Nat) (s : State) : Host.Outcome State Fault Refusal :=
  s.runAt t fun d => d.linkEvent r.val link

/-- LINK_EVENT_END (R226). -/
def execLinkEventEnd (t : Nat) (r : Fin 4) (link : Nat) (s : State) : Host.Outcome State Fault Refusal :=
  s.runAt t fun d =>
    if (d.radAt r.val).event.any (fun e => e.link == link) then d.endEvent r.val link else d

/-- The instant by which the answer to the last frame must begin, ns: 1,000 µs and the preamble time after the frame's end, 40 µs before
the PA is off (R207, R227). -/
def Dev.answerBy (d : Dev) (r : Nat) : Nat :=
  (d.radAt r).busyUntil + 960000 + (match (d.radAt r).plan with | some p => octetsNs p.mode p.preamble | none => 0)

/-- LINK_ANSWER_TIMEOUT (R227): no valid answer came in time. -/
def execLinkAnswerTimeout (t : Nat) (r : Fin 4) (link : Nat) (s : State) : Host.Outcome State Fault Refusal :=
  s.runAt t fun d =>
    match d.findLink r.val link with
    | some l =>
      if l.awaiting && (d.radAt r.val).event.any (fun e => e.link == link) && d.answerBy r.val ≤ d.now then
        d.endEvent r.val link
      else d
    | none => d

/-- DWELL_BIN_ADVANCE (R211): a bin of an accumulator ends; a transmission that has ended is in it, one under way is not. -/
def execDwellBinAdvance (t : Nat) (r : Fin 4) (kind index : Nat) (s : State) : Host.Outcome State Fault Refusal :=
  s.runAt t fun d => d.setRad r.val (fun x => { x.settledAt d.now with accs := (x.settledAt d.now).accs.map (fun a : DwellAcc =>
    if a.kind = kind ∧ a.index = index then { a with bins := 0 :: a.bins.take 32, noted := false } else a) })

/-- LINK_SUPERVISION_TIMEOUT (R228, R263): no valid frame for supervision beats. -/
def execLinkSupervisionTimeout (t : Nat) (medium : Fin 14) (link : Nat) (s : State) : Host.Outcome State Fault Refusal :=
  s.runAt t fun d =>
    match d.findLink medium.val link with
    | some l => if l.lastRx + l.cfg.supervision ≤ d.beat.count then d.loseLink medium.val link 1 else d
    | none => d

/-- RADIO_FRAME_RX (R233-R235). -/
def execRadioFrameRx (t : Nat) (r : Fin 4) (f : RadioRx) (s : State) : Host.Outcome State Fault Refusal :=
  s.runAt t fun d => d.radioRx r.val f

/-- BEACON_TX (R236). -/
def execBeaconTx (t : Nat) (r : Fin 4) (s : State) : Host.Outcome State Fault Refusal :=
  s.runAt t fun d => d.beacon r.val

/-- WAKE (R239): a wake-up sequence for the module's own address, on a radio that uses its wake-up receiver (R208). -/
def execWake (t : Nat) (r : Fin 4) (addr rssi : Nat) (s : State) : Host.Outcome State Fault Refusal :=
  s.runAt t fun d =>
    match (d.radAt r.val).plan with
    | none => d
    | some p =>
      if !p.wakeRx || addr ≠ p.wakeAddr || !bit (d.get Reg.BST_UNIT0.radios) r.val then d
      else
        let d1 := ((d.setRad r.val (fun x => { x with wakeHold := true, wakeUntil := d.now + p.wakeHold * 1000000 })).cnt r.val 15).offer Ev.RAD_WAKE
          [r.val, p.wakeCh, rssi]
        let st := d1.rxStamp 0
        let x := d1.deliverRx p.rxQueue 0x3FFFF (producerRadio r.val) (Dev.rxWords st.1 st.2 0xFFFF 0xFF 0 rssi p.wakeCh 0 [])
        if x.2 then x.1.raise (Reg.RAD_IRQ_STATUS.wake r.val) else x.1.cnt r.val 8

/-- WAKE_HOLD_EXPIRED (R239, R240): the hold ends, once its time is over. -/
def execWakeHoldExpired (t : Nat) (r : Fin 4) (s : State) : Host.Outcome State Fault Refusal :=
  s.runAt t fun d => d.setRad r.val (fun x => if x.wakeUntil ≤ d.now then { x with wakeHold := false } else x)

end Sys2Proof.Machine
end

