-- ==== Sys2Proof/Machine/Wired.lean ====
section
/-! DEFINITION. Wired ports: PLCA, opportunities, gates, PAUSE and PFC, raw frames, wake patterns, MDIO, and taking items from
the Joist on every medium (R229, R247-R275, R287-R289). -/

namespace Sys2Proof.Machine

/-- The medium of a wired port (R247). -/
def portMedium (p : Nat) : Nat := p + 4

/-- The port's own MAC address as a number, first byte highest (R248). -/
def portMac (p : Nat) : Nat := Config.baseMac + portMedium p

/-- The multicast address of GROUP and CLASS0 frames (R248). -/
def groupMac : Nat := 0x035154000000

/-- cycle_max in tenths of a µs (R257). -/
def cycleMaxTenths (c : TrunkCfg) : Nat :=
  let f := (c.maxFrame + 20) * 8
  20 + c.nodeCount * (c.toTimer + f) + c.maxBc * f

namespace Dev

/-- PLCA role code of a trunk (R256). -/
def plcaRole (d : Dev) (p : Nat) : Nat :=
  match (d.trkAt p).cfg with
  | none => 0
  | some c =>
    if 8 ≤ p || !d.mediumPresent (portMedium p) || d.lin.safety.isNone then 0
    else match d.sys.mstate with
      | .off => 0
      | .unframed => 0
      | .boot => 2
      | .test => 2
      | .failsafe => 2
      | .ready => 1
      | .hold => 1
      | .service => if d.sys.role = .solo || d.sys.role = .active then 1 else if c.peer then 3 else 0

/-- The link of a port is up (R265, R275). -/
def portUp (d : Dev) (p : Nat) : Bool :=
  if p < 8 then d.mediumPresent (portMedium p) else d.mediumPresent (portMedium p) && d.flag (Reg.TRK_STATUS.link_up (trkWindow p))

/-- Nanoseconds of one byte on the wire (R247, R265). -/
def byteNs (d : Dev) (p : Nat) : Nat :=
  if p < 8 then 800 else if d.get (Reg.TRK_STATUS.speed (trkWindow p)) = 1 then 80 else 8

/-- Wire time of a frame of `n` bytes, FCS included: padding, preamble, SFD and inter-frame gap (R249, R257). -/
def wireNs (d : Dev) (p n : Nat) : Nat := (max 64 n + 20) * d.byteNs p

/-- The transmitters are quiet: a clock-source failure, or outputs in the safe states (R22, R306, R319). -/
def quiet (d : Dev) : Bool := d.pwr.failedAt.isSome || d.pwr.pf.isSome || d.lnd.safe

/-! ### Gates (R267, R268) -/

/-- The instant at which a gate next closes; none when it never does. The list wraps at the boundary. -/
def gateCloses (d : Dev) (p g : Nat) : Option Nat :=
  let l := (d.trkAt p).gates
  let cur := d.get (Reg.TRK_GATE.entry (trkWindow p))
  let next (off : Nat) (e : GateEntry) : Nat × Nat := (off + e.start * 1000, e.gates)
  (((l.drop (cur + 1)).map (next d.beat.base) ++ l.map (next d.boundaryAt)).find? (fun e => !bit e.2 g)).map (·.1)

/-- A frame of `n` bytes under gate `g` may start now (R268). -/
def gateOpen (d : Dev) (p g n : Nat) : Bool :=
  bit (d.get (Reg.TRK_GATE.gates (trkWindow p))) g &&
    (match d.gateCloses p g with | none => true | some x => d.now + d.wireNs p n ≤ x)

/-- A gate-list entry begins (R267). -/
def gateEnter (d : Dev) (p i : Nat) : Dev :=
  match (d.trkAt p).gates[i]? with
  | none => if (d.trkAt p).gates.isEmpty then (d.put (Reg.TRK_GATE.entry (trkWindow p)) 0).put (Reg.TRK_GATE.gates (trkWindow p)) 0xF
    else d
  | some e => (d.put (Reg.TRK_GATE.entry (trkWindow p)) i).put (Reg.TRK_GATE.gates (trkWindow p)) e.gates

/-! ### PAUSE and PFC (R270-R272) -/

/-- The non-priority pause in force ends (R270, R272). -/
def endPause (d : Dev) (p : Nat) : Dev :=
  let w := trkWindow p
  if !d.flag (Reg.TRK_STATUS.pause_active w) then d
  else
    let d1 := (d.setTrk p (fun s => { s with pauseEnd := 0 })).put (Reg.TRK_STATUS.pause_active w) 0
    if d1.flag (Reg.TRK_STATUS.c0_suspended w) then
      ((d1.put (Reg.TRK_STATUS.c0_suspended w) 0).suspendC0 (portMedium p) false).offer Ev.TRK_C0_BOUND_RESTORED [p, d.beat.count]
    else d1

/-- A pause begins, or the one in force takes new quanta (R270, R272). -/
def beginPause (d : Dev) (p q : Nat) : Dev :=
  let w := trkWindow p
  let d1 := d.setTrk p (fun s => { s with pauseEnd := d.now + q * 64 * d.byteNs p })
  if d.flag (Reg.TRK_STATUS.pause_active w) then d1
  else
    let d2 := (d1.put (Reg.TRK_STATUS.pause_active w) 1).raise (Reg.TRK_IRQ_STATUS.pause w)
    if (match d.lin.safety with | some s => bit s.lintelMedia (portMedium p) | none => false) then
      (((d2.put (Reg.TRK_STATUS.c0_suspended w) 1).raise (Reg.TRK_IRQ_STATUS.c0_suspended w)).suspendC0 (portMedium p) true).offer
        Ev.TRK_C0_BOUND_SUSPENDED [p, d.beat.count, q]
    else d2

/-- A PAUSE frame with a valid FCS (R270). -/
def pauseRx (d : Dev) (p q : Nat) : Dev :=
  let w := trkWindow p
  if p < 8 || !d.flag (Reg.TRK_GBE_CFG.pause_en w) then d.cnt (portMedium p) 11
  else if q = 0 then (d.setTrk p (fun s => { s with pauseDeferred := none })).endPause p
  else if (d.trkAt p).sending.isSome then d.setTrk p (fun s => { s with pauseDeferred := some q })
  else d.beginPause p q

/-- A PFC frame (R271): the priorities enabled in it and the quanta of all eight. -/
def pfcRx (d : Dev) (p enabled : Nat) (quanta : List Nat) : Dev :=
  (bitList enabled 8).foldl (fun d i =>
    if i = 7 || !bit (d.get (Reg.TRK_GBE_CFG.pfc_mask (trkWindow p))) i then d.cnt (portMedium p) 12
    else
      let q := quanta.getD i 0
      d.setTrk p (fun s => { s with
        pfcEnd := s.pfcEnd.filter (fun x => x.1 != i) ++ (if q = 0 then [] else [(i, d.now + q * 64 * d.byteNs p)]) })) d

/-- A priority is held by PFC now (R271). -/
def pfcHeld (d : Dev) (p prio : Nat) : Bool := (d.trkAt p).pfcEnd.any (fun x => x.1 == prio && d.now < x.2)

/-- The PCP of Nymtil frames on a port (R265, R271). -/
def nymtilPcp (d : Dev) (p : Nat) : Nat :=
  if d.flag (Reg.TRK_GBE_CFG.tag (trkWindow p)) then d.get (Reg.TRK_GBE_CFG.pcp (trkWindow p)) else 0

/-! ### Time-stamps (R286-R288) -/

/-- Queues a time-stamp entry, or counts its loss (R287, R288); event 0x0706 is written when the beat ends, with its count. -/
def tsPush (d : Dev) (p tag : Nat) (e : TsEntry) : Dev :=
  let q := d.tim.tsq.getD p ⟨[], 0, 0, ⟨0, 0, 0, 0⟩⟩
  if q.entries.length < 64 then
    { d with
      tim := { d.tim with tsq := modifyAt d.tim.tsq p (fun q => { q with entries := q.entries ++ [e] }) }
      cyc := { d.cyc with stamped := p :: d.cyc.stamped } }
  else
    let d1 : Dev := { d with tim := { d.tim with tsq := modifyAt d.tim.tsq p (fun q => { q with lostBeat := q.lostBeat + 1, lostTag := tag }) } }
    ((d1.bump Reg.TIME_TSQ_STATUS.ts_ovf).put Reg.TIME_TSQ_STATUS.last_lost_tag tag).raise Reg.TIME_IRQ_STATUS.ts_ovf

/-- The stamp of a frame whose SFD passes at `at` ns of module time; its fraction of a ns is a free value. -/
def stampOf (d : Dev) (at_ tag : Nat) (late : Bool) : TsEntry × Dev :=
  let f := d.fresh
  (⟨at_ % 1000000000, at_ / 1000000000 % 2 ^ 32, at_ / 1000000000 / 2 ^ 32 % 65536 + f.1 % 65536 * 65536,
    tag + b2n late * 65536 + 2 ^ 18⟩, f.2)

/-! ### Own opportunities (R258, R262, R266, R289) -/

/-- A link may place a frame with a body of `n` bytes now: it is OPEN, the next link_seq has credit, and the ring has room (R230,
R262). -/
def mayPlace (d : Dev) (p : Nat) (l : Link) (n : Nat) : Bool :=
  !l.lost && (l.txLimit + 131072 - (l.txSeq + 1) % 65536) % 65536 < 32768 && d.ringFits (portMedium p) n

/-- Closes and places every open frame that has credit, on the links of a port (R262), and on TIE the first payload of the pair block
that waits (R264). They may leave in the same opportunity. -/
def placeOpens (d : Dev) (p : Nat) : Dev :=
  let d1 := (d.trkAt p).opens.foldl (fun (d : Dev) o =>
    match d.findLink (portMedium p) o.link with
    | none => d
    | some l =>
      if !d.mayPlace p l (26 + o.records.length) then d
      else (d.setTrk p (fun s => { s with opens := s.opens.filter (fun x => x.link != o.link) })).place (portMedium p) o.link
        o.records o.eids) d
  let d2 : Dev := match d1.pair.out, d1.findLink 13 0 with
    | b :: rest, some l =>
      if p = 9 && d1.mayPlace 9 l (26 + b.length) && l.frames.length < 64 then
        ({ d1 with pair := { d1.pair with out := rest } } : Dev).place 13 0 b []
      else d1
    | _, _ => d1
  { d2 with cyc := { d2.cyc with placed := d.cyc.placed } }

/-! ### Frames sent (R248-R250, R265) -/

/-- The far end's MAC address on a link: that of its branch unit; on UPLINK and TIE the spec names none (notes/assumptions/51). -/
def farMac (d : Dev) (p idx : Nat) : Nat :=
  match (d.trkAt p).cfg with | some c => beNat (c.buMac.getD idx []) | none => Config.farMac p

/-- The Ethernet frame of a Nymtil frame, without padding and FCS: tagged with pcp and vid on UPLINK and TIE when tag = 1 (R250, R265). -/
def nymtilFrame (d : Dev) (p dst : Nat) (body : Bytes) : Bytes :=
  let w := trkWindow p
  toBE 6 dst ++ toBE 6 (portMac p) ++
    (if 8 ≤ p && d.flag (Reg.TRK_GBE_CFG.tag w) then
      toBE 2 0x8100 ++ toBE 2 (d.get (Reg.TRK_GBE_CFG.pcp w) * 2 ^ 13 + d.get (Reg.TRK_GBE_CFG.vid w)) else []) ++ toBE 2 0x88B5 ++ body

/-- The MAC sends a frame (R249). -/
def emit (d : Dev) (p : Nat) (frame : Bytes) : Dev := d.setTrk p (fun s => { s with wire := s.wire ++ [macFrame frame] })

/-- Marks a GbE port busy with a frame until its last byte (R266). -/
def busy (d : Dev) (p : Nat) (x : Sending) : Dev := if p < 8 then d else d.setTrk p (fun s => { s with sending := some x })

/-- Starts a raw frame (R266, R289): its time-stamp, and the late flag when it starts more than 100 ns after its launch
time. -/
def startRaw (d : Dev) (p : Nat) (r : RawTx) : Dev :=
  let late := r.late || (r.timed && r.launch + 100 < d.now)
  let d1 := ((d.setTrk p (fun s => { s with
    raw := s.raw.filter (fun x => x.item != r.item)
    launch := s.launch.filter (fun x => x.item != r.item)
    sending := some (.raw { r with late := late }) })).cnt (portMedium p) 0).emit p (d.mem.readN r.addr r.len)
  let d2 := if r.tsReq || r.timed then
      let e := d1.stampOf (d1.now + 8 * d1.byteNs p) r.tag late
      e.2.tsPush p r.tag e.1
    else d1
  if late then (d2.raise Reg.TIME_IRQ_STATUS.launch_late).offer Ev.LAUNCH_LATE [p, r.tag, 0] else d2

/-- PCP of a raw frame: that of its 802.1Q tag, else 0 (R271). -/
def rawPcp (d : Dev) (r : RawTx) : Nat :=
  if beNat (d.mem.readN (r.addr + 12) 2) = 0x8100 then (d.mem.read (r.addr + 14)).toNat / 32 else 0

/-- The raw frame that may start now: a timed one that is due, in list order, else the first that is not timed (R289). -/
def nextRaw (d : Dev) (p : Nat) : Option RawTx :=
  (((d.trkAt p).launch.filter (fun r => r.launch ≤ d.now)) ++ (d.trkAt p).raw).find? (fun r =>
    d.gateOpen p 3 (r.len + 4) && !d.pfcHeld p (d.rawPcp r))

/-- A Nymtil frame body to a MAC address under a gate may start now: the gate is open long enough, and PFC does not hold its PCP
(R268, R271). -/
def nymtilMay (d : Dev) (p g dst : Nat) (body : Bytes) : Bool :=
  d.gateOpen p g ((d.nymtilFrame p dst body).length + 4) && !(8 ≤ p && d.pfcHeld p (d.nymtilPcp p))

/-- The first link that owes an acknowledgement sends its ACK (R258, R263). -/
def sendAck (d : Dev) (p : Nat) : Option Dev :=
  let md := portMedium p
  ((d.trkAt p).links.find? (fun l => !l.lost && l.ackDue)).bind fun l =>
    match d.ackFrame md l false with
    | none => some (d.loseLink md l.index 3)
    | some (b, l') =>
      let dst := d.farMac p l.index
      if d.nymtilMay p 0 dst b then
        some ((((d.updLink md l.index (fun _ => { l' with ackDue := false, lastTx := d.beat.count })).cnt md 0).emit p
          (d.nymtilFrame p dst b)).busy p .plain)
      else none

/-- The oldest GROUP frame not yet sent in this opportunity goes out (R258, R262); its number, and the state. -/
def sendGroup (d : Dev) (p : Nat) (done : List Nat) : Option (Nat × Dev) :=
  let md := portMedium p
  ((d.trkAt p).groups.find? (fun g => !done.contains g.number && !d.cyc.placed.contains (md, none, g.number))).bind fun g =>
    if !d.nymtilMay p 1 groupMac g.bytes then none
    else
      let d1 := ((d.cnt md 0).emit p (d.nymtilFrame p groupMac g.bytes)).busy p .plain
      let d2 := d1.setTrk p (fun s => { s with
        groups := (s.groups.map (fun x : GroupTx => if x.number = g.number then { x with left := x.left - 1 } else x)).filter
          (fun x => x.left != 0) })
      some (g.number, if g.left ≤ 1 then d2.releaseRing md (fun e => e.link.isNone && e.number == g.number) else d2)

/-- The first link with a DATA frame to send, again or for the first time, sends it (R230, R231, R258); a frame sent too often loses
the link (R263). -/
def sendData (d : Dev) (p : Nat) (again : Bool) : Option Dev :=
  let md := portMedium p
  ((d.trkAt p).links.findSome? (fun l =>
    if l.lost then none else (d.nextFrame md l).bind (fun f =>
      if (f.sends > 0) == again && d.nymtilMay p 0 (d.farMac p l.index) f.bytes then some (l, f) else none))).map fun x =>
    if x.2.sends ≥ x.1.cfg.maxRetries + 1 then d.loseLink md x.1.index 2
    else
      (((((d.updLink md x.1.index (fun l => { l with
        frames := l.frames.map (fun y : TxFrame => if y.linkSeq = x.2.linkSeq then { y with sends := y.sends + 1 } else y)
        sentNow := l.sentNow + 1, lastTx := d.beat.count, ackDue := l.ackDue && !acknowledges l x.2, awaiting := true,
        markAt := if l.sentNow = 0 then d.now else l.markAt })).cnt md 0).when
          (x.2.sends > 0) (fun d => d.cnt md 1)).emit p (d.nymtilFrame p (d.farMac p x.1.index) x.2.bytes)).busy p .plain)

/-- The next PTP message of a port goes out (R258). -/
def sendPtp (d : Dev) (p : Nat) : Option Dev :=
  match (d.trkAt p).ptpOut with
  | [] => none
  | k :: rest =>
    if d.gateOpen p 2 64 && !(8 ≤ p && d.pfcHeld p 0) then
      some (({ (d.setTrk p (fun s => { s with ptpOut := rest })) with
        tim := { d.tim with ptpSent := ((p, k) :: d.tim.ptpSent).take 16 } }.cnt (portMedium p) 0).busy p .plain)
    else none

/-- Sends one frame other than CLASS0, in the order of R258: ACK, GROUP, DATA again, new DATA, PTP, and raw on UPLINK and TIE; one
that its gate holds back gives way to the next kind. The GROUP frames sent in the opportunity, and the state; none when nothing may
start. -/
def sendOne (d : Dev) (p : Nat) (done : List Nat) : Option (List Nat × Dev) :=
  let rest (_ : Unit) : Option Dev :=
    ((((d.sendData p true).orElse fun _ => d.sendData p false).orElse fun _ => d.sendPtp p).orElse fun _ =>
      if p < 8 then none else (d.nextRaw p).map (fun r => d.startRaw p r))
  ((d.sendAck p).map (fun x => (done, x))).orElse fun _ =>
    ((d.sendGroup p done).map (fun x => (x.1 :: done, x.2))).orElse fun _ => (rest ()).map (fun x => (done, x))

/-- Sends up to `n` frames (R254: 1 and max_bc more in an own opportunity). -/
def sendUpTo (d : Dev) (p : Nat) (done : List Nat) : Nat → Dev
  | 0 => d
  | n + 1 => match d.sendOne p done with
    | some (done', d') => d'.sendUpTo p done' n
    | none => d

/-- CLASS0 frames due in the window of the beat in progress: loaded at an earlier boundary (R19, R269). -/
def c0Due (d : Dev) (p : Nat) : List C0Send := sortBy (fun c : C0Send => c.index) ((d.trkAt p).c0.filter (fun c => c.latchBeat < d.beat.count))

/-- Sends CLASS0 frames of a port (R253, R269). -/
def sendC0 (d : Dev) (p : Nat) (l : List C0Send) : Dev :=
  l.foldl (fun d c => ((d.setTrk p (fun s => { s with
    c0 := (s.c0.map (fun x : C0Send => if x = c then { x with left := x.left - 1 } else x)).filter (fun x => x.left != 0) })).cnt
      (portMedium p) 0).emit p c.bytes) d

/-- An own opportunity of a port (R256-R258, R262, R269): none on a trunk whose bus the coordinator holds idle. -/
def opportunity (d : Dev) (p : Nat) : Dev :=
  let w := trkWindow p
  let role := d.plcaRole p
  if d.quiet || !d.portUp p || d.c0Tested (portMedium p) || d.mediumTested (portMedium p) && d.sys.mstate != .test then d
  else if p < 8 then
    if role = 0 || (d.trkAt p).silent || (d.trkAt p).idle && role ≠ 3 then d
    else
      let due := d.c0Due p
      let d1 := if role = 1 then d.placeOpens p else d
      if d.flag (Reg.TRK_GATE.window w) || role ≠ 1 then (d1.sendC0 p due).put (Reg.TRK_GATE.window w) 0
      else d1.sendUpTo p [] (1 + (match (d.trkAt p).cfg with | some c => c.maxBc | none => 0))
  else if (d.trkAt p).sending.isSome || d.now < (d.trkAt p).pauseEnd then d
  else match d.c0Due p with
    | c :: rest =>
      ((d.sendC0 p [c]).put (Reg.TRK_GATE.window w) (b2n !rest.isEmpty)).busy p .plain
    | [] => if d.linksRun then (d.placeOpens p).sendUpTo p [] 1 else
        match d.nextRaw p with
        | some r => d.startRaw p r
        | none => d

/-- What a wired port does at the boundary that opens a beat, before the Lintel's latch (R257, R260, R267, R269). -/
def wiredBoundary (d : Dev) (p : Nat) : Dev :=
  let w := trkWindow p
  let d1 := (d.setTrk p (fun s => { s with silent := false, heard := false, idle := false, wire := [] })).gateEnter p 0
  let due := d1.c0Due p
  if !due.isEmpty && !d1.portUp p then
    (due.foldl (fun d c => d.offer Ev.TRK_C0_FRAME_DISCARDED [p, d.beat.count, c.index])
      (d1.setTrk p (fun s => { s with c0 := s.c0.filter (fun c => !due.contains c) }))).put (Reg.TRK_GATE.window w) 0
  else d1.put (Reg.TRK_GATE.window w) (b2n (if p < 8 then d1.plcaRole p != 0 else !due.isEmpty))

/-! ### Items (R252, R262, R266) -/

/-- The PLEVEL record of a change-set item (R252). -/
def plevelRecord (w0 w1 : Nat) : Bytes :=
  [0x02] ++ (levelRecord w0).drop 1 ++ toLE 2 (bits w1 26 16 % 1024) ++ [0, 0]

/-- Takes a raw item into the port's lists, or discards it as past its launch time (R266, R289). -/
def takeRaw (d : Dev) (p : Nat) (i : JItem) : Dev :=
  let w0 := i.words.headD 0
  let w2 := i.words.getD 2 0
  let timed := bit w0 28
  let dsec := sext 32 ((bits w2 63 32 + 2 ^ 32 - d.nowSec % 2 ^ 32) % 2 ^ 32)
  let launch := ((d.nowSec : Int) + dsec) * 1000000000 + bits w2 29 0
  let past := timed && launch < (d.now : Int)
  let r : RawTx := { item := i, addr := bits (i.words.getD 1 0) 39 0, len := bits w0 26 16, tag := bits w0 47 32,
                     tsReq := bit w0 27, timed := timed, launch := launch.toNat, late := past }
  if r.len < 60 || 1518 < r.len then (d.txDrop (portMedium p) 0xFFFF 2 i).endService (portMedium p) i
  else if past && bit (d.get Reg.TIME_LAUNCH.late_discard) p then
    (((d.tsPush p r.tag ⟨0, 0, 0, r.tag + 2 ^ 17 + 2 ^ 18⟩).endService (portMedium p) i).raise Reg.TIME_IRQ_STATUS.launch_late).offer
      Ev.LAUNCH_LATE [p, r.tag, 1]
  else if timed then d.setTrk p (fun s => { s with launch := s.launch ++ [r] })
  else d.setTrk p (fun s => { s with raw := s.raw ++ [r] })

/-- Appends a unicast change-set item's record to its link's open frame, which is closed and placed first when the record does
not fit (R262). -/
def appendRecord (d : Dev) (p idx : Nat) (rec : Bytes) (eids : List Nat) : Dev :=
  let md := portMedium p
  let old := (d.trkAt p).opens.find? (fun o => o.link == idx)
  let have_ := match old with | some o => o.records | none => []
  let keep := match old with | some o => o.eids | none => []
  if d.maxFrame md < d.frameSize md (have_.length + rec.length) then
    (d.setTrk p (fun s => { s with opens := s.opens.filter (fun o => o.link != idx) ++ [⟨idx, rec, eids⟩] })).place md idx have_ keep
  else d.setTrk p (fun s => { s with opens := s.opens.filter (fun o => o.link != idx) ++ [⟨idx, have_ ++ rec, keep ++ eids⟩] })

/-- A GROUP frame of a wired port (R222, R250, R251), and the port's counter advanced (R220). The spec gives UPLINK and TIE no key for
it, so the ciphertext and MIC there are free values. -/
def wiredGroup (d : Dev) (p : Nat) (key : Option Bytes) (payload : Bytes) : Bytes × Dev :=
  match key with
  | some k => d.broadcast (portMedium p) k fcGroup payload
  | none =>
    let n := (d.trkAt p).bcastFc
    let b := d.freshBytes (payload.length + 8)
    (d.frameHeader (portMedium p) fcGroup 0x7FFF 0 n 0 0 payload.length ++ b.1, b.2.setTrk p (fun s => { s with bcastFc := n + 1 }))

/-- A GROUP frame waits for its repeats (R262). -/
def groupTx (d : Dev) (p : Nat) (b : Bytes) (n : Nat) : Dev :=
  (d.setTrk p (fun s => { s with groups := s.groups ++ [GroupTx.mk s.groupNo b n], groupNo := s.groupNo + 1 })).pushRing (portMedium p)
    none (d.trkAt p).groupNo b.length

/-- Places one item of a wired port's queue (R262). -/
def placeWired (d : Dev) (p : Nat) (i : JItem) : Dev :=
  let md := portMedium p
  let w0 := i.words.headD 0
  let w1 := i.words.getD 1 0
  let eng := i.producer == producerEngine
  if eng && bit w0 28 then
    match (d.trkAt p).cfg with
    | some c => match d.useKey c.bcastKey masterTrunk useBroadcast with
      | (st, key, d1) =>
        if st ≠ ST_OK then d1.txDrop md (bits w1 15 0) 0 i
        else
          let b := d1.wiredGroup p (some key) (groupPayload w0 w1)
          b.2.groupTx p b.1 c.groupRepeat
    | none =>
      let b := d.wiredGroup p none (groupPayload w0 w1)
      b.2.groupTx p b.1 1
  else
    let handle := if eng then bits w1 15 0 else bits w0 15 0
    match linkPlace handle with
    | none => d.txDrop md handle 0 i
    | some (m, idx) =>
      if m ≠ md then d.txDrop md handle 0 i
      else match d.findLink md idx with
        | none => d.txDrop md handle 0 i
        | some l =>
          if l.frames.length ≥ 64 then d.txDrop md handle 1 i
          else if eng then d.appendRecord p idx (if p < 8 then plevelRecord w0 w1 else levelRecord w0) i.eids
          else if 48 < bits w0 23 16 || d.maxFrame md < d.frameSize md (bits w0 23 16) then d.txDrop md handle 2 i
          else d.place md idx (softPayload i) []

/-- Bytes of the frame that placing an item puts into a port's ring; none when it puts none (R262): a unicast change-set item places
its link's open frame only when its record does not fit. -/
def wiredItemSize (d : Dev) (p : Nat) (i : JItem) : Option Nat :=
  let w0 := i.words.headD 0
  if i.producer = producerEngine then
    if bit w0 28 then some 38
    else
      let rec_ := if p < 8 then 12 else 8
      (linkPlace (bits (i.words.getD 1 0) 15 0)).bind (fun m => ((d.trkAt p).opens.find? (fun o => o.link == m.2)).bind (fun o =>
        if d.maxFrame (portMedium p) < d.frameSize (portMedium p) (o.records.length + rec_) then some (26 + o.records.length) else none))
  else some (26 + bits w0 23 16)

/-- The transmit engine of a wired port takes an item (R262, R266, R289). -/
def takeWired (d : Dev) (p : Nat) : Dev :=
  let md := portMedium p
  if !d.joistRuns || !d.mediumPresent md then d
  else match d.takeForConsumer md with
    | none => d
    | some (i, d1) =>
      let raw := 8 ≤ p && i.producer != producerEngine && bits (i.words.headD 0) 15 0 == 0xFFFF
      if d.mirrorHeld i then d
      else if raw then (if (d.trkAt p).launch.length ≥ 16 then d else d1.takeRaw p i)
      else if !(d.wiredItemSize p i).all (fun n => d.ringFits md n) then d
      else (d1.placeWired p i).endService md i

/-! ### Receiving (R249, R264, R266, R273) -/

/-- The wake filter (R273): the lowest enabled pattern that a frame matches. -/
def wakeMatch (d : Dev) (p : Nat) (f : Bytes) : Option Nat :=
  (List.range 8).find? (fun i =>
    bit (d.get (Reg.TRK_WAKE_CTRL.enable (trkWindow p))) i &&
      (match (d.trkAt p).wake[i]? with
       | none => false
       | some w =>
         let sel := bitList w.mask 128
         !sel.isEmpty && sel.all (fun b => b < f.length) && crc16 (sel.map (fun b => f.getD b 0)) == w.check))

/-- Raw receive (R266). -/
def rawRx (d : Dev) (p : Nat) (f : WiredRx) : Dev :=
  let w := trkWindow p
  let md := portMedium p
  let n := min 1024 (d.get (Reg.TRK_RAW_CFG.slots w))
  match (List.range n).find? (fun i => !(d.trkAt p).usedSlots.contains i) with
  | none => d.cnt md 15
  | some i =>
    let a := d.get (Reg.TRK_RAW_BASE.base w) * 2048 + i * 2048
    let st := d.rxStamp f.sfdAgo
    if !inSramOrLpddr a 2048 then d.cnt md 15
    else
      let x := d.deliverRx (d.get (Reg.TRK_GBE_CFG.rx_queue w)) 0x3FFFF (producerTrunk p)
        [st.1 + st.2 % 65536 * 2 ^ 32 + 0xFFFF * 2 ^ 48, 0xFE + md * 2 ^ 24, f.frame.length % 2048 + i * 2 ^ 16]
      if x.2 then
        let d1 := x.1.setTrk p (fun s => { s with usedSlots := i :: s.usedSlots })
        ({ d1 with mem := d1.mem.writeN a f.frame }.put (Reg.TRK_RAW_CFG.free w) (n - ((d.trkAt p).usedSlots.length + 1))).cnt md 2
      else x.1.cnt md 15

/-- Nymtil receive (R264): a frame of link 0x2001 goes to the pair block's receive buffer, if it has room; `b` is the payload after the EtherType, `src` the source address. -/
def nymtilRx (d : Dev) (p : Nat) (f : WiredRx) (b : Bytes) (src : Bytes) : Dev :=
  let md := portMedium p
  let typ := byteAt b 0 % 16
  let addr := fieldLE b 4 2
  let seq := fieldLE b 6 2
  let fc32 := fieldLE b 8 4
  let plen := fieldLE b 16 2
  let q := match (d.trkAt p).cfg with | some c => c.rxQueue | none => d.get (Reg.TRK_GBE_CFG.rx_queue (trkWindow p))
  let st := d.rxStamp f.sfdAgo
  if b.length < 18 + plen + (if typ = 5 then 0 else 8) then d.cnt md 4
  else if byteAt b 1 ≠ 1 || fieldLE b 2 2 ≠ d.mediumNetId md || 6 ≤ typ then d.cnt md 10
  else if typ = 5 then
    if 48 < plen then d.cnt md 4
    else
      let x := d.deliverRx q 0x3FFFF (producerTrunk p)
        (rxWords st.1 st.2 0xFFFF (byteAt b 0) plen 0 md seq ((b.drop 18).take plen))
      if x.2 then x.1.cnt md 2 else x.1.cnt md 8
  else match linkPlace (addr % 0x8000) with
    | none => d.cnt md 10
    | some (m, idx) =>
      let macOk := match (d.trkAt p).cfg with | some c => c.buMac.getD idx [] == src | none => true
      if m ≠ md || !macOk then d.cnt md 10
      else match d.rxJudge md idx (b.take (26 + plen)) 18 with
        | .count i => d.cnt md i
        | .duplicate => ((d.cnt md 7).updLink md idx (fun l => { l with ackDue := true })).creditUpdate md idx (fieldLE b 12 2)
            (fieldLE b 14 2) fc32
        | .pass pl =>
          let tie := md = 13
          let room := sumOf d.pair.rx (fun b => b.length) + pl.length ≤ Config.tieRxBytes
          let go (d : Dev) : Dev :=
            let d1 := d.creditUpdate md idx (fieldLE b 12 2) (fieldLE b 14 2) fc32
            if typ = 0 then d1.delivered md idx seq else d1
          if tie then
            if typ ≠ 0 then go d
            else if room then go { d with pair := { d.pair with rx := d.pair.rx ++ [pl] } } else d.cnt md 8
          else if typ ≠ 0 then go d
          else if 48 < plen then d.cnt md 4
          else
            let x := d.deliverRx q (0x30000 + linkHandle md idx) (producerTrunk p)
              (rxWords st.1 st.2 (linkHandle md idx) (byteAt b 0) plen 0 md seq pl)
            if x.2 then go x.1 else x.1.cnt md 8

/-- A received Ethernet frame (R249): checks, classification, wake filter, delivery. PTP frames take effect as
PTP_MESSAGE_RX, frames of link 0x2001 also as the rows of the pair. -/
def wiredRx (d : Dev) (p : Nat) (f : WiredRx) : Dev :=
  let md := portMedium p
  let w := trkWindow p
  let tagged := 8 ≤ p && beNat (slice f.frame 12 2) == 0x8100
  let at_ := if tagged then 16 else 12
  let typ := beNat (slice f.frame at_ 2)
  let dst := beNat (slice f.frame 0 6)
  let body := f.frame.drop (at_ + 2)
  let n := f.frame.length + 4
  if !d.portUp p || d.mediumTested md || (p < 8 && d.plcaRole p = 0) then d
  else if !f.fcsOk then d.cnt md 3
  else if n < 64 || d.maxFrame md < n then d.cnt md 4
  else if typ = 0x8808 then
    if beNat (slice body 0 2) = 1 then d.pauseRx p (beNat (slice body 2 2))
    else if beNat (slice body 0 2) = 0x0101 then
      d.pfcRx p (beNat (slice body 2 2)) ((List.range 8).map (fun i => beNat (slice body (4 + 2 * i) 2)))
    else d
  else if p < 8 && d.plcaRole p ≠ 1 then d
  else if d.flag (Reg.TRK_WAKE_CTRL.sleep w) then
    match d.wakeMatch p f.frame with
    | none => d.cnt md 14
    | some i => (((d.raiseBits (Reg.TRK_WAKE_CTRL.match w) (2 ^ i)).put
        (Reg.TRK_WAKE_CTRL.sleep w) 0).raise (Reg.TRK_IRQ_STATUS.wake w)).offer Ev.TRK_WAKE_MATCH [p, i]
  else if typ = 0x88F7 then d
  else if typ = 0x88B5 && (dst = portMac p || dst = groupMac) then d.nymtilRx p f body (slice f.frame 6 6)
  else if p < 8 then d.cnt md 10
  else d.rawRx p f

end Dev

/-! ### The commands -/

/-- TRK_LINK_OPEN (R261). -/
def execTrkLinkOpen (t : Nat) (p : Fin 10) (m : Master) (s : State) : Host.Outcome State Fault Refusal :=
  s.runAt t fun d => d.openLink (portMedium p.val) (bankOf m) false

/-- TRK_LINK_CLOSE (R261). -/
def execTrkLinkClose (t : Nat) (p : Fin 10) (m : Master) (report : Bool) (s : State) : Host.Outcome State Fault Refusal :=
  s.runAt t fun d => d.closeOp (portMedium p.val) (bankOf m) report

/-- TRK_LINK_RESUME (R261). -/
def execTrkLinkResume (t : Nat) (p : Fin 10) (m : Master) (s : State) : Host.Outcome State Fault Refusal :=
  s.runAt t fun d => d.openLink (portMedium p.val) (bankOf m) true

/-- TX_ITEM_TAKE (R229, R262): the transmit engine of a medium takes an item. -/
def execTxItemTake (t : Nat) (medium : Fin 14) (s : State) : Host.Outcome State Fault Refusal :=
  s.runAt t fun d => if medium.val < 4 then d.takeRadio medium.val else d.takeWired (medium.val - 4)

/-- WIRED_FRAME_RX (R249). -/
def execWiredFrameRx (t : Nat) (p : Fin 10) (f : WiredRx) (s : State) : Host.Outcome State Fault Refusal :=
  s.runAt t fun d => d.wiredRx p.val f

/-- The time left to the boundary is less than cycle_max: the coordinator starts no further cycle (R257). -/
def Dev.cycleTooLong (d : Dev) (p : Nat) : Bool :=
  match (d.trkAt p).cfg with | some c => d.boundaryAt < d.now + cycleMaxTenths c * 100 | none => false

/-- PLCA_CYCLE_END (R257): the length of the completed cycle is shown, and the coordinator starts the next one or holds the bus idle
until the boundary. -/
def execPlcaCycleEnd (t : Nat) (p : Fin 8) (us : Nat) (s : State) : Host.Outcome State Fault Refusal :=
  s.runAt t fun d =>
    if d.plcaRole p.val = 0 then d
    else
      let d1 := d.put (Reg.TRK_CYCLE.last_us p.val) (min us 65535)
      if d.plcaRole p.val ≠ 3 && d.cycleTooLong p.val then d1.setTrk p.val (fun s => { s with idle := true }) else d1

/-- TX_OPPORTUNITY (R258): an own opportunity of a trunk, or an instant at which UPLINK or TIE may start a frame. -/
def execTxOpportunity (t : Nat) (p : Fin 10) (s : State) : Host.Outcome State Fault Refusal :=
  s.runAt t fun d => d.opportunity p.val

/-- PLCA_CONFLICT (R259): a coordinator sees a foreign BEACON. -/
def execPlcaConflict (t : Nat) (p : Fin 8) (src : Nat) (s : State) : Host.Outcome State Fault Refusal :=
  s.runAt t fun d =>
    if d.plcaRole p.val = 1 || d.plcaRole p.val = 2 then
      ((d.raise (Reg.TRK_STATUS.plca_conflict p.val)).raise (Reg.TRK_IRQ_STATUS.plca_conflict p.val)).offer Ev.TRK_PLCA_CONFLICT
        [p.val, d.beat.count, src]
    else d

/-- PLCA_STANDIN (R260): no BEACON came within 100 µs of a boundary at which the follower has a frame to send. -/
def execPlcaStandin (t : Nat) (p : Fin 8) (s : State) : Host.Outcome State Fault Refusal :=
  s.runAt t fun d =>
    let due := d.c0Due p.val
    if d.plcaRole p.val ≠ 3 || due.isEmpty || (d.trkAt p.val).silent || d.quiet ||
        (d.trkAt p.val).heard || d.beat.sinceBase < 100000 then d
    else (((d.sendC0 p.val due).setTrk p.val (fun x => { x with silent := true })).put (Reg.TRK_GATE.window p.val) 0).offer
      Ev.TRK_PLCA_STANDIN [p.val, d.beat.count]

/-- WIRED_ACK_TIMEOUT (R263): the mark is not acknowledged within ack_timeout of its last send. -/
def execWiredAckTimeout (t : Nat) (p : Fin 10) (link : Nat) (s : State) : Host.Outcome State Fault Refusal :=
  s.runAt t fun d =>
    match d.findLink (portMedium p.val) link with
    | none => d
    | some l =>
      if l.lost || l.sentNow = 0 || d.now < l.markAt + l.cfg.ackTimeout * 100000 then d
      else if l.frames.head?.any (fun f => f.sends ≥ l.cfg.maxRetries + 1) then d.loseLink (portMedium p.val) link 2
      else d.rewind (portMedium p.val) link

/-- KEEPALIVE (R263): no frame has been sent on a link for keepalive beats: an ACK is due in the next opportunity. -/
def execKeepalive (t : Nat) (p : Fin 10) (link : Nat) (s : State) : Host.Outcome State Fault Refusal :=
  s.runAt t fun d =>
    match d.findLink (portMedium p.val) link with
    | none => d
    | some l =>
      if l.lost || d.beat.count < l.lastTx + l.cfg.keepalive then d
      else d.updLink (portMedium p.val) link (fun l => { l with ackDue := true, awaiting := true })

/-- GATE_ENTRY (R267): an entry begins at its start. -/
def execGateEntry (t : Nat) (p : Fin 10) (entry : Nat) (s : State) : Host.Outcome State Fault Refusal :=
  s.runAt t fun d =>
    if ((d.trkAt p.val).gates[entry]?).any (fun e => e.start * 1000 ≤ d.beat.sinceBase) then d.gateEnter p.val entry else d

/-- PORT_LINK (R265, R274): the link of UPLINK or TIE comes up or goes down; 10 Mb/s counts as down. -/
def execPortLink (t : Nat) (p : Fin 2) (up : Bool) (speed : Nat) (s : State) : Host.Outcome State Fault Refusal :=
  s.runAt t fun d =>
    let w := 14 + p.val
    let u := up && (speed == 1 || speed == 2)
    let d1 := (d.putB (Reg.TRK_STATUS.link_up w) u).put (Reg.TRK_STATUS.speed w) (if u then speed else 3)
    if d.flag (Reg.TRK_STATUS.link_up w) == u then d1
    else (d1.raise (Reg.TRK_IRQ_STATUS.port_link w)).offer Ev.TRK_PORT_LINK [8 + p.val, b2n u, if u then speed else 3]

/-- PAUSE_RX (R270). -/
def execPauseRx (t : Nat) (p : Fin 10) (quanta : Nat) (s : State) : Host.Outcome State Fault Refusal :=
  s.runAt t fun d => d.pauseRx p.val quanta

/-- PAUSE_EXPIRED (R270): the time of the pause in force is over. -/
def execPauseExpired (t : Nat) (p : Fin 10) (s : State) : Host.Outcome State Fault Refusal :=
  s.runAt t fun d => if (d.trkAt p.val).pauseEnd ≤ d.now then d.endPause p.val else d

/-- PFC_RX (R271). -/
def execPfcRx (t : Nat) (p : Fin 10) (enabled : Nat) (quanta : List Nat) (s : State) : Host.Outcome State Fault Refusal :=
  s.runAt t fun d => d.pfcRx p.val enabled quanta

/-- RAW_SLOT_FREE (R266): a slot returns. -/
def execRawSlotFree (t : Nat) (p : Fin 2) (v : W32) (s : State) : Host.Outcome State Fault Refusal :=
  s.runAt t fun d =>
    let used := ((d.trkAt (8 + p.val)).usedSlots).filter (fun i => i != v.toNat % 1024)
    (d.setTrk (8 + p.val) (fun x => { x with usedSlots := used })).put (Reg.TRK_RAW_CFG.free (14 + p.val))
      (min 1024 (d.get (Reg.TRK_RAW_CFG.slots (14 + p.val))) - used.length)

/-- RAW_CFG_WRITE (R275): the count of slots; a write returns every slot. -/
def execRawCfgWrite (t : Nat) (p : Fin 2) (v : W32) (s : State) : Host.Outcome State Fault Refusal :=
  s.runAt t fun d =>
    ((d.setTrk (8 + p.val) (fun x => { x with usedSlots := [] })).put (Reg.TRK_RAW_CFG.slots (14 + p.val)) (bits v.toNat 10 0)).put
      (Reg.TRK_RAW_CFG.free (14 + p.val)) (min 1024 (bits v.toNat 10 0))

/-- MDIO_CMD (R265, R275): a write with an op of 1 to 5 starts a frame; ignored while one is on MDIO. -/
def execMdioCmd (t : Nat) (v : W32) (s : State) : Host.Outcome State Fault Refusal :=
  s.runAt t fun d =>
    let op := bits v.toNat 30 28
    if d.flag (Reg.TRK_MDIO_CMD.busy 14) then d
    else
      let d1 := (d.put (Reg.TRK_MDIO_CMD.phy 14) (bits v.toNat 25 21)).put (Reg.TRK_MDIO_CMD.reg 14) (bits v.toNat 20 16)
      if 1 ≤ op && op ≤ 5 then (d1.setTrk 8 (fun x => { x with mdioOp := op })).put (Reg.TRK_MDIO_CMD.busy 14) 1 else d1

/-- MDIO_DONE (R275): the frame ends; a read shows its data. -/
def execMdioDone (t data : Nat) (s : State) : Host.Outcome State Fault Refusal :=
  s.runAt t fun d =>
    if !d.flag (Reg.TRK_MDIO_CMD.busy 14) then d
    else
      let d1 := d.put (Reg.TRK_MDIO_CMD.busy 14) 0
      if (d.trkAt 8).mdioOp = 2 || (d.trkAt 8).mdioOp = 5 then d1.put (Reg.TRK_MDIO_DATA.data 14) data else d1

/-- LAST_BYTE_SENT (R266, R270): the frame under way on UPLINK or TIE ends: a raw item is released, and a pause that came
during it begins. -/
def execLastByteSent (t : Nat) (p : Fin 10) (s : State) : Host.Outcome State Fault Refusal :=
  s.runAt t fun d =>
    match (d.trkAt p.val).sending with
    | none => d
    | some x =>
      let d1 := d.setTrk p.val (fun s => { s with sending := none, pauseDeferred := none })
      let d2 := match x with
        | .raw r => d1.endService (portMedium p.val) r.item
        | .plain => d1
      match (d.trkAt p.val).pauseDeferred with
      | some q => d2.beginPause p.val q
      | none => d2

/-- TIMED_LAUNCH (R289): the launch time of a waiting frame comes; a port that does not allow the start leaves the frame
waiting, to be flagged late. -/
def execTimedLaunch (t : Nat) (port : Fin 10) (s : State) : Host.Outcome State Fault Refusal :=
  s.runAt t fun d =>
    match ((d.trkAt port.val).launch.filter (fun r => r.launch ≤ d.now)).head? with
    | none => d
    | some r =>
      if port.val < 8 || (d.trkAt port.val).sending.isSome || d.now < (d.trkAt port.val).pauseEnd || !d.portUp port.val
          || d.flag (Reg.TRK_GATE.window (trkWindow port.val)) || !d.gateOpen port.val 3 (r.len + 4)
          || d.pfcHeld port.val (d.rawPcp r) || d.quiet then d
      else d.startRaw port.val r

end Sys2Proof.Machine
end

