-- ==== Sys2Proof/Machine/Lintel.lean ====
section
/-! DEFINITION. The Lintel: class-0 changes, their latch, the frames it loads, and EMG (R19-R23, R96, R134-R136, R243, R421,
R496, R525). -/

namespace Sys2Proof.Machine

namespace Dev

/-! ### Aborting tests (R464) -/

/-- Ends the tests named, of a self-test under way: each running one is marked incomplete, with event 0x1006 (R463, R464);
causes are the model's enumeration (notes/assumptions/9). A named test that waits is not started. -/
def abortTests (d : Dev) (tests : List Nat) (cause : Nat) : Dev :=
  match d.bst.test with
  | none => d
  | some r =>
    let hit := r.running.filter (fun t => tests.contains t)
    let r' := { r with
      running := r.running.filter (fun t => !tests.contains t)
      waiting := r.waiting.filter (fun t => !tests.contains t)
      incomplete := r.incomplete + hit.length }
    let d1 : Dev := { d with bst := { d.bst with
      test := some r'
      results := d.bst.results.filter (fun x => !(hit.contains x.test && x.result == 3)) ++
        hit.map (fun t => ({ test := t, index := 0, result := 3, code := 0, day := d.nowSec / 86400 } : TestRes)) } }
    if hit.isEmpty then d1
    else (d1.raise Reg.BST_IRQ_STATUS.test_aborted).offer Ev.TEST_ABORTED [sumOf hit (fun t => 2 ^ (t - 1)), cause]

/-! ### The SAFETY section (R22, R96, R136) -/

def emgActive (d : Dev) : Bool := d.lin.emgA || d.lin.emgB

def frameOf (d : Dev) (index : Nat) : Option SafetyFrame :=
  d.lin.safety.bind (fun s => s.frames.find? (fun f => f.index == index))

/-! ### Loading a frame (R220, R223, R253, R404, R421) -/

/-- The class-0 key of a medium and the master that uses it (R429). -/
def c0KeyOf (d : Dev) (md : Nat) : Nat × Nat :=
  if md < 4 then (match (d.radAt md).plan with | some p => p.c0Key | none => 0, masterRadio)
  else if md < 12 then (match (d.trkAt (md - 4)).cfg with | some c => c.c0Key | none => 0, masterTrunk)
  else (match d.lin.safety with | some s => s.gbeC0Key | none => 0, masterTrunk)

/-- The payload of a CLASS0 frame: the template's 12 bytes with the session epoch and the class-0 sequence inserted (R223). -/
def c0Payload (d : Dev) (f : SafetyFrame) (md seq : Nat) : Bytes :=
  let tpl := if md < 4 then slice f.radioTpl 18 12 else slice f.trunkTpl 32 12
  let at_ := if md < 4 then f.radioSeqAt - 18 else f.trunkSeqAt - 32
  tpl.take at_ ++ toLE 1 d.epoch ++ toLE 2 seq ++ tpl.drop (at_ + 3)

/-- The header of a CLASS0 frame: the template's, with net_id on a wired port and fc32 written into it (R223, R253). -/
def c0Header (d : Dev) (f : SafetyFrame) (md fc : Nat) : Bytes :=
  if md < 4 then slice f.radioTpl 2 8 ++ toLE 4 fc ++ slice f.radioTpl 14 4
  else slice f.trunkTpl 14 2 ++ toLE 2 (d.mediumNetId md) ++ slice f.trunkTpl 18 4 ++ toLE 4 fc ++ slice f.trunkTpl 26 6

/-- A CLASS0 frame as it is sent (R223, R253): on a radio its PHR and PSDU; on a wired port the Ethernet frame without its FCS, which
the MAC appends. -/
def c0Frame (d : Dev) (f : SafetyFrame) (md seq fc : Nat) (key : Bytes) : Bytes :=
  let h := d.c0Header f md fc
  let addr := fieldLE h 4 2
  let body := h ++ Config.ccmEncrypt key (d.nonce md (addr % 0x8000) (addr / 0x8000) fc) h (d.c0Payload f md seq)
  if md < 4 then slice f.radioTpl 0 2 ++ body ++ fcs body
  else slice f.trunkTpl 0 6 ++ toBE 6 (portMac (md - 4)) ++ (if 12 ≤ md then toBE 4 0x8100E000 else []) ++ slice f.trunkTpl 12 2 ++ body ++
    slice f.trunkTpl 52 8

/-- Builds a frame and puts it into a medium's class-0 buffer (R19, R220). A medium without its configuration, absent, or whose key is
refused, takes none. -/
def loadC0 (d : Dev) (f : SafetyFrame) (md seq : Nat) (fresh : Bool) : Dev :=
  let lm := match d.lin.safety with | some s => s.lintelMedia | none => 0
  if !bit f.media md || !bit lm md || !d.mediumPresent md then d
  else match d.useKey (d.c0KeyOf md).1 (d.c0KeyOf md).2 useClass0 with
    | (st, key, d1) =>
      if st ≠ ST_OK then d1
      else
        let n := if md < 4 then (d1.radAt md).c0Fc else (d1.trkAt (md - 4)).c0Fc
        let bytes := d1.c0Frame f md seq (d1.epoch * 2 ^ 24 + (n + 1) % 2 ^ 24) key
        let put (l : List C0Send) (left : Nat) : List C0Send :=
          l.filter (fun c => c.index != f.index) ++ [C0Send.mk f.index bytes left fresh d1.beat.count 0]
        if md < 4 then
          let left := match (d1.radAt md).plan with | some p => p.c0Repeat | none => 1
          d1.setRad md (fun s => { s with c0Fc := n + 1, c0 := put s.c0 left })
        else d1.setTrk (md - 4) (fun s => { s with c0Fc := n + 1, c0 := put s.c0 1 })

/-- The next class-0 sequence of the session (R404). -/
def nextC0Seq (d : Dev) : Nat × Dev :=
  let n := (d.lin.c0Seq + 1) % 65536
  (n, { d with lin := { d.lin with c0Seq := n } })

/-- Loads a frame on the media given, under a new sequence (R404, R421). -/
def loadFrame (d : Dev) (f : SafetyFrame) (media : List Nat) (fresh : Bool) : Dev :=
  let x := d.nextC0Seq
  media.foldl (fun d md => d.loadC0 f md x.1 fresh) x.2

/-- The command path takes a command's entry (R125): the Lintel keeps 64 of the 256 places. It stands only where the engine
takes entries of its own, not in BOOT, TEST or FAILSAFE nor in a role that replays. -/
def cmdPathOpen (d : Dev) : Bool :=
  d.isState [.ready, .service, .hold] && (d.sys.role == .solo || d.sys.role == .active)

def cmdPathFull (d : Dev) : Bool := (d.rft.cmdBuf.filter (fun c => c != .emg)).length ≥ 192

/-- Puts an entry into the command path. -/
def cmdEntry (d : Dev) (c : CmdEntry) : Dev :=
  if d.cmdPathOpen then { d with rft := { d.rft with cmdBuf := d.rft.cmdBuf ++ [c] } } else d

/-- The class-0 buffer of a medium. -/
def c0Sends (d : Dev) (md : Nat) : List C0Send := if md < 4 then (d.radAt md).c0 else (d.trkAt (md - 4)).c0

def mapC0 (d : Dev) (md : Nat) (f : List C0Send → List C0Send) : Dev :=
  if md < 4 then d.setRad md (fun s => { s with c0 := f s.c0 }) else d.setTrk (md - 4) (fun s => { s with c0 := f s.c0 })

/-- A frame that changes with its SAFETY section is built again where it waits to be sent, under a new sequence (R96, R404); what
waits keeps its repeats and its place. A medium that the new frame leaves out drops it. -/
def reloadC0 (d : Dev) (f : SafetyFrame) : Dev :=
  let media := (List.range 14).filter (fun md => (d.c0Sends md).any (fun c => c.index == f.index))
  if media.isEmpty then d
  else
    let x := d.nextC0Seq
    media.foldl (fun (d : Dev) md =>
      match (d.c0Sends md).find? (fun c => c.index == f.index) with
      | none => d
      | some c => ((d.mapC0 md (fun l => l.filter (fun k => k.index != f.index))).loadC0 f md x.1 c.fresh).mapC0 md (fun l =>
          l.map (fun k => if k.index = f.index then { k with left := c.left, latchBeat := c.latchBeat, behind := c.behind } else k))) x.2

/-- A SAFETY section comes into force (R96): an active frame continues with the new frame of its index, on the media it waits for
too, or keeps its copy with event 0x0209; the suspension for want of frames ends (R22); an EMG channel that is active counts as an
edge (R136). -/
def setSafety (d : Dev) (sec : Option Safety) : Dev :=
  let find (i : Nat) : Option SafetyFrame := sec.bind (fun s => s.frames.find? (fun f => f.index == i))
  let kept := d.lin.active.filter (fun a => (find a.frame.index).isNone)
  let edge := d.emgActive && sec.isSome
  let d1 : Dev := { d with
    lin := { d.lin with
      safety := sec, nextSafety := none
      active := d.lin.active.map (fun a : ActiveFrame => { a with frame := (find a.frame.index).getD a.frame })
      waiting := d.lin.waiting ++ (if edge then [C0Req.emg] else []) }
    rft := { d.rft with c0 := d.rft.c0.map (fun f => (find f.index).getD f) } }
  let d2 := kept.foldl (fun d a => d.offer Ev.SAFETY_FRAME_KEPT [a.frame.index]) (if edge then d1.cmdEntry .emg else d1)
  let d3 := if sec.isSome && d.lin.safety.isNone then d2.setSuspended 0 else d2
  let net := match sec with | some s => (s.gbeC0Key, s.gbeNetId) | none => (0, 0)
  let d4 := [8, 9].foldl (fun d p => (d.put (Reg.TRK_NET.key_id (trkWindow p)) net.1).put (Reg.TRK_NET.net_id (trkWindow p)) net.2) d3
  (d.lin.active.filter (fun a => (find a.frame.index).any (fun f => f != a.frame))).foldl (fun (d : Dev) a =>
    match find a.frame.index with | some f => d.reloadC0 f | none => d) d4

/-! ### The latch (R135, R136, R525) -/

/-- What one waiting change does to the list of active frames (R135, R136). -/
def c0Change (d : Dev) (l : List ActiveFrame) (r : C0Req) : List ActiveFrame :=
  let enter (l : List ActiveFrame) (f : SafetyFrame) (cause : Nat) : List ActiveFrame :=
    if l.any (fun a => a.frame.index == f.index) then l else l ++ [ActiveFrame.mk f cause d.beat.count false d.beat.count]
  match r with
  | .activate i => match d.frameOf i with | some f => enter l f 0 | none => l
  | .release i => l.filter (fun a => a.frame.index != i)
  | .emg => match d.lin.safety with | some s => (s.frames.filter (fun f => f.emg)).foldl (fun l f => enter l f 1) l | none => l

/-- The nodes that took their class-0 level from a frame at the last COMMIT and that no frame still active covers (R135). -/
def releasedNodes (d : Dev) (f : SafetyFrame) (left : List ActiveFrame) : Nat :=
  let before := sortBy (fun g : SafetyFrame => g.index) ((d.lin.active.filter (fun a => a.committed)).map (·.frame))
  (d.rft.nodes.filter (fun n => n.run.c0Active && ((before.find? (fun g => covers g n.stat)).map (·.index)) == some f.index &&
    !left.any (fun a => covers a.frame n.stat))).length

/-- The class-0 state of the local outputs for the boundary after the latch (R496). -/
def lightC0 (d : Dev) : Dev :=
  let fs := sortBy (fun g : SafetyFrame => g.index) ((d.lin.active.map (·.frame)).filter (fun f => bit f.media 14))
  { d with lgt := { d.lgt with
    strings := d.lgt.strings.mapIdx (fun n s =>
      { s with nextC0 := (d.rft.nodes.find? (fun x => x.stat.typ == 7 && x.stat.local_ == n)).bind (fun x =>
          (fs.find? (fun f => covers f x.stat)).map (·.level)) })
    matrices := d.lgt.matrices.mapIdx (fun k m =>
      { m with nextC0 := !fs.isEmpty && (match d.matCfg k with | some c => c.c0Show | none => false) }) } }

/-- EMG_ACK conducts until every frame with emg = 1 is released (R525). -/
def showAck (d : Dev) (on : Bool) : Dev :=
  { d with lin := { d.lin with emgAck := on }, lnd := { d.lnd with emgAck := on } }.putB Reg.SYS_PIN_STATUS.emg_ack on

/-- The Lintel acts: a SAFETY section is present and the module runs (R22, R61). -/
def lintelActs (d : Dev) : Bool :=
  d.lin.safety.isSome && d.isState [.boot, .ready, .service, .hold, .test, .failsafe] && !d.pwr.stopped

/-- Of the frames newly latched on a radio, in ascending index, all but the first wait for a later slot: the bound is suspended there
for their activation (R20, R21, R243). -/
def queueC0 (d : Dev) (come : List Nat) (r : Nat) : Dev :=
  let mine := come.filter (fun i => (d.radAt r).c0.any (fun c => c.index == i && c.fresh && c.latchBeat == d.beat.count))
  (mine.zipIdx.drop 1).foldl (fun (d : Dev) x =>
    ((d.setRad r (fun s => { s with c0 := s.c0.map (fun c : C0Send => if c.index = x.1 then { c with behind := x.2 } else c) })).suspendC0 r true).offer
      Ev.RAD_C0_SLOT_QUEUED [r, x.1, x.2, d.beat.count]) d

/-- The latch at a boundary: the waiting changes take effect in order, with one event per frame that becomes active or inactive;
new frames are loaded in ascending index; each radio with a loaded frame claims the next slot (R215). DESIGN CHOICE (notes/assumptions/49): a release and a new activation of
one frame latched at one boundary leave it active, and neither event is written. -/
def latch (d : Dev) : Dev :=
  if !d.lintelActs then d
  else
    let old := d.lin.active
    let new := d.lin.waiting.foldl d.c0Change old
    let gone := old.filter (fun a => !new.any (fun b => b.frame.index == a.frame.index))
    let come := sortBy (fun a : ActiveFrame => a.frame.index) (new.filter (fun b => !old.any (fun a => a.frame.index == b.frame.index)))
    let emg := d.lin.waiting.contains .emg
    let d1 := come.foldl (fun d a => d.offer Ev.C0_ACTIVE [a.frame.index, a.cause, d.beat.count]) d
    let d2 := gone.foldl (fun d a => d.offer Ev.C0_RELEASED [a.frame.index, d.beat.count, d.releasedNodes a.frame new]) d1
    let d3 : Dev := { d2 with lin := { d2.lin with active := new, waiting := [] } }
    let d4 := come.foldl (fun d a => (d.abortTests (testsOnMedia a.frame.media) 0).loadFrame a.frame (List.range 14) true) d3
    let d4 := (List.range 4).foldl (fun d r => d.queueC0 (come.map (fun a => a.frame.index)) r) d4
    let d5 := (d4.showAck ((emg || d4.lin.emgAck) && new.any (fun a => a.frame.emg))).lightC0
    { d5 with rad := d5.rad.map (fun s : RadSt => { s with claimedNext := !s.c0.isEmpty }) }

/-! ### CLASS0 (R135) -/

/-- The frame is active once the waiting changes are counted. -/
def c0Wanted (d : Dev) (index : Nat) : Bool :=
  (d.lin.waiting.foldl d.c0Change d.lin.active).any (fun a => a.frame.index == index)

/-- Check 9 of CLASS0 (R135). DEDUCED (notes/assumptions/49): the first row of the table takes an index absent from SAFETY for either
action, a frame that the Lintel keeps under R96 included. -/
def class0ArgsOk (d : Dev) (p : Bytes) : Bool :=
  p.length == 4 && allZero (p.drop 2) && (byteAt p 0 == 1 || byteAt p 0 == 2) &&
    (match d.frameOf (byteAt p 1) with
     | some f => byteAt p 0 == 2 || f.cmd
     | none => false)

/-- CLASS0 by its table of outcomes (R135). -/
def class0 (d : Dev) (index : Nat) (activate : Bool) : Done :=
  let beat := toLE 8 (d.beat.count + 1)
  if d.c0Wanted index = activate then ⟨d, ST_OK, beat, true⟩
  else if !activate && d.emgActive && (match d.frameOf index with | some f => f.emg | none => false) then
    ⟨d.offer Ev.C0_RELEASE_REFUSED [index, b2n d.lin.emgA, b2n d.lin.emgB], ST_ILLEGAL_STATE, [], true⟩
  else if d.cmdPathOpen && d.cmdPathFull then ⟨d, ST_REFUSED_FULL, [], true⟩
  else
    let r : C0Req := if activate then .activate index else .release index
    ⟨({ d with lin := { d.lin with waiting := d.lin.waiting ++ [r] } } : Dev).cmdEntry (.class0 index activate), ST_OK, beat, true⟩

/-- An EMG channel changes (R136, R525, R542): an edge to active waits for the latch and takes one of the Lintel's places. -/
def emgEdge (d : Dev) (b active : Bool) : Dev :=
  let was := if b then d.lin.emgB else d.lin.emgA
  let d1 : Dev := { d with lin := { d.lin with emgA := if b then d.lin.emgA else active, emgB := if b then active else d.lin.emgB } }
  let d2 := (d1.putB Reg.SYS_PIN_STATUS.emg_a d1.lin.emgA).putB Reg.SYS_PIN_STATUS.emg_b d1.lin.emgB
  let d3 : Dev := if d2.lin.emgA = d2.lin.emgB then { d2 with lin := { d2.lin with disagree := false } } else d2
  if was = active || !active || d3.sys.mstate = .off then d3
  else if d3.lin.safety.isNone then d3
  else ({ d3 with lin := { d3.lin with waiting := d3.lin.waiting ++ [C0Req.emg] } } : Dev).cmdEntry .emg

end Dev

/-- CLASS0 (R135). -/
def specClass0 : CmdSpec := ⟨cmdClass0, Dev.class0ArgsOk, fun _ => false,
  fun d e => d.class0 (byteAt e.body 1) (byteAt e.body 0 == 1)⟩

/-- CLASS0_ACTIVATE (R135). -/
def execClass0Activate (t : Nat) (e : Envelope) (s : State) : Host.Outcome State Fault Refusal :=
  s.runAt t fun d => d.command specClass0 e

/-- CLASS0_RELEASE (R135). -/
def execClass0Release (t : Nat) (e : Envelope) (s : State) : Host.Outcome State Fault Refusal :=
  s.runAt t fun d => d.command specClass0 e

/-- C0_REFRESH (R243, R421): an active frame is sent again, under a new sequence, in c0_repeat slots of every radio whose
c0_refresh interval since the latch ends at the beat in progress. -/
def execC0Refresh (t index : Nat) (s : State) : Host.Outcome State Fault Refusal :=
  s.runAt t fun d =>
    match d.lin.active.find? (fun a => a.frame.index == index) with
    | none => d
    | some a =>
      let due := (List.range 4).filter (fun r =>
        match (d.radAt r).plan with
        | some p => p.c0Refresh != 0 && bit a.frame.media r && a.loadBeat < d.beat.count &&
            (d.beat.count - a.latchBeat) % p.c0Refresh == 0
        | none => false)
      if due.isEmpty || !d.lintelActs then d
      else
        let d1 := d.loadFrame a.frame due false
        { d1 with
          lin := { d1.lin with active := d1.lin.active.map (fun x : ActiveFrame =>
            if x.frame.index = index then { x with loadBeat := d.beat.count } else x) }
          rad := d1.rad.mapIdx (fun r (s : RadSt) => if due.contains r then { s with claimedNext := !s.c0.isEmpty } else s) }

/-- EMG_EDGE (R525): a channel changes after its filter. -/
def execEmgEdge (t : Nat) (b active : Bool) (s : State) : Host.Outcome State Fault Refusal :=
  s.runAt t fun d => d.emgEdge b active

/-- EMG_DISAGREE (R525): the channels have disagreed for more than 100 ms; once until they agree again. -/
def execEmgDisagree (t ms : Nat) (s : State) : Host.Outcome State Fault Refusal :=
  s.runAt t fun d =>
    if ms ≤ 100 || d.lin.emgA = d.lin.emgB || d.lin.disagree || d.sys.mstate = .off then d
    else (({ d with lin := { d.lin with disagree := true } } : Dev).raise Reg.SYS_PIN_STATUS.emg_disagree).offer Ev.EMG_DISAGREE
      [b2n d.lin.emgA, b2n d.lin.emgB, ms]

end Sys2Proof.Machine
end

