-- ==== Sys2Proof/Machine/Container.lean ====
section
/-! DEFINITION. The Cut List container: its TLV structure, the parsing of every section, and the contents checks of check 10
(R76-R84, R98, R105-R117, R134, R149, R172, R177-R178, R208-R210, R223, R253-R255, R267, R351-R353, R376, R387-R388,
R446, R486-R487, R518-R519). A check is a byte offset in the container and whether the field there passes. -/

namespace Sys2Proof.Machine

abbrev Check := Nat × Bool

/-- A section found by the TLV walk: its type, and the offset and length of its payload. -/
structure Sect where
  typ : Nat
  off : Nat
  len : Nat
deriving DecidableEq, Repr

/-- A refusal at a check: check number, status, section type, offset (R85, R103). -/
structure CutRefusal where
  check : Nat
  status : Nat
  typ : Nat
  off : Nat
deriving DecidableEq, Repr

def cutHeader (c : Bytes) : CutHeader where
  major := byteAt c 4
  minor := byteAt c 5
  hwType := fieldLE c 6 2
  cutId := fieldLE c 8 8
  generation := fieldLE c 16 4
  bodyLength := fieldLE c 20 4
  sections := fieldLE c 24 2
  patch := bit (byteAt c 26) 0
  keyId := fieldLE c 28 2
  hash := slice c 32 32

/-- Check 9 (R78, R79): `n` sections from `pos` up to `stop`, types strictly ascending from above `prev`. -/
def tlvWalk (c : Bytes) (stop : Nat) : Nat → Nat → Nat → List Sect → Except CutRefusal (List Sect)
  | 0, _, pos, acc => if pos = stop then .ok acc.reverse else .error ⟨9, ST_BAD_ARGUMENT, 0, pos⟩
  | n + 1, prev, pos, acc =>
    let t := byteAt c pos
    let len := fieldLE c (pos + 4) 4
    let bad (o : Nat) : Except CutRefusal (List Sect) := .error ⟨9, ST_BAD_ARGUMENT, t, o⟩
    if stop < pos + 8 then .error ⟨9, ST_BAD_ARGUMENT, 0, pos⟩
    else if t + 1 ≤ prev then bad pos
    else if byteAt c (pos + 1) > 1 then bad (pos + 1)
    else if fieldLE c (pos + 2) 2 ≠ 0 then bad (pos + 2)
    else if stop < pos + 8 + pad8 len then bad (pos + 4)
    else if !allZero (slice c (pos + 8 + len) (pad8 len - len)) then bad (pos + 8 + len)
    else if (t = 0 || t > 0x12) && byteAt c (pos + 1) = 0 then .error ⟨9, ST_VERSION, t, pos⟩
    else tlvWalk c stop n (t + 1) (pos + 8 + pad8 len) (⟨t, pos + 8, len⟩ :: acc)

/-- The sections every full Cut List holds (R79). -/
def requiredSections : List Nat := [0x01, 0x02, 0x03, 0x04, 0x07, 0x0C, 0x0E, 0x10]

def findSect (l : List Sect) (t : Nat) : Option Sect := l.find? (fun s => s.typ == t)

/-- A field of `n` bytes is 0. -/
def zeroAt (c : Bytes) (off n : Nat) : Check := (off, allZero (slice c off n))

/-- A value lies in a range. -/
def within (off v lo hi : Nat) : Check := (off, lo ≤ v && v ≤ hi)

/-- Ranges given by first and count ascend and do not overlap. -/
def ascendApart : List (Nat × Nat) → Bool
  | [] => true
  | [_] => true
  | a :: b :: r => a.1 + a.2 ≤ b.1 && ascendApart (b :: r)

/-! ### UNITS, BEAT, LEDGER (R80-R82) -/

def parseUnits (c : Bytes) (s : Sect) : Units :=
  let b (i : Nat) := byteAt c (s.off + i)
  ⟨b 0, b 1, b 2, b 3, b 4, b 5, b 6, b 7, b 8, b 9, b 10, b 11, fieldLE c (s.off + 12) 4⟩

def checkUnits (s : Sect) (u : Units) : List Check :=
  [(s.off - 4, s.len == 16), within s.off u.lanesReq 1 8, within (s.off + 1) u.coresReq 1 8,
   within (s.off + 2) u.radiosReq 0 15, (s.off + 3, u.radiosOpt ≤ 15 && u.radiosReq &&& u.radiosOpt == 0),
   (s.off + 5, u.trunksReq &&& u.trunksOpt == 0),
   within (s.off + 6) u.portsReq 0 3, (s.off + 7, u.portsOpt ≤ 3 && u.portsReq &&& u.portsOpt == 0),
   within (s.off + 8) u.meterReq 0 15, (s.off + 9, u.meterOpt ≤ 15 && u.meterReq &&& u.meterOpt == 0),
   within (s.off + 10) u.lightReq 0 7, within (s.off + 11) u.ioReq 0 63, within (s.off + 12) u.nodeCount 1 131072]

def parseBeat (c : Bytes) (s : Sect) : BeatSec :=
  ⟨byteAt c s.off, byteAt c (s.off + 1), fieldLE c (s.off + 2) 2,
   (List.range (byteAt c (s.off + 4))).map (fun i =>
     let o := s.off + 8 + 4 * i
     (⟨byteAt c o, byteAt c (o + 1), byteAt c (o + 2)⟩ : Fallback))⟩

def checkBeat (c : Bytes) (s : Sect) (u : Units) (x : BeatSec) : List Check :=
  [(s.off - 4, s.len == 8 + 4 * byteAt c (s.off + 4)), within s.off x.period 0 4, within (s.off + 1) x.passes 1 15,
   within (s.off + 2) x.slewPpm 10 1000, within (s.off + 4) (byteAt c (s.off + 4)) 0 7, zeroAt c (s.off + 5) 3] ++
  (x.fallbacks.zipIdx.flatMap (fun (f, i) =>
    let o := s.off + 8 + 4 * i
    ([(o, 1 ≤ f.lanes && f.lanes ≤ 7 && f.lanes < u.lanesReq), within (o + 1) f.period 0 4, within (o + 2) f.passes 1 15,
     zeroAt c (o + 3) 1] : List Check))) ++
  [(s.off + 8, falling (x.fallbacks.map (·.lanes)))]

def parseLedger (c : Bytes) (s : Sect) : LedgerSec :=
  ⟨fieldLE c s.off 2, (List.range (fieldLE c (s.off + 2) 2)).map (fun i =>
    (fieldLE c (s.off + 8 + 8 * i) 4, fieldLE c (s.off + 12 + 8 * i) 4))⟩

def checkLedger (c : Bytes) (s : Sect) (x : LedgerSec) : List Check :=
  [(s.off - 4, s.len == 8 + 8 * x.windows.length), within s.off x.saveInterval 1 3600, zeroAt c (s.off + 4) 4] ++
  (x.windows.zipIdx.map (fun (w, i) => within (s.off + 12 + 8 * i) w.2 1 32768)) ++
  [(s.off + 8, ascendApart x.windows), (s.off + 8, sumOf x.windows (·.2) ≤ 32768)]

/-! ### NODES and EDGES (R83, R84, R104-R112) -/

/-- A static record (R105). -/
def parseNode (c : Bytes) (o : Nat) : NodeStat where
  typ := byteAt c o
  flags := byteAt c (o + 1)
  zone := fieldLE c (o + 2) 2
  firstEdge := fieldLE c (o + 4) 4
  edgeCap := byteAt c (o + 8)
  edgeCount := byteAt c (o + 9)
  link := fieldLE c (o + 10) 2
  proxyAddr := fieldLE c (o + 12) 2
  profile := fieldLE c (o + 14) 2
  groups := (List.range 4).map (fun i => fieldLE c (o + 16 + 2 * i) 2)
  daylightEid := fieldLE c (o + 24) 4
  ipeak := fieldLE c (o + 28) 2
  decay := fieldLE c (o + 30) 2
  hold := fieldLE c (o + 32) 4
  waveMin := fieldLE c (o + 36) 2
  waveMax := fieldLE c (o + 38) 2
  dlLo := fieldLE c (o + 40) 2
  dlHi := fieldLE c (o + 42) 2
  dlMin := fieldLE c (o + 44) 2
  dlTimeout := fieldLE c (o + 46) 2
  rampUp := fieldLE c (o + 48) 2
  rampDown := fieldLE c (o + 50) 2
  deadband := fieldLE c (o + 52) 2
  refresh := fieldLE c (o + 54) 2
  local_ := byteAt c (o + 56)
  app := slice c (o + 64) 16

/-- The flags a type permits (R106). -/
def typeFlagsOk (s : NodeStat) : Bool :=
  let p := s.presence
  let l := s.daylight
  let d := s.drives
  match s.typ with
  | 0 | 6 => s.flags == 0
  | 1 | 7 => !p && !l && d && !s.latch
  | 2 => p && !l && !d && !s.follow
  | 3 => !p && l && !d && !s.follow && !s.latch
  | 4 => d && (p || !s.latch)
  | 5 => !l && d && !s.follow && (p || !s.latch)
  | _ => false

/-- A link handle exists (R39). -/
def handleOk (h : Nat) : Bool := h < 0x1080 || h == 0x2000 || h == 0x2001

/-- What the checks of a record look at outside it. -/
structure NodeCtx where
  count : Nat
  zones : Nat
  groups : Nat
  profiles : Nat
  slots : Nat
  /-- The daylight flag of a node (R107). -/
  daylight : Nat → Bool

/-- Checks of one static record (R105-R107). -/
def checkNode (c : Bytes) (o : Nat) (x : NodeCtx) (s : NodeStat) : List Check :=
  [(o, typeFlagsOk s), within (o + 1) s.flags 0 31, (o + 2, s.zone < x.zones),
   within (o + 4) s.firstEdge 0 (2 ^ 20 - 1), within (o + 8) s.edgeCap 0 15, (o + 9, s.edgeCount ≤ s.edgeCap),
   (o + 4, s.edgeCap == 0 || s.firstEdge + s.edgeCap ≤ x.slots),
   (o + 10, s.link == 0xFFFF || handleOk s.link),
   (o + 10, (s.typ == 7 || !s.drives) == (s.link == 0xFFFF)),
   (o + 12, if 0x1000 ≤ s.link && s.link < 0x1080 then s.proxyAddr ≤ 1023 else s.proxyAddr == 0xFFFF),
   (o + 14, s.profile == 0xFFFF || s.profile < x.profiles),
   (o + 16, s.groups.all (fun g => g == 0xFFFF || g < x.groups)),
   (o + 16, noDup (s.groups.filter (fun g => g != 0xFFFF))),
   (o + 24, if s.daylightEid = 0xFFFFFFFF then !s.follow else s.daylightEid < x.count && x.daylight s.daylightEid),
   within (o + 28) s.ipeak 1 1023, within (o + 30) s.decay 0 1023, within (o + 32) s.hold 0 0xFFFFFFFE,
   within (o + 36) s.waveMin 0 1023, within (o + 38) s.waveMax s.waveMin 1023, within (o + 40) s.dlLo 0 1022,
   within (o + 42) s.dlHi (s.dlLo + 1) 1023, within (o + 44) s.dlMin 0 1023, within (o + 52) s.deadband 1 1023,
   (o + 56, if s.typ = 7 then s.local_ ≤ 7 else s.local_ == 0xFF), zeroAt c (o + 57) 7]

def parseEdge (w : Nat) : Edge := ⟨bits w 16 0, bits w 24 17, bits w 32 25, bits w 40 33, bits w 51 41⟩

def parseEdges (c : Bytes) (off n : Nat) : List Edge := (List.range n).map (fun i => parseEdge (fieldLE c (off + 8 * i) 8))

/-- Checks of the edges in use of a node (R83, R112); `word` gives the raw word of edge `j` and its offset. -/
def checkRun (eid count zones n : Nat) (word : Nat → Nat × Nat) : List Check :=
  let es := (List.range n).map (fun j => (word j, parseEdge (word j).2))
  (es.flatMap (fun ((o, w), e) =>
    ([(o, e.src < count), (o, e.src != eid), (o + 4, e.mask != 0), (o + 5, e.speedZone < zones), (o + 6, bits w 63 52 == 0)] : List Check))) ++
  [((word 0).1, noDup (es.map (fun ((_, w), _) => bits w 40 0)))]

/-- The runs of the nodes do not overlap (R83). -/
def runsApart (l : List NodeStat) : Bool :=
  ascendApart (sortBy (fun x : Nat × Nat => x.1) ((l.filter (fun s => s.edgeCap != 0)).map (fun s => (s.firstEdge, s.edgeCap))))

/-! ### ZONES (R113-R115, R149) -/

def parseZones (c : Bytes) (s : Sect) : List Zone :=
  (List.range (fieldLE c s.off 2)).map (fun i =>
    let o := s.off + 4 + 32 * i
    ({ group := fieldLE c o 2
       compress := bit (byteAt c (o + 2)) 0
       learn := bit (byteAt c (o + 2)) 1
       headingWindow := fieldLE c (o + 4) 2
       learnGain := fieldLE c (o + 6) 2
       speedInit := (List.range 8).map (fun h => fieldLE c (o + 8 + 2 * h) 2)
       refTransit := fieldLE c (o + 24) 4 } : Zone))

def parseGroups (c : Bytes) (s : Sect) : List Group :=
  (List.range (fieldLE c (s.off + 2) 2)).map (fun i =>
    let o := s.off + 4 + 32 * fieldLE c s.off 2 + 16 * i
    (⟨fieldLE c o 2, fieldLE c (o + 2) 2⟩ : Group))

def checkZones (c : Bytes) (s : Sect) (zs : List Zone) (gs : List Group) : List Check :=
  [(s.off - 4, s.len == 4 + 32 * zs.length + 16 * gs.length), within s.off zs.length 1 2048, within (s.off + 2) gs.length 0 4096] ++
  (zs.zipIdx.flatMap (fun (z, i) =>
    let o := s.off + 4 + 32 * i
    [(o, z.group == 0xFFFF || (match gs[z.group]? with | some g => g.zone == i | none => false)),
     within (o + 2) (byteAt c (o + 2)) 0 3, zeroAt c (o + 3) 1, (o + 4, !z.learn || z.headingWindow != 0),
     within (o + 6) z.learnGain 0 256, (o + 8, z.speedInit.all (fun v => 64 ≤ v && v ≤ 1024)),
     (o + 24, !z.learn || z.refTransit != 0), zeroAt c (o + 28) 4])) ++
  (gs.zipIdx.flatMap (fun (g, i) =>
    let o := s.off + 4 + 32 * zs.length + 16 * i
    [within o g.media 0 0x3FFF,
     (o + 2, g.zone == 0xFFFF || (match zs[g.zone]? with | some z => z.group == i | none => false)), zeroAt c (o + 4) 12])) ++
  [(s.off + 4, noDup ((zs.map (·.group)).filter (fun g => g != 0xFFFF)))]

/-! ### SCHEDULES (R116, R117) -/

def parseDate (c : Bytes) (o : Nat) : Date := ⟨fieldLE c o 2, byteAt c (o + 2), byteAt c (o + 3)⟩

def parseProfiles (c : Bytes) (s : Sect) : List (List Nat) :=
  (List.range (fieldLE c s.off 2)).map (fun p => (List.range 96).map (fun i => fieldLE c (s.off + 4 + 192 * p + 2 * i) 2))

/-- Where exception record `i` stands. -/
def excOff (c : Bytes) (s : Sect) (i : Nat) : Nat := s.off + 4 + 192 * fieldLE c s.off 2 + 16 * i

def parseException (c : Bytes) (o : Nat) : SchedException :=
  match byteAt c o with
  | 1 => .substitute (byteAt c (o + 1)) (parseDate c (o + 2)) (parseDate c (o + 6)) (fieldLE c (o + 10) 2) (fieldLE c (o + 12) 2)
  | 2 => .offset (parseDate c (o + 2)) (sext 16 (fieldLE c (o + 12) 2)) (fieldLE c (o + 14) 2)
  | _ => .unused

def parseExceptions (c : Bytes) (s : Sect) : List SchedException :=
  (List.range (fieldLE c (s.off + 2) 2)).map (fun i => parseException c (excOff c s i))

def checkSchedules (c : Bytes) (s : Sect) (ps : List (List Nat)) (xs : List SchedException) : List Check :=
  [(s.off - 4, s.len == 4 + 192 * ps.length + 16 * xs.length), within s.off ps.length 0 256, within (s.off + 2) xs.length 0 512] ++
  (ps.zipIdx.map (fun (p, i) => (s.off + 4 + 192 * i, p.all (fun v => v ≤ 1023)))) ++
  (xs.zipIdx.flatMap (fun (x, i) =>
    let o := excOff c s i
    match x with
    | .unused => [(o, byteAt c o == 0), zeroAt c (o + 1) 15]
    | .substitute w a b f t =>
      [within (o + 1) w 0 127, (o + 2, a.real), (o + 6, b.real && a.code ≤ b.code), (o + 10, f == 0xFFFF || f < ps.length),
       (o + 12, t == 0xFFFF || t < ps.length), zeroAt c (o + 14) 2]
    | .offset a m at_ =>
      [zeroAt c (o + 1) 1, (o + 2, a.real), zeroAt c (o + 6) 6, (o + 12, -720 ≤ m && m ≤ 840), within (o + 14) at_ 0 1439])) ++
  [(excOff c s 0, rising (xs.filterMap (fun x => match x with | .offset a _ at_ => some (a.code * 2048 + at_) | _ => none)))]

/-! ### QUEUES (R172, R177, R178) -/

def parseQueues (c : Bytes) (s : Sect) : List QCfg :=
  (List.range 64).map (fun q =>
    let o := s.off + 8 * q
    let f := byteAt c (o + 7)
    ({ depth := fieldLE c o 2
       reserve := fieldLE c (o + 2) 2
       cls := byteAt c (o + 4)
       consumer := byteAt c (o + 5)
       cores := byteAt c (o + 6)
       weight := bits f 3 0
       cmd := bit f 4
       hostDown := bit f 5 } : QCfg))

def checkQueues (c : Bytes) (s : Sect) (qs : List QCfg) : List Check :=
  [(s.off - 4, s.len == 512), (s.off, sumOf qs (·.reserve) ≤ 16384)] ++
  (qs.zipIdx.flatMap (fun (q, i) =>
    let o := s.off + 8 * i
    [within o q.depth 1 16384, (o + 2, q.reserve ≤ q.depth), within (o + 4) q.cls 0 3,
     (o + 4, !(16 ≤ i && i < 30) || q.cls == 2),
     (o + 5, q.consumer ≤ 0x0D || q.consumer == 0xFE || q.consumer == 0xFF),
     (o + 5, !(16 ≤ i && i < 30) || q.consumer == 0xFF || q.consumer == i - 16),
     (o + 5, q.cmd == (q.consumer == 0xFE)),
     (o + 6, if q.consumer = 0xFF then q.cores != 0 else q.cores == 0),
     (o + 7, q.weight != 0 && byteAt c (o + 7) < 64)])) ++
  [(s.off, (qs.filter (·.cmd)).length == 1), (s.off, (qs.filter (·.hostDown)).length == 1),
   (s.off, noDup ((qs.map (·.consumer)).filter (fun x => x ≤ 0x0D)))]

/-- A queue is taken by application cores. -/
def coreQueue (qs : List QCfg) (q : Nat) : Bool := match qs[q]? with | some x => x.consumer == 0xFF | none => false

/-! ### GATES (R267) -/

/-- The ports of a mask, each with the offset of its list. -/
def gatePorts (c : Bytes) (s : Sect) : List (Nat × Nat) :=
  (bitList (fieldLE c s.off 2) 16).zipIdx.map (fun (p, i) => (p, s.off + 8 + 512 * i))

def unusedGate (c : Bytes) (o : Nat) : Bool := (slice c o 8).all (fun b => b == 0xFF)

def parseGateList (c : Bytes) (o : Nat) : List GateEntry :=
  ((List.range 64).filter (fun i => !unusedGate c (o + 8 * i))).map (fun i =>
    (⟨fieldLE c (o + 8 * i) 4, byteAt c (o + 8 * i + 4)⟩ : GateEntry))

def parseGates (c : Bytes) (s : Sect) : List (Nat × List GateEntry) :=
  (gatePorts c s).map (fun (p, o) => (p, parseGateList c o))

def checkGates (c : Bytes) (s : Sect) (periodUs : Nat) : List Check :=
  [within s.off (fieldLE c s.off 2) 0 0x3FF, zeroAt c (s.off + 2) 6, (s.off - 4, s.len == 8 + 512 * (gatePorts c s).length)] ++
  ((gatePorts c s).flatMap (fun (_, o) =>
    let l := parseGateList c o
    let n := l.length
    [(o, (List.range n).all (fun i => !unusedGate c (o + 8 * i))),
     (o, match l with | [] => false | e :: _ => e.start == 0), (o, rising (l.map (·.start))),
     (o, l.all (fun e => e.start < periodUs)), (o + 4, l.all (fun e => e.gates < 16)),
     (o + 5, (List.range n).all (fun i => allZero (slice c (o + 8 * i + 5) 3)))]))

/-! ### RADIO (R208-R210) -/

/-- A signed byte. -/
def s8 (c : Bytes) (o : Nat) : Int := sext 8 (byteAt c o)

def parsePlan (c : Bytes) (o : Nat) : RadPlan where
  radio := byteAt c o
  profile := byteAt c (o + 1)
  mode := byteAt c (o + 2)
  nCh := byteAt c (o + 3)
  preamble := byteAt c (o + 4)
  power := s8 c (o + 5)
  watch := bit (byteAt c (o + 6)) 0
  wakeRx := bit (byteAt c (o + 6)) 1
  rxQueue := byteAt c (o + 7)
  netId := fieldLE c (o + 8) 2
  beaconPeriod := fieldLE c (o + 10) 2
  beaconOffset := fieldLE c (o + 12) 2
  c0Refresh := fieldLE c (o + 14) 2
  c0Repeat := byteAt c (o + 16)
  groupRepeat := byteAt c (o + 17)
  wakeCh := byteAt c (o + 18)
  bcastKey := fieldLE c (o + 20) 2
  c0Key := fieldLE c (o + 22) 2
  wakeAddr := fieldLE c (o + 24) 2
  wakeHold := fieldLE c (o + 26) 2
  beaconMap := fieldLE c (o + 32) 16
  c0Map := fieldLE c (o + 48) 16
  channels := (List.range (byteAt c (o + 3))).map (fun i => fieldLE c (o + 64 + 4 * i) 4)

def parseProfile (c : Bytes) (o : Nat) : RadProfile where
  kind := byteAt c o
  chWindow := fieldLE c (o + 4) 4
  chLimit := fieldLE c (o + 8) 4
  chReserve := fieldLE c (o + 12) 4
  subBands := (List.range (byteAt c (o + 1))).map (fun i =>
    let b := o + 16 + 24 * i
    (⟨fieldLE c b 4, fieldLE c (b + 4) 4, fieldLE c (b + 8) 4, fieldLE c (b + 12) 4, fieldLE c (b + 16) 4, s8 c (b + 20)⟩ : SubBand))

def parseRadio (c : Bytes) (s : Sect) : List RadPlan × List RadProfile :=
  let n := fieldLE c s.off 2
  ((List.range n).map (fun i => parsePlan c (s.off + 8 + 576 * i)),
   (List.range (fieldLE c (s.off + 2) 2)).map (fun i => parseProfile c (s.off + 8 + 576 * n + 208 * i)))

/-- A window is 0 or lies on the grid of R210. -/
def windowOk (w : Nat) : Bool := w == 0 || (w % 32 == 0 && 320 ≤ w && w ≤ 3600000)

def checkProfile (c : Bytes) (o : Nat) (f : RadProfile) : List Check :=
  [within o f.kind 1 3, within (o + 1) (byteAt c (o + 1)) 0 8, zeroAt c (o + 2) 2, (o + 4, windowOk f.chWindow),
   (o + 8, f.chLimit ≤ 1000 * f.chWindow), (o + 12, f.chReserve ≤ f.chLimit)] ++
  (f.subBands.zipIdx.flatMap (fun (b, i) =>
    let x := o + 16 + 24 * i
    [(x + 8, windowOk b.window), (x + 12, b.limit ≤ 1000 * b.window), (x + 16, b.reserve ≤ b.limit), zeroAt c (x + 21) 3])) ++
  [(o + 1, f.kind != 1 || (!f.subBands.isEmpty && f.chWindow == 0)),
   (o + 1, f.kind != 2 || (f.subBands.isEmpty && f.chWindow == 20000 && f.chLimit ≤ 400000))]

/-- A channel with the spacing of a mode lies in the bands of R210. -/
def inBands (f mode : Nat) : Bool :=
  let h := phySpacing mode / 2
  (863000000 ≤ f - h && f + h ≤ 876000000) || (902000000 ≤ f - h && f + h ≤ 928000000)

/-- Sub-bands within which a channel lies with the spacing of a mode. -/
def bandsOf (p : RadProfile) (f mode : Nat) : Nat :=
  (p.subBands.filter (fun b => b.fLo ≤ f - phySpacing mode / 2 && f + phySpacing mode / 2 ≤ b.fHi)).length

/-- The modes a channel of a plan serves: the plan's, and 0x4 in c0_map (R210). -/
def chModes (p : RadPlan) (i : Nat) : List Nat := if bit p.c0Map i then [p.mode, 4] else [p.mode]

def checkPlan (c : Bytes) (o periodNs lintelMedia : Nat) (paired : Bool) (qs : List QCfg) (fs : List RadProfile)
    (p : RadPlan) : List Check :=
  let fr := p.channels.zipIdx
  [within o p.radio 0 3, (o + 1, p.profile < fs.length), within (o + 2) p.mode 0 5, within (o + 3) p.nCh 1 128,
   within (o + 4) p.preamble 4 32, (o + 5, -10 ≤ p.power && p.power ≤ 27), within (o + 6) (byteAt c (o + 6)) 0 3,
   (o + 6, !p.watch || paired), (o + 7, coreQueue qs p.rxQueue), within (o + 8) p.netId 0 0xFFFE,
   within (o + 10) p.beaconPeriod 16 4096, (o + 12, p.beaconOffset < periodNs / 1000),
   (o + 14, p.c0Refresh == 0 || 16 ≤ p.c0Refresh), within (o + 16) p.c0Repeat 1 8, within (o + 17) p.groupRepeat 1 4,
   (o + 18, p.wakeCh < p.nCh), zeroAt c (o + 19) 1, within (o + 26) p.wakeHold 1 1000, zeroAt c (o + 28) 4,
   (o + 32, p.beaconMap != 0 && p.beaconMap < 2 ^ p.nCh), (o + 48, p.c0Map != 0 && p.c0Map < 2 ^ p.nCh),
   (o + 64, p.channels.all (fun f => f < 2 ^ 30)), zeroAt c (o + 64 + 4 * p.nCh) (512 - 4 * p.nCh),
   (o + 64, fr.all (fun (f, i) => (chModes p i).all (fun m => inBands f m))), (o + 4, 36 ≤ maxPsdu p periodNs)] ++
  match fs[p.profile]? with
  | none => []
  | some f =>
    [(o + 64, f.kind != 1 || fr.all (fun (x, i) => (chModes p i).all (fun m => bandsOf f x m == 1))),
     (o + 3, f.kind != 2 || (50 ≤ p.nCh && p.channels.all (fun x => 902000000 ≤ x && x ≤ 928000000))),
     (o + 64, f.kind != 3 || f.subBands.isEmpty || fr.all (fun (x, i) => (chModes p i).all (fun m => bandsOf f x m != 0))),
     (o + 1, !bit lintelMedia p.radio || ((f.chWindow == 0 || 2000 ≤ f.chReserve) &&
       f.subBands.all (fun b => 2000 ≤ b.reserve || fr.all (fun (x, i) => !bit p.c0Map i || x < b.fLo || b.fHi < x))))]

def checkRadio (c : Bytes) (s : Sect) (periodNs lintelMedia : Nat) (paired : Bool) (qs : List QCfg)
    (x : List RadPlan × List RadProfile) : List Check :=
  [within s.off x.1.length 0 4, within (s.off + 2) x.2.length 0 4, zeroAt c (s.off + 4) 4,
   (s.off - 4, s.len == 8 + 576 * x.1.length + 208 * x.2.length)] ++
  (x.2.zipIdx.flatMap (fun (f, i) => checkProfile c (s.off + 8 + 576 * x.1.length + 208 * i) f)) ++
  (x.1.zipIdx.flatMap (fun (p, i) => checkPlan c (s.off + 8 + 576 * i) periodNs lintelMedia paired qs x.2 p)) ++
  [(s.off + 8, noDup (x.1.map (·.radio))), (s.off + 14, (x.1.filter (·.watch)).length ≤ 1)]

/-! ### TRUNK (R254, R255) -/

def parseTrunk (c : Bytes) (o : Nat) : TrunkCfg where
  nodeCount := byteAt c o
  toTimer := byteAt c (o + 1)
  maxBc := byteAt c (o + 2)
  buCount := byteAt c (o + 3)
  maxFrame := fieldLE c (o + 4) 2
  groupRepeat := byteAt c (o + 6)
  rxQueue := byteAt c (o + 7)
  netId := fieldLE c (o + 8) 2
  bcastKey := fieldLE c (o + 10) 2
  c0Key := fieldLE c (o + 12) 2
  peer := byteAt c (o + 14) == 1
  buMac := (List.range 16).map (fun i => slice c (o + 32 + 6 * i) 6)

def trunkOffs (c : Bytes) (s : Sect) : List (Nat × Nat) :=
  (bitList (byteAt c s.off) 8).zipIdx.map (fun (t, i) => (t, s.off + 8 + 128 * i))

def parseTrunks (c : Bytes) (s : Sect) : List (Nat × TrunkCfg) := (trunkOffs c s).map (fun (t, o) => (t, parseTrunk c o))

def checkTrunks (c : Bytes) (s : Sect) (periodNs : Nat) (paired : Bool) (qs : List QCfg) : List Check :=
  [zeroAt c (s.off + 1) 7, (s.off - 4, s.len == 8 + 128 * (trunkOffs c s).length)] ++
  ((trunkOffs c s).flatMap (fun (_, o) =>
    let x := parseTrunk c o
    [within o x.nodeCount 2 32, (o, 1 + b2n x.peer + x.buCount ≤ x.nodeCount), within (o + 1) x.toTimer 20 255,
     within (o + 2) x.maxBc 0 7, within (o + 3) x.buCount 0 16, within (o + 4) x.maxFrame 64 1522, within (o + 6) x.groupRepeat 1 4,
     (o + 7, coreQueue qs x.rxQueue), within (o + 8) x.netId 0 0xFFFE, within (o + 14) (byteAt c (o + 14)) 0 1,
     (o + 14, !x.peer || paired), zeroAt c (o + 15) 17,
     (o + 32, x.buMac.zipIdx.all (fun (m, i) => if i < x.buCount then !allZero m && !bit (byteAt m 0) 0 else allZero m)),
     (o, 2 * cycleMaxTenths x ≤ periodNs / 100)]))

/-! ### METER (R351-R353) -/

def parseMeterCh (c : Bytes) (o : Nat) : MeterCfg where
  enabled := bit (byteAt c o) 0
  dc := bit (byteAt c o) 1
  rogowski := bit (byteAt c o) 2
  invert := bit (byteAt c o) 3
  pulseOut := byteAt c (o + 1)
  reconMin := byteAt c (o + 2)
  reconQueue := byteAt c (o + 3)
  vFs := fieldLE c (o + 4) 4
  iFs := fieldLE c (o + 8) 4
  iNominal := fieldLE c (o + 12) 4
  vGain := fieldLE c (o + 16) 4
  bp := (List.range 7).map (fun i => fieldLE c (o + 20 + 2 * i) 2)
  gain := (List.range 8).map (fun i => fieldLE c (o + 36 + 4 * i) 4)
  phase := (List.range 8).map (fun i => sext 16 (fieldLE c (o + 68 + 2 * i) 2))
  creep := fieldLE c (o + 84) 4
  fastUnit := fieldLE c (o + 88) 2
  pulseK := fieldLE c (o + 92) 4
  s0 := fieldLE c (o + 96) 4

def parseMeter (c : Bytes) (s : Sect) : MeterSec :=
  ⟨(List.range 4).map (fun i => parseMeterCh c (s.off + 128 * i)),
   (List.range ((s.len - 512) / 8)).map (fun i =>
     let o := s.off + 512 + 8 * i
     (fieldLE c o 4, fieldLE c (o + 4) 3, byteAt c (o + 7)))⟩

/-- ⌈Σ v_fs × i_fs / 60,000,000⌉ over the channels of a pulse output (R353). -/
def pulseFloor (l : List MeterCfg) (n : Nat) : Nat := ceilDiv (sumOf (l.filter (fun k => k.pulseOut == n)) (fun k => k.vFs * k.iFs)) 60000000

/-- Checks of a channel record, enabled or not (R353). -/
def checkMeterCh (c : Bytes) (o : Nat) (qs : List QCfg) (l : List MeterCfg) (k : MeterCfg) : List Check :=
  [within o (byteAt c o) 0 15, zeroAt c (o + 34) 2, zeroAt c (o + 90) 2, zeroAt c (o + 100) 28,
    (o + 1, k.pulseOut ≤ 1 || k.pulseOut == 0xFF), (o + 2, [1, 2, 3, 4, 5, 6, 10, 12, 15, 20, 30, 60].contains k.reconMin),
     (o + 3, coreQueue qs k.reconQueue), within (o + 4) k.vFs 1 2000000, within (o + 8) k.iFs 1 100000000,
     within (o + 12) k.iNominal 1 k.iFs, within (o + 16) k.vGain 0 0xFFFFFF,
     (o + 20, rising k.bp && k.bp.all (fun b => 1 ≤ b && b ≤ 10000)),
     (o + 36, k.gain.all (fun g => 0x400000 ≤ g && g ≤ 0xFFFFFF)), within (o + 88) k.fastUnit 1 65535,
     (o + 92, k.pulseOut == 0xFF || ((l.filter (fun x => x.pulseOut == k.pulseOut)).all (fun x => x.pulseK == k.pulseK) &&
       pulseFloor l k.pulseOut ≤ k.pulseK))]

def checkMeter (c : Bytes) (s : Sect) (count : Nat) (qs : List QCfg) (x : MeterSec) : List Check :=
  [(s.off - 4, 512 ≤ s.len && s.len % 8 == 0)] ++
  (x.channels.zipIdx.flatMap (fun (k, i) => checkMeterCh c (s.off + 128 * i) qs x.channels k)) ++
  (x.feeders.zipIdx.flatMap (fun ((f, n, ch), i) =>
    let o := s.off + 512 + 8 * i
    [within o f 0 (2 ^ 17 - 1), within (o + 4) n 1 131072, (o, f + n ≤ count),
     (o + 7, match x.channels[ch]? with | some k => k.enabled | none => false)])) ++
  [(s.off + 512, ascendApart (x.feeders.map (fun (f, n, _) => (f, n))))]

/-! ### EVENTS (R376), KEYS (R446), PAIR (R387, R388) -/

def parseEvents (c : Bytes) (s : Sect) : List (Nat × Nat × Nat) :=
  (List.range (fieldLE c s.off 2)).map (fun i =>
    let o := s.off + 8 + 8 * i
    (fieldLE c o 2, fieldLE c (o + 2) 2, fieldLE c (o + 4) 2))

def checkEvents (c : Bytes) (s : Sect) (l : List (Nat × Nat × Nat)) : List Check :=
  [within s.off l.length 0 1024, zeroAt c (s.off + 2) 6, (s.off - 4, s.len == 8 + 8 * l.length)] ++
  (l.zipIdx.flatMap (fun ((code, r, b), i) =>
    let o := s.off + 8 + 8 * i
    [(o, code % 256 != 0), within (o + 2) r 1 65535, within (o + 4) b 1 65535, zeroAt c (o + 6) 2])) ++
  [(s.off + 8, rising (l.map (·.1)))]

def parseKeys (c : Bytes) (s : Sect) : List KeyPolicy :=
  (List.range (fieldLE c s.off 2)).map (fun i =>
    let o := s.off + 8 + 16 * i
    (⟨fieldLE c o 2, fieldLE c (o + 2) 2, byteAt c (o + 4), byteAt c (o + 5), fieldLE c (o + 6) 4⟩ : KeyPolicy))

/-- `b` has every bit of `a`. -/
def hasBits (b a : Nat) : Bool := b &&& a == a

def checkKeys (d : Dev) (c : Bytes) (s : Sect) (l : List KeyPolicy) (named : List Nat) : List Check :=
  [within s.off l.length 0 64, zeroAt c (s.off + 2) 6, (s.off - 4, s.len == 8 + 16 * l.length)] ++
  (l.zipIdx.flatMap (fun (k, i) =>
    let o := s.off + 8 + 16 * i
    [(o, match d.keyStanding k.keyId with
         | .inForce b => hasBits b.usages k.usages && hasBits b.masters k.masters && hasBits b.lcs k.lcs && k.lowest ≤ b.generation
         | _ => false), zeroAt c (o + 10) 6])) ++
  [(s.off + 8, named.all (fun n => n == 0 || l.any (fun k => k.keyId == n)))]

def parsePair (c : Bytes) (s : Sect) : PairCfg :=
  let o := s.off
  { path2Trunk := bit (byteAt c (o + 1)) 0
    path2 := byteAt c (o + 2)
    witnessPort := fieldLE c (o + 4) 2
    leaseKey := fieldLE c (o + 6) 2
    witnessIp := fieldLE c (o + 8) 4
    tieKey := fieldLE c (o + 12) 2
    catchup := fieldLE c (o + 14) 2
    pairId := fieldLE c (o + 16) 8
    unit0 := fieldLE c (o + 24) 8
    unit1 := fieldLE c (o + 32) 8 }

/-- The key is in force with a usage, and a master where one is named. -/
def keyHas (d : Dev) (id usage : Nat) (master : Option Nat) : Bool :=
  match d.keyStanding id with
  | .inForce b => bit b.usages usage && (match master with | some m => bit b.masters m | none => true)
  | _ => false

def checkPair (d : Dev) (c : Bytes) (s : Sect) (u : Units) (plans : List RadPlan) (trunks : List (Nat × TrunkCfg))
    (x : PairCfg) : List Check :=
  let o := s.off
  let own := Config.unitId.toNat
  [(o - 4, s.len == 64), zeroAt c o 1, within (o + 1) (byteAt c (o + 1)) 0 1, within (o + 2) x.path2 0 (if x.path2Trunk then 7 else 3),
   zeroAt c (o + 3) 1, within (o + 4) x.witnessPort 1 65535, (o + 6, keyHas d x.leaseKey usePairLease (some masterSC)),
   (o + 12, keyHas d x.tieKey useTrunkLink none), within (o + 14) x.catchup 1 60, zeroAt c (o + 40) 24,
   (o + 24, (x.unit0 == own) != (x.unit1 == own)), (o, u.portsReq == 3),
   (o + 2, if x.path2Trunk then trunks.any (fun t => t.1 == x.path2 && t.2.peer) else plans.any (fun p => p.radio == x.path2 && p.watch))]

/-! ### SAFETY (R79, R134, R223, R253, R487) -/

def parseFrame (c : Bytes) (o : Nat) : SafetyFrame where
  index := byteAt c o
  emg := bit (byteAt c (o + 1)) 0
  cmd := bit (byteAt c (o + 1)) 1
  level := fieldLE c (o + 2) 2
  zoneFirst := fieldLE c (o + 4) 2
  zoneLast := fieldLE c (o + 6) 2
  media := fieldLE c (o + 8) 2
  group := fieldLE c (o + 10) 2
  radioTpl := slice c (o + 16) 48
  trunkTpl := slice c (o + 64) 60
  radioSeqAt := byteAt c (o + 128)
  trunkSeqAt := byteAt c (o + 129)

def parseSafety (c : Bytes) (s : Sect) : Safety :=
  ⟨fieldLE c s.off 2, fieldLE c (s.off + 4) 2, fieldLE c (s.off + 6) 2,
   (List.range (fieldLE c (s.off + 2) 2)).map (fun i => parseFrame c (s.off + 8 + 136 * i))⟩

/-- The PHR bytes of R223: mode switch 0, FCS type 0, whitening 1, length 40, in the bit order of the PHY standard that R205
names (PRESUMED, notes/assumptions/25). -/
def c0Phr : Bytes := [0x10, 0x14]

def checkFrame (c : Bytes) (o zones lintelMedia : Nat) (f : SafetyFrame) : List Check :=
  let t := o + 64
  [within o f.index 0 63, (o + 1, 1 ≤ byteAt c (o + 1) && byteAt c (o + 1) ≤ 3), within (o + 2) f.level 0 1023,
   (o + 4, f.zoneFirst ≤ f.zoneLast), (o + 6, f.zoneLast < zones), (o + 8, hasBits lintelMedia (bits f.media 13 0) && f.media < 2 ^ 15),
   within (o + 10) f.group 0 4095, zeroAt c (o + 12) 4, (o + 16, slice c (o + 16) 2 == c0Phr),
   (t, slice c t 6 == toBE 6 groupMac), (t + 12, slice c (t + 12) 2 == toBE 2 0x88B5),
   (t + 14, slice c (t + 14) 2 == ([0x23, 0x01] : Bytes)), (t + 18, slice c (t + 18) 4 == ([0xFF, 0x7F, 0, 0] : Bytes)),
   (t + 26, slice c (t + 26) 6 == ([0, 0, 0, 0, 12, 0] : Bytes)), zeroAt c (o + 124) 4, within (o + 128) f.radioSeqAt 18 27,
   within (o + 129) f.trunkSeqAt 32 41, zeroAt c (o + 130) 2, (o + 132, fieldLE c (o + 132) 4 == crc32c (slice c o 132))]

def checkSafety (d : Dev) (c : Bytes) (s : Sect) (zones : Nat) (x : Safety) : List Check :=
  let gbe := bits x.lintelMedia 13 12 ≠ 0
  [within s.off x.lintelMedia 0 0x3FFF, within (s.off + 2) x.frames.length 0 64, within (s.off + 4) x.gbeNetId 0 0xFFFE,
   (s.off + 6, if gbe then keyHas d x.gbeC0Key useClass0 none else x.gbeC0Key == 0), (s.off - 4, s.len == 8 + 136 * x.frames.length)] ++
  (x.frames.zipIdx.flatMap (fun (f, i) => checkFrame c (s.off + 8 + 136 * i) zones x.lintelMedia f)) ++
  [(s.off + 8, rising (x.frames.map (·.index)))]

/-! ### LIGHT (R486, R487), PINMUX (R518, R519) -/

def parseLight (c : Bytes) (s : Sect) : LightSec where
  strings := (List.range 8).map (fun i =>
    let o := s.off + 16 * i
    (⟨bit (byteAt c o) 0, byteAt c (o + 1), fieldLE c (o + 2) 2, fieldLE c (o + 4) 2, fieldLE c (o + 6) 2, byteAt c (o + 8),
      byteAt c (o + 9)⟩ : StringCfg))
  matrices := (List.range 2).map (fun i =>
    let o := s.off + 128 + 528 * i
    (⟨bit (byteAt c o) 0, bit (byteAt c o) 1, byteAt c (o + 1), byteAt c (o + 2), byteAt c (o + 3), byteAt c (o + 4),
      byteAt c (o + 5), slice c (o + 16) 512⟩ : MatrixCfg))
  ntcs := (List.range 4).map (fun i =>
    let o := s.off + 1184 + 16 * i
    (⟨bit (byteAt c o) 0, fieldLE c (o + 2) 2, fieldLE c (o + 4) 4, sext 16 (fieldLE c (o + 8) 2), sext 16 (fieldLE c (o + 10) 2)⟩ : NtcCfg))

/-- Checks of LIGHT (R486, R487): every record, enabled or not. -/
def checkLight (c : Bytes) (s : Sect) (x : LightSec) : List Check :=
  let on := sumOf (x.ntcs.zipIdx.filter (fun (n, _) => n.enabled)) (fun p => 2 ^ p.2)
  [(s.off - 4, s.len == 1248)] ++
  (x.strings.zipIdx.flatMap (fun (k, i) =>
    let o := s.off + 16 * i
    [within o (byteAt c o) 0 1, zeroAt c (o + 10) 6, (o + 1, !k.enabled || k.fitted != 0), within (o + 2) k.powerOn 0 1023, within (o + 4) k.vOpen 1000 48000, (o + 6, k.vShort < k.vOpen),
     (o + 8, k.ntc < 16 && hasBits on k.ntc), within (o + 9) k.c0Min 0 100])) ++
  (x.matrices.zipIdx.flatMap (fun (k, i) =>
    let o := s.off + 128 + 528 * i
    [within o (byteAt c o) 0 3, zeroAt c (o + 6) 10, within (o + 1) k.iCol 1 20, within (o + 2) k.lines 1 16, (o + 3, k.ntc < 16 && hasBits on k.ntc), within (o + 4) k.c0Min 0 100,
     within (o + 5) k.preDv 0 50])) ++
  (x.ntcs.zipIdx.flatMap (fun (k, i) =>
    let o := s.off + 1184 + 16 * i
    [within o (byteAt c o) 0 1, zeroAt c (o + 1) 1, zeroAt c (o + 12) 4, within (o + 2) k.beta 1000 10000, within (o + 4) k.r25 100 1000000, (o + 10, k.knee < k.cutoff)]))

/-- The strings that nodes of type 0x7 name (R487). -/
def ownedStrings (l : List NodeStat) : List Nat := (l.filter (fun s => s.typ == 7)).map (·.local_)

def stringEnabled (x : Option LightSec) (n : Nat) : Bool :=
  match x.bind (fun l => l.strings[n]?) with | some k => k.enabled | none => false

def parsePinmux (c : Bytes) (s : Sect) : List Nat := (List.range 64).map (fun i => fieldLE c (s.off + 2 * i) 2)

def checkPinmux (s : Sect) (u : Units) (m : Option MeterSec) (l : List Nat) : List Check :=
  let fn (i : Nat) := bits (l.getD i 0) 3 0
  let at_ (i : Nat) (ok : Bool) : Check := (s.off + 2 * i, ok)
  let ch (i : Nat) : Option MeterCfg := (m.bind (fun x => x.channels[i]?)).filter (·.enabled)
  [(s.off - 4, s.len == 128)] ++
  (l.zipIdx.flatMap (fun (w, i) =>
    if 42 ≤ i then ([at_ i (w == 0)] : List Check)
    else [at_ i (fn i ≤ 5 && bits w 5 4 ≤ 2 && w < 128), at_ i (fn i != 4 || i < 16)])) ++
  ([(s.off, ((List.range 42).filter (fun i => fn i == 4)).length ≤ 1)] : List Check) ++
  ((List.range 4).map (fun i => at_ (26 + i) (fn (26 + i) == 0 || (match ch i with | some k => k.s0 == 0 | none => true)))) ++
  ((List.range 2).map (fun n => at_ (30 + n) (fn (30 + n) == 0 ||
    (List.range 4).all (fun i => match ch i with | some k => k.pulseOut != n | none => true)))) ++
  ((List.range 8).map (fun i => at_ (32 + i) (fn (32 + i) == 0 || !bit u.ioReq 0))) ++
  ([40, 41].map (fun i => at_ i (fn i == 0 || !bit u.ioReq 1))) ++
  ((List.range 4).map (fun n => at_ (22 + n) (fn (22 + n) == 0 || !bit u.ioReq (2 + n))))

/-! ### The whole container -/

def emptySafety : Safety := ⟨0, 0, 0, []⟩

/-- The image of a full Cut List, from its sections: optional ones that are absent take their chapter's defaults (R79, R115,
R121). -/
def buildImage (c : Bytes) (l : List Sect) : CutImage :=
  let s (t : Nat) : Sect := (findSect l t).getD ⟨t, c.length, 0⟩
  let opt {α : Type} (t : Nat) (f : Sect → α) : Option α := (findSect l t).map f
  let u := parseUnits c (s 1)
  { header := cutHeader c
    hash := Config.sha256 c
    units := u
    beat := parseBeat c (s 2)
    nodes := (List.range (fieldLE c (s 3).off 4)).map (fun i => parseNode c ((s 3).off + 8 + 96 * i))
    edges := parseEdges c ((s 4).off + 8) (fieldLE c (s 4).off 4)
    zones := (opt 5 (parseZones c)).getD [Zone.sole]
    groups := (opt 5 (parseGroups c)).getD []
    profiles := (opt 6 (parseProfiles c)).getD []
    exceptions := (opt 6 (parseExceptions c)).getD []
    queues := parseQueues c (s 7)
    ledger := parseLedger c (s 0xC)
    limits := (opt 0xD (parseEvents c)).getD []
    safety := (opt 0xE (parseSafety c)).getD emptySafety
    keys := opt 0x11 (parseKeys c)
    unknown := (l.filter (fun x => x.typ == 0 || x.typ > 0x12)).map (·.typ)
    gates := (opt 8 (parseGates c)).getD []
    plans := (opt 9 (fun x => (parseRadio c x).1)).getD []
    profilesR := (opt 9 (fun x => (parseRadio c x).2)).getD []
    trunks := (opt 0xA (parseTrunks c)).getD []
    meter := opt 0xB (parseMeter c)
    light := opt 0xF (parseLight c)
    pinmux := parsePinmux c (s 0x10)
    pair := opt 0x12 (parsePair c) }

/-- The first failing field of a section's checks, as a refusal at check 10. -/
def failAt (typ : Nat) (l : List Check) : Option CutRefusal :=
  (l.find? (fun x => !x.2)).map (fun x => ⟨10, ST_BAD_ARGUMENT, typ, x.1⟩)

/-- The key_ids that RADIO, TRUNK, PAIR, SAFETY and the header name (R446). -/
def namedKeys (x : CutImage) : List Nat :=
  [x.header.keyId, x.safety.gbeC0Key] ++ (x.plans.flatMap (fun p => [p.bcastKey, p.c0Key])) ++
  (x.trunks.flatMap (fun t => [t.2.bcastKey, t.2.c0Key])) ++ (match x.pair with | some p => [p.leaseKey, p.tieKey] | none => [])

/-- NODES and EDGES of a full Cut List (R83, R105-R112). -/
def checkNodes (c : Bytes) (s e : Sect) (x : CutImage) : List (Nat × List Check) :=
  let n := x.nodes.length
  let slots := x.edges.length
  let ctx : NodeCtx := ⟨x.units.nodeCount, x.zones.length, x.groups.length, x.profiles.length, slots,
    fun i => match x.nodes[i]? with | some k => k.daylight | none => false⟩
  let used := x.nodes.flatMap (fun k => (List.range k.edgeCount).map (fun j => k.firstEdge + j))
  [(3, [(s.off, n == x.units.nodeCount), zeroAt c (s.off + 4) 4, (s.off - 4, s.len == 8 + 96 * n)] ++
     (x.nodes.zipIdx.flatMap (fun (k, i) => checkNode c (s.off + 8 + 96 * i) ctx k)) ++ [(s.off + 12, runsApart x.nodes)]),
   (4, [within e.off slots 0 1048576, zeroAt c (e.off + 4) 4, (e.off - 4, e.len == 8 + 8 * slots)] ++
     (x.nodes.zipIdx.flatMap (fun (k, i) => checkRun i x.units.nodeCount x.zones.length k.edgeCount (fun j =>
       (e.off + 8 + 8 * (k.firstEdge + j), fieldLE c (e.off + 8 + 8 * (k.firstEdge + j)) 8)))) ++
     ((List.range slots).filter (fun i => !used.contains i)).map (fun i => zeroAt c (e.off + 8 + 8 * i) 8))]

/-- Check 10 of a full Cut List (R85): the sections in ascending order of type. -/
def checkContents (d : Dev) (c : Bytes) (l : List Sect) (x : CutImage) : Option CutRefusal :=
  let s (t : Nat) : Sect := (findSect l t).getD ⟨t, c.length, 0⟩
  let opt (t : Nat) (f : Sect → List Check) : Nat × List Check := (t, match findSect l t with | some k => f k | none => [])
  let ns := periodNs x.beat.period
  let all : List (Nat × List Check) :=
    [(1, checkUnits (s 1) x.units), (2, checkBeat c (s 2) x.units x.beat)] ++ checkNodes c (s 3) (s 4) x ++
    [opt 5 (fun k => checkZones c k x.zones x.groups), opt 6 (fun k => checkSchedules c k x.profiles x.exceptions),
     (7, checkQueues c (s 7) x.queues), opt 8 (fun k => checkGates c k (ns / 1000)),
     opt 9 (fun k => checkRadio c k ns x.safety.lintelMedia x.pair.isSome x.queues (x.plans, x.profilesR)),
     (0xE, [((s 0xE).off, (bitList x.safety.lintelMedia 4).all (fun r => x.plans.any (fun p => p.radio == r)))]),
     opt 0xA (fun k => checkTrunks c k ns x.pair.isSome x.queues),
     opt 0xB (fun k => match x.meter with | some m => checkMeter c k x.units.nodeCount x.queues m | none => []),
     (0xC, checkLedger c (s 0xC) x.ledger), opt 0xD (fun k => checkEvents c k x.limits),
     (0xE, checkSafety d c (s 0xE) x.zones.length x.safety),
     opt 0xF (fun k => match x.light with | some m => checkLight c k m | none => []),
     (3, [((s 3).off + 8, noDup (ownedStrings x.nodes) && (ownedStrings x.nodes).all (stringEnabled x.light))]),
     (0x10, checkPinmux (s 0x10) x.units x.meter x.pinmux),
     opt 0x11 (fun k => checkKeys d c k (x.keys.getD []) (namedKeys x)),
     opt 0x12 (fun k => match x.pair with | some p => checkPair d c k x.units x.plans x.trunks p | none => [])]
  all.findSome? (fun (t, k) => failAt t k)

/-- A patch, from its sections (R98). -/
def buildPatch (c : Bytes) (l : List Sect) : PatchImage :=
  let s (t : Nat) : Sect := (findSect l t).getD ⟨t, c.length, 0⟩
  let n := fieldLE c (s 3).off 4
  let recs := (List.range n).map (fun i =>
    let o := (s 3).off + 8 + 104 * i
    (fieldLE c o 4, parseNode c (o + 8)))
  let runs := recs.foldl (fun (acc : List (List Edge) × Nat) r =>
    (acc.1 ++ [parseEdges c ((s 4).off + 8 + 8 * acc.2) r.2.edgeCount], acc.2 + r.2.edgeCount)) ([], 0)
  ⟨cutHeader c, recs, runs.1⟩

/-- Check 10 of a patch (R98, R105-R107, R112). -/
def checkPatch (d : Dev) (c : Bytes) (l : List Sect) (x : CutImage) (p : PatchImage) : Option CutRefusal :=
  let s (t : Nat) : Sect := (findSect l t).getD ⟨t, c.length, 0⟩
  let slots := fieldLE c (s 4).off 4
  let stat (i : Nat) : Option NodeStat := match p.nodes.find? (fun r => r.1 == i) with
    | some r => some r.2
    | none => (d.nodeAt i).map (·.stat)
  let ctx : NodeCtx := ⟨d.rft.nodes.length, x.zones.length, x.groups.length, x.profiles.length, x.edges.length,
    fun i => match stat i with | some k => k.daylight | none => false⟩
  let offs := p.nodes.foldl (fun (acc : List Nat × Nat) r => (acc.1 ++ [acc.2], acc.2 + r.2.edgeCount)) ([], 0)
  let whole := (List.range d.rft.nodes.length).filterMap stat
  let all : List (Nat × List Check) :=
    (l.map (fun k => (k.typ, [(k.off - 8, k.typ == 3 || k.typ == 4)]))) ++
    [(3, [within (s 3).off p.nodes.length 1 4096, zeroAt c ((s 3).off + 4) 4, ((s 3).off - 4, (s 3).len == 8 + 104 * p.nodes.length),
        ((s 3).off + 8, rising (p.nodes.map (·.1)))] ++
       (p.nodes.zipIdx.flatMap (fun ((eid, k), i) =>
         let o := (s 3).off + 8 + 104 * i
         ([(o, eid < d.rft.nodes.length), zeroAt c (o + 4) 4,
          (o + 12, match d.nodeAt eid with | some m => m.stat.firstEdge == k.firstEdge && m.stat.edgeCap == k.edgeCap | none => false)] : List Check) ++
         checkNode c (o + 8) ctx k)) ++
       [((s 3).off + 8, noDup (ownedStrings whole) && (ownedStrings whole).all (stringEnabled x.light)),
        ((s 3).off + 8, whole.all (fun k => k.daylightEid == 0xFFFFFFFF || ctx.daylight k.daylightEid))]),
     (4, [((s 4).off, slots == offs.2), zeroAt c ((s 4).off + 4) 4, ((s 4).off - 4, (s 4).len == 8 + 8 * slots)] ++
       ((p.nodes.zip offs.1).flatMap (fun ((eid, k), o) => checkRun eid d.rft.nodes.length x.zones.length k.edgeCount (fun j =>
         ((s 4).off + 8 + 8 * (o + j), fieldLE c ((s 4).off + 8 + 8 * (o + j)) 8)))))]
  all.findSome? (fun (t, k) => failAt t k)

end Sys2Proof.Machine
end

