-- ==== Sys2Proof/Machine/Meter.lean ====
section
/-! DEFINITION. Metering and the energy ledger (R351-R373). -/

namespace Sys2Proof.Machine

def MeterCh.zero : MeterCh := MeterCh.reset

/-- Import and export totals in mWh (R356, R359). -/
def MeterCh.impTotal (c : MeterCh) : Nat := c.imp / 65536
def MeterCh.expTotal (c : MeterCh) : Nat := c.exp / 65536

/-- Energy of a cycle in 1/65,536 mWh: power in µW, length in ns (R356). -/
def cycleEnergy (uw len : Nat) : Nat := uw * len * 65536 / 3600000000000000

/-! ### The sample path (R355, R356) -/

/-- Steps 1 to 3 of R355 on one sample: the high-pass filters of AC mode, the integrator, the inversion. -/
def MeterPath.front (p : MeterPath) (k : MeterCfg) (x : Int × Int) : MeterPath × Int × Int :=
  let v := if k.dc then x.1 else Config.highPassOut p.vFilter x.1
  let i := if k.dc then x.2 else Config.highPassOut p.iFilter x.2
  let sum := if k.rogowski then p.sum + i else p.sum
  let j := if k.rogowski then Config.rogowski sum else i
  let j := if k.invert then -j else j
  (⟨if k.dc then p.vFilter else Config.highPassNext p.vFilter x.1, if k.dc then p.iFilter else Config.highPassNext p.iFilter x.2, sum, j⟩, v, j)

/-- Step 4: the current delayed by `phase` 1/65,536 sample, by linear interpolation between adjacent samples, in 1/65,536 of a code. -/
def delayed (phase before now after : Int) : Int :=
  65536 * now - (if 0 ≤ phase then phase * (now - before) else phase * (after - now))

/-- The sums of a cycle over its samples, after the gains: v², i² and v × i (R355 steps 5 and 6). -/
structure CycleSums where
  vv : Nat
  ii : Nat
  vi : Int
deriving DecidableEq, Repr

/-- Runs the samples of a cycle through the path. The gains stand in Q1.23, so the sums are exact: v counts 2^-23 of a code and i
2^-39 of one. -/
def cycleSums (k : MeterCfg) (seg : Nat) (ahead : Int × Int) : MeterPath → CycleSums → List (Int × Int) → MeterPath × CycleSums
  | p, a, [] => (p, a)
  | p, a, x :: r =>
    let y := p.front k x
    let next := (y.1.front k (r.headD ahead)).2.2
    let v := y.2.1 * k.vGain
    let i := delayed (k.phase.getD seg 0) p.last y.2.2 next * k.gain.getD seg 0
    cycleSums k seg ahead y.1 ⟨a.vv + (v * v).natAbs, a.ii + (i * i).natAbs, a.vi + v * i⟩ r

/-- V_rms in mV, I_rms in mA and the mean power in µW of `n` samples (R356): full scale is 2^23 codes (R351). The computation is exact
and each figure is rounded toward 0 at its end (notes/assumptions/52). -/
def cycleFigures (k : MeterCfg) (n : Nat) (a : CycleSums) : Nat × Nat × Int :=
  let n := max 1 n
  (isqrt (a.vv * k.vFs * k.vFs / (n * 2 ^ 92)), isqrt (a.ii * k.iFs * k.iFs / (n * 2 ^ 124)),
    (a.vi * k.vFs * k.iFs).tdiv ((n * 2 ^ 108 : Nat) : Int))

/-- Samples at a converter's full scale (R358). -/
def clipped (l : List Int) : Nat := (l.filter (fun x => 8388607 ≤ x || x ≤ -8388608)).length

/-- The segment that contains a current (R357). -/
def segmentOf (c : MeterCfg) (irms : Nat) : Nat := (c.bp.filter (fun b => b * c.iNominal ≤ irms * 1000)).length

/-- The segment after a cycle, with hysteresis (R357). -/
def nextSegment (c : MeterCfg) (seg irms : Nat) : Nat :=
  let lo := seg = 0 || (98 * (c.bp.getD (seg - 1) 0) * c.iNominal ≤ irms * 100000)
  let hi := 7 ≤ seg || (irms * 100000 < 102 * (c.bp.getD seg 0) * c.iNominal)
  if lo && hi then seg else segmentOf c irms

/-- The 64 bytes of a record (R365). -/
def Recon.bytes (r : Recon) : Bytes :=
  let b := toLE 8 r.number ++ toLE 8 r.start ++ toLE 4 r.length ++ toLE 1 r.channel ++ toLE 1 r.flags ++ toLE 2 (min 65535 r.outage) ++
    toLE 8 r.measured ++ toLE 8 (toTwos 64 r.reported) ++ toLE 8 (toTwos 64 r.unaccounted) ++ toLE 8 r.gap ++ toLE 4 r.s0
  b ++ toLE 4 (crc32c b)

namespace Dev

def meterCfg (d : Dev) (c : Nat) : Option MeterCfg := d.mtr.cfg.bind (fun s => s.channels[c]?)
def meterCh (d : Dev) (c : Nat) : MeterCh := d.mtr.ch.getD c MeterCh.zero
def setCh (d : Dev) (c : Nat) (f : MeterCh → MeterCh) : Dev := { d with mtr := { d.mtr with ch := modifyAt d.mtr.ch c f } }

/-- The channel is measured (R354). -/
def measured (d : Dev) (c : Nat) : Bool := bit (d.get Reg.MTR_STATUS.measured) c

/-- The fast counter, in fast_unit, before it wraps (R359). -/
def fastTotal (d : Dev) (c : Nat) : Nat :=
  match d.meterCfg c with
  | some k => (d.meterCh c).impTotal / max 1 k.fastUnit
  | none => 0

/-- Pulses due on an output since its count began (R362): the sum of the imports of the channels that name it over pulse_k. -/
def pulsesDue (d : Dev) (n : Nat) : Nat :=
  let l := (List.range 4).filter (fun c => (d.meterCfg c).any (fun k => k.pulseOut == n && k.enabled))
  match l with
  | [] => 0
  | c :: _ =>
    let k := match d.meterCfg c with | some x => x.pulseK | none => 0
    sumOf l (fun c => (d.meterCh c).imp) / 65536 / max 1 k

/-- Some channel that names the output is measured (R362). -/
def pulseUsed (d : Dev) (n : Nat) : Bool :=
  (List.range 4).any (fun c => d.measured c && (d.meterCfg c).any (fun k => k.pulseOut == n))

def emittedOf (d : Dev) (n : Nat) : Nat := d.mtr.emitted.getD n 0

/-- Shows owed and emitted pulses (R373). -/
def showPulses (d : Dev) : Dev :=
  let f (d : Dev) (n : Nat) (r : Fld × Fld) : Dev :=
    (d.put r.1 (min 65535 (d.pulsesDue n - d.emittedOf n))).put r.2 (d.emittedOf n)
  f (f d 0 (Reg.MTR_POUT0.owed, Reg.MTR_POUT0.emitted)) 1 (Reg.MTR_POUT1.owed, Reg.MTR_POUT1.emitted)

/-- The FLUSH_ACC record of this instant (R367). -/
def accRecord (d : Dev) (atStop : Bool) : JVal :=
  .flushAcc d.beat.count d.nowSec atStop d.mtr.ch d.mtr.emitted
  ((List.range 4).map (fun c => d.fastTotal c % 2 ^ 32))

/-- The module writes records and drives outputs: SOLO or ACTIVE (R370). -/
def metersActive (d : Dev) : Bool := d.sys.role == .solo || d.sys.role == .active

/-- Wraps of a fast counter, counted for every master up to 2 (R360). -/
def countWraps (d : Dev) (c n : Nat) : Dev :=
  if n = 0 then d
  else
    let old (b : Nat) : Nat := match d.mtr.wraps.find? (fun w => w.1 == b && w.2.1 == c) with | some w => w.2.2 | none => 0
    { d with mtr := { d.mtr with
      wraps := d.mtr.wraps.filter (fun w => w.2.1 != c) ++ (List.range 16).map (fun b => (b, c, min 2 (old b + n))) } }

/-- The length of a cycle, ns (R356): between zero crossings in AC mode, else 160 samples; none where the samples are not so many. -/
def cycleLength (k : MeterCfg) (x : MeterCycle) : Option Nat :=
  match if k.dc then none else x.crossings with
  | some len => some len
  | none => if x.samples.length = 160 then some 20000000 else none

/-- The end of a cycle (R355-R358). -/
def meterCycle (d : Dev) (c : Nat) (x : MeterCycle) : Dev :=
  match d.meterCfg c, (d.meterCfg c).bind (fun k => cycleLength k x) with
  | some k, some len =>
    if !d.measured c then d
    else
      let seg := (d.meterCh c).segment
      let run := cycleSums k seg x.ahead (d.mtr.paths.getD c ⟨0, 0, 0, 0⟩) ⟨0, 0, 0⟩ x.samples
      let (vrms, irms, power) := cycleFigures k x.samples.length run.2
      let ac := x.crossings.isSome && !k.dc
      let mag := power.natAbs
      let e := if mag < k.creep * 1000 then 0 else cycleEnergy mag len
      let before := d.fastTotal c
      let d0 : Dev := { d with mtr := { d.mtr with paths := modifyAt d.mtr.paths c (fun _ => run.1) } }
      let d1 := d0.setCh c (fun ch => { ch with
        imp := ch.imp + (if 0 < power then e else 0)
        exp := ch.exp + (if power < 0 then e else 0)
        segment := nextSegment k seg irms })
      let d2 := d1.countWraps c (d1.fastTotal c / 2 ^ 24 - before / 2 ^ 24)
      let d3 := (((((d2.put (Reg.MTR_VRMS.word c) vrms).put (Reg.MTR_IRMS.word c) irms).put (Reg.MTR_P.word c)
        (satTwos 32 (power.tdiv 100000))).put (Reg.MTR_CYCLE.freq c) (if ac then 100000000000 / max 1 len else 0)).put
        (Reg.MTR_CYCLE.segment c) (nextSegment k seg irms))
      let d4 := d3.put Reg.MTR_STATUS.no_zc (setBit (d3.get Reg.MTR_STATUS.no_zc) c (!(ac || k.dc) && bit (d3.get Reg.MTR_STATUS.no_zc) c))
      let vClip := clipped (x.samples.map (·.1))
      let iClip := clipped (x.samples.map (·.2))
      let d5 := ((d4.bump (Reg.MTR_CLIP.v_clip c) vClip).bump (Reg.MTR_CLIP.i_clip c) iClip).put Reg.MTR_STATUS.clipping
        (setBit (d4.get Reg.MTR_STATUS.clipping) c (0 < vClip + iClip))
      let d6 := if vClip + iClip = 0 || (d.meterCh c).clipNoted then d5
        else ((d5.setCh c (fun ch => { ch with clipNoted := true })).raise Reg.MTR_IRQ_STATUS.clipping).offer Ev.CLIPPING
          [c, b2n (vClip = 0), vClip + iClip]
      d6.showPulses
  | _, _ => d

/-- Seconds of a channel's reconciliation interval (R351). -/
def intervalSec (d : Dev) (c : Nat) : Nat := match d.meterCfg c with | some k => k.reconMin * 60 | none => 0

/-- R of a channel at an interval boundary: what posts of the boundary's own cycle add belongs to the interval it opens (R361). -/
def repAt (d : Dev) (c : Nat) : Nat := (d.meterCh c).rep - sumOf (d.cyc.posted.filter (fun p => p.1 == c)) (·.2)

/-- Opens the next interval of a channel at this instant (R364). -/
def openInterval (d : Dev) (c : Nat) : Dev :=
  d.setCh c (fun ch => { ch with
    mStart := ch.impTotal, rStart := d.repAt c, s0Start := ch.s0, start := d.nowSec, outage := 0, gap := 0, flags := 0, clipNoted := false })

/-- Closes the open interval of a channel (R364-R366, R368-R370): the record, unless the module is a standby, and the next
interval. -/
def closeInterval (d : Dev) (c : Nat) : Dev :=
  match d.meterCfg c with
  | none => d
  | some k =>
    let ch := d.meterCh c
    let len := k.reconMin * 60
    if len = 0 || d.nowSec < (ch.start / len + 1) * len || !(bit ch.flags 3 || d.nowSec % len = 0) then d
    else if !d.metersActive then d.openInterval c
    else
      let m := d.measured c
      let meas := if m then ch.impTotal - ch.mStart else 0
      let rep := (d.repAt c : Int) - ch.rStart
      let r : Recon := { number := d.mtr.number + 1, start := ch.start, length := d.nowSec - ch.start, channel := c,
                         flags := setBit ch.flags 0 (!m), outage := ch.outage, measured := meas, reported := rep,
                         unaccounted := if m then (meas : Int) - rep else 0, gap := ch.gap,
                         s0 := (ch.s0 + 2 ^ 32 - ch.s0Start) % 2 ^ 32 }
      let d1 : Dev := { d with mtr := { d.mtr with
        number := r.number, archive := (d.mtr.archive ++ [r]).drop (d.mtr.archive.length + 1 - 33554432) } }
      let d2 := ((d1.put Reg.MTR_REC_LO.word r.number).put Reg.MTR_REC_HI.word (r.number / 2 ^ 32)).raise Reg.MTR_IRQ_STATUS.record
      let d3 := d2.offer Ev.RECORD_WRITTEN [r.number, c]
      let x := d3.push k.reconQueue (0xF0C00 + c) producerSC ((List.range 8).map (fun i => fieldLE r.bytes (8 * i) 8))
      let d4 := if x.2.1 = ST_OK then x.1
        else ((x.1.bump Reg.MTR_ARC_STATUS.rec_refused).raise Reg.MTR_IRQ_STATUS.refused).offer Ev.RECORD_REFUSED [r.number, k.reconQueue]
      let d5 := d4.openInterval c
      d5.journal .flush (d5.accRecord false)

/-! ### Starting and stopping (R354, R367, R368) -/

/-- Restores the accumulators at boot step 2 and books what the ledger restore withdrew (R367, R368). -/
def meterRestore (d : Dev) (sec : Option MeterSec) (w : List (Nat × Nat)) (n : Nat) : Dev :=
  match d.inForce 0x0042 0 with
  | some (.flushAcc _ _ atStop chs em _) =>
    let feeders := match sec with | some s => s.feeders | none => []
    let recomputed (c : Nat) : Nat := sumOf ((List.range n).filter (fun e => feeders.any (fun f => f.2.2 == c && f.1 ≤ e && e < f.1 + f.2.1)))
      (fun e => fieldLE (d.restoredOf w e).bytes 0 6)
    let lost (c : Nat) : Nat := (chs.getD c MeterCh.zero).rep - recomputed c
    let chs' := chs.mapIdx (fun c ch => { ch with
      rep := recomputed c, gap := ch.gap + lost c, clipNoted := false
      flags := setBit (setBit ch.flags 2 (bit ch.flags 2 || 0 < lost c)) 4 (bit ch.flags 4 || !atStop) })
    let d1 : Dev := { d with mtr := { d.mtr with ch := chs', emitted := em } }
    d1.offer Ev.LEDGER_RESTORE_BOOKED ((List.range 4).map lost)
  | _ => d

/-- Measurement begins at a start or after a load (R354, R368): the measured channels, and the outage since the last save. -/
def meterStart (d : Dev) : Dev :=
  let since := match d.inForce 0x0042 0 with | some (.flushAcc _ s _ _ _ _) => d.nowSec - s | _ => 0
  (List.range 4).foldl (fun d c =>
    match d.meterCfg c with
    | none => d
    | some k =>
      let m := k.enabled && bit (d.get Reg.BST_UNIT1.meter) c
      let d1 := d.put Reg.MTR_STATUS.measured (setBit (d.get Reg.MTR_STATUS.measured) c m)
      if !m then d1.offer Ev.CHANNEL_UNMEASURED [c, b2n !k.enabled]
      else if d.measured c then d1
      else if (d.meterCh c).start = 0 then d1.openInterval c
      else if since = 0 then d1
      else (d1.setCh c (fun ch => { ch with outage := ch.outage + since, flags := setBit ch.flags 1 true })).offer Ev.OUTAGE
        [c, since, b2n (bit (d.meterCh c).flags 4)]) d

/-- Pulse outputs restart at a takeover (R370). -/
def pulseRestart (d : Dev) : Dev :=
  ((List.range 2).foldl (fun (d : Dev) n =>
    if !d.pulseUsed n then d
    else ({ d with mtr := { d.mtr with emitted := modifyAt d.mtr.emitted n (fun _ => d.pulsesDue n) } } : Dev).offer Ev.PULSE_RESTART
      [n, d.emittedOf n, d.pulsesDue n]) d).showPulses

end Dev

/-! ### The commands -/

/-- METER_CYCLE_END (R356). -/
def execMeterCycleEnd (t : Nat) (c : Fin 4) (x : MeterCycle) (s : State) : Host.Outcome State Fault Refusal :=
  s.runAt t fun d => d.meterCycle c.val x

/-- NO_ZC (R356): an AC channel finds no zero crossing within 40 ms. -/
def execNoZc (t : Nat) (c : Fin 4) (s : State) : Host.Outcome State Fault Refusal :=
  s.runAt t fun d =>
    if d.measured c.val && (d.meterCfg c.val).any (fun k => !k.dc) then
      d.put Reg.MTR_STATUS.no_zc (setBit (d.get Reg.MTR_STATUS.no_zc) c.val true)
    else d

/-- PULSE_EMIT (R362): the leading edge of a pulse that is owed, at least 60 ms after the one before. -/
def execPulseEmit (t : Nat) (n : Fin 2) (s : State) : Host.Outcome State Fault Refusal :=
  s.runAt t fun d =>
    let last := d.mtr.lastEdge.getD n.val 0
    if d.pulsesDue n.val ≤ d.emittedOf n.val || !d.pulseUsed n.val || !d.metersActive || d.isState [.off, .failsafe]
        || (0 < last && last ≤ d.now && d.now < last + 60000000) then d
    else
      let d1 : Dev := { d with mtr := { d.mtr with
        emitted := modifyAt d.mtr.emitted n.val (· + 1), lastEdge := modifyAt d.mtr.lastEdge n.val (fun _ => d.now) } }
      (d1.put Reg.MTR_STATUS.pout_active (setBit (d.get Reg.MTR_STATUS.pout_active) n.val true)).showPulses

/-- PULSE_END (R362): the output opens after 30 ms. -/
def execPulseEnd (t : Nat) (n : Fin 2) (s : State) : Host.Outcome State Fault Refusal :=
  s.runAt t fun d => if d.now < d.mtr.lastEdge.getD n.val 0 + 30000000 then d else d.put Reg.MTR_STATUS.pout_active (setBit (d.get Reg.MTR_STATUS.pout_active) n.val false)

/-- S0_PULSE (R363). -/
def execS0Pulse (t : Nat) (c : Fin 4) (s : State) : Host.Outcome State Fault Refusal :=
  s.runAt t fun d =>
    if d.isState [.off, .failsafe] || !(d.meterCfg c.val).any (fun k => k.s0 != 0) then d
    else d.setCh c.val (fun ch => { ch with s0 := (ch.s0 + 1) % 2 ^ 32 })

/-- RECON_INTERVAL_END (R364). -/
def execReconIntervalEnd (t : Nat) (c : Fin 4) (s : State) : Host.Outcome State Fault Refusal :=
  s.runAt t fun d => if d.isState [.off, .failsafe] then d else d.closeInterval c.val

/-- ACC_SAVE (R367): the accumulators are saved every save_interval. -/
def execAccSave (t : Nat) (s : State) : Host.Outcome State Fault Refusal :=
  s.runAt t fun d =>
    if d.mtr.cfg.isNone || d.isState [.off, .boot, .failsafe] then d
    else ({ d with mtr := { d.mtr with lastSave := d.now } } : Dev).journal .flush (d.accRecord false)

/-- MTR_FAST_READ (R360): a master reads a fast counter; two or more wraps since its last read set its sticky bit. -/
def execMtrFastRead (t : Nat) (m : Master) (c : Fin 4) (s : State) : Host.Outcome State Fault Refusal :=
  s.runAt t fun d =>
    let b := bankOf m
    let n := match d.mtr.wraps.find? (fun w => w.1 == b && w.2.1 == c.val) with | some w => w.2.2 | none => 0
    let d1 : Dev := { d with mtr := { d.mtr with wraps := d.mtr.wraps.filter (fun w => !(w.1 == b && w.2.1 == c.val)) } }
    if n < 2 then d1 else d1.raiseBits (Reg.MTR_FAST_OVF.ovf b) (2 ^ c.val)

/-- ARC_FETCH (R373): a write of MTR_ARC_SEL_LO fetches a record. -/
def execArcFetch (t : Nat) (m : Master) (v : W32) (s : State) : Host.Outcome State Fault Refusal :=
  s.runAt t fun d => (d.commitPair (bankOf m) Reg.MTR_ARC_SEL_LO.word Reg.MTR_ARC_SEL_HI.word v.toNat).put Reg.MTR_ARC_STATUS.busy 1

/-- ARC_FETCH_DONE (R373). -/
def execArcFetchDone (t : Nat) (s : State) : Host.Outcome State Fault Refusal :=
  s.runAt t fun d =>
    if !d.flag Reg.MTR_ARC_STATUS.busy then d
    else
      let n := d.get Reg.MTR_ARC_SEL_HI.word * 2 ^ 32 + d.get Reg.MTR_ARC_SEL_LO.word
      let d1 := (d.put Reg.MTR_ARC_STATUS.busy 0).raise Reg.MTR_IRQ_STATUS.fetched
      match d.mtr.archive.find? (fun r => r.number == n) with
      | none => d1.put Reg.MTR_ARC_STATUS.status ST_BAD_ARGUMENT
      | some r => ((List.range 16).foldl (fun d i => d.put (Reg.MTR_ARC_W.word i) (fieldLE r.bytes (4 * i) 4)) d1).put
          Reg.MTR_ARC_STATUS.status ST_OK

/-- The result of METER_SNAPSHOT after the status byte (R371). -/
def meterSnapshotResult (d : Dev) : Bytes :=
  toLE 8 d.beat.count ++ toLE 8 d.nowSec ++ toLE 4 (d.now % 1000000000) ++
  (List.range 4).flatMap (fun c => toLE 8 (d.meterCh c).impTotal ++ toLE 8 (d.meterCh c).expTotal ++ toLE 8 (d.meterCh c).rep) ++
  toLE 1 (d.get Reg.MTR_STATUS.measured)

/-- METER_SNAPSHOT (R371). -/
def specMeterSnapshot : CmdSpec := ⟨cmdMeterSnapshot, noArgs, fun _ => false, fun d _ => ⟨d, ST_OK, meterSnapshotResult d, true⟩⟩

def execMeterSnapshot (t : Nat) (e : Envelope) (s : State) : Host.Outcome State Fault Refusal :=
  s.runAt t fun d => d.command specMeterSnapshot e

end Sys2Proof.Machine
end

