-- ==== Sys2Proof/Machine/Vault.lean ====
section
/-! DEFINITION. The key vault's commands: KEY_UPDATE, KEY_INVALIDATE, life-cycle, slots at a boundary, and KEY_OP (R427-R448). -/

namespace Sys2Proof.Machine

/-- The order of the P-256 group, for the device scalar (R428). -/
def p256n : Nat := 0xFFFFFFFF00000000FFFFFFFFFFFFFFFFBCE6FAADA7179E84F3B9CAC2FC632551

/-- The root-derived keys (R428). -/
def blobWrapKey : Bytes := kdf Config.root (ascii "QS740 blob wrap") unitIdBytes 256
def blobMacKey : Bytes := kdf Config.root (ascii "QS740 blob mac") unitIdBytes 256
def deviceScalar : Bytes := toBE 32 (beNat (kdf Config.root (ascii "QS740 device ecdh") unitIdBytes 256) % (p256n - 1) + 1)

/-- Wrapped length of a type (R431). -/
def wrappedLen : Nat → Nat
  | 1 => 24 | 2 => 40 | 3 => 40 | 4 => 40 | 5 => 72 | _ => 0

/-- Bytes of a key of a type (R431). -/
def keyLen : Nat → Nat
  | 1 => 16 | 5 => 64 | _ => 32

/-- Usages a type permits (R431). -/
def typeUsages : Nat → List Nat
  | 1 => [useRadioLink, useTrunkLink, useBroadcast, useClass0]
  | 2 => [useKeyImport, useMacsec, useAppEncrypt, useDerive]
  | 3 => [useCommandMac, usePairLease, useAppMac, useDerive, useLifecycle]
  | 4 => [useAppSign]
  | 5 => [useCutVerify, useFwVerify]
  | _ => []

/-- The 128 bytes of a blob (R432). -/
def Blob.bytes (b : Blob) : Bytes :=
  let head := toLE 2 b.keyId ++ toLE 2 b.parentId ++ toLE 4 b.generation ++ toLE 1 b.typ ++ toLE 1 b.masters ++ toLE 2 b.usages ++
    toLE 1 b.lcs ++ [0, 0, 0] ++ toLE 2 (wrappedLen b.typ) ++ [0, 0, 0, 0, 0, 0] ++ slice (Config.keyWrap blobWrapKey b.key) 0 72 ++
    List.replicate 16 0
  head ++ (Config.hmac blobMacKey (head ++ unitIdBytes)).take 16

namespace Dev

/-- Check 1 of R442. -/
def keyUpdArgsOk (p : Bytes) : Bool :=
  let a := keyUpdArgs p
  p.length == 154 && byteAt p 1 == 0 &&
  (if a.op = 3 then
    2 ≤ a.keyId && a.keyId ≤ 4 && allZero (slice p 4 12) && fieldLE p 16 8 == Config.unitId.toNat && allZero (slice p 24 56) &&
      allZero (slice p 80 74)
  else if a.op = 1 || a.op = 2 then
    1 ≤ a.keyId && a.keyId ≤ 0xFEFF && 1 ≤ a.typ && a.typ ≤ 5 && a.masters < 128 && a.usages != 0 && a.usages < 2 ^ 15 &&
    (bitList a.usages 15).all (fun u => (typeUsages a.typ).contains u) && 1 ≤ a.lcs && a.lcs < 8 && byteAt p 11 == 0 && 1 ≤ a.generation &&
    (if a.op = 1 then (a.parentId == 0xFFFF || allZero a.eph) && allZero (a.wrapped.drop a.wlen)
     else a.typ != 5 && allZero (slice p 48 32) && a.wlen == 0 && allZero a.wrapped)
  else false)

/-- Writes the blob into a free slot and commits its pointer record, the atomic moment of an update (R436, R440). -/
def commitBlob (d : Dev) (b : Blob) : Dev × Nat :=
  match d.freeBlobSlot with
  | none => (d, ST_CAPACITY)
  | some i =>
    let d1 : Dev := { d with key := { d.key with blobs := d.key.blobs.filter (fun x => x.1 != i) ++ [(i, b)] } }
    match d1.commitChecked (.keyPointer b.keyId b.parentId b.generation i (crc32c b.bytes)) with
    | (d2, st) =>
      if st ≠ ST_OK then (d2, st)
      else ({ d2 with key := { d2.key with slots := d2.key.slots.map (fun s : KeySlot =>
        if s.blob.keyId = b.keyId ∧ !s.orphaned then { s with reload := true } else s) } }, ST_OK)

/-- Checks 4 and 5 of R442. -/
def generationAndRoom (d : Dev) (id generation : Nat) : Nat :=
  match d.pointer id with
  | some (_, g, _) => if generation ≤ g then ST_STALE else ST_OK
  | none => if 320 ≤ d.pointerIds.length then ST_CAPACITY else ST_OK

def keyResult (id gen : Nat) : Bytes := toLE 2 id ++ toLE 4 gen

/-- KEY_UPDATE after check 1 (R441, R442, R444). -/
def keyUpdate (d : Dev) (e : Envelope) : Done :=
  let a := keyUpdArgs e.body
  if a.op = 3 then
    if a.keyId ≤ d.key.lcs || (a.keyId ≠ 4 && a.keyId ≠ d.key.lcs + 1) || d.key.nextLcs.isSome then ⟨d, ST_ILLEGAL_STATE, [], true⟩
    else ⟨{ d with key := { d.key with nextLcs := some a.keyId } }, ST_OK, keyResult a.keyId 0, true⟩
  else
    let device := a.op == 1 && a.parentId == 0xFFFF
    let parent : Nat × Bytes × Dev := if device then
        (if d.key.rootPresent then (ST_OK, [], d) else (ST_NOT_PERMITTED, [], d))
      else d.useKey a.parentId (chanMaster e.chan) (if a.op = 1 then useKeyImport else useDerive)
    match parent with
    | (st, pk, d1) =>
      if st ≠ ST_OK then ⟨d1, st, [], true⟩
      else
        let key : Option Bytes :=
          if a.op = 2 then some (kdf pk (ascii "QS740 derive") (a.eph.take 32) (8 * keyLen a.typ))
          else if a.wlen ≠ wrappedLen a.typ then none
          else
            let kek := if device then (Config.ecdhX deviceScalar a.eph).map (fun x =>
                kdf x (ascii "QS740 import") (unitIdBytes ++ toLE 2 a.keyId) 256) else some pk
            (kek.bind (fun k => Config.keyUnwrap k (a.wrapped.take a.wlen))).filter (fun k => k.length == keyLen a.typ)
        match key with
        | none => ⟨d1, ST_INTEGRITY, [], true⟩
        | some k =>
          let b : Blob := ⟨a.keyId, if device then 0 else a.parentId, a.generation, a.typ, a.masters, a.usages, a.lcs, k, true⟩
          let st := d1.generationAndRoom a.keyId a.generation
          if st ≠ ST_OK then ⟨d1, st, [], true⟩
          else if device then
            ⟨{ d1 with key := { d1.key with pending := d1.key.pending ++ [⟨e.seq, a.op, b⟩] } }, ST_PENDING,
              keyResult a.keyId a.generation, true⟩
          else
            match d1.commitBlob b with
            | (d2, st) =>
              if st ≠ ST_OK then ⟨d2, st, [], true⟩
              else ⟨d2.offer Ev.KEY_UPDATED [a.keyId, a.generation, a.op], ST_OK, keyResult a.keyId a.generation, true⟩

/-- The key is the only one in force with a usage (R443 case 5). -/
def onlyWith (d : Dev) (id usage : Nat) : Bool :=
  match d.keyStanding id with
  | .inForce b => bit b.usages usage && !(d.pointerIds.any (fun k => k != id && (match d.keyStanding k with
      | .inForce x => bit x.usages usage
      | _ => false)))
  | _ => false

/-- KEY_INVALIDATE (R437, R443). -/
def keyInvalidate (d : Dev) (e : Envelope) : Done :=
  let id := fieldLE e.body 0 2
  let gen := fieldLE e.body 4 4
  if 0xFF00 ≤ id then ⟨d, ST_NOT_PERMITTED, [], true⟩
  else match d.pointer id with
    | none => ⟨d, ST_BAD_ARGUMENT, [], true⟩
    | some (parent, g, slot) =>
      if gen ≠ g then ⟨d, ST_STALE, [], true⟩
      else if slot = 0xFFFF then ⟨d, ST_OK, [], true⟩
      else if d.onlyWith id useCutVerify || d.onlyWith id useCommandMac then ⟨d, ST_NOT_PERMITTED, [], true⟩
      else match d.commitChecked (.keyPointer id parent g 0xFFFF 0) with
        | (d1, st) =>
          if st ≠ ST_OK then ⟨d1, st, [], true⟩
          else
            let des := d1.pointerIds.filter (fun k => d1.descendsFrom 321 k id && (match d1.pointer k with
              | some (_, _, s) => s != 0xFFFF
              | none => false))
            let d2 := des.foldl (fun d k => match d.pointer k with
              | some (p, g, _) => (d.commitChecked (.keyPointer k p g 0xFFFF 0)).1
              | none => d) d1
            ⟨(d2.orphanSlots false).offer Ev.KEY_INVALIDATED [id, des.length], ST_OK, [], true⟩

/-- Shows life-cycle state and root (R448). -/
def showKeys (d : Dev) : Dev :=
  ((d.put Reg.KEY_STATUS.lcs d.key.lcs).putB Reg.KEY_STATUS.root_ok d.key.rootPresent).showSlots

/-- A change of life-cycle state takes effect (R444). -/
def lifecycleStep (d : Dev) : Dev :=
  match d.key.nextLcs with
  | none => d
  | some n =>
    let d1 : Dev := { d with key := { d.key with lcs := n, nextLcs := none } }
    let d2 : Dev := if n = 4 then
        { d1 with
          key := { d1.key with rootPresent := false, blobs := [] }
          sil := { d1.sil with recs := d1.sil.recs.filter (fun r => match r.val with | .keyPointer .. => false | _ => true)
                               image := d1.sil.image.filter (fun e => e.1 < 0x178000 || 0x180000 ≤ e.1) } }
      else d1
    (((d2.orphanSlots true).showKeys).raise Reg.KEY_IRQ_STATUS.lifecycle).offer Ev.LIFECYCLE [d.key.lcs, n]

/-- Links of a medium whose family key has left force or is excluded by life-cycle state (R439). -/
def orphanedLinks (d : Dev) (md : Nat) : List Nat :=
  (d.linksOf md).filterMap (fun l => match d.keyStanding l.cfg.keyId with
    | .inForce _ => none
    | _ => some l.index)

/-- What the vault does at a beat boundary: a life-cycle state takes effect, orphaned slots are purged and their links closed,
new generations are loaded (R439, R440, R444). -/
def keyBoundary (d : Dev) : Dev :=
  let d1 := d.lifecycleStep
  let dead := d1.key.slots.filter (fun s => s.orphaned)
  let links := if !d1.key.left then [] else (List.range 14).flatMap (fun md => (d1.orphanedLinks md).map (fun i => (md, i)))
  let d2 := links.foldl (fun d x => d.closeLink x.1 x.2 true) d1
  let d3 : Dev := { d2 with key := { d2.key with
    left := false
    slots := (d2.key.slots.filter (fun s => !s.orphaned)).map (fun s : KeySlot =>
      if s.reload then
        match d2.keyStanding s.blob.keyId with
        | .inForce b => { s with blob := b, reload := false, pinned := pins b }
        | _ => s
      else s) } }
  let d4 := if d3.key.slots = d2.key.slots then d3 else d3.showSlots
  if dead.isEmpty && links.isEmpty then d4 else d4.offer Ev.SLOTS_ORPHANED [dead.length, links.length]

/-! ### KEY_OP (R448) -/

/-- The vault's own descriptor (R448). -/
structure OpDesc where
  src : Nat
  dst : Nat
  len : Nat
  aad : Nat
  src2 : Nat

def opDesc (d : Dev) (a : Nat) : OpDesc :=
  let b := d.mem.readN a 32
  ⟨fieldLE b 0 8, fieldLE b 8 8, fieldLE b 16 4, fieldLE b 20 4, fieldLE b 24 8⟩

/-- The output and status of an operation on a key (R448). The spec gives the second source as IV, AAD or signature without its
layout: the 12-byte IV and then the AAD (DESIGN CHOICE, notes/assumptions/23). -/
def opResult (d : Dev) (op : Nat) (key : Bytes) (x : OpDesc) : Nat × Bytes :=
  let msg := d.mem.readN x.src x.len
  let iv := d.mem.readN x.src2 12
  let aad := d.mem.readN (x.src2 + 12) x.aad
  if op = 1 then (ST_OK, Config.gcmEncrypt key iv aad msg)
  else if op = 2 then match Config.gcmDecrypt key iv aad msg with
    | some p => (ST_OK, p)
    | none => (ST_INTEGRITY, [])
  else if op = 3 then (ST_OK, Config.hmac key msg)
  else if op = 4 then (ST_OK, Config.ecdsaSign key (Config.sha256 msg) d.freeCtr)
  else if op = 5 then (if Config.ecdsaVerify key (Config.sha256 msg) (d.mem.readN x.src2 64) then ST_OK else ST_INTEGRITY, [])
  else (ST_OK, Config.sha256 msg)

/-- What an operation reads and writes lies in general SRAM or LPDDR (R448): its source, its second source, and its whole output. -/
def descOk (op : Nat) (x : OpDesc) : Bool :=
  let out := match op with | 1 => x.len + 16 | 2 => x.len - 16 | 3 => 32 | 4 => 64 | 5 => 0 | _ => 32
  inSramOrLpddr x.src x.len && (out == 0 || inSramOrLpddr x.dst out) &&
  (if op = 1 ∨ op = 2 then inSramOrLpddr x.src2 (12 + x.aad) else if op = 5 then inSramOrLpddr x.src2 64 else true)

/-- Usage an operation needs (R432, R448): ECDSA verify takes the usage of the public keys, Cut List verify (DESIGN CHOICE,
notes/assumptions/23). -/
def opUsage : Nat → Nat
  | 1 => useAppEncrypt | 2 => useAppEncrypt | 3 => useAppMac | 4 => useAppSign | _ => useCutVerify

/-- Starts a KEY_OP (R434, R438, R448): `lo` is the word written to KEY_OP_DESC_LO. -/
def keyOp (d : Dev) (m : Master) (secure : Bool) (op : Nat) (lo : W32) : Dev :=
  let b := bankOf m
  let d0 := d.commitPair b (Reg.KEY_OP_DESC_LO.word b) (Reg.KEY_OP_DESC_HI.word b) lo.toNat
  let a := bits (d0.get (Reg.KEY_OP_DESC_HI.word b)) 7 0 * 2 ^ 32 + lo.toNat
  let x := d0.opDesc a
  let fail (d : Dev) (st : Nat) : Dev := d.put (Reg.KEY_OP_STATUS.status b) st
  let id := d.get (Reg.KEY_OP_CFG.key_id b)
  let run (d : Dev) (slot : Option Nat) (key : Bytes) : Dev :=
    let r := d.opResult op key x
    ({ d with
      freeCtr := if op = 4 then d.freeCtr + 1 else d.freeCtr
      key := { d.key with
        ops := d.key.ops ++ [{ bank := b, slot := slot, waits := slot.isNone && op != 6, keyId := id, since := d.now, status := r.1,
                               dest := x.dst, out := r.2 }]
        slots := d.key.slots.map (fun s : KeySlot => if slot = some s.slot then { s with ops := s.ops + 1 } else s) } } : Dev).put
      (Reg.KEY_OP_STATUS.busy b) 1
  if d.flag (Reg.KEY_OP_STATUS.busy b) then d0
  else if !inSramOrLpddr a 32 || !descOk op x then fail d0 ST_BAD_ARGUMENT
  else if op = 6 then run d0 none []
  else match d0.permit id (if secure then masterAppSecure else masterAppNormal) (opUsage op) with
    | (st, none) => (fail d0 st).keyRefused id (if secure then masterAppSecure else masterAppNormal) (opUsage op)
    | (_, some k) => match d0.loadKey k with
      | some (i, d1) => run d1 (some i) (d0.keyBytes k)
      | none => run d0 none (d0.keyBytes k)

/-- A KEY_OP completes (R439, R448): its output is written, its slot is free of it. One that waits for a slot takes it here when
one has come free, and goes on (R438). -/
def keyOpDone (d : Dev) (bank : Nat) : Dev :=
  match d.key.ops.find? (fun r => r.bank == bank) with
  | none => d
  | some r =>
    if r.waits then
      match d.keyStanding r.keyId with
      | .inForce k => match d.loadKey k with
        | some (i, d1) => ({ d1 with key := { d1.key with
            ops := d1.key.ops.map (fun x : KeyOpRun => if x = r then { x with waits := false, slot := some i } else x)
            slots := d1.key.slots.map (fun s : KeySlot => if s.slot = i then { s with ops := s.ops + 1 } else s) } } : Dev).offer
              Ev.SLOT_WAIT [r.keyId, (d.now - r.since) / 1000]
        | none => d
      | st => ((({ d with key := { d.key with ops := d.key.ops.filter (fun x => x != r) } } : Dev).put (Reg.KEY_OP_STATUS.busy bank) 0).put
          (Reg.KEY_OP_STATUS.status bank) (if st = .orphaned then ST_ORPHANED else ST_NOT_PERMITTED)).raise Reg.KEY_IRQ_STATUS.op_done
    else
      ((({ d with
        mem := d.mem.writeN r.dest r.out
        key := { d.key with
          ops := d.key.ops.filter (fun x => x != r)
          slots := d.key.slots.map (fun s : KeySlot => if r.slot = some s.slot then { s with ops := s.ops - 1 } else s) } } : Dev).put
        (Reg.KEY_OP_STATUS.busy bank) 0).put (Reg.KEY_OP_STATUS.status bank) r.status).raise Reg.KEY_IRQ_STATUS.op_done

end Dev

/-- KEY_UPDATE: the checks of R442 after those of R67 (R441). -/
def specKeyUpdate : CmdSpec := ⟨cmdKeyUpdate, fun _ p => Dev.keyUpdArgsOk p, fun _ => false, fun d e => d.keyUpdate e⟩

/-- KEY_UPDATE with operation IMPORT (R441). -/
def execKeyUpdateImport (t : Nat) (e : Envelope) (s : State) : Host.Outcome State Fault Refusal :=
  s.runAt t fun d => d.command specKeyUpdate e

/-- KEY_UPDATE with operation DERIVE (R441). -/
def execKeyUpdateDerive (t : Nat) (e : Envelope) (s : State) : Host.Outcome State Fault Refusal :=
  s.runAt t fun d => d.command specKeyUpdate e

/-- KEY_UPDATE with operation LIFECYCLE (R444). -/
def execKeyUpdateLifecycle (t : Nat) (e : Envelope) (s : State) : Host.Outcome State Fault Refusal :=
  s.runAt t fun d => d.command specKeyUpdate e

/-- KEY_INVALIDATE (R443). -/
def specKeyInvalidate : CmdSpec := ⟨cmdKeyInvalidate, fun _ p => p.length == 8 && allZero (slice p 2 2), fun _ => false,
  fun d e => d.keyInvalidate e⟩

def execKeyInvalidate (t : Nat) (e : Envelope) (s : State) : Host.Outcome State Fault Refusal :=
  s.runAt t fun d => d.command specKeyInvalidate e

/-- KEY_UPDATE_DONE (R70, R436, R441): an import that answered ST_PENDING commits; its event carries the sequence. -/
def execKeyUpdateDone (t : Nat) (s : State) : Host.Outcome State Fault Refusal :=
  s.runAt t fun d =>
    match d.key.pending with
    | [] => d
    | r :: rest =>
      let d1 : Dev := { d with key := { d.key with pending := rest } }
      match d1.commitBlob r.blob with
      | (d2, st) =>
        if st = ST_OK then d2.offer Ev.KEY_UPDATED [r.blob.keyId, r.blob.generation, r.op, r.seq]
        else d2.offer Ev.KEY_UPDATED [r.blob.keyId, match d2.pointer r.blob.keyId with | some p => p.2.1 | none => 0, r.op, r.seq, st]

/-- KEY_OP: GCM encrypt (R448). -/
def execKeyOpGcmEncrypt (t : Nat) (m : Master) (secure : Bool) (lo : W32) (s : State) : Host.Outcome State Fault Refusal :=
  s.runAt t fun d => d.keyOp m secure 1 lo

/-- KEY_OP: GCM decrypt (R448). -/
def execKeyOpGcmDecrypt (t : Nat) (m : Master) (secure : Bool) (lo : W32) (s : State) : Host.Outcome State Fault Refusal :=
  s.runAt t fun d => d.keyOp m secure 2 lo

/-- KEY_OP: HMAC (R448). -/
def execKeyOpHmac (t : Nat) (m : Master) (secure : Bool) (lo : W32) (s : State) : Host.Outcome State Fault Refusal :=
  s.runAt t fun d => d.keyOp m secure 3 lo

/-- KEY_OP: ECDSA sign (R448). -/
def execKeyOpEcdsaSign (t : Nat) (m : Master) (secure : Bool) (lo : W32) (s : State) : Host.Outcome State Fault Refusal :=
  s.runAt t fun d => d.keyOp m secure 4 lo

/-- KEY_OP: ECDSA verify (R448). -/
def execKeyOpEcdsaVerify (t : Nat) (m : Master) (secure : Bool) (lo : W32) (s : State) : Host.Outcome State Fault Refusal :=
  s.runAt t fun d => d.keyOp m secure 5 lo

/-- KEY_OP: SHA-256, which needs no key (R448). -/
def execKeyOpSha256 (t : Nat) (m : Master) (secure : Bool) (lo : W32) (s : State) : Host.Outcome State Fault Refusal :=
  s.runAt t fun d => d.keyOp m secure 6 lo

/-- KEY_OP_DONE (R448). -/
def execKeyOpDone (t bank : Nat) (s : State) : Host.Outcome State Fault Refusal := s.runAt t fun d => d.keyOpDone bank

end Sys2Proof.Machine
end

