-- ==== Sys2Proof/Machine/Cut.lean ====
section
/-! DEFINITION. The Cut List at work: staging, checks, full loads, patches, and class-1 overrides (R85-R103, R110, R130-R133). -/

namespace Sys2Proof.Machine

/-- An event whose code and severity the spec leaves open, from a constant of Config. -/
def openEvent (n : Nat) : EvCode := ⟨n % 65536, n / 65536 % 8⟩

/-! ### Rescaling under a fallback period (R110) -/

/-- A count of beats of `p` written in beats of `q`. -/
def scaleCount (v p q hi : Nat) : Nat := if v = 0 then 0 else clampNat (v * p / q) 1 hi

/-- A rate per beat of `p` written per beat of `q`. -/
def scaleRate (v p q hi : Nat) : Nat := scaleCount v q p hi

def NodeStat.rescale (p q : Nat) (s : NodeStat) : NodeStat := { s with
  hold := scaleCount s.hold p q 0xFFFFFFFE
  dlTimeout := if s.dlTimeout = 65535 then 65535 else scaleCount s.dlTimeout p q 65534
  refresh := scaleCount s.refresh p q 65535
  rampUp := scaleRate s.rampUp p q 65535
  rampDown := scaleRate s.rampDown p q 65535
  decay := scaleRate s.decay p q 1023 }

def Edge.rescale (p q : Nat) (e : Edge) : Edge := { e with d := scaleCount e.d p q 255 }

def Zone.rescale (p q : Nat) (z : Zone) : Zone := { z with
  headingWindow := scaleCount z.headingWindow p q 65535
  refTransit := scaleCount z.refTransit p q 0xFFFFFFFF }

def RadPlan.rescale (p q : Nat) (r : RadPlan) : RadPlan := { r with
  beaconPeriod := clampNat (r.beaconPeriod * p / q) 16 4096
  c0Refresh := if r.c0Refresh = 0 then 0 else clampNat (r.c0Refresh * p / q) 16 65535
  beaconOffset := if r.beaconOffset < q / 1000 then r.beaconOffset else q / 1000 - 1 }

/-- Gate starts of a fallback period (R267). -/
def GateEntry.rescale (p q : Nat) (g : GateEntry) : GateEntry := { g with start := g.start * q / p }

namespace Dev

/-! ### Capacity (R89, R90, R438) -/

/-- Keys that stay pinned under a Cut List: its class-0 and lease keys, and those its KEYS section gives such a usage or that of
commands (R438). -/
def pinnedKeys (x : CutImage) : List Nat :=
  (([x.safety.gbeC0Key] ++ x.plans.map (·.c0Key) ++ x.trunks.map (·.2.c0Key) ++
    (match x.pair with | some p => [p.leaseKey] | none => []) ++
    ((x.keys.getD []).filter (fun k => bit k.usages useCommandMac || bit k.usages usePairLease || bit k.usages useClass0)).map
      (·.keyId)).filter (fun k => k != 0)).eraseDups

/-- The fallback entry for the lanes present (R90). -/
def fallbackOf (d : Dev) (x : CutImage) : Option Fallback :=
  if x.units.lanesReq ≤ d.lanes then none else x.beat.fallbacks.find? (fun f => f.lanes ≤ d.lanes)

/-- Optional units that the unit map lacks, in the order of R89's table: kinds 2 port, 0 radio, 1 trunk, 3 metering channel. -/
def skippedUnits (d : Dev) (u : Units) : List (Nat × Nat) :=
  ([(2, u.portsOpt, d.get Reg.BST_UNIT1.ports, 2), (0, u.radiosOpt, d.get Reg.BST_UNIT0.radios, 4),
    (1, u.trunksOpt, d.get Reg.BST_UNIT0.trunks, 8), (3, u.meterOpt, d.get Reg.BST_UNIT1.meter, 4)] : List (Nat × Nat × Nat × Nat)).flatMap
    (fun (k, want, have_, n) => ((List.range n).filter (fun i => bit want i && !bit have_ i)).map (fun i => (k, i)))

/-- Check 11 (R89, R90): the units in the order of R89's table, the one that fails by its place in UNITS. -/
def checkCapacity (d : Dev) (s : Sect) (x : CutImage) : Option CutRefusal :=
  let u := x.units
  let fb := d.fallbackOf x
  let passes := match fb with | some f => f.passes | none => x.beat.passes
  let period := periodNs (match fb with | some f => f.period | none => x.beat.period)
  let lack (want have_ : Nat) : Bool := clearBits want have_ == 0
  let l : List Check := [
    (s.off, u.lanesReq ≤ d.lanes || fb.isSome),
    (s.off + 1, u.coresReq ≤ popCount (d.get Reg.BST_UNIT0.cores) 8),
    (s.off + 6, lack u.portsReq (d.get Reg.BST_UNIT1.ports)),
    (s.off + 2, lack u.radiosReq (d.get Reg.BST_UNIT0.radios)),
    (s.off + 4, lack u.trunksReq (d.get Reg.BST_UNIT0.trunks)),
    (s.off + 8, lack u.meterReq (d.get Reg.BST_UNIT1.meter)),
    (s.off + 10, lack u.lightReq (d.get Reg.BST_UNIT1.light)),
    (s.off + 12, u.nodeCount * passes ≤ capacityAt d.lanes period)]
  match l.find? (fun c => !c.2) with
  | some c => some ⟨11, ST_CAPACITY, 1, c.1⟩
  | none => if (pinnedKeys x).length > 32 then some ⟨11, ST_CAPACITY, 0, 0⟩ else none

/-! ### The checks in order (R85) -/

/-- Checks 1 to 8 on a staged container; the state shows the use of the signing key. -/
def checkHeader (d : Dev) (c : Bytes) (patch : Bool) : Option CutRefusal × Dev :=
  let h := cutHeader c
  let no (k st off : Nat) : Option CutRefusal × Dev := (some ⟨k, st, 0, off⟩, d)
  if c.length < 128 || 33554432 < c.length then no 1 ST_BAD_ARGUMENT 0
  else if slice c 0 4 ≠ ascii "QSCL" then no 1 ST_BAD_ARGUMENT 0
  else if h.major ≠ 1 then no 2 ST_VERSION 4
  else if h.hwType ≠ 0x0740 then no 3 ST_BAD_ARGUMENT 6
  else if byteAt c 26 ≠ b2n patch then no 3 ST_BAD_ARGUMENT 26
  else if byteAt c 27 ≠ 0 then no 3 ST_BAD_ARGUMENT 27
  else if fieldLE c 30 2 ≠ 0 then no 3 ST_BAD_ARGUMENT 30
  else if 128 + h.bodyLength ≠ c.length then no 4 ST_BAD_ARGUMENT 20
  else match d.useKey h.keyId masterSC useCutVerify with
    | (st, key, d1) =>
      if st ≠ ST_OK then (some ⟨5, if st = ST_ORPHANED then st else ST_NOT_PERMITTED, 0, 28⟩, d1)
      else if !Config.ecdsaVerify key (Config.sha256 (slice c 0 64)) (slice c 64 64) then (some ⟨6, ST_INTEGRITY, 0, 64⟩, d1)
      else if Config.sha256 (c.drop 128) ≠ h.hash then (some ⟨7, ST_INTEGRITY, 0, 32⟩, d1)
      else
        let gen := d.get Reg.CUT_GEN.word
        let ok := match d.cut.image with
          | none => !patch
          | some i => if patch then h.cutId == i.header.cutId && h.generation == gen + 1
            else h.cutId != i.header.cutId || gen < h.generation
        (if ok then none else some ⟨8, ST_STALE, 0, 16⟩, d1)

/-- Check 9 (R78, R79): the sections, all the required ones among them. -/
def checkSections (c : Bytes) (required : List Nat) : Except CutRefusal (List Sect) :=
  let h := cutHeader c
  match tlvWalk c (128 + h.bodyLength) h.sections 0 128 [] with
  | .error r => .error r
  | .ok l =>
    match required.find? (fun t => (findSect l t).isNone) with
    | some t => .error ⟨9, ST_BAD_ARGUMENT, t, 128⟩
    | none => .ok l

/-- Checks 1 to 11 on a full Cut List. -/
def checkFull (d : Dev) (c : Bytes) : Except CutRefusal CutImage × Dev :=
  match d.checkHeader c false with
  | (some r, d1) => (.error r, d1)
  | (none, d1) =>
    match checkSections c requiredSections with
    | .error r => (.error r, d1)
    | .ok l =>
      let x := buildImage c l
      match checkContents d1 c l x with
      | some r => (.error r, d1)
      | none => match d1.checkCapacity ((findSect l 1).getD ⟨1, 0, 0⟩) x with
        | some r => (.error r, d1)
        | none => (.ok x, d1)

/-- Checks 1 to 10 on a patch, and the room of the patch log (R99); the loaded image is that of the full load. DESIGN CHOICE
(notes/assumptions/49): the spec gives a 65th patch its status only; the registers of R103 show check 11 and section 0. -/
def checkAPatch (d : Dev) (c : Bytes) : Except CutRefusal PatchImage × Dev :=
  match d.checkHeader c true, d.cut.image with
  | (some r, d1), _ => (.error r, d1)
  | (none, d1), none => (.error ⟨8, ST_STALE, 0, 16⟩, d1)
  | (none, d1), some x =>
    match checkSections c [3, 4] with
    | .error r => (.error r, d1)
    | .ok l =>
      let p := buildPatch c l
      match checkPatch d1 c l x p with
      | some r => (.error r, d1)
      | none => if 64 ≤ d1.get Reg.CUT_PATCHES.count then (.error ⟨11, ST_CAPACITY, 0, 0⟩, d1) else (.ok p, d1)

/-- A refusal: its event, with the sequence of the command that completes so (R70), the place that failed, and the status shown (R85, R103). -/
def cutRefused (d : Dev) (r : CutRefusal) (patch : Bool) (seq : Nat) : Dev :=
  ((((d.put Reg.CUT_ERR_SECTION.check r.check).put Reg.CUT_ERR_SECTION.type r.typ).put Reg.CUT_ERR_OFFSET.word r.off).put
    Reg.CUT_STATUS.last_status r.status).offer (if patch then Ev.PATCH_REFUSED else Ev.LOAD_REFUSED) [r.check, r.status, r.typ, r.off, seq]

/-- Every check has passed: the error fields return to 0 (R103). -/
def cutPassed (d : Dev) : Dev := (d.put Reg.CUT_ERR_SECTION.word 0).put Reg.CUT_ERR_OFFSET.word 0

/-- The pointer record in force: slot, Cut List, generation, hash, patches (R92). -/
def cutPtr (d : Dev) : Option (Nat × Nat × Nat × Bytes × Nat) :=
  match d.inForce 0x0010 0 with
  | some (.cutPointer s i g h p) => some (s, i, g, h, p)
  | _ => none

/-- Starts a full load of a container (R91 step 1). -/
def startLoad (d : Dev) (c : Bytes) (seq : Nat) : Dev × Nat :=
  match d.checkFull c with
  | (.error r, d1) => (d1.cutRefused r false seq, r.status)
  | (.ok x, d1) =>
    let sk := d1.skippedUnits x.units
    let fb := d1.fallbackOf x
    let slot := match d1.cutPtr with | some (s, _) => 1 - s | none => 0
    let run : LoadRun := ⟨.storing, x, c, slot, if fb.isSome || !sk.isEmpty then ST_DEGRADED else ST_OK, seq, fb, sk,
      if d1.sys.mstate = .unframed then .ready else d1.sys.mstate, 0⟩
    ((({ d1 with cut := { d1.cut with load := some run } } : Dev).put Reg.CUT_STATUS.load_busy 1).put Reg.CUT_STATUS.last_status
      ST_PENDING, ST_PENDING)

/-! ### Class-1 overrides at a load or patch (R133) -/

/-- Clears the overrides that `keep` does not keep, and drops the entries not yet applied that would set one; one event with the
number cleared. Causes: 0 boot, 1 full load, 2 patch. -/
def clearOverrides (d : Dev) (keep : Nat → Nat → Bool) (cause : Nat) : Dev :=
  let stays (c : CmdEntry) : Bool := match c with | .c1Set scope id _ _ _ => keep scope id | _ => true
  let noted := d.rft.carriedCmd.take d.rft.cmdNoted
  let rest := d.rft.carriedCmd.drop d.rft.cmdNoted
  let lost (l : List CmdEntry) : Nat := (l.filter (fun c => !stays c)).length
  let eids := (d.rft.nodes.zipIdx.filter (fun (n, i) => n.run.c1Eid && !keep 0 i)).length
  let n := eids + (if d.rft.ovSite.isSome && !keep 3 0 then 1 else 0) +
    (d.rft.ovZone.filter (fun o => !keep 2 o.1)).length + (d.rft.ovGroup.filter (fun o => !keep 1 o.1)).length +
    lost rest + lost d.rft.cmdBuf
  let d1 : Dev := { d with rft := { d.rft with
    nodes := d.rft.nodes.mapIdx (fun i x => if x.run.c1Eid && !keep 0 i then
      { x with run := { x.run with c1Eid := false, c1Noexp := false, c1Level := 0, c1Expiry := 0 } } else x)
    ovSite := if keep 3 0 then d.rft.ovSite else none
    ovZone := d.rft.ovZone.filter (fun o => keep 2 o.1)
    ovGroup := d.rft.ovGroup.filter (fun o => keep 1 o.1)
    cmdBuf := d.rft.cmdBuf.filter stays
    carriedCmd := noted.filter stays ++ rest.filter stays
    cmdNoted := (noted.filter stays).length } }
  if n = 0 then d1 else d1.offer Ev.OVERRIDES_CLEARED [cause, n]

/-! ### The ledger judgement (R16, R18) -/

/-- The pair condition of R16: the ledger is mirrored over the Tie and the standby is not INELIGIBLE. -/
def pairCovers (d : Dev) : Bool :=
  d.pair.cfg.isNone || (d.pair.peerUp && !d.pair.unmirrored && d.sys.role != .ineligible && d.pair.peerRole != .ineligible)

/-- Judges ledger-completeness and writes an event when the judgement changes (R16, R18). -/
def judgeLedger (d : Dev) : Dev :=
  let n := d.nodeCount
  let ok := d.cut.image.isSome && (List.range n).all (fun e => (platePos 0 d.windows e).isSome) &&
    d.flag Reg.PWR_STATUS.holdup_met && d.pairCovers && !d.sil.readOnly
  if ok = d.flag Reg.SYS_STATUS.ledger_complete then d
  else (d.putB Reg.SYS_STATUS.ledger_complete ok).offer (openEvent Config.evLedgerJudgement) [b2n ok]

/-! ### Applying a Cut List (R91 steps 3 and 4, R94, R110, R197) -/

/-- The records of the ledger, before the windows change. -/
def ledgerImage (d : Dev) : List Bytes := (List.range d.nodeCount).map d.liveRecord

/-- The records at the places that the new windows give them; an EID that had none starts from an empty record
(notes/assumptions/30). -/
def moveLedger (d : Dev) (old : List Bytes) : Dev :=
  let rec_ (e : Nat) : Bytes := old.getD e (ledgerRecord 0 0 0 0)
  let mem := (List.range d.nodeCount).foldl (fun (m : Memory) e =>
    if (platePos 0 d.windows e).isSome || (d.sil.restored.isEmpty && e < old.length) then m.writeN (d.liveAddr e) (rec_ e) else m) d.mem
  let restored := if d.sil.restored.isEmpty then [] else
    (List.range (ceilDiv d.nodeCount 512)).map (fun k =>
      (k, (List.range 512).flatMap (fun i => if 512 * k + i < d.nodeCount then rec_ (512 * k + i) else List.replicate 16 0)))
  { d with mem := mem, sil := { d.sil with restored := restored } }

/-- A node as R94 sets it: one whose EID and type stay keeps its pages and runtime area; any other starts fresh, and keeps its
sequence and its override; `seq` is the sequence of an EID that the Cut List before did not have. -/
def nodeOf (old : Option Node) (s : NodeStat) (seq : Nat := 0) : Node :=
  let blank : NodeRun := ⟨0, seq, 0, false, false, false, false, false, 0, 0⟩
  match old with
  | some n =>
    if n.stat.typ = s.typ then { n with stat := s }
    else ⟨s, { n.run with lastSent := 0, refreshTmr := 0, pending := s.drives, refreshOnly := false }, Page.fresh, Page.fresh⟩
  | none => ⟨s, { blank with pending := s.drives }, Page.fresh, Page.fresh⟩

/-- Queue records of a load: changed queues are flushed first (R197); a flush of JST_FLUSH under way keeps its queue and counts. -/
def applyQueues (d : Dev) (l : List QCfg) : Dev :=
  let changed := (List.range 64).filter (fun q => d.jst.qcfg[q]? != l[q]?)
  let d1 := changed.foldl (fun d q =>
    if d.jst.qcfg.isEmpty then d
    else
      ((d.discardQueue q).raise Reg.JST_IRQ_STATUS.flush_done).offer Ev.QUEUE_FLUSHED
        [q, (d.queued q).length, ((d.queuedEngine q).flatMap (·.eids)).length, 1]) d
  { d1 with jst := { d1.jst with
    qcfg := l
    last := [63, 63, 63, 63]
    credit := (List.range 64).map (fun q => match l[q]? with | some c => c.weight | none => 0) } }

/-- Channel plans and PLCA records (R208, R254); the accumulators of an unchanged plan stay. -/
def applyLinks (d : Dev) (x : CutImage) (p q : Nat) : Dev :=
  let d1 : Dev := { d with
    rad := d.rad.mapIdx (fun r (s : RadSt) =>
      let plan := (x.plans.find? (fun k => k.radio == r)).map (RadPlan.rescale p q)
      let prof := plan.bind (fun k => x.profilesR[k.profile]?)
      if s.plan = plan ∧ s.profile = prof then s
      else { s with
        plan := plan, profile := prof
        accs := match plan, prof with
          | some a, some f => newAccs a f
          | _, _ => [] })
    trk := d.trk.mapIdx (fun k (s : TrkSt) => { s with
      cfg := (x.trunks.find? (fun t => t.1 == k)).map (·.2)
      gates := match x.gates.find? (fun g => g.1 == k) with | some g => g.2.map (GateEntry.rescale p q) | none => [] }) }
  let d2 := (List.range 4).foldl (fun (d : Dev) r =>
    match (d.radAt r).plan with
    | some k => ((d.put (Reg.RAD_PLAN.max_psdu r) (maxPsdu k q)).put (Reg.RAD_PLAN.mode r) k.mode).put (Reg.RAD_PLAN.n_ch r) k.nCh
    | none => d.put (Reg.RAD_PLAN.word r) 0) d1
  (List.range 8).foldl (fun (d : Dev) t =>
    match (d.trkAt t).cfg with
    | some c => (((d.put (Reg.TRK_PLCA.to_timer t) c.toTimer).put (Reg.TRK_PLCA.node_count t) c.nodeCount).put
        (Reg.TRK_PLCA.max_bc t) c.maxBc).put (Reg.TRK_CYCLE.cycle_max_us t) (ceilDiv (cycleMaxTenths c) 10)
    | none => (d.put (Reg.TRK_PLCA.word t) 0).put (Reg.TRK_CYCLE.cycle_max_us t) 0) d2

/-- The CUT registers of the Cut List loaded (R103). -/
def showCut (d : Dev) (x : CutImage) (slot generation patches : Nat) (fallback skipped : Bool) : Dev :=
  let d1 := ((((((((((d.put Reg.CUT_STATUS.loaded 1).put Reg.CUT_STATUS.slot slot).putB Reg.CUT_STATUS.fallback fallback).putB
    Reg.CUT_STATUS.opt_skipped skipped).put Reg.CUT_ID_LO.word (bits x.header.cutId 31 0)).put Reg.CUT_ID_HI.word
    (bits x.header.cutId 63 32)).put Reg.CUT_GEN.word generation).put Reg.CUT_FORMAT.major x.header.major).put
    Reg.CUT_FORMAT.minor x.header.minor).put Reg.CUT_NODES.node_count x.units.nodeCount).put Reg.CUT_EDGES.slots x.edges.length
  (List.range 8).foldl (fun (d : Dev) i => d.put (Reg.CUT_HASH.word i) (fieldLE x.hash (4 * i) 4)) (d1.put Reg.CUT_PATCHES.count patches)

/-- GPIO output levels from the init bits (R519, R542), and the land functions (R520). -/
def applyPins (d : Dev) (l : List Nat) : Dev :=
  let init (a n : Nat) : Nat := sumOf ((List.range n).filter (fun i => bit (l.getD (a + i) 0) 6)) (fun i => 2 ^ i)
  (({ d with lnd := { d.lnd with pinmux := l } } : Dev).put Reg.SYS_GPIO_OUT_LO.word (init 0 32)).put Reg.SYS_GPIO_OUT_HI.word
    (init 32 10)

/-- Puts a Cut List into the node table, the edge store and every block (R91 steps 3 and 4, R33, R94, R110). `boot` is true at
boot step 7, where there is no Cut List before it. -/
def applyImage (d : Dev) (x : CutImage) (fb : Option Fallback) (skipped : List (Nat × Nat)) (slot : Nat) (boot : Bool) : Dev :=
  let code := match fb with | some f => f.period | none => x.beat.period
  let passes := match fb with | some f => f.passes | none => x.beat.passes
  let p := periodNs x.beat.period
  let q := periodNs code
  let nodes := x.nodes.map (NodeStat.rescale p q)
  let same := match d.cut.image with | some i => i.header.cutId == x.header.cutId | none => false
  let keep (scope id : Nat) : Bool := same && (if scope = 0 then (match nodes[id]? with | some s => s.drives | none => false)
    else if scope = 1 then id < x.groups.length else if scope = 2 then id < x.zones.length else true)
  let old := d.ledgerImage
  let d1 := d.clearOverrides keep (if boot then 0 else 1)
  let d2 : Dev := { d1 with
    cut := { d1.cut with image := some x }
    rft := { d1.rft with
      nodes := nodes.mapIdx (fun i s => nodeOf (if boot then none else d1.rft.nodes[i]?) s
        (if boot then 0 else match d1.rft.spareSeq.find? (fun x => x.1 == i) with | some x => x.2 | none => 0))
      spareSeq := if boot then [] else d1.rft.spareSeq.filter (fun x => nodes.length ≤ x.1) ++
        ((d1.rft.nodes.mapIdx (fun i n => (i, n.run.seq))).drop nodes.length)
      edges := x.edges.map (Edge.rescale p q), zones := x.zones.map (Zone.rescale p q), groups := x.groups
      profiles := x.profiles, exceptions := x.exceptions, matched := [], schedNoted := [], pCut := x.beat.period, pFb := code }
    evr := { d1.evr with limits := bucketsOf x.limits }
    pair := { d1.pair with cfg := x.pair } }
  let d3 := if boot then d2 else d2.moveLedger old
  let d4 := ((d3.applyQueues x.queues).applyLinks x p q).applyPins x.pinmux
  let d5 := (((d4.put Reg.BEAT_CFG.period code).put Reg.BEAT_SLEW_LIMIT.ppm x.beat.slewPpm).put Reg.BEAT_PASSES.passes_cfg passes).put
    Reg.BEAT_PASSES.passes_now passes
  let d6 := d5.lightLoad x.light (ownedStrings x.nodes)
  let d7 : Dev := { d6 with mtr := { d6.mtr with cfg := x.meter }, beat := { d6.beat with nextPasses := none } }
  (d7.engineReset (if boot then 0 else 1)).showCut x slot x.header.generation 0 fb.isSome (!skipped.isEmpty)

/-- The bytes that a copy moves: the payloads of NODES and EDGES without their 8 bytes of counts, and those of ZONES and SCHEDULES, as
the district's figures have them (R93). -/
def copyBytes (c : Bytes) : Nat :=
  let l := match checkSections c [] with | .ok l => l | .error _ => []
  let len (t : Nat) : Nat := match findSect l t with | some s => s.len | none => 0
  (len 3 - 8) + (len 4 - 8) + len 5 + len 6

/-- The HOLD copy is done: the sections are in place and the pointer record is committed (R91 steps 3 to 5, R92, R93). -/
def copyDone (d : Dev) : Dev :=
  match d.cut.load with
  | some run =>
    if run.phase ≠ .copying then d
    else
      let x := run.image
      let bytes := copyBytes run.container
      let d1 := (d.applyImage x run.fallback run.skipped run.slot false).meterStart
      let d2 := (d1.put Reg.CUT_COPY.copy_us (min 65535 (ceilDiv bytes (800 * max 1 d.lanes)))).commit
        (.cutPointer run.slot x.header.cutId x.header.generation x.hash 0)
      { d2 with
        cut := { d2.cut with load := some { run with phase := .leaving } }
        lin := { d2.lin with nextSafety := some x.safety } }
  | none => d

/-- The module replays a peer's beats: it enters and leaves HOLD with them (R97, R393). -/
def followsPeer (d : Dev) : Bool := d.pair.cfg.isSome && (d.sys.role == .standby || d.sys.role == .syncing)

/-- A full load enters HOLD (R91 step 2). -/
def enterHold (d : Dev) (run : LoadRun) : Dev :=
  (({ d with cut := { d.cut with load := some { run with phase := .copying, skippedSweeps := 1, back := d.sys.mstate } } } : Dev).put
    Reg.SYS_STATUS.hold_pending 0).goto .hold causeLoad

/-- A full load leaves HOLD with the new sections (R91 step 6, R96). -/
def leaveHold (d : Dev) (run : LoadRun) : Dev :=
  let fresh := d.sys.mstate = .unframed
  let d1 := (d.setSafety d.lin.nextSafety).goto run.back causeLoad
  let d2 := if fresh then d1.lightReady else d1
  let d3 : Dev := { d2 with
    cut := { d2.cut with load := none }
    beat := { d2.beat with nextPeriod := some (periodNs (d2.get Reg.BEAT_CFG.period)) } }
  ((((d3.put Reg.CUT_COPY.skipped (min 255 run.skippedSweeps)).put Reg.CUT_STATUS.load_busy 0).put Reg.CUT_STATUS.last_status
    run.status).offer Ev.LOAD_DONE [run.status, run.seq]).showBudget.judgeLedger

/-- A full load at a boundary: it enters HOLD (R91 step 2), or leaves it (step 6). A standby does both at the replay of the active's
control entries (R97). -/
def loadBoundary (d : Dev) : Dev :=
  match d.cut.load with
  | none => d
  | some run =>
    let set (d : Dev) (r : LoadRun) : Dev := { d with cut := { d.cut with load := some r } }
    match run.phase with
    | .storing => d
    | .waiting =>
      if d.sys.mstate = .unframed then (set d { run with phase := .copying }).put Reg.SYS_STATUS.hold_pending 0
      else if (d.servesAsActive || d.sys.mstate = .ready) && !d.followsPeer then
        (d.enterHold run).mirror (fun b => { b with controls := b.controls ++ [PairCtl.hold] })
      else d
    | .copying => if d.sys.mstate = .hold then set d { run with skippedSweeps := run.skippedSweeps + 1 } else d
    | .leaving =>
      if d.followsPeer && d.sys.mstate = .hold then d
      else (d.leaveHold run).mirror (fun b => { b with controls := b.controls ++ [PairCtl.effect] })

/-! ### Patches (R98-R101) -/

/-- The patch writes its nodes and edges (R98, R100, R110): pages and runtime areas stay, but for a node whose type changes; a
node that loses drives_light loses its override (R133). -/
def applyPatch (d : Dev) (x : PatchImage) : Dev :=
  let p := periodNs d.rft.pCut
  let q := periodNs d.rft.pFb
  let newStat (i : Nat) : Option NodeStat := (x.nodes.find? (fun r => r.1 == i)).map (fun r => r.2.rescale p q)
  let keep (scope id : Nat) : Bool := scope ≠ 0 || (match newStat id with
    | some s => s.drives
    | none => true)
  let d1 := d.clearOverrides keep 2
  let edges := (x.nodes.zip x.edges).foldl (fun (l : List Edge) (r, es) =>
    l.take r.2.firstEdge ++ (es.map (Edge.rescale p q) ++ List.replicate (r.2.edgeCap - es.length) ⟨0, 0, 0, 0, 0⟩) ++
      l.drop (r.2.firstEdge + r.2.edgeCap)) d1.rft.edges
  let d2 : Dev := { d1 with rft := { d1.rft with
    edges := edges
    nodes := d1.rft.nodes.mapIdx (fun i n => match newStat i with | some s => nodeOf (some n) s | none => n) } }
  { d2 with lgt := { d2.lgt with strings := d2.lgt.strings.mapIdx (fun k s =>
    { s with engine := d2.rft.nodes.any (fun n => n.stat.typ == 7 && n.stat.local_ == k) }) } }

/-- Starts a patch that has passed its checks: it is appended to the log (R99). -/
def startPatch (d : Dev) (c : Bytes) (a : Answer) : Dev × Nat :=
  match d.checkAPatch c with
  | (.error r, d1) => (d1.cutRefused r true a.seq, r.status)
  | (.ok x, d1) =>
    ((({ d1 with cut := { d1.cut with patch := some ⟨.logging, x, c, a, true, -(d.beat.sinceBase : Int), false⟩ } } : Dev).put Reg.CUT_STATUS.patch_busy 1).put
      Reg.CUT_STATUS.last_status ST_PENDING, ST_PENDING)

/-- The window of R100 is still to come in the beat in progress: the COMMIT of its sweep has not ended, or, in a beat without a sweep,
its deadline has not passed. Phase 3 of BEAT_STATUS tells a sweep that has ended. -/
def windowAhead (d : Dev) : Bool :=
  if d.rft.sweeping then true
  else if d.get Reg.BEAT_STATUS.phase = 3 then false
  else d.beat.sinceBase * 10 < 9 * d.beat.len

/-- The patch log holds the patch and the pointer record counts it (R99): the patch is ready. -/
def patchReady (d : Dev) (run : PatchRun) : Dev :=
  let slot := d.get Reg.CUT_STATUS.slot
  let log (s : Option NandSlot) : Option NandSlot := s.map (fun k => { k with patches := k.patches.take (d.get Reg.CUT_PATCHES.count) ++ [run.container] })
  let d1 : Dev := { d with cut := { d.cut with
    slot0 := if slot = 0 then log d.cut.slot0 else d.cut.slot0
    slot1 := if slot = 1 then log d.cut.slot1 else d.cut.slot1
    patch := some { run with phase := .ready, thisBeat := d.windowAhead } } }
  match d.cut.image with
  | some x => (d1.commit (.cutPointer slot x.header.cutId run.image.header.generation x.hash (d.get Reg.CUT_PATCHES.count + 1))).cutPassed
  | none => d1

/-- A ready patch at the window that ends the beat in progress (R100). -/
def patchWindow (d : Dev) : Dev :=
  match d.cut.patch with
  | some run =>
    if run.phase = .ready then
      (if run.thisBeat then { d with cut := { d.cut with patch := some { run with phase := .written } } }
       else d)
    else d
  | none => d

/-- Answers a CUT_PATCH, which a mirrored patch does not ask for; the response is recorded while its sequence is the last (R68,
R101). -/
def answerPatch (d : Dev) (a : Answer) (status : Nat) : Dev :=
  if a.seq = 0 && a.keyId = 0 then d
  else
    let x := d.maced { a with status := status }
    (match d.lastSeq a.keyId with
      | some (n, m, _, _) => if n = a.seq then d.recordSeq x m else d
      | none => d).send x

/-- A beat of `len` ns has passed for a CUT_PATCH that waits: after 10 ms it is answered ST_PENDING (R70, R101). -/
def patchWaits (d : Dev) (len : Nat) : Dev :=
  match d.cut.patch with
  | none => d
  | some run =>
    let w := run.waited + (len : Int)
    let late := !run.answered && 10000000 < w
    let d1 : Dev := { d with cut := { d.cut with patch := some { run with waited := w, answered := run.answered || late } } }
    if late then d1.answerPatch run.answer ST_PENDING else d1

/-- The patch at a boundary: a written one takes effect, with its event and its answer (R100, R101); a ready one may use the
window of the beat opened. -/
def patchBoundary (d : Dev) : Dev :=
  match d.cut.patch with
  | none => d
  | some run =>
    match run.phase with
    | .logging => d
    | .ready => { d with cut := { d.cut with patch := some { run with thisBeat := true } } }
    | .written =>
      let d1 := d.applyPatch run.image
      let g := run.image.header.generation
      let d2 := (((({ d1 with cut := { d1.cut with patch := none } } : Dev).put Reg.CUT_GEN.word g).bump Reg.CUT_PATCHES.count).put
        Reg.CUT_STATUS.patch_busy 0).put Reg.CUT_STATUS.last_status ST_OK
      let d3 := ((d2.offer Ev.PATCH_APPLIED [g, d.beat.count, run.answer.seq]).showBudget).mirror
        (fun b => { b with controls := b.controls ++ [PairCtl.patch run.container] })
      if run.answered then d3 else d3.answerPatch run.answer ST_OK

end Dev

/-! ### The commands -/

/-- Check 9 of CUT_STAGE (R88). -/
def cutStageArgsOk (p : Bytes) : Bool :=
  let a := stageArgs p
  8 ≤ p.length && a.target ≤ 1 && a.reset ≤ 1 && allZero (slice p 2 2) && a.data.length ≤ 8184 &&
    a.offset + a.data.length ≤ (if a.target = 0 then 33554432 else 1048576)

namespace Dev

/-- CUT_STAGE writes a chunk into its staging buffer (R88). -/
def cutStage (d : Dev) (p : Bytes) : Dev :=
  let a := stageArgs p
  if a.target = 0 then
    let m : Memory := if a.reset = 1 then [] else d.cut.stage
    let n := if a.reset = 1 then 0 else d.cut.stageLen
    let n' := max n (a.offset + a.data.length)
    ({ d with cut := { d.cut with stage := m.writeN a.offset a.data, stageLen := n' } } : Dev).put Reg.CUT_STAGE_FILL.bytes n'
  else
    let m : Memory := if a.reset = 1 then [] else d.cut.patchStage
    let n := if a.reset = 1 then 0 else d.cut.patchLen
    let n' := max n (a.offset + a.data.length)
    ({ d with cut := { d.cut with patchStage := m.writeN a.offset a.data, patchLen := n' } } : Dev).put Reg.CUT_PATCH_FILL.bytes n'

end Dev

def specCutStage : CmdSpec := ⟨cmdCutStage, fun _ p => cutStageArgsOk p, fun _ => false, fun d e => ⟨d.cutStage e.body, ST_OK, [], true⟩⟩

/-- CUT_STAGE (R88). -/
def execCutStage (t : Nat) (e : Envelope) (s : State) : Host.Outcome State Fault Refusal :=
  s.runAt t fun d => d.command specCutStage e

def specCutLoad : CmdSpec := ⟨cmdCutLoad, noArgs, fun _ => false, fun d e =>
  let r := d.startLoad (d.cut.stage.readN 0 d.cut.stageLen) e.seq
  ⟨r.1, r.2, [], true⟩⟩

/-- CUT_LOAD (R85-R91): checks 1 to 11, then ST_PENDING while the container is written to NAND. -/
def execCutLoad (t : Nat) (e : Envelope) (s : State) : Host.Outcome State Fault Refusal :=
  s.runAt t fun d => d.command specCutLoad e

def specCutPatch : CmdSpec := ⟨cmdCutPatch, noArgs, fun _ => false, fun d e =>
  let r := d.startPatch (d.cut.patchStage.readN 0 d.cut.patchLen) (Dev.answerTo e cmdCutPatch ST_OK)
  ⟨r.1, r.2, [], r.2 != ST_PENDING⟩⟩

/-- CUT_PATCH (R85, R98, R99, R101): checked at once; a patch that passes answers when it takes effect. -/
def execCutPatch (t : Nat) (e : Envelope) (s : State) : Host.Outcome State Fault Refusal :=
  s.runAt t fun d => d.command specCutPatch e

/-- CUT_LOAD_STORED (R85 check 12, R91 step 1, R97): the container stands in its NAND slot, or its read-back fails. -/
def execCutLoadStored (t : Nat) (good : Bool) (s : State) : Host.Outcome State Fault Refusal :=
  s.runAt t fun d =>
    match d.cut.load with
    | some run =>
      if run.phase ≠ .storing then d
      else if !good then
        (({ d with cut := { d.cut with load := none } } : Dev).put Reg.CUT_STATUS.load_busy 0).cutRefused ⟨12, ST_INTEGRITY, 0, 0⟩ false run.seq
      else
        let slot : Option NandSlot := some ⟨run.container, []⟩
        let d1 : Dev := { d with cut := { d.cut with
          slot0 := if run.slot = 0 then slot else d.cut.slot0
          slot1 := if run.slot = 1 then slot else d.cut.slot1
          load := some { run with phase := .waiting } } }
        let d2 := run.image.unknown.foldl (fun d k => d.offer Ev.SECTION_SKIPPED [k]) d1.cutPassed
        let d3 := run.skipped.foldl (fun d k => d.offer Ev.OPTIONAL_UNIT_SKIPPED [k.1, k.2]) d2
        let d4 := match run.fallback with | some f => d3.offer Ev.FALLBACK_IN_USE [f.lanes, f.period, f.passes] | none => d3
        (d4.put Reg.SYS_STATUS.hold_pending (if d.sys.mstate = .unframed then 0 else 1)).mirror
          (fun b => { b with controls := b.controls ++ [PairCtl.cutList run.container] })
    | none => d

/-- CUT_COPY_DONE (R91 steps 3 to 5): the copy completes. -/
def execCutCopyDone (t : Nat) (s : State) : Host.Outcome State Fault Refusal := s.runAt t fun d => d.copyDone

/-- PATCH_READY (R99, R85 check 12): the patch log and the pointer record are written, or the read-back fails. -/
def execPatchReady (t : Nat) (good : Bool) (s : State) : Host.Outcome State Fault Refusal :=
  s.runAt t fun d =>
    match d.cut.patch with
    | some run =>
      if run.phase ≠ .logging then d
      else if good then d.patchReady run
      else
        let d1 := (({ d with cut := { d.cut with patch := none } } : Dev).put Reg.CUT_STATUS.patch_busy 0).cutRefused
          ⟨12, ST_INTEGRITY, 0, 0⟩ true run.answer.seq
        if run.answered then d1 else d1.answerPatch run.answer ST_INTEGRITY
    | none => d

/-! ### OVERRIDE_C1 (R130) -/

namespace Dev

/-- Check 9 of OVERRIDE_C1 (R130). -/
def overrideArgsOk (d : Dev) (p : Bytes) : Bool :=
  let a := c1Args p
  p.length == 16 && (a.action == 1 || a.action == 2) && a.scope ≤ 3 && allZero (slice p 2 2) && allZero (slice p 10 2) &&
    (if a.scope = 0 then (match d.nodeAt a.id with | some n => n.stat.drives | none => false)
     else if a.scope = 1 then a.id < d.rft.groups.length
     else if a.scope = 2 then a.id < d.rft.zones.length
     else a.id == 0) &&
    a.level ≤ 1023 && (a.action == 1 || a.level == 0) && a.duration < 2 ^ 31

/-- OVERRIDE_C1 takes a place on the command path, and answers the beat of its effect (R125, R130). -/
def overrideC1 (d : Dev) (p : Bytes) : Done :=
  let a := c1Args p
  if d.cmdPathFull then ⟨d, ST_REFUSED_FULL, [], true⟩
  else
    let e : CmdEntry := if a.action = 1 then .c1Set a.scope a.id a.level (d.beat.count + 1) a.duration else .c1Clear a.scope a.id
    ⟨d.cmdEntry e, ST_OK, toLE 8 (d.beat.count + 1), true⟩

end Dev

def specOverrideC1 : CmdSpec := ⟨cmdOverrideC1, Dev.overrideArgsOk, fun _ => false, fun d e => d.overrideC1 e.body⟩

/-- OVERRIDE_C1_SET (R130). -/
def execOverrideC1Set (t : Nat) (e : Envelope) (s : State) : Host.Outcome State Fault Refusal :=
  s.runAt t fun d => d.command specOverrideC1 e

/-- OVERRIDE_C1_CLEAR (R130). -/
def execOverrideC1Clear (t : Nat) (e : Envelope) (s : State) : Host.Outcome State Fault Refusal :=
  s.runAt t fun d => d.command specOverrideC1 e

end Sys2Proof.Machine
end

