-- ==== Sys2Proof/Machine/Time.lean ====
section
/-! DEFINITION. Module time, PTP, PPS, pulse outputs, time-stamp queues and the RTC (R48-R53, R276-R301, R544). -/

namespace Sys2Proof.Machine

/-- The magnitude of a signed number. -/
def mag (i : Int) : Nat := i.natAbs

/-- A second in ns. -/
def nsPerSec : Nat := 1000000000

namespace Dev

/-! ### Slewing and corrections (R51, R281, R282) -/

/-- The part of the beat's correction that is applied at this instant (R51, R281). -/
def slewDone (d : Dev) : Int := d.beat.slewNow * (d.beat.sinceBase : Int) / ((max 1 d.beat.len : Nat) : Int)

/-- The correction still to slew at this instant (R300). -/
def slewLeft (d : Dev) : Int := d.beat.slew - d.slewDone

/-- Shows the correction still to slew (R283, R300). -/
def showSlew (d : Dev) : Dev :=
  ((d.put Reg.TIME_SLEW.word (satTwos 32 d.slewLeft)).putB Reg.TIME_STATUS.slewing (d.beat.slew != 0)).putB
    Reg.BEAT_STATUS.slewing (d.beat.slew != 0)

/-- Beats until a correction has slewed, at the present limit (R51, R283); what the beat in progress still applies of an earlier
slew is made up for. -/
def slewBeats (d : Dev) (corr : Int) : Nat := ceilDiv (mag (corr - (d.beat.slewNow - d.slewDone)) * 1000000) (d.get Reg.BEAT_SLEW_LIMIT.ppm * d.beat.period)

/-- The magnitude exceeds the jump threshold (R282). -/
def beyondThr (d : Dev) (corr : Int) : Bool := mag corr > d.get Reg.TIME_JUMP_THR.us * 1000

/-- Begins a correction by slewing, and refuses the jump when it exceeds the threshold (R282); sources 0 TIME_SET, 1 PTP, 2 PPS.
A correction that continues one already refused writes no further event. -/
def slewTo (d : Dev) (corr : Int) (source : Nat) (continues : Bool) : Dev :=
  let d1 := ({ d with beat := { d.beat with slew := corr + d.slewDone } } : Dev).showSlew
  if !d.beyondThr corr then d1
  else
    let d2 := d1.raise Reg.TIME_IRQ_STATUS.jump_refused
    if continues && d.beyondThr d.beat.slew then d2 else d2.offer Ev.JUMP_REFUSED [source, toTwos 64 corr, d.slewBeats corr]

/-! ### Quality and the mapping record (R279, R280) -/

/-- Ticks of the RTC at this instant (R293). The calendar's seconds bring the count to whole seconds; between them the spec gives
no figure, so the count advances by a free number of ticks within the second. -/
def rtcTicks (d : Dev) : Nat × Dev :=
  if !d.rtc.counting then (d.rtc.ticks, d)
  else
    let f := d.fresh
    let n := d.rtc.ticks + f.1 % (32768 - d.rtc.ticks % 32768)
    (n, { f.2 with rtc := { f.2.rtc with ticks := n } })

/-- A mapping record of this instant (R280). -/
def mapRecord (d : Dev) : Dev :=
  if d.sys.mstate = .off || d.sys.mstate = .failsafe || !d.sil.mounted then d
  else
    let r := d.rtcTicks
    r.2.journal .safety (.rtcMap r.1 r.2.nowSec (r.2.now % nsPerSec))

def quality (d : Dev) : Nat := d.get Reg.TIME_STATUS.quality

/-- A change of quality, with its mapping record (R279, R280). -/
def setQuality (d : Dev) (q : Nat) : Dev := if d.quality = q then d else (d.put Reg.TIME_STATUS.quality q).mapRecord

/-- utc_offset changes (R277); causes 0 PTP, 1 command, 2 leap second. -/
def setUtc (d : Dev) (v : Int) (cause : Nat) : Dev :=
  if d.tim.utcOffset = v then d
  else (({ d with tim := { d.tim with utcOffset := v } } : Dev).put Reg.TIME_UTC.utc_offset (toTwos 16 v)).offer Ev.UTC_OFFSET_CHANGE
    [toTwos 16 d.tim.utcOffset, toTwos 16 v, cause]

/-- A step of module time is decided; it waits for the step boundary (R52, R282). DESIGN CHOICE (notes/assumptions/49): the spec does
not say which of two steps decided within one beat is applied at its boundary; the later one replaces the earlier. -/
def decideStep (d : Dev) (r : StepReq) : Dev := { d with beat := { d.beat with step := some r } }

/-! ### TIME_SET and FORCE_TIME (R283, R544) -/

/-- The correction a payload asks for at this instant, ns. -/
def askedCorrection (d : Dev) (a : TimeArgs) : Int :=
  if a.absolute then ((a.value * nsPerSec + a.ns : Nat) : Int) - (d.now : Int) else sext 64 a.value

/-- Check 9 of TIME_SET and FORCE_TIME (R282, R544). -/
def timeArgsOk (d : Dev) (p : Bytes) : Bool :=
  let a := timeArgs p
  let target : Int := (d.now : Int) + d.askedCorrection a
  p.length == 16 && (byteAt p 0 == 1 || byteAt p 0 == 2) && byteAt p 1 ≤ 1 && (a.setUtc || a.utcOffset == 0) &&
    (if a.absolute then a.value < 2 ^ 48 && a.ns < nsPerSec else a.ns == 0) &&
    decide (0 ≤ target) && decide (target < ((2 ^ 48 * nsPerSec : Nat) : Int))

/-- The result bytes: the correction and the beats of a slew (R283). -/
def timeResult (corr : Int) (beats : Nat) : Bytes := toLE 8 (toTwos 64 corr) ++ toLE 4 beats

/-- The step a payload asks for. -/
def stepOf (a : TimeArgs) (utc : Option Int) : StepReq :=
  ⟨a.absolute, if a.absolute then ((a.value * nsPerSec + a.ns : Nat) : Int) else sext 64 a.value, utc, true, true⟩

/-- TIME_SET, row by row (R283). -/
def timeSet (d : Dev) (e : Envelope) : Done :=
  let a := timeArgs e.body
  let corr := d.askedCorrection a
  if d.beat.source = .ptp then ⟨d.illegalEvent e cmdTimeSet, ST_ILLEGAL_STATE, [], true⟩
  else
    let d1 := if a.setUtc then d.setUtc a.utcOffset 1 else d
    if d.quality ≤ 1 then ⟨(d1.decideStep (stepOf a none)).setQuality 2, ST_OK, timeResult corr 0, true⟩
    else ⟨d1.slewTo corr 0 false, if d.beyondThr corr then ST_JUMP_REFUSED else ST_OK, timeResult corr (d.slewBeats corr), true⟩

/-- FORCE_TIME, row by row (R283). -/
def forceTime (d : Dev) (e : Envelope) : Done :=
  let a := timeArgs e.body
  if d.beat.source = .ptp then ⟨d.illegalEvent e cmdForceTime, ST_ILLEGAL_STATE, [], true⟩
  else
    let d1 := d.decideStep (stepOf a (if a.setUtc then some a.utcOffset else none))
    ⟨if d.quality ≤ 1 then d1.setQuality 2 else d1, ST_OK, timeResult (d.askedCorrection a) 0, true⟩

/-! ### PPS (R48-R50, R291) -/

/-- Module time against the nearest second boundary, ns in −0.5…+0.5 s; positive when module time is ahead. -/
def secondOffset (d : Dev) : Int :=
  let r := d.now % nsPerSec
  if r < 500000000 then (r : Int) else (r : Int) - (nsPerSec : Int)

/-- A frequency adjustment that the engine chooses: the spec gives its bound alone, ±200 ppm (R276). -/
def disciplineFreq (d : Dev) : Dev :=
  let f := d.fresh
  f.2.put Reg.TIME_FREQ.word (toTwos 32 ((f.1 % 400001 : Nat) - 200000 : Int))

/-- PPS may serve as the phase source: edges are accepted under R49 and PPS has not been stopped (R48, R49). -/
def ppsServes (d : Dev) : Bool := d.beat.ppsUsable && 0 < d.beat.ppsAccepted

/-- The phase source gives way: PTP while it is locked, otherwise PPS_IN, otherwise the crystal, from which module time then runs on
(R48, R279). -/
def loseSource (d : Dev) : Dev :=
  let next : BeatSource := if d.flag Reg.TIME_STATUS.locked then .ptp else if d.ppsServes then .pps else .crystal
  let d1 : Dev := { d with beat := { d.beat with nextSource := some next } }
  if next = .crystal then d1.setQuality 2 else d1

/-- An edge accepted under R49. -/
def ppsAccept (d : Dev) (off : Int) : Dev :=
  let n := d.beat.ppsAccepted + 1
  let usable := d.beat.ppsUsable || 8 ≤ n
  let d1 := (({ d with beat := { d.beat with ppsRejected := 0, ppsAccepted := n, ppsUsable := usable } } : Dev).bump
    Reg.BEAT_PPS_CNT.accepted).putB Reg.TIME_STATUS.pps_ok usable
  let d1 := d1.put Reg.BEAT_PHASE_ERR.word (satTwos 32 (-off))
  if !usable || d.flag Reg.TIME_STATUS.locked then d1
  else
    let d2 := d1.disciplineFreq.slewTo (-off) 2 (d.beat.slew != 0)
    if d.beat.source = .pps then d2 else { d2 with beat := { d2.beat with nextSource := some .pps } }

/-- An edge rejected under R49. -/
def ppsReject (d : Dev) (off : Int) : Dev :=
  let n := d.beat.ppsRejected + 1
  let d1 := ((({ d with beat := { d.beat with ppsRejected := n, ppsAccepted := 0 } } : Dev).bump Reg.BEAT_PPS_CNT.rejected).raise
    Reg.BEAT_IRQ_STATUS.pps_reject).offer Ev.PPS_REJECT [toTwos 32 off]
  if n ≠ 8 || !d.beat.ppsUsable then d1
  else
    let d2 := ({ d1 with beat := { d1.beat with ppsUsable := false } } : Dev).putB Reg.TIME_STATUS.pps_ok false
    if d.beat.source = .pps || d.beat.nextSource = some .pps then d2.loseSource else d2

/-- The mean of a list of offsets, rounded down. -/
def meanOf (l : List Int) : Int := l.foldl (· + ·) 0 / (l.length : Int)

/-- Measurement towards acquisition while PPS is not the source (R50). -/
def ppsMeasure (d : Dev) (off : Int) : Dev :=
  let l := (off :: d.beat.ppsOffsets).take 8
  let d1 : Dev := { d with beat := { d.beat with ppsOffsets := l } }
  let agree := l.all (fun a => l.all (fun b => mag (a - b) ≤ 50000))
  if d.flag Reg.TIME_STATUS.locked || l.length < 8 || !agree then d1
  else
    let m := meanOf l
    let d2 := (({ d1 with beat := { d1.beat with ppsOffsets := [], ppsUsable := true, ppsRejected := 0 } } : Dev).putB
      Reg.TIME_STATUS.pps_ok true).offer Ev.PPS_ACQUIRED [toTwos 32 m]
    if d.quality ≤ 1 then d2.decideStep ⟨false, -m, none, false, true⟩ else d2.slewTo (-m) 2 false

/-- A PPS_IN edge (R49, R50). -/
def ppsEdge (d : Dev) : Dev :=
  if !d.beat.running || !d.alwaysDedicated [40] || d.sys.mstate = .failsafe then d
  else
    let off := d.secondOffset
    let d1 := if mag off ≤ 50000 then d.ppsAccept off else d.ppsReject off
    if d.beat.source = .pps then { d1 with beat := { d1.beat with ppsOffsets := [] } } else d1.ppsMeasure off

/-! ### PTP (R284, R285) -/

/-- The fields of a data set in the order of the default comparison, lower better (IEEE 1588-2019, named by R284). -/
def dataSetCode (x : PtpDataSet) : Nat :=
  ((((x.priority1 * 256 + x.clockClass) * 256 + x.accuracy) * 65536 + x.variance) * 256 + x.priority2) * 2 ^ 64 + x.identity

/-- The module's own data set; accuracy and variance are those of IEEE 1588 for an unknown clock (notes/assumptions/32). -/
def ownDataSet (d : Dev) : PtpDataSet :=
  ⟨d.get Reg.TIME_PTP_PRIO.priority1, d.get Reg.TIME_PTP_PRIO.clock_class, 0xFE, 0xFFFF, d.get Reg.TIME_PTP_PRIO.priority2,
    Config.baseMac, d.tim.utcOffset, d.quality ≥ 2, d.flag Reg.TIME_UTC.leap61, d.flag Reg.TIME_UTC.leap59⟩

/-- The port takes part in PTP. -/
def ptpEnabled (d : Dev) (p : Nat) : Bool := d.flag Reg.TIME_PTP_CFG.enable && bit (d.get Reg.TIME_PTP_PORTS.ports) p

/-- Shows the port states (R300). -/
def showPtp (d : Dev) : Dev := d.put Reg.TIME_PTP_STATE.states (sumOf (d.tim.ptp.zipIdx) (fun (p, i) => p.state * 8 ^ i))

def setPtp (d : Dev) (p : Nat) (f : PtpPort → PtpPort) : Dev := { d with tim := { d.tim with ptp := modifyAt d.tim.ptp p f } }

/-- PTP loses lock (R285, R279); causes 0 announce timeout, 1 the port left SLAVE, 2 no valid Sync. -/
def ptpUnlock (d : Dev) (port cause : Nat) : Dev :=
  if d.tim.lockedPort ≠ some port then d
  else
    let d1 := (((({ d with tim := { d.tim with lockedPort := none } } : Dev).put Reg.TIME_STATUS.locked 0).put
      Reg.TIME_STATUS.in_tol 0).raise Reg.TIME_IRQ_STATUS.unlock).offer Ev.PTP_UNLOCKED [port, cause]
    d1.loseSource

/-- The best data set received, with its port (BMCA). -/
def bestParent (d : Dev) : Option (Nat × PtpDataSet) :=
  ((d.tim.ptp.zipIdx).filterMap (fun (p, i) => p.parent.map (fun x => (i, x)))).foldl (fun b x =>
    match b with
    | none => some x
    | some y => if dataSetCode x.2 < dataSetCode y.2 then some x else some y) none

/-- The state a port takes by the default state decision (IEEE 1588-2019, named by R284). -/
def bmcaState (d : Dev) (i : Nat) (p : PtpPort) : Nat :=
  let own := d.ownDataSet
  let slaveOnly := d.flag Reg.TIME_PTP_CFG.slave_only
  let master := if slaveOnly then 1 else 2
  if !d.ptpEnabled i then 0
  else match d.bestParent with
    | none => if p.state = 0 then 1 else if p.state = 2 || p.state = 1 then p.state else master
    | some (b, x) =>
      let ownBest := !slaveOnly && dataSetCode own < dataSetCode x
      if ownBest && (own.clockClass > 127 || p.parent.all (fun y => dataSetCode own < dataSetCode y)) then master
      else if ownBest || (own.clockClass ≤ 127 && !slaveOnly) then 3
      else if i = b then (if p.state = 5 then 5 else 4)
      else match p.parent with
        | some y => if y.identity = x.identity then 3 else master
        | none => master

/-- The grandmaster shown (R285, R300). -/
def showGm (d : Dev) (g : Nat) : Dev :=
  if d.tim.gm = g then d
  else ((({ d with tim := { d.tim with gm := g } } : Dev).put Reg.TIME_PTP_GM_LO.word (bits g 31 0)).put Reg.TIME_PTP_GM_HI.word
    (bits g 63 32)).offer Ev.GM_CHANGE [bits d.tim.gm 31 0, bits g 31 0]

/-- Runs the BMCA over every port: a port that leaves SLAVE unlocks PTP. -/
def bmca (d : Dev) : Dev :=
  let ptp := d.tim.ptp.mapIdx (fun i p =>
    let st := d.bmcaState i p
    if st = p.state then p
    else if st = 0 then ({ p with state := 0, parent := none, lastSync := none, delay := none, measured := 0 } : PtpPort)
    else if st = 4 || st = 5 then { p with state := st }
    else { p with state := st, lastSync := none, delay := none, measured := 0 })
  let d1 : Dev := { d with tim := { d.tim with ptp := ptp } }
  let d2 := match d.tim.lockedPort with
    | some p => if (ptp[p]?).any (fun x : PtpPort => x.state == 5) then d1 else d1.ptpUnlock p 1
    | none => d1
  let gm := match d2.bestParent with
    | some (_, x) => if d2.tim.ptp.any (fun p => p.state == 4 || p.state == 5) then x.identity
        else if d2.flag Reg.TIME_PTP_CFG.enable then Config.baseMac else 0
    | none => if d2.tim.ptp.any (fun p => p.state == 2) then Config.baseMac else d2.tim.gm
  (d2.showGm gm).showPtp

/-- A parent's UTC offset and leap flags, while PTP is locked (R277). -/
def takeUtc (d : Dev) (port : Nat) : Dev :=
  match (d.tim.ptp[port]?).bind (·.parent) with
  | some x =>
    if d.tim.lockedPort ≠ some port then d
    else
      let d1 := if x.utcValid then d.setUtc x.utcOffset 0 else d
      ((d1.putB Reg.TIME_UTC.leap61 x.leap61).putB Reg.TIME_UTC.leap59 x.leap59).putB Reg.TIME_STATUS.leap_pending (x.leap61 || x.leap59)
  | none => d

/-- A Sync offset measurement with the path delay known (R285): lock at the eighth, and discipline while locked. -/
def ptpMeasure (d : Dev) (port : Nat) (off : Int) : Dev :=
  let n := (match d.tim.ptp[port]? with | some p => p.measured | none => 0) + 1
  let d1 := (d.setPtp port (fun p => { p with state := 5, measured := n, measuredAt := d.now })).showPtp.put Reg.TIME_PTP_OFFSET.word (satTwos 32 off)
  let tol := mag off ≤ d.get Reg.TIME_PTP_LOCK.lock_ns
  if d.tim.lockedPort = some port then
    ((d1.putB Reg.TIME_STATUS.in_tol tol).put Reg.BEAT_PHASE_ERR.word (satTwos 32 (-off))).disciplineFreq.slewTo (-off) 1
      (d.beat.slew != 0)
  else if n < 8 || d.tim.lockedPort.isSome then d1
  else
    let low := d.quality ≤ 1
    let d2 := ((((({ d1 with tim := { d1.tim with lockedPort := some port }, beat := { d1.beat with nextSource := some .ptp } } : Dev).put
      Reg.TIME_STATUS.locked 1).putB Reg.TIME_STATUS.in_tol tol).raise Reg.TIME_IRQ_STATUS.lock).offer Ev.PTP_LOCKED
        [port, d1.tim.gm, toTwos 32 off]).setQuality 4
    let d3 := (d2.takeUtc port).put Reg.BEAT_PHASE_ERR.word (satTwos 32 (-off))
    if low && d.beyondThr off then d3.decideStep ⟨false, -off, none, false, true⟩ else (d3.disciplineFreq).slewTo (-off) 1 false

/-- A PTP message on an enabled port (R284, R285). -/
def ptpRx (d : Dev) (port : Nat) (m : PtpMsg) : Dev :=
  if (port < 8 && d.plcaRole port != 1) || !d.ptpEnabled port || !d.beat.running || d.sys.mstate = .failsafe then d
  else match m with
    | .announce x => ((d.setPtp port (fun p => { p with parent := some x, announcedAt := d.now })).bmca).takeUtc port
    | .sync t1 t2 =>
      match d.tim.ptp[port]? with
      | some p =>
        if p.state ≠ 4 && p.state ≠ 5 then d
        else
          let d1 := d.setPtp port (fun p => { p with lastSync := some (t1, t2) })
          match p.delay with
          | some k => d1.ptpMeasure port ((t2 : Int) - (t1 : Int) - k)
          | none => d1
      | none => d
    | .delayResp t3 t4 =>
      match d.tim.ptp[port]? with
      | some p =>
        if p.state ≠ 4 && p.state ≠ 5 then d
        else if d.flag Reg.TIME_PTP_CFG.p2p then d.setPtp port (fun p => { p with delay := some (((t4 : Int) - (t3 : Int)) / 2) })
        else match p.lastSync with
          | some (t1, t2) =>
            d.setPtp port (fun p => { p with delay := some ((((t2 : Int) - (t1 : Int)) + ((t4 : Int) - (t3 : Int))) / 2) })
          | none => d
      | none => d

/-- The port may send the message (R284): none on a follower trunk. -/
def ptpMaySend (d : Dev) (port : Nat) (k : PtpKind) : Bool :=
  let st := match d.tim.ptp[port]? with | some p => p.state | none => 0
  d.ptpEnabled port && d.plcaRole port != 3 && (match k with
    | .announce => st == 2
    | .sync => st == 2
    | .followUp => st == 2
    | .delayReq => (st == 4 || st == 5) && !d.flag Reg.TIME_PTP_CFG.p2p
    | .pdelayReq => d.flag Reg.TIME_PTP_CFG.p2p
    | .pdelayResp => d.flag Reg.TIME_PTP_CFG.p2p)

end Dev

/-- The number of a PTP message kind in the state. -/
def ptpCode : PtpKind → Nat
  | .announce => 0 | .sync => 1 | .followUp => 2 | .delayReq => 3 | .pdelayReq => 4 | .pdelayResp => 5

namespace Dev

/-! ### Pulse outputs (R291, R292) -/

def tpoAt (d : Dev) (k : Nat) : Tpo := d.tim.tpo.getD k ⟨0, 0, 0, 0, false, false, false, false, false, 0⟩

def setTpo (d : Dev) (k : Nat) (f : Tpo → Tpo) : Dev := { d with tim := { d.tim with tpo := modifyAt d.tim.tpo k f } }

/-- The start instant, with the seconds above 32 bits those of the present (R292). -/
def tpoStart (d : Dev) (x : Tpo) : Nat := ((d.nowSec / 2 ^ 32) * 2 ^ 32 + x.startSec) * nsPerSec + x.startNs

/-- Arming checks the rules of R292. -/
def tpoArm (d : Dev) (k : Nat) : Dev :=
  let x := d.tpoAt k
  let ok := 4 ≤ x.width && x.period % 4 = 0 && x.period ≤ 4294967292 && (x.period = 0 || x.width < x.period)
  if !ok then d.setTpo k (fun x => { x with armed := false, bad := true })
  else
    let past := x.period = 0 && d.tpoStart x < d.now
    d.setTpo k (fun x => { x with armed := true, bad := false, late := x.late || past, pulsing := x.pulsing || past, rose := if past then d.now else x.rose })

/-! ### The RTC (R293-R298) -/

/-- An RTC event; none can be written in OFF. -/
def rtcEvent (d : Dev) (e : EvCode) (args : List Nat) : Dev := if d.sys.mstate = .off then d else d.offer e args

/-- The tick alarm fires (R297). -/
def tickFire (d : Dev) : Dev :=
  if d.rtc.talmArmed && d.rtc.talmTarget ≤ d.rtc.ticks then
    ((({ d with rtc := { d.rtc with talmArmed := false } } : Dev).put ⟨Reg.RTC_TALM_HI.word.key, 31, 31⟩ 0).raise
      Reg.RTC_IRQ_STATUS.talm).rtcEvent Ev.TICK_ALARM [d.rtc.talmTarget]
  else d

end Dev

/-- A calendar value (R295). -/
structure Cal where
  second : Nat
  minute : Nat
  hour : Nat
  weekday : Nat
  day : Nat
  month : Nat
  year : Nat
deriving DecidableEq, Repr

/-- Length of a month by the two-digit year (R296). -/
def calMonth (m y : Nat) : Nat :=
  if m = 2 then (if y % 4 = 0 then 29 else 28) else if m = 4 || m = 6 || m = 9 || m = 11 then 30 else 31

/-- One second's advance (R296). -/
def Cal.tick (c : Cal) : Cal :=
  if c.second < 59 then { c with second := c.second + 1 }
  else if c.minute < 59 then { c with second := 0, minute := c.minute + 1 }
  else if c.hour < 23 then { c with second := 0, minute := 0, hour := c.hour + 1 }
  else
    let c1 : Cal := { c with second := 0, minute := 0, hour := 0, weekday := if c.weekday ≤ 5 then c.weekday + 1 else 0 }
    if c.day < calMonth c.month c.year then { c1 with day := c.day + 1 }
    else if c.month < 12 then { c1 with day := 1, month := c.month + 1 }
    else { c1 with day := 1, month := 1, year := if c.year < 99 then c.year + 1 else 0 }

/-- The order of R297: year, month, day, hour, minute, second. -/
def Cal.order (c : Cal) : Nat := ((((c.year * 16 + c.month) * 32 + c.day) * 32 + c.hour) * 64 + c.minute) * 64 + c.second

namespace Dev

def calNow (d : Dev) : Cal :=
  ⟨d.get Reg.RTC_CAL_TIME.second, d.get Reg.RTC_CAL_TIME.minute, d.get Reg.RTC_CAL_TIME.hour, d.get Reg.RTC_CAL_TIME.weekday,
    d.get Reg.RTC_CAL_DATE.day, d.get Reg.RTC_CAL_DATE.month, d.get Reg.RTC_CAL_DATE.year⟩

def calStaged (d : Dev) : Cal :=
  ⟨d.get Reg.RTC_CAL_SET_TIME.second, d.get Reg.RTC_CAL_SET_TIME.minute, d.get Reg.RTC_CAL_SET_TIME.hour,
    d.get Reg.RTC_CAL_SET_TIME.weekday, d.get Reg.RTC_CAL_SET_DATE.day, d.get Reg.RTC_CAL_SET_DATE.month,
    d.get Reg.RTC_CAL_SET_DATE.year⟩

def putCal (d : Dev) (c : Cal) : Dev :=
  ((((((d.put Reg.RTC_CAL_TIME.second c.second).put Reg.RTC_CAL_TIME.minute c.minute).put Reg.RTC_CAL_TIME.hour c.hour).put
    Reg.RTC_CAL_TIME.weekday c.weekday).put Reg.RTC_CAL_DATE.day c.day).put Reg.RTC_CAL_DATE.month c.month).put
    Reg.RTC_CAL_DATE.year c.year

/-- The registers of a calendar alarm: enable, time mask and match, date mask and match (R301). -/
def almRegs (n : Nat) : Fld × Fld × Fld × Fld × Fld :=
  if n = 0 then (Reg.RTC_ALM0_DATE.enable, Reg.RTC_ALM0_TIME.mask, Reg.RTC_ALM0_TIME.match, Reg.RTC_ALM0_DATE.mask, Reg.RTC_ALM0_DATE.match)
  else (Reg.RTC_ALM1_DATE.enable, Reg.RTC_ALM1_TIME.mask, Reg.RTC_ALM1_TIME.match, Reg.RTC_ALM1_DATE.mask, Reg.RTC_ALM1_DATE.match)

/-- The unmasked fields of a calendar alarm equal a value of the calendar (R297). -/
def almMatches (d : Dev) (c : Cal) (n : Nat) : Bool :=
  let r := almRegs n
  let tm := d.get r.2.2.1
  let dm := d.get r.2.2.2.2
  let mt := d.get r.2.1
  let md := d.get r.2.2.2.1
  d.flag r.1 && (bit mt 0 || bits tm 5 0 == c.second) && (bit mt 1 || bits tm 11 6 == c.minute) &&
    (bit mt 2 || bits tm 19 15 == c.hour) && (bit mt 3 || bits tm 22 20 == c.weekday) &&
    (bit md 0 || bits dm 4 0 == c.day) && (bit md 1 || bits dm 8 5 == c.month) && (bit md 2 || bits dm 15 9 == c.year)

/-- The calendar before a load of this cycle, if there was one (R295). -/
def calBefore (d : Dev) : Option Cal :=
  match d.cyc.calWas with | [a, b, c, e, f, g, h] => some ⟨a, b, c, e, f, g, h⟩ | _ => none

/-- A second of the calendar (R296, R297): the tick count reaches the next whole second. A load in the same cycle acts after it
(R295). -/
def calSecond (d : Dev) : Dev :=
  if !d.rtc.counting then d
  else
    let next := (d.calBefore.getD d.calNow).tick
    let d0 : Dev := { d with rtc := { d.rtc with ticks := (d.rtc.ticks / 32768 + 1) * 32768 % 2 ^ 48 } }
    let d1 := if d.calBefore.isSome then d0 else d0.putCal next
    let d2 := (List.range 2).foldl (fun (d : Dev) n =>
      if d.almMatches next n then
        (d.raise (if n = 0 then Reg.RTC_IRQ_STATUS.alm0 else Reg.RTC_IRQ_STATUS.alm1)).rtcEvent Ev.ALARM [n]
      else d) d1
    d2.tickFire

/-- The staged calendar value is loaded (R295, R297). -/
def calLoad (d : Dev) (master : Nat) : Dev :=
  let w := d.calNow
  let next := w.tick
  let c := d.calStaged
  let d0 : Dev := { d with cyc := { d.cyc with calWas :=
    if d.cyc.calWas.isEmpty then [w.second, w.minute, w.hour, w.weekday, w.day, w.month, w.year] else d.cyc.calWas } }
  let d1 := (d0.putCal c).rtcEvent Ev.CAL_WRITTEN [master]
  if c.order ≤ next.order then d1
  else (List.range 2).foldl (fun (d : Dev) n =>
    if d.flag (almRegs n).1 then
      (d.raise (if n = 0 then Reg.RTC_IRQ_STATUS.alm0_mayskip else Reg.RTC_IRQ_STATUS.alm1_mayskip)).rtcEvent Ev.ALARM_MAYSKIP
        [n, next.order, c.order]
    else d) d1

/-- The curve at a temperature in °C, in 0.001 ppm: linear between points 10 °C apart, the end points beyond (R294). -/
def curveAt (d : Dev) (temp : Int) : Int :=
  let p (i : Nat) : Int := d.rtc.curve.getD i 0
  if temp ≤ -40 then 10 * p 0
  else if temp ≥ 110 then 10 * p 15
  else
    let k := (temp + 40).toNat
    10 * p (k / 10) + (p (k / 10 + 1) - p (k / 10)) * ((k % 10 : Nat) : Int)

/-- An 8 s boundary of the compensation (R294): whole cycles are swallowed, or added to the count. -/
def compTick (d : Dev) (temp : Int) : Dev :=
  if !d.rtc.counting then d
  else
    let acc := d.rtc.frac + d.curveAt temp * (262144 * 65536) / 1000000000
    let whole := max (-64) (min 64 (acc / 65536))
    let frac := acc % 65536
    let added := (-whole).toNat
    ((((({ d with rtc := { d.rtc with frac := frac, ticks := (d.rtc.ticks + added) % 2 ^ 48 } } : Dev).put Reg.RTC_STATUS.temp
      (toTwos 8 temp)).put Reg.RTC_COMP_STATE.last (toTwos 8 whole)).put Reg.RTC_COMP_STATE.acc_frac (toTwos 16 frac))).tickFire

/-- The registers of the RTC at their values after loss of retention (R298, R301). -/
def rtcClear (d : Dev) : Dev :=
  -- RTC_VALID set by a write of this very cycle stays set (R35)
  let keep := d.regs.filter (fun e => !((0x080000 ≤ e.1 && e.1 < 0x090000) || e.1 == Reg.BST_EARLY.word.key) ||
    (e.1 == Reg.RTC_VALID.word.key && d.raisedNow Reg.RTC_VALID.word != 0))
  let d1 : Dev := { d with
    regs := keep
    rtc := { d.rtc with ticks := 0, curve := List.replicate 16 0, frac := 0, talmTarget := 0, talmArmed := false, posted := [], lostOwed := true } }
  (((((((((d1.put Reg.RTC_CAL_DATE.month 1).put Reg.RTC_CAL_DATE.day 1).put Reg.RTC_CAL_SET_DATE.month 1).put
    Reg.RTC_CAL_SET_DATE.day 1).put Reg.RTC_ALM0_TIME.mask 0xF).put Reg.RTC_ALM1_TIME.mask 0xF).put Reg.RTC_ALM0_DATE.mask 7).put
    Reg.RTC_ALM1_DATE.mask 7).raise Reg.RTC_IRQ_STATUS.lost).put Reg.RTC_STATUS.on_vbat (d.get Reg.RTC_STATUS.on_vbat)

end Dev

/-! ### The commands -/

def specTimeSet : CmdSpec := ⟨cmdTimeSet, Dev.timeArgsOk, fun _ => false, fun d e => d.timeSet e⟩
def specForceTime : CmdSpec := ⟨cmdForceTime, Dev.timeArgsOk, fun _ => false, fun d e => d.forceTime e⟩

/-- TIME_SET (R282, R283, R544). -/
def execTimeSet (t : Nat) (e : Envelope) (s : State) : Host.Outcome State Fault Refusal := s.runAt t fun d => d.command specTimeSet e

/-- FORCE_TIME (R282, R283, R544). -/
def execForceTime (t : Nat) (e : Envelope) (s : State) : Host.Outcome State Fault Refusal := s.runAt t fun d => d.command specForceTime e

/-- PPS_EDGE (R49, R50). -/
def execPpsEdge (t : Nat) (s : State) : Host.Outcome State Fault Refusal := s.runAt t fun d => d.ppsEdge

/-- PTP_MESSAGE_RX (R284, R285). -/
def execPtpMessageRx (t : Nat) (port : Fin 10) (m : PtpMsg) (s : State) : Host.Outcome State Fault Refusal :=
  s.runAt t fun d => d.ptpRx port.val m

/-- PTP_MESSAGE_TX (R284): the message waits in the port for gate bit 2. -/
def execPtpMessageTx (t : Nat) (port : Fin 10) (k : PtpKind) (s : State) : Host.Outcome State Fault Refusal :=
  s.runAt t fun d => if d.ptpMaySend port.val k then d.setTrk port.val (fun x => { x with ptpOut := x.ptpOut ++ [ptpCode k] }) else d

/-- A PTP interval of so many periods of 2^log s has passed since an instant of module time (R284, R285). -/
def Dev.ptpOver (d : Dev) (since n : Nat) (log : Int) : Bool :=
  (since + n * (if 0 ≤ log then nsPerSec * 2 ^ log.toNat else nsPerSec / 2 ^ (-log).toNat)) ≤ d.now

/-- PTP_ANNOUNCE_TIMEOUT (R285): announceReceiptTimeout intervals have passed without an Announce, and the parent of the port is
gone. -/
def execPtpAnnounceTimeout (t : Nat) (port : Fin 10) (s : State) : Host.Outcome State Fault Refusal :=
  s.runAt t fun d =>
    if !d.ptpEnabled port.val || !(match d.tim.ptp[port.val]? with
        | some p => d.ptpOver p.announcedAt (d.get Reg.TIME_PTP_INTV.ann_timeout) (sext 4 (d.get Reg.TIME_PTP_INTV.log_announce))
        | none => false) then d
    else
      let d1 := (d.ptpUnlock port.val 0).setPtp port.val (fun p => { p with
        parent := none, lastSync := none, delay := none, measured := 0
        state := if d.flag Reg.TIME_PTP_CFG.slave_only then 1 else 2 })
      d1.bmca

/-- PTP_SYNC_TIMEOUT (R285): 8 Sync intervals without a valid measurement. -/
def execPtpSyncTimeout (t : Nat) (port : Fin 10) (s : State) : Host.Outcome State Fault Refusal :=
  s.runAt t fun d =>
    if (d.tim.ptp[port.val]?).any (fun p => d.ptpOver p.measuredAt 8 (sext 4 (d.get Reg.TIME_PTP_INTV.log_sync))) then
      (d.ptpUnlock port.val 2).setPtp port.val (fun p => { p with measured := 0 })
    else d

/-- LEAP_SECOND (R277): the UTC day ends with a leap second announced. -/
def execLeapSecond (t : Nat) (s : State) : Host.Outcome State Fault Refusal :=
  s.runAt t fun d =>
    let up := d.flag Reg.TIME_UTC.leap61
    let down := d.flag Reg.TIME_UTC.leap59
    if !up && !down then d
    else (((d.setUtc (d.tim.utcOffset + (if up then 1 else -1)) 2).put Reg.TIME_UTC.leap61 0).put Reg.TIME_UTC.leap59 0).put
      Reg.TIME_STATUS.leap_pending 0

/-- TSQ_LATCH (R287): a read of TIME_TSQ_W0 latches the head entry of the port selected; an entry that joined in this cycle is not
seen (R45). -/
def execTsqLatch (t : Nat) (_m : Master) (s : State) : Host.Outcome State Fault Refusal :=
  s.runAt t fun d =>
    let port := d.get Reg.TIME_TSQ_SEL.port
    let fresh := (d.cyc.stamped.filter (· == port)).length
    { d with tim := { d.tim with tsq := modifyAt d.tim.tsq port (fun q =>
      { q with latched := (q.entries.take (q.entries.length - fresh)).headD ⟨0, 0, 0, 0⟩ }) } }

/-- TSQ_POP (R287): a read of TIME_TSQ_W3 removes the entry latched. -/
def execTsqPop (t : Nat) (_m : Master) (s : State) : Host.Outcome State Fault Refusal :=
  s.runAt t fun d =>
    { d with tim := { d.tim with tsq := modifyAt d.tim.tsq (d.get Reg.TIME_TSQ_SEL.port) (fun q =>
      if q.entries.head? = some q.latched then { q with entries := q.entries.drop 1, latched := ⟨0, 0, 0, 0⟩ } else q) } }

/-- PPS_OUT (R291): a second boundary of module time, on its 4 ns grid (R276), unless it lies less than 1 ms after a step. -/
def execPpsOut (t : Nat) (s : State) : Host.Outcome State Fault Refusal :=
  s.runAt t fun d =>
    let soon := match d.tim.lastStep with | some x => d.now < x + 1000000 | none => false
    if !d.beat.running || !d.flag Reg.TIME_PPS_OUT.pps_en || soon || d.quiet || 4 ≤ d.now % nsPerSec then d
    else { d with tim := { d.tim with ppsOutHigh := true, ppsOutAt := d.now } }

/-- PPS_OUT_END (R291): the pulse has lasted width_ms. -/
def execPpsOutEnd (t : Nat) (s : State) : Host.Outcome State Fault Refusal :=
  s.runAt t fun d =>
    if d.tim.ppsOutAt + d.get Reg.TIME_PPS_OUT.width_ms * 1000000 ≤ d.now then { d with tim := { d.tim with ppsOutHigh := false } } else d

/-- TPO_ARM and TPO_DISARM (R292): the output selected. -/
def execTpoArm (t : Nat) (_m : Master) (s : State) : Host.Outcome State Fault Refusal :=
  s.runAt t fun d => d.tpoArm (d.get Reg.TIME_TPO_SEL.tpo)

def execTpoDisarm (t : Nat) (_m : Master) (s : State) : Host.Outcome State Fault Refusal :=
  s.runAt t fun d => d.setTpo (d.get Reg.TIME_TPO_SEL.tpo) (fun x => { x with armed := false, pulsing := false })

/-- An armed output pulses at this instant, on the 4 ns grid (R276, R292): start + k × period, and for a one-shot its start. -/
def Dev.tpoDue (d : Dev) (x : Tpo) : Bool :=
  d.tpoStart x < d.now + 4 && (if x.period = 0 then d.now < d.tpoStart x + 4 else (d.now + 4 - d.tpoStart x) % x.period < 8)

/-- TPO_PULSE (R292): the pulse instant of an armed output. -/
def execTpoPulse (t : Nat) (k : Fin 4) (s : State) : Host.Outcome State Fault Refusal :=
  s.runAt t fun d =>
    let x := d.tpoAt k.val
    if !x.armed || !d.tpoDue x || d.quiet then d
    else d.setTpo k.val (fun x => { x with pulsing := true, rose := d.now })

/-- TPO_PULSE_END (R292): the pulse ends after its width; a one-shot disarms. -/
def execTpoPulseEnd (t : Nat) (k : Fin 4) (s : State) : Host.Outcome State Fault Refusal :=
  s.runAt t fun d => d.setTpo k.val (fun x =>
    if x.pulsing && x.rose + x.width ≤ d.now + 4 then { x with pulsing := false, armed := x.armed && x.period != 0 } else x)

/-- RTC_COMP_TICK (R294). -/
def execRtcCompTick (t : Nat) (temp : Int) (s : State) : Host.Outcome State Fault Refusal := s.runAt t fun d => d.compTick temp

/-- CAL_SECOND (R296, R297). -/
def execCalSecond (t : Nat) (s : State) : Host.Outcome State Fault Refusal := s.runAt t fun d => d.calSecond

/-- CAL_LOAD (R295): a write of load = 1. -/
def execCalLoad (t : Nat) (m : Master) (s : State) : Host.Outcome State Fault Refusal := s.runAt t fun d => d.calLoad (bankOf m)

/-- TICK_ALARM_ARM (R297): a write of RTC_TALM_LO arms the alarm at the target written HI first. -/
def execTickAlarmArm (t : Nat) (m : Master) (v : W32) (s : State) : Host.Outcome State Fault Refusal :=
  s.runAt t fun d0 =>
    let d := d0.commitPair (bankOf m) Reg.RTC_TALM_LO.word ⟨Reg.RTC_TALM_HI.word.key, 15, 0⟩ v.toNat
    let target := bits (d.get Reg.RTC_TALM_HI.word) 15 0 * 2 ^ 32 + v.toNat
    ((({ d with rtc := { d.rtc with talmTarget := target, talmArmed := true } } : Dev)).put
      ⟨Reg.RTC_TALM_HI.word.key, 31, 31⟩ 1).tickFire

/-- TICK_ALARM (R297): the count reaches the target of the armed alarm. -/
def execTickAlarm (t : Nat) (s : State) : Host.Outcome State Fault Refusal :=
  s.runAt t fun d =>
    if d.rtc.talmArmed && d.rtc.counting then
      ({ d with rtc := { d.rtc with ticks := max d.rtc.ticks d.rtc.talmTarget } } : Dev).tickFire
    else d

/-- BACKUP_TO_MAIN and BACKUP_TO_VBAT (R298): the feed of the backup domain changes over. -/
def execBackupToMain (t : Nat) (s : State) : Host.Outcome State Fault Refusal := s.runAt t fun d => d.put Reg.RTC_STATUS.on_vbat 0

def execBackupToVbat (t : Nat) (s : State) : Host.Outcome State Fault Refusal := s.runAt t fun d => d.put Reg.RTC_STATUS.on_vbat 1

/-- RTC_LOST (R298): VBAT falls while it feeds the domain, and retention is lost. -/
def execRtcLost (t : Nat) (s : State) : Host.Outcome State Fault Refusal :=
  s.runAt t fun d => if d.flag Reg.RTC_STATUS.on_vbat then d.rtcClear else d

end Sys2Proof.Machine
end

