-- ==== Sys2Proof/Machine/Power.lean ====
section
/-! DEFINITION. Clock sources, supply, power-fail, the stop writes and the entry into BOOT (R62-R64, R302-R325, R341,
R449-R453, R531-R533). -/

namespace Sys2Proof.Machine

namespace Dev

/-! ### Safe outputs and running sources -/

/-- The outputs take the safe states of R306, and the metering channels stop (R362, R368). -/
def safeOutputs (d : Dev) : Dev :=
  let d1 := d.lightSafe
  ((((({ d1 with
    lnd := { d1.lnd with safe := true }
    tim := { d1.tim with ppsOutHigh := false, tpo := d1.tim.tpo.map (fun x : Tpo => { x with pulsing := false }) } } : Dev).put
    Reg.MTR_STATUS.pout_active 0).put Reg.MTR_STATUS.measured 0).put Reg.HLK_STATUS.uprdy 0).put Reg.HLK_STATUS.dnhold 1).showLands

/-- A mux source is judged running: 0 the PLL, 1 the RC oscillator (R302, R310). -/
def sourceRuns (d : Dev) (source : Nat) : Bool := if source = 0 then d.mainClockRuns else d.flag Reg.CLK_STATUS.rc_ok

def muxAt (d : Dev) (m : Nat) : Nat := match d.pwr.muxes.find? (fun x => x.1 == m) with | some x => x.2 | none => 0

def setMux (d : Dev) (m source : Nat) : Dev :=
  { d with pwr := { d.pwr with muxes := insertBy (fun x : Nat × Nat => x.1) (m, source) (d.pwr.muxes.filter (fun x => x.1 != m)) } }

/-- A forced change of a mux (R311). -/
def forceMux (d : Dev) (m source : Nat) : Dev :=
  (((d.setMux m source).raise Reg.CLK_FAIL.sw_forced).bump Reg.CLK_FAIL_CNT.forced).offer Ev.SW_FORCED [m, d.muxAt m, source]

/-- Every test ends without a result (R320, R464), and no test run is left. -/
def endTests (d : Dev) (cause : Nat) : Dev :=
  let d1 := d.abortTests (List.range 15) cause
  ({ d1 with bst := { d1.bst with test := none, shut := none } } : Dev).put Reg.BST_STATUS.testing 0

/-! ### Stop writes (R307, R341, R457, R458, R532) -/

/-- The last step finished in this boot (R452). -/
def lastStep (d : Dev) : Nat := (d.bst.shown.filter (fun x => x.2.1 == 2)).foldl (fun m x => max m x.1) 0

/-- What the flush path writes before the clean-stop mark: the accumulators and the plate of the Cut List in force (R341, R367). -/
def flushRecords (d : Dev) : List JVal := if d.cut.image.isSome then d.accRecord true :: d.plateRecords else []

def cleanStopMark (d : Dev) (cause : Nat) : JVal := .cleanStop d.bootCount cause d.lastStep d.beat.count

/-- The stop writes as one change: a commanded stop first writes the suppressed counts and the rest of the snapshot (R378, R458).
Before the mount nothing is written. -/
def stopWrites (d : Dev) (cause : Nat) (commanded : Bool) : Dev :=
  if !d.sil.mounted then d
  else
    let d1 := if commanded then d.writeSuppressed.finishSnapshot else d
    let d2 : Dev := ({ d1 with sil := { d1.sil with queue := [] } } : Dev).recordDone
    let d3 := if d1.pwr.written then d2 else d2.flushRecords.foldl (fun d v => d.commit v) d2
    d3.drainBuffer.commit (d3.cleanStopMark cause)

/-! ### The entry into BOOT (R62, R63, R449, R455, R533) -/

/-- A register of this key keeps its value through an entry into BOOT: the backup domain, the clock and supply monitors, life
counters and BST_EARLY; a warm boot also keeps those of the safety controller, the beat, time and the outputs (R63). -/
def keptReg (warm : Bool) (key : Nat) : Bool :=
  let b := key / 0x10000
  b == 8 || [0x090000, 0x090008, 0x09000C, 0x0A0000, 0x0A0004, 0x0A0008, 0x0A000C, 0x0A0010, 0x0A0014, 0x0B0044, 0x0B0048,
    0x0B004C, 0x100030, 0x000230].contains key ||
  (warm && [0, 1, 7, 9, 10, 11, 13, 16, 18, 20].contains b)

/-- The register file after an entry into BOOT. -/
def bootRegs (warm : Bool) (f : RegFile) : RegFile :=
  resetRegs.foldl (fun (f : RegFile) (e : Nat × W32) => if keptReg warm e.1 then f else f.set e.1 e.2)
    (f.filter (fun e => keptReg warm e.1))

/-- Threshold of a step's alternative (R449); none where the step has none. -/
def threshold (n : Nat) : Option Nat := if n = 3 ∨ n = 10 then none else if n = 6 then some 2 else some 1

/-- The progress record of a step in force: boot count, phase, path, consec and cause (R451). -/
def progress (d : Dev) (n : Nat) : Option (Nat × Nat × Nat × Nat × Nat) :=
  match d.inForce 0x0001 n with
  | some (.bootStep b _ ph pa c x _) => some (b, ph, pa, c, x)
  | _ => none

/-- Consecutive failures of a step: before the mount those of BST_EARLY (R452). -/
def consec (d : Dev) (n : Nat) : Nat :=
  if !d.sil.mounted then (if n = 1 then d.get Reg.BST_EARLY.consec1 else if n = 2 then d.get Reg.BST_EARLY.consec2 else 0)
  else match d.progress n with | some (_, _, _, c, _) => c | none => 0

/-- Writes and shows the progress of a step (R451, R467). -/
def noteStep (d : Dev) (n phase path consec cause : Nat) : Dev :=
  let d1 : Dev := { d with bst := { d.bst with shown := (d.bst.shown.filter (fun x => x.1 != n)) ++ [(n, phase, path)] } }
  if d.sil.mounted then d1.commit (.bootStep d.bootCount n phase path consec cause (if n = 1 ∧ phase ≠ 2 then 0 else d.nowSec))
  else if n = 1 then d1.put Reg.BST_EARLY.consec1 (min consec 15)
  else if n = 2 then d1.put Reg.BST_EARLY.consec2 (min consec 15)
  else d1

/-- The path a step takes now (R454). -/
def pathOf (d : Dev) (n : Nat) : Nat :=
  match threshold n with
  | some k => b2n (k ≤ d.consec n)
  | none => 0

/-- A step begins: its path is chosen, with event 0x1002 for the alternative (R454). -/
def startStep (d : Dev) (n : Nat) : Dev :=
  let path := d.pathOf n
  let c := d.consec n
  let d1 := (({ d with bst := { d.bst with stepAt := d.now } } : Dev).put Reg.BST_STATUS.step n).noteStep n 1 path c 0
  if path = 1 then ((d1.put Reg.BST_STATUS.alt_used 1).raise Reg.BST_IRQ_STATUS.alternative).offer Ev.ALTERNATIVE_TAKEN [n, c] else d1

/-- The straps as they are taken: 0b001 in PROVISIONED and RMA, 0b111 in BLANK, every other value as 0b000 (R533). -/
def takenStraps (d : Dev) (straps : Nat) : Nat :=
  if straps = 1 ∧ (d.key.lcs = 1 ∨ d.key.lcs = 3) then 1 else if straps = 7 ∧ d.key.lcs = 0 then 7 else 0

/-- What an entry into BOOT loses and keeps of the links of a radio (R63, R232): the channel plan and the class-0 buffers of a
warm boot stay. -/
def radAtBoot (warm : Bool) (s : RadSt) : RadSt :=
  if warm then { RadSt.closed with
    plan := s.plan, profile := s.profile, c0 := s.c0, claimed := s.claimed, claimedNext := s.claimedNext, c0Fc := s.c0Fc
    accs := match s.plan, s.profile with | some p, some f => newAccs p f | _, _ => [] }
  else RadSt.closed

def trkAtBoot (warm : Bool) (s : TrkSt) : TrkSt :=
  if warm then { TrkSt.closed with
    cfg := s.cfg, gates := s.gates, c0 := s.c0, c0Fc := s.c0Fc, pauseDeferred := s.pauseDeferred, pauseEnd := s.pauseEnd, pfcEnd := s.pfcEnd } else TrkSt.closed

/-- A life-cycle state that waited for a boundary is in force from the next start on (R444). -/
def keysAtBoot (k : KeySt) : KeySt :=
  { k with slots := [], ops := [], pending := [], lcs := k.nextLcs.getD k.lcs, nextLcs := none, left := false }

/-- What a warm boot keeps of the media's registers, where the Lintel runs on (R63): the suspension that R214 restores, and the link,
the pause and the network of UPLINK and TIE. -/
def keepMedia (d : Dev) (old : Dev) : Dev :=
  let d1 := (List.range 4).foldl (fun (d : Dev) r => d.put (Reg.RAD_STATUS.c0_suspended r) (old.get (Reg.RAD_STATUS.c0_suspended r))) d
  [14, 15].foldl (fun (d : Dev) w => (d.put (Reg.TRK_STATUS.word w) (old.get (Reg.TRK_STATUS.word w))).put (Reg.TRK_NET.word w)
    (old.get (Reg.TRK_NET.word w))) d1

/-- Everything volatile takes its reset value (R63, R202, R232, R379); a warm boot keeps the safety controller, the Lintel, the
beat and the outputs. -/
def dropVolatile (d : Dev) (warm : Bool) : Dev :=
  let d1 := if warm then d.recorderReset else { d.recorderReset with evr := { d.recorderReset.evr with limits := bucketsOf [] } }
  { d1 with
    regs := bootRegs warm d1.regs
    latches := [], staged := []
    sys := { d1.sys with startPending := false, stopPending := false, heldAnswers := [], heldItems := [] }
    beat := if warm then d1.beat else { d1.beat with
      running := false, base := 0, sinceBase := 0, slew := 0, slewNow := 0, step := none, nextSource := none, nextPeriod := none
      source := .crystal, nextPasses := none, ppsRejected := 0, ppsAccepted := 0, ppsUsable := true, ppsOffsets := [] }
    sil := { d1.sil.tear with mounted := false, readOnly := false, snapping := false, restored := [] }
    key := keysAtBoot d1.key
    cut := { d1.cut with
      load := none, patch := none, image := if warm then d1.cut.image else none, stage := [], stageLen := 0, patchStage := [], patchLen := 0 }
    rft := { d1.rft with
      nodes := if warm then d1.rft.nodes else [], spareSeq := [], staging := [], port := [], portSet := [], inProgress := false, carriedPort := []
      cmdBuf := [], cmdSet := [], carriedCmd := [], cmdNoted := 0, c0 := [], sweeping := false, refused := []
      refusedItems := 0, refusedFirst := 0, stagedBatten := [], stagedSpeed := [], sample := none, sampleSec := 0, schedNoted := []
      cur1 := false, profiles := [], exceptions := [], matched := [], batten := [], speed := []
      edges := if warm then d1.rft.edges else [], zones := if warm then d1.rft.zones else [], groups := if warm then d1.rft.groups else [] }
    lin := if warm then d1.lin else { d1.lin with safety := none, nextSafety := none, active := [], waiting := [], emgAck := false }
    jst := { d1.jst with qcfg := [], released := 0, stopped := [], flushEids := 0 }
    rad := d1.rad.map (radAtBoot warm), trk := d1.trk.map (trkAtBoot warm)
    tim := if warm then d1.tim else { d1.tim with
      ptp := d1.tim.ptp.map (fun _ => ⟨0, none, none, none, 0, 0, 0⟩), lockedPort := none, gm := 0, ptpSent := [], lastStep := none
      ppsOutHigh := false, tpo := d1.tim.tpo.map (fun _ => ⟨0, 0, 0, 0, false, false, false, false, false, 0⟩), utcOffset := 0
      tsq := d1.tim.tsq.map (fun _ => ⟨[], 0, 0, ⟨0, 0, 0, 0⟩⟩) }
    pwr := { d1.pwr with pf := none, written := false, failedAt := none, vholdWaited := false, measured := false }
    bst := { d1.bst with shown := [], test := none, shut := none, failStep := 0, started := d1.now, debug := false }
    fwu := { d1.fwu with activating := if warm then d1.fwu.activating else none, committing := none, libRuns := [], raised := false }
    mtr := { d1.mtr with ch := d1.mtr.ch.map (fun _ => MeterCh.zero), emitted := [0, 0], wraps := [], cfg := none }
    pair := { d1.pair with
      cfg := if warm then d1.pair.cfg else none, peerUp := false, leased := false, leaseEnd := 0, asked := [], noReply := 0
      mirrorBroken := false, gap := false, bundles := [], handshake := false, helloSeen := false, takeover := .none, resync := none
      resending := false, resendAt := none, resendGo := false, heard := none, missed := none, reqAt := none, helloAt := none
      failedAt := none, cutDiffers := false, nextRole := none, skipNext := false, out := [], rx := [] }
    lnd := { d1.lnd with serial := none, pinmux := if warm then d1.lnd.pinmux else [], safe := if warm then d1.lnd.safe else false }
    lgt := if warm then d1.lgt else { d1.lgt with
      cfg := none, strings := d1.lgt.strings.map (fun s => { StringSt.dark0 with bypassed := s.bypassed })
      matrices := d1.lgt.matrices.map (fun _ => MatrixSt.blank0), ntcSeen := [false, false, false, false], derating := [], safe := false } }

/-- The event of a transition that ends the run of the recorder, offered before the buffer is written out (R62, R378); an entry
into BOOT ends the overrides first (R133). -/
def announce (d : Dev) (to_ : ModState) (cause : Nat) : Dev :=
  (if to_ = .boot then d.clearOverrides (fun _ _ => false) 0 else d).offer Ev.STATE_CHANGE [d.sys.mstate.code, to_.code, cause]

/-- BOOT begins (R62, R63): what is volatile is lost, the straps are sampled (R533), and the first step begins: step 1, or step 2
of a warm boot (R455). Records offered before the recorder's next start wait for it (notes/assumptions/8). -/
def beginBoot (dv : Dev) (warm : Bool) (straps : Nat) : Dev :=
  let d := if dv.evr.started then dv.drainBuffer else dv.settleOffers
  let s := d.takenStraps straps
  let d1 := ((d.dropVolatile warm).joistReset).hlReset
  let d2 : Dev := { d1 with
    sys := { d1.sys with mstate := .boot, warm := warm }
    evr := { d1.evr with held := if d.evr.started then [] else d.evr.held }
    bst := { d1.bst with debug := s == 1 }
    pwr := { d1.pwr with straps := s, heldOff := false, rstHeld := false } }
  let d3 := ((((((d2.put Reg.RFT_STATUS.lanes (d2.get Reg.BST_UNIT0.lanes)).put Reg.SYS_STATUS.state 1).put Reg.SYS_PIN_STATUS.straps straps).putB Reg.BST_STATUS.warm warm).put
    Reg.PWR_STATUS.pf_armed 1).put Reg.PWR_VIN.dips (if warm then d.get Reg.PWR_VIN.dips else 0)).when
      warm (fun x => x.keepMedia d)
  let d4 := if s = straps then d3 else d3.offer Ev.STRAP_IGNORED [straps, d.key.lcs]
  let d5 := (if warm then d4 else (d4.setRole .solo).setSuspended 0x3FFF).showLands
  if s = 7 then d5 else
  let d6 := if warm then [1, 3, 4, 5, 8].foldl (fun (d : Dev) n =>
    { d with bst := { d.bst with shown := d.bst.shown ++ [(n, 2, 2)] } }) d5 else d5
  d6.startStep (if warm then 2 else 1)

/-- An entry into BOOT that nothing precedes but its event (R62). -/
def enterBoot (d : Dev) (cause : Nat) (warm : Bool) (straps : Nat) : Dev := (d.announce .boot cause).beginBoot warm straps

/-- The module is OFF (R62, R64, R318): memory without retention is lost, the outputs are safe, reset is held. -/
def goOff (dv : Dev) : Dev :=
  let d := if dv.evr.started then dv.drainBuffer else dv.settleOffers
  let d1 := (((({ d with sys := { d.sys with mstate := .off } } : Dev).put Reg.SYS_STATUS.state 0).put Reg.JST_STATUS.running 0).endWaits.safeOutputs).recorderReset
  ({ d1 with
    mem := []
    beat := { d1.beat with running := false }
    jst := { d1.jst with items := [], holds := [], service := [], waiting := [], staging := [], timers := [] }
    rad := d1.rad.map (radAtBoot false), trk := d1.trk.map (trkAtBoot false)
    cut := { d1.cut with stage := [], stageLen := 0, patchStage := [], patchLen := 0, load := none, patch := none }
    sil := d1.sil.tear
    fwu := { d1.fwu with activating := none, committing := none, libRuns := [] }
    key := { d1.key with slots := [], ops := [], pending := [] }
    lin := { d1.lin with safety := none, nextSafety := none, active := [], waiting := [], emgAck := false }
    rft := { d1.rft with sweeping := false, inProgress := false, cmdBuf := [], carriedCmd := [], cmdNoted := 0 }
    pwr := { d1.pwr with pf := none, vinBack := d.pwr.vinBack } } : Dev).put Reg.PWR_STATUS.pf_armed 0

/-- OFF ends, unless RST_N holds it (R62, R64, R315). -/
def leaveOff (dv : Dev) (straps : Nat) : Dev :=
  let d : Dev := { dv with pwr := { dv.pwr with vinLow := false, stopped := false, rcFailed := false, failedAt := none } }
  let d1 := (((d.put Reg.SYS_PIN_STATUS.pwr_en 1).put Reg.CLK_STATUS.rc_ok 1).put Reg.PWR_STATUS.vhold_ok 0).put Reg.PWR_STATUS.holdup_met 0
  if d.pwr.rstLow then d1 else d1.enterBoot causePower false straps

/-! ### The power-fail sequence (R318-R322) -/

/-- Ends the sequence: OFF, with the last step, the duration and the count shown (R325). Where VIN has returned in it and RST_N is
high, the module leaves OFF at once (R320). -/
def pfEnd (d : Dev) (r : PfRun) (step : Nat) : Dev :=
  let us := (d.now - r.start) / 1000
  let back := if r.vinReturned.isSome then d.pwr.vinBack else none
  let d1 := ((d.put Reg.PWR_PF_LAST.step step).put Reg.PWR_PF_LAST.duration_us (min us 65535)).bump Reg.PWR_PF_CNT.count
  let d2 := d1.goOff
  let d3 : Dev := { d2 with pwr := { d2.pwr with vinBack := back, rstLow := r.rstLow } }
  match r.vinReturned with
  | some straps => d3.leaveOff straps
  | none => d3

/-- Hands the flush path its next record when the one before is done and the event buffer is written out (R318 steps 3 to 8). -/
def pfAdvance (d : Dev) : Dev :=
  match d.pwr.pf with
  | none => d
  | some r =>
    if d.sil.current.isSome then d
    else if !d.evr.buf.isEmpty && d.evr.started then
      ({ d with pwr := { d.pwr with pf := some { r with step := max r.step 3 } }, evr := { d.evr with flushLeft := d.evr.buf.length, flushAgain := false } } : Dev)
    else
      let todo := if r.step < 4 then
          (if d.pwr.written then [] else .pfCount (d.pfCount + 1) :: d.flushRecords ++ [d.cleanStopMark 4]) else r.toWrite
      match todo with
      | v :: rest =>
        let step := match v with
          | .flushHdr .. | .flushChunk .. => 5
          | .cleanStop .. => 6
          | _ => 4
        ({ d with pwr := { d.pwr with pf := some { r with step := max step r.step, toWrite := rest } } } : Dev).journal .flush v
      | [] => d.pfEnd r 8

/-- Power-fail is detected (R315, R318, R319, R322, R531). -/
def powerFail (d : Dev) (vin vhold : Nat) : Dev :=
  let d0 : Dev := (({ d with pwr := { d.pwr with vinLow := true } } : Dev).put Reg.PWR_VIN.mv (min vin 65535)).put Reg.PWR_VHOLD.mv
    (min vhold 65535)
  if d.sys.mstate = .off then { d0 with pwr := { d0.pwr with heldOff := false } }
  else if d.pwr.pf.isSome || !d.flag Reg.PWR_STATUS.pf_armed then d
  else if d.pwr.stopped then d0.goOff
  else if !d.sil.mounted then (d0.put Reg.BST_EARLY.interrupted 1).goOff
  else
    let d1 := ((((d0.offer Ev.POWER_FAIL [d.beat.count, vin, vhold]).endTests 3).settleOffers).announce .off causePowerFail).setSuspended 0x3FFF
    let d2 : Dev := { d1 with
      sil := { d1.sil with queue := [] }
      rft := { d1.rft with sweeping := false }
      rad := d1.rad.map (radAtBoot false), trk := d1.trk.map (trkAtBoot false)
      jst := { d1.jst with items := [], holds := [], service := [], waiting := [], staging := [], timers := [] }
      cut := { d1.cut with load := none, patch := none }
      fwu := { d1.fwu with activating := none, committing := none, libRuns := [] }
      pwr := { d1.pwr with pf := some ⟨d.now, 2, none, d.pwr.rstLow, []⟩ } }
    d2.settleOffers.pfAdvance

/-- VHOLD is exhausted (R321): what is being written does not count. -/
def vholdLow (d : Dev) : Dev :=
  match d.pwr.pf with
  | some r => ({ d with sil := d.sil.tear } : Dev).pfEnd r r.step
  | none => d

/-! ### The main clock (R306-R309) -/

/-- The 40 MHz crystal or the PLL is judged failed. -/
def mainClockFail (d : Dev) (pll : Bool) : Dev :=
  if d.sys.mstate = .off || d.pwr.failedAt.isSome || d.pwr.stopped then d
  else
    let d1 := if pll then (d.put Reg.CLK_STATUS.pll_lock 0).raise Reg.CLK_FAIL.pll_unlock
      else ((d.put Reg.CLK_STATUS.xtal40_ok 0).put Reg.CLK_STATUS.pll_lock 0).raise Reg.CLK_FAIL.xtal40_fail
    let d2 := ({ d1 with pwr := { d1.pwr with failedAt := some d.now } } : Dev).bump Reg.CLK_FAIL_CNT.main
    let d3 := d2.safeOutputs
    if d.pwr.rcFailed then { d3 with pwr := { d3.pwr with stopped := true }, beat := { d3.beat with running := false } }
    else
      let d4 := d3.offer Ev.MAIN_CLOCK_FAIL [b2n pll, d.sys.mstate.code]
      let d5 := ((d4.pwr.muxes.filter (fun m => m.2 == 0)).foldl (fun (d : Dev) m => d.forceMux m.1 1) d4).put Reg.CLK_STATUS.sys_src 1
      if d.pwr.pf.isSome then d5
      else
        let d6 := ((d5.setSuspended 0x3FFF).stopWrites 5 false)
        let d7 : Dev := { d6 with
          pwr := { d6.pwr with written := true }
          beat := { d6.beat with running := false }
          bst := { d6.bst with test := none, shut := none }
          cut := { d6.cut with load := none, patch := none }
          fwu := { d6.fwu with activating := none } }
        ((d7.put Reg.BST_STATUS.testing 0).goto .failsafe causeClock).startFlush

/-- The failed source is judged running again (R308). -/
def mainClockReturned (d : Dev) (straps : Nat) : Dev :=
  match d.pwr.failedAt with
  | none => d
  | some since =>
    if d.pwr.stopped || d.sys.mstate = .off then d
    else
      let d1 := ((d.put Reg.CLK_STATUS.xtal40_ok 1).put Reg.CLK_STATUS.pll_lock 1)
      if d.pwr.pf.isSome then { d1 with pwr := { d1.pwr with failedAt := none } }
      else
        let d2 := (d1.put Reg.CLK_STATUS.sys_src 0).offer Ev.MAIN_CLOCK_RETURNED [(d.now - since) / 1000000]
        (d2.offer (openEvent Config.evBoundSuspended) [0x3FFF, 0]).enterBoot causeClock false straps

/-- The RC oscillator's error at a count, in 0.01 %, against the nominal count of the reference (R304). -/
def rcErr (nominal cycles : Nat) : Int := ((cycles : Int) - (nominal : Int)) * 10000 / (nominal : Int)

/-- One trim count (R304): the code moves by at most 4 steps toward the nominal frequency. `reference` is 0 for the crystal, 1 for
SOF and 2 for PPS; a reference that is not the first available is not used. -/
def rcTrim (d : Dev) (reference cycles : Nat) : Dev :=
  let best := if d.flag Reg.CLK_STATUS.xtal40_ok then 0 else if d.flag Reg.USB_STATE.attached && !d.flag Reg.USB_STATE.suspended then 1 else 2
  if d.sys.mstate = .off || !d.flag Reg.CLK_STATUS.rc_ok || reference ≠ best then d
  else
    let err := rcErr (if reference = 1 then 3072000 else 48000000) cycles
    let steps : Int := if err ≥ 0 then min (err / 2) 4 else max (-((-err) / 2)) (-4)
    let code := clampNat ((d.get Reg.CLK_RC_TRIM.code : Int) - steps).toNat 0 1023
    let refCode := if reference = 0 then 3 else reference
    let old := d.get Reg.CLK_STATUS.trim_ref
    let d1 := (((d.put Reg.CLK_RC_TRIM.err (satTwos 16 err)).put Reg.CLK_RC_TRIM.code code).put Reg.CLK_STATUS.trim_ref refCode).put
      Reg.CLK_STATUS.trimmed 1
    (if old = refCode then d1 else d1.offer Ev.RC_TRIM_REF [old, refCode, code]).usbShow

/-! ### Hold-up (R16, R316, R317) -/

/-- T12 has failed and not passed since (R462). -/
def comparatorFails (d : Dev) : Bool := d.bst.results.any (fun x => x.test == 12 && x.result == 2)

/-- The hold-up condition of R16: C at least 68 µF, ESR at most 1 Ω, VHOLD reached, and T12 not failed. -/
def judgeHoldup (d : Dev) (cap esr : Nat) : Dev :=
  (d.putB Reg.PWR_STATUS.holdup_met (680 ≤ cap && esr ≤ 1000 && d.flag Reg.PWR_STATUS.vhold_ok && !d.comparatorFails)).judgeLedger

/-- A measurement (R317): C in 0.1 µF, ESR in mΩ. -/
def holdupMeasured (dv : Dev) (cap esr : Nat) : Dev :=
  let d : Dev := { dv with pwr := { dv.pwr with holdAt := some dv.nowSec, measured := true } }
  let d1 := ((((d.put Reg.PWR_HOLDUP.cap_100nf (min cap 8191)).put Reg.PWR_HOLDUP.esr_10mohm (min (esr / 10) 1023)).put
    Reg.PWR_HOLDUP.age_days 0).raise Reg.PWR_IRQ_STATUS.measured).offer Ev.HOLDUP_MEASURED [cap, esr]
  let d2 := d1.judgeHoldup cap esr
  if 680 ≤ cap && esr ≤ 1000 then d2 else (d2.raise Reg.PWR_IRQ_STATUS.holdup_low).offer Ev.HOLDUP_LOW [cap, esr]

end Dev

/-! ### The commands -/

/-- MAIN_CLOCK_FAIL (R306, R307, R309, R311). -/
def execMainClockFail (t : Nat) (pll : Bool) (s : State) : Host.Outcome State Fault Refusal := s.runAt t fun d => d.mainClockFail pll

/-- MAIN_CLOCK_RETURNED (R308). -/
def execMainClockReturned (t : Nat) (straps : Fin 8) (s : State) : Host.Outcome State Fault Refusal :=
  s.runAt t fun d => d.mainClockReturned straps.val

/-- XTAL32_FAIL (R305): the counters of the backup domain stop and RTC_VALID is cleared. -/
def execXtal32Fail (t : Nat) (s : State) : Host.Outcome State Fault Refusal :=
  s.runAt t fun d =>
    let d1 : Dev := { d with rtc := { d.rtc with counting := false } }
    ((((d1.put Reg.CLK_STATUS.xtal32_ok 0).raise Reg.CLK_FAIL.xtal32_fail).put Reg.RTC_VALID.valid 0).offer Ev.XTAL32_FAIL
      [d.get Reg.RTC_STATUS.on_vbat])

/-- XTAL32_RETURNED (R302, R305): the counters go on from their held values. -/
def execXtal32Returned (t : Nat) (s : State) : Host.Outcome State Fault Refusal :=
  s.runAt t fun d => ({ d with rtc := { d.rtc with counting := true } } : Dev).put Reg.CLK_STATUS.xtal32_ok 1

/-- RC_FAIL (R302, R309): the RC oscillator is measured outside ±5 % while the crystal runs; `err` is in 0.01 %. -/
def execRcFail (t : Nat) (err : Int) (s : State) : Host.Outcome State Fault Refusal :=
  s.runAt t fun d =>
    if d.sys.mstate = .off || !d.mainClockRuns || !d.flag Reg.CLK_STATUS.rc_ok || (-500 ≤ err && err ≤ 500) then d
    else (((({ d with pwr := { d.pwr with rcFailed := true } } : Dev).put Reg.CLK_STATUS.rc_ok 0).raise Reg.CLK_FAIL.rc_fail).put
      Reg.CLK_STATUS.trimmed 0).usbShow.offer Ev.RC_FAIL [toTwos 32 err]

/-- RC_TRIM_COUNT (R304). -/
def execRcTrimCount (t : Nat) (reference : Fin 3) (cycles : Nat) (s : State) : Host.Outcome State Fault Refusal :=
  s.runAt t fun d => d.rcTrim reference.val cycles

/-- MUX_SWITCH_REQUEST (R310): taken only to a source judged running; away from a stopped clock it waits for the forced change. -/
def execMuxSwitchRequest (t mux : Nat) (source : Fin 2) (s : State) : Host.Outcome State Fault Refusal :=
  s.runAt t fun d =>
    if !d.sourceRuns source.val then d.raise Reg.CLK_FAIL.sw_refused
    else if d.sourceRuns (d.muxAt mux) then d.setMux mux source.val
    else d

/-- SW_FORCED (R311). -/
def execSwForced (t mux : Nat) (source : Fin 2) (s : State) : Host.Outcome State Fault Refusal :=
  s.runAt t fun d =>
    if d.muxAt mux = source.val || d.sourceRuns (d.muxAt mux) || !d.sourceRuns source.val then d else d.forceMux mux source.val

/-- POWER_ON (R62, R64, R315, R320): VIN has been at 9.0 V or above for 10 ms with PWR_EN high. -/
def execPowerOn (t : Nat) (straps : Fin 8) (vin : Nat) (s : State) : Host.Outcome State Fault Refusal :=
  s.runAt t fun d =>
    if vin < 9000 then d
    else match d.pwr.pf with
    | some r => if r.vinReturned.isSome then d else
      { d with pwr := { d.pwr with
        vinLow := false, pf := some { r with vinReturned := some straps.val }, vinBack := some ((d.now - r.start) / 1000) } }
    | none => if d.sys.mstate ≠ .off || d.pwr.heldOff then d else (d.put Reg.PWR_VIN.mv (min vin 65535)).leaveOff straps.val

/-- POWER_FAIL (R318, R319, R322, R531). -/
def execPowerFail (t vin vhold : Nat) (s : State) : Host.Outcome State Fault Refusal := s.runAt t fun d =>
  (d.powerFail vin vhold).putB Reg.SYS_PIN_STATUS.pwr_en (d.flag Reg.SYS_PIN_STATUS.pwr_en && vin < 8000)

/-- VIN_DIP (R314): a dip below 8 V that VHOLD bridges. -/
def execVinDip (t : Nat) (s : State) : Host.Outcome State Fault Refusal :=
  s.runAt t fun d => if d.sys.mstate = .off then d else (d.bump Reg.PWR_VIN.dips).raise Reg.PWR_IRQ_STATUS.dip

/-- VIN_RANGE (R314): VIN between 8 V and 9 V, falling, or above 62 V. -/
def execVinRange (t mv : Nat) (s : State) : Host.Outcome State Fault Refusal :=
  s.runAt t fun d =>
    if d.sys.mstate = .off then d
    else
      let d1 := d.put Reg.PWR_VIN.mv (min mv 65535)
      if (8000 ≤ mv && mv < 9000) || 62000 < mv then (d1.raise Reg.PWR_IRQ_STATUS.vin_range).offer Ev.VIN_RANGE [mv, b2n (62000 < mv)]
      else d1

/-- VHOLD_WAIT_TIMEOUT (R316): boot step 1 has waited 2 s and goes on without the hold-up. -/
def execVholdWaitTimeout (t mv : Nat) (s : State) : Host.Outcome State Fault Refusal :=
  s.runAt t fun d =>
    if d.sys.mstate ≠ .boot || d.get Reg.BST_STATUS.step ≠ 1 || d.flag Reg.PWR_STATUS.vhold_ok || d.pwr.vholdWaited || d.now < d.bst.stepAt + 2000000000 then d
    else (((({ d with pwr := { d.pwr with vholdWaited := true } } : Dev).put Reg.PWR_VHOLD.mv (min mv 65535)).raise
      Reg.PWR_IRQ_STATUS.holdup_low).put Reg.PWR_STATUS.holdup_met 0).offer Ev.HOLDUP_LOW [mv]

/-- VHOLD_OK (R316): VHOLD has reached 50 V; the condition of R16 is judged on the measurement in the unit map. -/
def execVholdOk (t mv : Nat) (s : State) : Host.Outcome State Fault Refusal :=
  s.runAt t fun d =>
    if d.sys.mstate = .off || mv < 50000 then d
    else ((d.put Reg.PWR_VHOLD.mv (min mv 65535)).put Reg.PWR_STATUS.vhold_ok 1).judgeHoldup (d.get Reg.PWR_HOLDUP.cap_100nf)
      (10 * d.get Reg.PWR_HOLDUP.esr_10mohm)

/-- HOLDUP_MEASURED (R317): at boot step 1 or in the self-test. -/
def execHoldupMeasured (t cap esr : Nat) (s : State) : Host.Outcome State Fault Refusal :=
  s.runAt t fun d => if d.isState [.boot, .test] then d.holdupMeasured cap esr else d

/-- VHOLD_LOW (R321). -/
def execVholdLow (t : Nat) (s : State) : Host.Outcome State Fault Refusal := s.runAt t fun d => d.vholdLow

/-- RST_N_ASSERT (R464, R532): the plate is written and reset is held, which the model shows as OFF, while RST_N stays low. -/
def execRstNAssert (t : Nat) (s : State) : Host.Outcome State Fault Refusal :=
  s.runAt t fun d =>
    match d.pwr.pf with
    | some r => { d with pwr := { d.pwr with pf := some { r with rstLow := true }, rstLow := true } }
    | none =>
      let d1 : Dev := { d with pwr := { d.pwr with rstLow := true } }
      if d.sys.mstate = .off || d.pwr.stopped then d1.showLands
      else
        let d2 := (((d1.endTests 2).announce .boot causeReset).stopWrites 6 false).safeOutputs
        let d3 : Dev := { d2 with
          sys := { d2.sys with mstate := .off }
          beat := { d2.beat with running := false }
          pwr := { d2.pwr with rstHeld := true } }
        d3.put Reg.SYS_STATUS.state 0

/-- RST_N_RELEASE (R62, R64, R532). -/
def execRstNRelease (t : Nat) (straps : Fin 8) (s : State) : Host.Outcome State Fault Refusal :=
  s.runAt t fun d =>
    if !d.pwr.rstLow then d
    else match d.pwr.pf with
    | some r => { d with pwr := { d.pwr with rstLow := false, pf := some { r with rstLow := false } } }
    | none =>
      let d1 : Dev := { d with pwr := { d.pwr with rstLow := false } }
      if d.sys.mstate ≠ .off || d.pwr.vinLow || d.pwr.stopped then d1.showLands
      else if d.pwr.rstHeld then d1.beginBoot false straps.val
      else d1.enterBoot causeReset false straps.val

/-- WATCHDOG_EXPIRY (R62, R190, R341). -/
def execWatchdogExpiry (t : Nat) (straps : Fin 8) (s : State) : Host.Outcome State Fault Refusal :=
  s.runAt t fun d =>
    if d.sys.mstate = .off || d.pwr.pf.isSome || d.pwr.stopped then d
    else ((((List.range 8).foldl (fun (d : Dev) c => d.releaseHeld c) d).announce .boot causeWatchdog).stopWrites 7 false).beginBoot false straps.val

/-- JOURNAL_RECORD_DONE (R318, R330, R332). -/
def execJournalRecordDone (t : Nat) (s : State) : Host.Outcome State Fault Refusal := s.runAt t fun d => d.recordDone.pfAdvance

/-- EVR_SLOT_WRITTEN (R318, R379-R381). -/
def execEvrSlotWritten (t : Nat) (s : State) : Host.Outcome State Fault Refusal := s.runAt t fun d => d.slotWritten.pfAdvance

end Sys2Proof.Machine
end

