-- ==== Sys2Proof/Machine/Pair.lean ====
section
/-! DEFINITION. The redundant pair (R387-R412), the beacon watch (R237, R238) and the replay of mirrored beats. -/

namespace Sys2Proof.Machine

/-- Causes of event 0x0E01 and 0x0E05 as the model numbers them (notes/assumptions/9). -/
def pairHandshake := 1
def pairResynced := 2
def pairLease := 3
def pairHeartbeat := 4
def pairHandover := 5
def pairDisagree := 6
def pairLagGap := 7
def pairCatchup := 8

/-- The CONTROL operations (R390). -/
def ctlHello := 1
def ctlHandover := 2
def ctlResyncReq := 3

namespace Dev

/-! ### Standing of the pair -/

/-- The Tie is lost: 3 consecutive HEARTBEATs missed, or link 0x2001 LOST (R396). -/
def tieLost (d : Dev) : Bool := 3 ≤ d.get Reg.PAIR_LAG.tie_miss || (d.findLink 13 0).any (fun l => l.lost)

/-- The module exchanges HEARTBEATs: from boot step 9 on, where the beat runs (R391, R399). -/
def pairTalks (d : Dev) : Bool :=
  d.inPair && (d.isState [.ready, .service, .hold, .test] || (d.sys.mstate == .boot && 9 ≤ d.get Reg.BST_STATUS.step))

/-- A lease is held at this instant (R398). -/
def leaseHeld (d : Dev) : Bool := d.now < d.pair.leaseEnd

/-- The mirror would count as complete (R400). -/
def mirrorWhole (d : Dev) : Bool :=
  d.sys.role == .standby && !d.pair.gap && !d.pair.incomplete && !d.pair.mirrorBroken

/-- The registers of the pair (R412). -/
def showPair (d : Dev) : Dev :=
  let lag := (d.pair.bundles.filter (fun b => b.close.isSome)).length
  (((((((((((d.put Reg.PAIR_STATUS.member d.pair.member).putB Reg.PAIR_STATUS.hb_period d.hbPeriod).putB Reg.PAIR_STATUS.unmirrored
    d.pair.unmirrored).putB Reg.PAIR_STATUS.mirror_complete d.mirrorWhole).putB Reg.PAIR_STATUS.lease_held d.leaseHeld).putB
    Reg.PAIR_STATUS.witness_ok (d.inPair && !d.witnessLost)).putB Reg.PAIR_STATUS.path2_ok (d.inPair && d.get Reg.PAIR_LAG.path2_miss < 3)).putB
    Reg.PAIR_STATUS.tie_ok (d.inPair && d.get Reg.PAIR_LAG.tie_miss < 3)).put Reg.PAIR_STATUS.role d.sys.role.code).put
    Reg.PAIR_LAG.lag (if d.sys.role = .active || d.sys.role = .solo then 0 else min 255 lag)).put Reg.PAIR_LEASE.word d.pair.term)

/-! ### Records of the Tie and messages to the witness (R390, R397) -/

/-- CUT_HASH bytes 0-7 of the Cut List in force, and its generation (R390). -/
def cutMark (d : Dev) : Nat × Nat := (match d.cut.image with | some x => fieldLE x.hash 0 8 | none => 0, d.get Reg.CUT_GEN.word)

/-- A HEARTBEAT (R390). -/
def heartbeatBytes (d : Dev) : Bytes :=
  toLE 1 0x10 ++ toLE 1 d.sys.role.code ++ toLE 1 d.pair.member ++
    toLE 1 (b2n d.leaseHeld + 2 * b2n d.pair.unmirrored + 4 * b2n (d.sys.mstate == .test)) ++ toLE 8 d.beat.count ++
    toLE 8 (d.beat.base / nsPerSec) ++ toLE 4 (d.beat.base % nsPerSec) ++ toLE 4 d.pair.count ++ toLE 2 d.lin.c0Seq ++
    toLE 1 (d.sys.fwVersion / 256) ++ toLE 1 d.sys.fwVersion ++ toLE 8 d.cutMark.1 ++ toLE 4 d.cutMark.2

/-- A CONTROL record (R390). -/
def controlBytes (d : Dev) (op : Nat) : Bytes :=
  toLE 1 0x14 ++ toLE 1 op ++ d.heartbeatBytes.drop 1 ++
    (if op = ctlHello then toLE 8 (match d.pair.cfg with | some c => c.pairId | none => 0) ++ toLE 8 Config.unitId.toNat else [])

/-- The entries of a bundle (R390, R392), by kind; those whose layout the spec does not give are free bytes of what they hold
(notes/assumptions/50). -/
def bundleEntries (b : Bundle) : List (Nat × Bytes) :=
  let unlaid (k n : Nat) (l : List Nat) : Nat × Bytes := (k, Config.bytesOf n (Config.unlaidByte (0x1100 + k) l))
  b.port.map (fun e => (1, toLE 4 (e.eid + e.kind * 2 ^ 17) ++ toLE 2 e.value ++ toLE 2 e.rxUs ++ toLE 4 e.rxBeat)) ++
  b.cmds.map (fun c => unlaid 2 20 (match c with
    | .c1Set s i l e t => [0, s, i, l, e, t] | .c1Clear s i => [1, s, i] | .class0 i a => [2, i, b2n a] | .emg => [3])) ++
  b.controls.map (fun c => unlaid 5 16 (match c with
    | .passes n => [0, n] | .lowered => [1] | .hold => [2] | .patch x => [3, crc32 x] | .cutList x => [4, crc32 x] | .effect => [5]
    | .capture => [6] | .epoch n => [7, n])) ++
  b.refused.map (fun e => (3, toLE 4 e)) ++
  b.posts.map (fun p => unlaid 4 16 [p.kind, p.eid, p.value]) ++
  b.marks.map (fun m => (6, toLE 4 m.1 ++ toLE 4 m.2))

/-- The BUNDLE records of a bundle: runs of one kind, each as long as a Tie frame takes (R250, R390). -/
def bundleRecords (b : Bundle) : List Bytes :=
  [1, 2, 5, 3, 4, 6].flatMap (fun k =>
    let l := ((bundleEntries b).filter (fun e => e.1 == k)).map (·.2)
    (List.range (ceilDiv l.length 73)).map (fun i =>
      let run := (l.drop (73 * i)).take 73
      toLE 1 0x11 ++ toLE 1 k ++ toLE 2 run.length ++ toLE 4 b.beat ++ run.flatten))

/-- A BUNDLE_CLOSE (R390). -/
def closeBytes (beat : Nat) (c : BundleClose) : Bytes :=
  toLE 1 0x12 ++ toLE 8 beat ++ toLE 1 c.outcome ++ toLE 3 0 ++ toLE 4 c.entries ++ toLE 8 c.sample ++ toLE 8 c.digest

/-- A message to the witness (R397); none while the lease key is not in force, since its MAC cannot be made. -/
def leaseBytes (d : Dev) (kind member seq : Nat) (unmirrored : Bool) : Option Bytes :=
  d.pair.cfg.bind fun c =>
    match d.keyStanding c.leaseKey with
    | .inForce b =>
      let head := toLE 2 0x574C ++ toLE 1 kind ++ toLE 1 member ++ toLE 8 c.pairId ++ toLE 4 d.pair.term ++ toLE 4 seq ++
        toLE 1 (b2n unmirrored) ++ toLE 3 0
      some (head ++ (Config.hmac (d.keyBytes b) head).take 8)
    | _ => none

/-- Notes what the pair block sends, by its type or kind. -/
def noteSent (d : Dev) (x : Nat × Bytes) : Dev := { d with pair := { d.pair with sent := (x :: d.pair.sent).take 16 } }

/-- Records go out on the Tie as frames of link 0x2001 (R264, R390), one a frame; a HEARTBEAT before what waits (R391). While the link
is not OPEN no frame carries them. -/
def tieSend (d : Dev) (l : List Bytes) : Dev :=
  let d1 := l.foldl (fun (d : Dev) b => d.noteSent (byteAt b 0, b)) d
  if !(d.findLink 13 0).any (fun x => !x.lost) then d1
  else { d1 with pair := { d1.pair with
    out := if l.any (fun b => byteAt b 0 == 0x10) then l ++ d1.pair.out else d1.pair.out ++ l } }

/-- A message to the witness leaves (R397), under the next req_seq, and waits for its reply. -/
def leaseSend (d : Dev) (kind member : Nat) (unmirrored : Bool) : Dev :=
  let n := d.pair.reqSeq + 1
  let d1 : Dev := { d with pair := { d.pair with reqSeq := n, reqAt := some d.now, asked := d.pair.asked ++ [LeaseReq.mk n d.now unmirrored] } }
  match d.leaseBytes kind member n unmirrored with
  | some b => d1.noteSent (kind, b)
  | none => d1

/-- PAIR_STATE is written at each change of what it keeps (R407). -/
def pairRecord (d : Dev) : Dev :=
  match d.pair.cfg with
  | some c => d.journal .pair (.pairState c.pairId d.pair.count d.pair.term d.sys.role.code)
  | none => d

/-- The boot count of the session becomes `n` (R335, R407); class-0 frames are counted anew in the new session (R220). -/
def setEpoch (d : Dev) (n : Nat) : Dev :=
  ((((({ d with
    pair := { d.pair with count := n }
    rad := d.rad.map (fun s => { s with c0Fc := 0 }), trk := d.trk.map (fun s => { s with c0Fc := 0 }) } : Dev).commit (.epoch n)).put Reg.SIL_EPOCH.word (n % 2 ^ 32)).put
    Reg.PAIR_EPOCH.word (n % 2 ^ 32))).pairRecord

/-- A higher pair count is adopted (R407). -/
def adoptEpoch (d : Dev) (n : Nat) : Dev :=
  if n ≤ d.pair.count then d
  else if d.sys.role = .active then { d with pair := { d.pair with nextEpoch := some n } }
  else (d.setEpoch n).offer Ev.EPOCH_ADOPTED [d.pair.count, n]

/-- Every node that drives a light is pending (R400, R409). -/
def allPending (d : Dev) : Dev :=
  (List.range d.rft.nodes.length).foldl (fun (d : Dev) i => if d.rft.nodes[i]?.any (fun n => n.stat.drives) then d.setPending i else d) d

/-- A role takes effect at a boundary (R389). -/
def takeRole (d : Dev) (r : Role) (cause : Nat) : Dev :=
  if d.sys.role = r then d
  else (((d.setRole r).raise Reg.PAIR_IRQ_STATUS.role).offer Ev.ROLE_CHANGE [d.sys.role.code, r.code, cause]).pairRecord.judgeLedger

/-- INELIGIBLE from the next boundary on, with event 0x0E05 (R389, R394, R406, R409). -/
def ineligible (d : Dev) (cause : Nat) : Dev :=
  if d.sys.role = .ineligible || d.pair.nextRole.any (fun x => x.1 == .ineligible) then d
  else ({ d with pair := { d.pair with nextRole := some (.ineligible, cause), bundles := [] } } : Dev).offer Ev.INELIGIBLE [cause]

/-- RESYNC_REQ leaves (R408). -/
def askResync (d : Dev) : Dev :=
  if d.pair.haltResync then d
  else ({ d with pair := { d.pair with resync := some ⟨[], 0, d.now, 0, 0⟩, bundles := [] } } : Dev).tieSend [d.controlBytes ctlResyncReq]

/-! ### The active's bundles (R392, R395, R403) -/

/-- The counters that a takeover must not repeat (R403): broadcast counters at 0x10000 + medium, class-0 counters at 0x20000 +
medium, and each link's at its handle. -/
def counters (d : Dev) : List (Nat × Nat) :=
  (List.range 14).flatMap (fun md =>
    let b := if md < 4 then ((d.radAt md).bcastFc, (d.radAt md).c0Fc) else ((d.trkAt (md - 4)).bcastFc, (d.trkAt (md - 4)).c0Fc)
    [(0x10000 + md, b.1), (0x20000 + md, b.2)] ++ (d.linksOf md).map (fun l => (linkHandle md l.index, l.fc32)))

def markOf (d : Dev) (c : Nat) : Nat := match d.pair.marks.find? (fun m => m.1 == c) with | some m => m.2 | none => 0

def setMark (d : Dev) (m : Nat × Nat) : Dev :=
  { d with pair := { d.pair with marks := d.pair.marks.filter (fun x => x.1 != m.1) ++ [m] } }

/-- The active closes the bundle of the beat in progress (R392): its counter marks, then the outcome. -/
def closeBundle (d : Dev) (outcome : Nat) : Dev :=
  if !d.inPair || d.sys.role ≠ .active then d
  else
    let new := (d.counters.map (fun c => (c.1, c.2 / 4096 * 4096))).filter (fun c => c.2 != 0 && d.markOf c.1 < c.2)
    let d1 := new.foldl (fun (d : Dev) m => d.setMark m) d
    let d2 := d1.mirror (fun b =>
      let b1 : Bundle := { b with marks := b.marks ++ new }
      { b1 with close := some ⟨outcome, (bundleEntries b1).length, d.rft.sampleSec, if outcome = 0 then d.digest else 0⟩ })
    d2.tieSend ((d2.pair.bundles.filter (fun b => b.beat == d.beat.count)).flatMap (fun b =>
      bundleRecords b ++ (b.close.map (closeBytes b.beat)).toList))

/-! ### Unmirrored service (R396) -/

/-- The active releases its hold. -/
def becomeUnmirrored (d : Dev) : Dev :=
  if d.sys.role ≠ .active || d.pair.unmirrored || !d.tieLost then d
  else ((({ d with pair := { d.pair with unmirrored := true } } : Dev).raise Reg.PAIR_IRQ_STATUS.unmirrored).offer Ev.UNMIRRORED
    [d.beat.count]).judgeLedger

/-! ### Takeover (R399-R403, R405) -/

/-- Broadcast and class-0 counters start at their mark + 8,192, or go on where the module's own frames have passed that (R403). -/
def skipCounters (d : Dev) : Dev :=
  let at_ (c own : Nat) : Nat := max own (d.markOf c + 8192)
  (List.range 14).foldl (fun (d : Dev) md =>
    if md < 4 then d.setRad md (fun s => { s with bcastFc := at_ (0x10000 + md) s.bcastFc, c0Fc := at_ (0x20000 + md) s.c0Fc })
    else d.setTrk (md - 4) (fun s => { s with bcastFc := at_ (0x10000 + md) s.bcastFc, c0Fc := at_ (0x20000 + md) s.c0Fc })) d

/-- Role ACTIVE at *d* + 1 (R400-R403, R370). -/
def becomeActive (d : Dev) (whole : Bool) (cause : Nat) : Dev :=
  let d1 := (d.takeRole .active cause).pulseRestart
  let d2 := if whole then { d1 with pair := { d1.pair with resendAt := some (d1.now + 1000000000), freshSince := [] } }
    else (d1.setEpoch (d1.pair.count + 1)).allPending
  let d3 := d2.skipCounters.offer Ev.TAKEOVER [if cause = pairLease then 0 else if cause = pairHeartbeat then 1 else 2, b2n (!whole)]
  { d3 with
    rft := { d3.rft with c0 := d3.lin.active.map (·.frame) }
    pair := { d3.pair with incomplete := false, gap := false } }

/-- A takeover is decided (R401): at boundary *d* the open bundles are discarded. -/
def decideTakeover (d : Dev) (left : Nat) (whole : Bool) (cause : Nat) : Dev :=
  { d with pair := { d.pair with
    takeover := .decided left whole cause, bundles := d.pair.bundles.filter (fun b => b.close.isSome) } }

/-- No takeover or handover runs. -/
def notDeciding (d : Dev) : Bool := match d.pair.takeover with | .decided .. => false | .handing _ => false | _ => true

/-- The conditions of R399 on a STANDBY at this instant. -/
def heartbeatTakeover (d : Dev) : Bool :=
  d.hbPeriod && d.sys.role == .standby && d.notDeciding &&
  ((3 ≤ d.get Reg.PAIR_LAG.tie_miss && 3 ≤ d.get Reg.PAIR_LAG.path2_miss && d.witnessLost) ||
   (d.get Reg.PAIR_LAG.tie_miss = 0 && d.pair.peerUp && d.pair.peerRole != .active &&
    (match d.pair.unreachableAt with | some u => u + 1000000000 ≤ d.now | none => false) &&
    (d.pair.member = 0 || d.pair.peerRole == .syncing || d.pair.peerRole == .ineligible)))

/-- A takeover condition on a module in TEST that came from STANDBY ends every test and returns it to SERVICE, its mirror with a gap (R62, R405, R464). -/
def leaveTest (d : Dev) (cause : Nat) : Dev :=
  match d.bst.test with
  | some r =>
    if r.fromStandby then
      let x := (d.endTests cause).goto .service causeTakeover
      { x with pair := { x.pair with gap := true } }
    else d
  | none => d

/-- CONTROL HANDOVER goes to the peer once the hold of the beat before the one at which the active stopped is complete (R405). -/
def handOver (d : Dev) : Dev :=
  match d.pair.takeover with
  | .handing h =>
    if d.pair.peerRole == .standby && !d.pair.unmirrored && !d.tieLost && d.pair.acked + 1 < h then d
    else ({ d with pair := { d.pair with takeover := .decided 0 true pairHandover } } : Dev).tieSend [d.controlBytes ctlHandover]
  | _ => d

/-- The handover starts at the active: HANDOVER goes to the witness, naming the peer (R405). -/
def askHandover (d : Dev) : Dev := ({ d with pair := { d.pair with takeover := .asked } } : Dev).leaseSend 5 (1 - d.pair.member) false

/-- Both modules claim ACTIVE (R409): the loser becomes INELIGIBLE and resyncs; the winner outbids a higher count. -/
def bothActive (d : Dev) (h : Heartbeat) : Dev :=
  let lose := if d.witnessLost then d.pair.member == 1 else if d.leaseHeld && !h.leaseHeld then false
    else if !d.leaseHeld && h.leaseHeld then true else d.pair.member == 1
  let d1 := d.offer Ev.BOTH_ACTIVE [if lose then d.pair.member else 1 - d.pair.member, d.pair.term]
  if lose then (d1.ineligible pairDisagree).askResync
  else if d.pair.count < h.count then (d1.setEpoch (h.count + 1)).allPending else d1

/-! ### HEARTBEATs (R391, R404, R407, R409, R410) -/

def roleOf (n : Nat) : Role := match n with | 0 => .solo | 1 => .active | 2 => .standby | 3 => .syncing | _ => .ineligible

/-- A module outside ACTIVE takes its time from the active (R409, R410). -/
def followTime (d : Dev) (off : Int) : Dev :=
  let d1 := d.put Reg.PAIR_TIME_OFS.word (toTwos 32 off)
  if 100000 < mag off then
    (d1.offer Ev.TIME_DISAGREE [toTwos 32 off]).decideStep ⟨false, off, none, false, false⟩
  else ({ d1 with beat := { d1.beat with slew := off + d1.slewDone } } : Dev).showSlew

/-- What a HEARTBEAT shows of the peer, and the disagreements it decides. A module that resyncs adopts the active's beat counter, and
one whose Cut List differed resyncs once both hold the same (R409). -/
def heartbeatRx (d : Dev) (h : Heartbeat) : Dev :=
  let peer := roleOf h.role
  let was := d.pair.peerRole
  let d1 : Dev := { d with pair := { d.pair with
    peerRole := peer, peerUp := true, peerTest := h.inTest, peerCount := h.count, peerC0 := h.c0Seq, peerMajor := h.major
    peerBeat := h.beat, heard := if h.beat = d.beat.count then some h.beat else d.pair.heard
    leased := d.pair.leased || h.leaseHeld } }
  let d2 := if h.beat = d.beat.count then d1.put Reg.PAIR_LAG.tie_miss 0
    else if d.sys.role ≠ .active && d.sys.role ≠ .standby && d.pair.resync.isSome && peer = .active then
      { d1 with beat := { d1.beat with count := h.beat } }
    else d1
  let d3 := d2.adoptEpoch h.count
  let d4 := if d.sys.role ≠ .active && peer = .active then
      ({ d3 with lin := { d3.lin with c0Seq := h.c0Seq } } : Dev).followTime h.offset
    else d3
  let d5 := if d.sys.role = .active && peer = .active then d4.bothActive h
    else if d.sys.role = .ineligible && d.pair.cutDiffers && peer = .active && (h.cutHash, h.generation) = d.cutMark then
      ({ d4 with pair := { d4.pair with cutDiffers := false } } : Dev).askResync
    else if d.sys.role ≠ .standby then d4
    else if h.major ≠ d.sys.fwVersion / 256 then d4.ineligible pairDisagree
    else if (h.cutHash, h.generation) ≠ d.cutMark && d.cut.load.isNone && d.cut.patch.isNone then
      ({ d4 with pair := { d4.pair with cutDiffers := true } } : Dev).ineligible pairDisagree
    else if peer = .active && h.beat ≠ d.beat.count then (d4.ineligible pairDisagree).askResync
    else d4
  let d6 := if d.sys.role = .active && d.pair.unmirrored && peer = .standby && was ≠ .standby then
      { d5 with pair := { d5.pair with unmirrored := false, mirrorBroken := false } } else d5
  let d7 := if d6.heartbeatTakeover then d6.leaveTest 1 else d6
  (if peer = was && d.pair.peerUp then d7 else d7.judgeLedger).showPair

/-- The HEARTBEAT instance that has just ended (R391): that of the beat in progress at its end, else that of the beat before. -/
def lastInstance (d : Dev) : Nat := if d.beat.len ≤ d.beat.sinceBase then d.beat.count else d.beat.count - 1

/-- A HEARTBEAT instance is missed (R396, R399). -/
def heartbeatMissed (dv : Dev) : Dev :=
  let d : Dev := { dv with pair := { dv.pair with missed := some dv.lastInstance } }
  let n := d.get Reg.PAIR_LAG.tie_miss + 1
  let d1 := d.put Reg.PAIR_LAG.tie_miss (min n 255)
  let d2 := if n = 3 then
      ((({ d1 with pair := { d1.pair with peerUp := false } } : Dev).raise Reg.PAIR_IRQ_STATUS.tie_lost).offer Ev.TIE_LOST
        [d.lastInstance]).judgeLedger
    else d1
  let d3 := if d2.witnessLost then d2.becomeUnmirrored else d2
  (if d3.heartbeatTakeover then d3.leaveTest 1 else d3).showPair

/-! ### The beacon watch (R237, R238) -/

/-- The beacon's checks 1, 2, 4 and 5 of R233 under bcast_key, from the other member, on the expected channel and with its SFD in the
window (R222, R237). -/
def beaconValid (d : Dev) (r : Nat) (p : RadPlan) (f : RadioRx) : Option (Nat × Nat) :=
  match d.keyStanding p.bcastKey with
  | .inForce b =>
    let addr := fieldLE f.psdu 4 2
    let fc32 := fieldLE f.psdu 8 4
    let w := watchWindow p
    if !f.phrOk || !f.fcsOk || f.psdu.length ≠ 36 || byteAt f.psdu 0 % 64 ≠ fcBeacon || byteAt f.psdu 1 ≠ 1 ||
        fieldLE f.psdu 2 2 ≠ p.netId || addr ≠ 0x3FF + 0x400 * r || f.channel ≠ maskTurn p.beaconMap (d.beat.count / p.beaconPeriod) ||
        d.beat.sinceBase < w.1 + f.sfdAgo || w.2 + f.sfdAgo < d.beat.sinceBase then none
    else match Config.ccmDecrypt (d.keyBytes b) (d.nonce r addr 0 fc32) (f.psdu.take 16) (f.psdu.drop 16) with
      | some pl => if byteAt pl 10 = 1 - d.pair.member && (d.radAt r).rxPeerFc.all (fun x => x < fc32) then some (fc32, fieldLE pl 0 4) else none
      | none => none
  | _ => none

/-- A watched instance ends (R237, R238): one at each due beat; a miss at the end of its window. -/
def watchInstance (d : Dev) (r : Nat) (f : Option RadioRx) : Dev :=
  match (d.radAt r).plan with
  | none => d
  | some p =>
    if !p.watch || !d.watches || !beaconBeat p d.beat.count || (d.radAt r).watchBeat = some d.beat.count ||
        (f.isNone && d.beat.sinceBase < (watchWindow p).2) then d
    else
      let d := d.setRad r (fun s => { s with watchBeat := some d.beat.count })
      let path2 := match d.pair.cfg with | some c => !c.path2Trunk && c.path2 == r | none => false
      match f.bind (d.beaconValid r p) with
      | some (fc, b) =>
        let d1 := ((d.setRad r (fun s => { s with rxPeerFc := some fc })).bump (Reg.RAD_BEACON.received r)).put (Reg.RAD_BEACON.consec r) 0
        let d2 := if path2 then d1.put Reg.PAIR_LAG.path2_miss 0 else d1
        let d3 := if d.flag (Reg.RAD_STATUS.beacon_lost r) then
            (d2.put (Reg.RAD_STATUS.beacon_lost r) 0).offer Ev.RAD_BEACON_FOUND [r, d.beat.count] else d2
        (if b = d.beat.count % 2 ^ 32 then d3
         else (d3.raise (Reg.RAD_STATUS.beat_mismatch r)).offer Ev.RAD_BEACON_BEAT_MISMATCH [r, d.beat.count % 2 ^ 32, b]).showPair
      | none =>
        if ((d.radAt r).claimed && (watchWindow p).1 < 2000000) || d.mediumTested r || !bit (d.get Reg.BST_UNIT0.radios) r then d
        else
          let n := d.get (Reg.RAD_BEACON.consec r) + 1
          let d1 := d.put (Reg.RAD_BEACON.consec r) (min n 255)
          let d2 := if path2 then d1.put Reg.PAIR_LAG.path2_miss (min n 255) else d1
          let d3 := if n = 3 then ((d2.put (Reg.RAD_STATUS.beacon_lost r) 1).raise (Reg.RAD_IRQ_STATUS.beacon_lost r)).offer
              Ev.RAD_BEACON_LOST [r, d.beat.count] else d2
          (if d3.heartbeatTakeover then d3.leaveTest 1 else d3).showPair

/-! ### Replay (R393, R394, R409) -/

/-- The inputs of an abandoned or skipped beat are carried (R11, R57). -/
def carry (d : Dev) : Dev :=
  { d with rft := { d.rft with
    carriedCmd := d.rft.cmdSet, cmdNoted := d.rft.cmdSet.length, carriedPort := d.rft.portSet, portSet := [], cmdSet := []
    inProgress := false, sweeping := false, refreshed := [], stagedBatten := [], stagedSpeed := [] } }

/-- The entries of received BUNDLE records (R390). -/
def bundleAdd (b : Bundle) (r : BundleRec) : Bundle :=
  match r with
  | .port eid kind value us beat => { b with port := b.port ++ [PortEntry.mk eid kind value beat us] }
  | .c1Set s i l e t => { b with cmds := b.cmds ++ [CmdEntry.c1Set s i l e t] }
  | .c1Clear s i => { b with cmds := b.cmds ++ [CmdEntry.c1Clear s i] }
  | .class0 i a => { b with cmds := b.cmds ++ [CmdEntry.class0 i a] }
  | .refused e => { b with refused := b.refused ++ [e] }
  | .post k e v => { b with posts := b.posts ++ [LPost.mk k e v] }
  | .passes n => { b with controls := b.controls ++ [PairCtl.passes n] }
  | .lowered => { b with controls := b.controls ++ [PairCtl.lowered] }
  | .hold => { b with controls := b.controls ++ [PairCtl.hold] }
  | .patch c => { b with controls := b.controls ++ [PairCtl.patch c] }
  | .cutList c => { b with controls := b.controls ++ [PairCtl.cutList c] }
  | .effect => { b with controls := b.controls ++ [PairCtl.effect] }
  | .capture => { b with controls := b.controls ++ [PairCtl.capture] }
  | .epoch n => { b with controls := b.controls ++ [PairCtl.epoch n] }
  | .mark c v => { b with marks := b.marks ++ [(c, v)] }

/-- BUNDLE records arrive (R390, R393): mirrored CLASS0 commands reach the Lintel. -/
def bundleRx (d : Dev) (beat : Nat) (recs : List BundleRec) : Dev :=
  let b0 : Bundle := ⟨beat, [], [], [], [], [], [], none⟩
  let l := if d.pair.bundles.any (fun b => b.beat == beat) then d.pair.bundles else d.pair.bundles ++ [b0]
  let c0 := recs.filterMap (fun r => match r with
    | .class0 i a => some (if a then C0Req.activate i else C0Req.release i)
    | _ => none)
  { d with
    pair := { d.pair with bundles := l.map (fun b => if b.beat = beat then recs.foldl bundleAdd b else b) }
    lin := { d.lin with waiting := d.lin.waiting ++ c0 } }

/-- A control entry at its beat (R60, R97, R101, R407). -/
def control (d : Dev) (c : PairCtl) : Dev :=
  match c with
  | .passes n => (d.put Reg.BEAT_PASSES.passes_now n).showBudget
  | .lowered => (d.put Reg.BEAT_PASSES.passes_now (max 1 (d.get Reg.BEAT_PASSES.passes_now - 1))).showBudget
  | .hold =>
    match d.cut.load with
    | some run => if run.phase = .waiting then d.enterHold run else d.ineligible pairDisagree
    | none => d.ineligible pairDisagree
  | .effect =>
    let d1 := d.copyDone
    match d1.cut.load with
    | some run => if run.phase = .leaving && d1.sys.mstate = .hold then d1.leaveHold run else d1.ineligible pairDisagree
    | none => d1.ineligible pairDisagree
  | .patch x =>
    match d.checkAPatch x with
    | (.ok p, d1) =>
      let g := p.header.generation
      let slot := d1.get Reg.CUT_STATUS.slot
      let log (s : Option NandSlot) : Option NandSlot := s.map (fun k => { k with patches := k.patches.take (d1.get Reg.CUT_PATCHES.count) ++ [x] })
      let d2 : Dev := { d1 with cut := { d1.cut with
        slot0 := if slot = 0 then log d1.cut.slot0 else d1.cut.slot0, slot1 := if slot = 1 then log d1.cut.slot1 else d1.cut.slot1 } }
      let d3 := match d2.cut.image with
        | some i => d2.commit (.cutPointer slot i.header.cutId g i.hash (d2.get Reg.CUT_PATCHES.count + 1))
        | none => d2
      ((((d3.applyPatch p).put Reg.CUT_GEN.word g).bump Reg.CUT_PATCHES.count).offer Ev.PATCH_APPLIED [g, d.beat.count]).showBudget
    | (.error _, d1) => d1.ineligible pairDisagree
  | .cutList x =>
    let r := d.startLoad x 0
    if r.2 = ST_PENDING then r.1 else r.1.ineligible pairDisagree
  | .capture => d
  | .epoch n => if d.pair.count < n then (d.setEpoch n).offer Ev.EPOCH_ADOPTED [d.pair.count, n] else d

/-- A digest mismatch (R409). -/
def digestMismatch (d : Dev) (beat own theirs : Nat) : Dev :=
  let d1 := (((d.bump Reg.PAIR_CNT.mismatches).raise Reg.PAIR_IRQ_STATUS.mismatch).offer Ev.DIGEST_MISMATCH
    [beat, own, theirs]).ineligible pairDisagree
  let again := match d.pair.mismatchAt with | some t => d.now < t + 3600 * nsPerSec | none => false
  ({ d1 with pair := { d1.pair with mismatchAt := some d.now, haltResync := again } } : Dev).askResync

/-- A SYNCING module at its first matching digest with a lag of at most 1 becomes STANDBY (R408). -/
def resyncDone (d : Dev) : Dev :=
  match d.pair.resync with
  | none => d
  | some r =>
    let lag := (d.pair.bundles.filter (fun b => b.close.isSome)).length
    if d.sys.role ≠ .syncing || r.loaded = 0 || 1 < lag then d
    else (({ d with pair := { d.pair with resync := none, nextRole := some (.standby, pairResynced), gap := false, incomplete := false } } : Dev).bump
      Reg.PAIR_CNT.resyncs).offer Ev.RESYNC_DONE [r.startBeat, r.bytes, (d.now - r.started) / 1000000]

/-- The sweep and COMMIT of a replayed beat (R393); the frames that the engine counts have given their levels (R135). -/
def replayCommit (d : Dev) (b : Nat) : Dev :=
  let n := d.get Reg.BEAT_PASSES.passes_now
  let d1 := (((d.startSweep n).runSweep n n).commitEngine b).1
  { d1 with lin := { d1.lin with active := d1.lin.active.map (fun a : ActiveFrame =>
      if d1.rft.c0.any (fun f => f.index == a.frame.index) then { a with committed := true } else a) } }

/-- Replays one closed bundle (R393): the inputs of the beat, its outcome, its posts and its snapshot chunks. -/
def replay (d : Dev) (b : Bundle) (c : BundleClose) : Dev :=
  let own := d.beat.count
  let d0 : Dev := { d with
    beat := { d.beat with count := b.beat }
    pair := { d.pair with bundles := d.pair.bundles.filter (fun x => x.beat != b.beat), replayed := b.beat } }
  let d1 := b.controls.foldl control d0
  let off := d1.offsetNow
  let d2 := d1.takeSample c.sample off
  let d3 := if d2.sys.mstate = .hold then { d2 with rft := { d2.rft with carriedPort := d2.rft.carriedPort ++ b.port } }
    else d2.ingest (d2.rft.carriedCmd ++ b.cmds) d2.rft.cmdNoted (d2.rft.carriedPort ++ b.port) b.refused
  let d3' : Dev := { d3 with rft := { d3.rft with refused := [] } }
  let d4 := if d2.sys.mstate = .hold then d3'
    else if c.outcome = 0 then d3'.replayCommit b.beat
    else d3'.carry
  let d5 := b.posts.foldl (fun (d : Dev) p => d.applyPost p.kind p.eid p.value) d4
  let d6 := b.marks.foldl (fun (d : Dev) m => d.setMark m)
    (if c.outcome = 1 then d5.snapBoundary.dropLedgerCommit else d5.snapBoundary.ledgerCommit)
  let d7 : Dev := (({ d6 with beat := { d6.beat with count := own } } : Dev).put Reg.PAIR_ACKED_LO.word (b.beat % 2 ^ 32)).put
    Reg.PAIR_ACKED_HI.word (b.beat / 2 ^ 32)
  if c.outcome = 0 && d2.sys.mstate != .hold then
    (if d4.digest = c.digest then d7.resyncDone else d7.digestMismatch b.beat d4.digest c.digest)
  else d7

/-- Replays every bundle already closed, oldest first (R393, R401). -/
def replayAll (d : Dev) : Dev :=
  (sortBy (fun b : Bundle => b.beat) (d.pair.bundles.filter (fun b => b.close.isSome))).foldl (fun (d : Dev) b =>
    match b.close with
    | some c => if d.pair.bundles.any (fun x => x.beat == b.beat) then d.replay b c else d
    | none => d) d

/-- A standby may replay: STANDBY, or SYNCING with its image loaded (R393, R408). -/
def mayReplay (d : Dev) : Bool :=
  d.pair.nextRole.all (fun x => x.1 != .ineligible) &&
  (d.sys.role == .standby || (d.sys.role == .syncing && d.pair.resync.any (fun r => r.loaded != 0)))

/-- A BUNDLE_CLOSE arrives (R393, R394). -/
def bundleCloseRx (d : Dev) (beat : Nat) (c : BundleClose) : Dev :=
  if d.sys.role ≠ .standby && d.sys.role ≠ .syncing then d
  else
    let d1 := d.bundleRx beat []
    let last := (d.pair.bundles.filter (fun b => b.close.isSome)).foldl (fun m b => max m b.beat) d.pair.replayed
    let d2 : Dev := { d1 with pair := { d1.pair with
      bundles := d1.pair.bundles.map (fun b => if b.beat = beat then { b with close := some c } else b) } }
    if d.sys.role = .standby && last ≠ 0 && beat ≠ last + 1 then
      ((({ d with pair := { d.pair with gap := true } } : Dev).ineligible pairLagGap).askResync).showPair
    else
      let d3 := if d2.mayReplay then d2.replayAll else d2
      let lag := (d3.pair.bundles.filter (fun b => b.close.isSome)).length
      (if d3.sys.role = .standby && 2 < lag then (d3.ineligible pairLagGap).askResync else d3).showPair

/-! ### Handshake (R406) -/

/-- The pair's standing starts at boot step 9: the member from unit_0 and unit_1 (R387). -/
def pairStart (d : Dev) : Dev :=
  match d.pair.cfg with
  | some c =>
    let n := d.bootCount
    let kept := match d.inForce 0x0050 0 with | some (.pairState id n t _) => if id = c.pairId then (n, t) else (0, 0) | _ => (0, 0)
    let d1 : Dev := { d with pair := { d.pair with
      member := b2n (Config.unitId.toNat != c.unit0), count := max n kept.1, term := kept.2, incomplete := true } }
    (if n < kept.1 then d1.setEpoch kept.1 else d1.put Reg.PAIR_EPOCH.word (n % 2 ^ 32)).showPair
  | none => d

/-- What a HELLO finds: 0 a peer that is ACTIVE, 1 any other, or the cause of INELIGIBLE, 2 to 4 (R406). -/
def helloFinding (d : Dev) (h : Heartbeat) (pairId unit : Nat) : Nat :=
  match d.pair.cfg with
  | none => 2
  | some c =>
    if pairId ≠ c.pairId || unit ≠ (if d.pair.member = 0 then c.unit1 else c.unit0) then 2
    else if h.major ≠ d.sys.fwVersion / 256 then 3
    else if (h.cutHash, h.generation) ≠ d.cutMark then 4
    else if h.role = 1 then 0 else 1

/-- A role of the handshake: at once at boot step 9, else from the next boundary (R389, R406; notes/assumptions/53). -/
def handshakeRole (d : Dev) (r : Role) : Dev :=
  if d.sys.mstate = .boot then d.takeRole r pairHandshake else { d with pair := { d.pair with nextRole := some (r, pairHandshake) } }

/-- A HELLO arrives (R406, R407, R409): it is answered; the first one at the handshake decides. -/
def helloRx (d : Dev) (h : Heartbeat) (pairId unit : Nat) : Dev :=
  let d0 := d.tieSend [d.controlBytes ctlHello]
  let open_ := !d.pair.handshake && ((d.sys.mstate == .boot && d.get Reg.BST_STATUS.step == 9) || d.sys.role == .ineligible)
  let found := d.helloFinding h pairId unit
  if !open_ then
    (if found ≤ 1 then
      (if h.role = 1 && d.sys.role = .active then (d0.adoptEpoch h.count).bothActive h else d0.adoptEpoch h.count)
     else d0).showPair
  else
    let d1 := ({ d0 with pair := { d0.pair with helloSeen := true, handshake := true, peerRole := roleOf h.role, peerMajor := h.major } } : Dev).offer
      Ev.HANDSHAKE [unit, found]
    (match found with
     | 0 =>
       let d2 := ((d1.adoptEpoch h.count).handshakeRole .syncing)
       ({ d2 with beat := { d2.beat with count := h.beat } } : Dev).askResync
     | 1 => (({ d1 with pair := { d1.pair with incomplete := true } } : Dev).adoptEpoch h.count).handshakeRole .standby
     | 2 => (d1.handshakeRole .ineligible).offer Ev.INELIGIBLE [2]
     | n => (({ d1 with pair := { d1.pair with cutDiffers := n == 4 } } : Dev).handshakeRole .ineligible).offer Ev.INELIGIBLE [n]).showPair

/-! ### Resync (R408) -/

/-- The 16 bytes of a page (R109). -/
def parsePage (b : Bytes) (o : Nat) : Page :=
  ⟨fieldLE b o 2 % 1024, fieldLE b (o + 2) 2, byteAt b (o + 4) % 8, bit (byteAt b (o + 5)) 0, fieldLE b (o + 6) 2, fieldLE b (o + 8) 4,
    fieldLE b (o + 12) 2 % 1024, bit (fieldLE b (o + 12) 2) 15, fieldLE b (o + 14) 2⟩

/-- The runtime area (R108). -/
def parseRun (b : Bytes) (o : Nat) : NodeRun :=
  let f := byteAt b (o + 86)
  { lastSent := fieldLE b (o + 80) 2 % 1024, seq := fieldLE b (o + 82) 2, refreshTmr := fieldLE b (o + 84) 2, pending := bit f 0
    refreshOnly := false, c1Eid := bit f 1, c0Active := bit f 2, c1Noexp := bit f 3, c1Level := fieldLE b (o + 88) 2 % 1024
    c1Expiry := fieldLE b (o + 92) 4 }

/-- An entry of the override table (R131). -/
def parseOverride (b : Bytes) (o : Nat) : Option Override :=
  let w := fieldLE b o 4
  if bit w 10 then some ⟨w % 1024, bit w 11, fieldLE b (o + 4) 4⟩ else none

/-- The image is loaded (R145, R408): node records, batten table, speed table, override table, flush plate, ledger table, and
the cursor (notes/assumptions/33). The image names no active class-0 frames: the engine counts those of the Lintel (notes/assumptions/49). -/
def loadResync (d : Dev) (b : Bytes) : Dev :=
  let n := d.rft.nodes.length
  let z := d.rft.zones.length
  let bat := 128 * n
  let spd := bat + 8 * n
  let ovr := spd + 16 * z
  let plate := ovr + 49160
  let used := 16 * plateUsed d.windows
  let led := plate + used
  let battens := (List.range n).filterMap (fun i =>
    let o := bat + 8 * i
    if bit (byteAt b (o + 6)) 0 then some (Batten.mk i (fieldLE b o 4) (fieldLE b (o + 4) 2)) else none)
  let d1 : Dev := { d with
    mem := d.mem.writeN plateBase (slice b plate used)
    rft := { d.rft with
      nodes := d.rft.nodes.mapIdx (fun i (x : Node) =>
        { x with run := parseRun b (128 * i), page0 := parsePage b (128 * i + 96), page1 := parsePage b (128 * i + 112) })
      batten := battens
      speed := (List.range z).map (fun i => (List.range 8).map (fun h => fieldLE b (spd + 16 * i + 2 * h) 2))
      ovSite := parseOverride b ovr
      ovZone := (List.range 2048).filterMap (fun i => (parseOverride b (ovr + 8 + 8 * i)).map (fun o => (i, o)))
      ovGroup := (List.range 4096).filterMap (fun i => (parseOverride b (ovr + 8 + 16384 + 8 * i)).map (fun o => (i, o)))
      cursor := fieldLE b (led + 16 * n) 4, cur1 := false, carriedCmd := [], carriedPort := [], cmdNoted := 0, refused := []
      c0 := d.lin.active.map (·.frame) } }
  ((List.range n).foldl (fun (d : Dev) e =>
    if (platePos 0 d.windows e).isSome then d else { d with mem := d.mem.writeN (d.liveAddr e) (slice b (led + 16 * e) 16) }) ((d1.put Reg.RFT_STATUS.cur_page 0).put
    Reg.RFT_CS_CURSOR.cursor (fieldLE b (led + 16 * n) 4))).recountReported

/-- An entry of the override table (R131). -/
def overrideBytes (o : Option Override) : Bytes :=
  match o with | some x => toLE 4 (x.level + 2 ^ 10 + 2 ^ 11 * b2n x.noexp) ++ toLE 4 x.expiry | none => toLE 8 0

/-- The image that the active takes (R145, R408), laid out as `loadResync` reads it. -/
def resyncImage (d : Dev) : Bytes :=
  let n := d.rft.nodes.length
  let entry (l : List (Nat × Override)) (i : Nat) : Bytes := overrideBytes ((l.find? (fun o => o.1 == i)).map (·.2))
  d.rft.nodes.flatMap Node.bytes ++
  (List.range n).flatMap (fun i => match d.rft.batten.find? (fun b => b.eid == i) with
    | some b => toLE 4 b.beat ++ toLE 2 b.us ++ [1, 0] | none => toLE 8 0) ++
  d.rft.speed.flatMap (fun z => (List.range 8).flatMap (fun h => toLE 2 (z.getD h 0))) ++
  overrideBytes d.rft.ovSite ++ (List.range 2048).flatMap (entry d.rft.ovZone) ++ (List.range 4096).flatMap (entry d.rft.ovGroup) ++
  d.mem.readN plateBase (16 * plateUsed d.windows) ++ (List.range n).flatMap (fun e => d.mem.readN (d.liveAddr e) 16) ++ toLE 4 d.rft.cursor

/-- The image leaves in RESYNC_CHUNK records (R390, R408). -/
def sendImage (d : Dev) : Dev :=
  let b := d.resyncImage
  d.tieSend ((List.range (ceilDiv b.length 1464)).map (fun i =>
    let x := (b.drop (1464 * i)).take 1464
    toLE 1 0x13 ++ toLE 4 (1464 * i) ++ toLE 2 x.length ++ toLE 2 0 ++ x))

/-- A RESYNC_CHUNK arrives (R408): chunks are taken in order; the last one loads the image and the replay begins. -/
def resyncChunk (d : Dev) (c : ResyncChunk) : Dev :=
  match d.pair.resync with
  | none => d
  | some r =>
    if d.sys.role = .active || d.sys.role = .standby || c.offset ≠ r.image.length || r.loaded ≠ 0 then d
    else
      let img := r.image ++ c.data
      let start := if r.startBeat ≠ 0 then r.startBeat else
        match d.pair.bundles with | b :: _ => b.beat | [] => d.beat.count
      let d1 : Dev := { d with pair := { d.pair with
        resync := some { r with image := img, bytes := img.length, startBeat := start }
        nextRole := if d.sys.role = .syncing then d.pair.nextRole else some (.syncing, pairResynced) } }
      if !c.last then d1
      else
        let d2 := d1.loadResync img
        let d3 : Dev := { d2 with pair := { d2.pair with
          resync := some { r with image := [], bytes := img.length, loaded := img.length, startBeat := start }
          replayed := start - 1, bundles := d2.pair.bundles.filter (fun b => start ≤ b.beat) } }
        if d3.mayReplay then d3.replayAll.showPair else d3.showPair

/-! ### The lease (R397, R398) -/

/-- A reply is valid: magic, kind, pair_id, req_seq and MAC (R397); the REQUEST it answers. -/
def leaseReply (d : Dev) (kind : Nat) (m : Bytes) : Option LeaseReq :=
  match d.pair.cfg with
  | none => none
  | some c =>
    match d.keyStanding c.leaseKey with
    | .inForce b =>
      if m.length = 32 && fieldLE m 0 2 = 0x574C && byteAt m 2 = kind && fieldLE m 4 8 = c.pairId &&
          slice m 24 8 = (Config.hmac (d.keyBytes b) (m.take 24)).take 8 then
        d.pair.asked.find? (fun r => r.seq == fieldLE m 16 4)
      else none
    | _ => none

/-- A valid reply shows the witness reachable (R398). -/
def witnessHeard (d : Dev) (r : LeaseReq) : Dev :=
  { d with pair := { d.pair with noReply := 0, unreachableAt := none, asked := d.pair.asked.filter (fun x => x.seq != r.seq) } }

def badLease (d : Dev) : Dev := (d.bump Reg.PAIR_CNT.bad_lease).showPair

/-- GRANT (R396, R398, R400, R405). -/
def leaseGrant (d : Dev) (m : Bytes) : Dev :=
  match d.leaseReply 2 m with
  | none => d.badLease
  | some r =>
    let d1 := d.witnessHeard r
    if byteAt m 3 = d.pair.member then
      let term := fieldLE m 12 4
      let broken := bit (byteAt m 20) 1
      let d2 : Dev := { d1 with pair := { d1.pair with
        leased := true, leaseEnd := r.left + 1000000000, term := term, mirrorBroken := broken, renewed := r.unmirrored } }
      let d3 := if term = d.pair.term then d2 else d2.pairRecord
      let d4 := if r.unmirrored then d3.becomeUnmirrored else d3
      (if d4.sys.role = .standby && d4.notDeciding then
        d4.replayAll.decideTakeover 3 (d4.mirrorWhole && !broken) pairLease else d4).showPair
    else (if d1.sys.role = .active && d1.pair.takeover = .asked then { d1 with pair := { d1.pair with takeover := .granted } }
      else d1).showPair

/-! ### The resend (R402) -/

/-- The resend is due: it begins at the next boundary (R402). -/
def askResend (d : Dev) : Dev :=
  if d.pair.resendAt.isSome && d.sys.role = .active then { d with pair := { d.pair with resendGo := true } } else d

/-- The resend begins at this boundary (R402). -/
def startResend (d : Dev) : Dev :=
  if !d.pair.resendGo then d
  else
    let d1 : Dev := { d with pair := { d.pair with resendGo := false } }
    match d.pair.resendAt with
    | some _ => if d.sys.role ≠ .active then d1 else
      ({ d1 with pair := { d1.pair with resendAt := none, resending := true, resendCursor := 0, resendItems := 0 } } : Dev).put
        Reg.PAIR_RESEND.word 0x20000
    | none => d1

/-- The item that resends a node's last command (R402). -/
def resendItem (d : Dev) (i : Nat) (n : Node) : Option CsItem :=
  match linkMedium n.stat.link with
  | some m => if n.stat.drives && !n.run.c0Active && !d.pair.freshSince.contains i then
      some ⟨i, n.run.lastSent, true, false, n.run.seq, d.epoch, n.stat.link, if n.stat.proxyAddr = 0xFFFF then 0x7FF else n.stat.proxyAddr, 0, m, [i]⟩
    else none
  | none => none

/-- The resend items of a beat: the places that the change-set leaves free, and never fewer than 4,096 (R402). -/
def resendBeat (d : Dev) (placed : Nat) : Dev :=
  if !d.pair.resending then d
  else
    let room := max (csLimit - placed) 4096
    let step (acc : Dev × Nat × Nat) (x : Node × Nat) : Dev × Nat × Nat :=
      let (dv, used, cur) := acc
      if room ≤ used then acc
      else match dv.resendItem x.2 x.1 with
        | some it => (dv.pushItem it, used + 1, x.2 + 1)
        | none => (dv, used, max cur (x.2 + 1))
    let r := (d.rft.nodes.zipIdx.drop d.pair.resendCursor).foldl step (d, 0, d.pair.resendCursor)
    let total := d.pair.resendItems + r.2.1
    if r.2.2 ≥ d.rft.nodes.length then
      ((({ r.1 with pair := { r.1.pair with resending := false, resendItems := total, resendCursor := 0 } } : Dev).put Reg.PAIR_RESEND.word 0).raise
        Reg.PAIR_IRQ_STATUS.resend_done).offer Ev.RESEND_DONE [total]
    else ({ r.1 with pair := { r.1.pair with resendCursor := r.2.2, resendItems := total } } : Dev).put Reg.PAIR_RESEND.word (0x20000 + r.2.2)

/-! ### The boundary (R389, R399, R401, R405, R407) -/

/-- A takeover by R399 is decided at this boundary; TEST is left for it (R62). -/
def heartbeatDecide (d : Dev) : Dev :=
  if !d.heartbeatTakeover then d
  else
    let d1 := d.leaveTest 1
    if d1.sys.mstate = .service then d1.replayAll.decideTakeover 2 false pairHeartbeat else d1

/-- One boundary of a takeover or a handover. -/
def takeoverBoundary (d : Dev) : Dev :=
  match d.pair.takeover with
  | .none => d.heartbeatDecide
  | .asked => d.heartbeatDecide
  | .granted => if d.sys.role = .active then ({ d with pair := { d.pair with takeover := .handing d.beat.count } } : Dev).handOver else d
  | .handing _ => d.handOver
  | .decided left whole cause =>
    let set (d : Dev) (x : Takeover) : Dev := { d with pair := { d.pair with takeover := x } }
    if left = 0 then
      set ((({ d with pair := { d.pair with leaseEnd := 0, incomplete := false } } : Dev)).takeRole .standby cause) .none
    else if d.sys.role = .active then set d .none
    else if left = 3 then set (d.replayAll) (.decided 2 whole cause)
    else if left = 2 then set (d.becomeActive whole cause) (.decided 1 whole cause)
    else set d .none

/-- What the pair does at a boundary, before the engine's INGEST. The pair block has taken the frames of its receive buffer by then
(DESIGN CHOICE, notes/assumptions/51). -/
def pairBoundary (d : Dev) : Dev :=
  if !d.inPair then d
  else
    let missed := match d.pair.cfg with | some c => c.path2Trunk && d.hbPeriod && !d.pair.path2Heard | none => false
    let d1 := if missed then d.put Reg.PAIR_LAG.path2_miss (min 255 (d.get Reg.PAIR_LAG.path2_miss + 1)) else d
    let d1 := if d1.pair.renewed || d1.witnessLost then d1.becomeUnmirrored else d1
    let d2 : Dev := ({ d1 with pair := { d1.pair with path2Heard := false, rx := [] } } : Dev).startResend
    let d3 := match d2.pair.nextRole with
      | some (r, c) =>
        let x := ({ d2 with pair := { d2.pair with nextRole := none } } : Dev).takeRole r c
        if r == Role.standby && x.mayReplay then x.replayAll else x
      | none => d2
    let d4 := match d3.pair.nextEpoch with
      | some n => if n ≤ d3.pair.count then { d3 with pair := { d3.pair with nextEpoch := none } } else
        (((({ d3 with pair := { d3.pair with nextEpoch := none } } : Dev).setEpoch n).offer Ev.EPOCH_ADOPTED [d3.pair.count, n]).mirror
          (fun b => { b with controls := b.controls ++ [PairCtl.epoch n] }))
      | none => d3
    let d5 := d4.takeoverBoundary
    let keep := d5.pair.peerRole == .standby || d5.pair.peerRole == .syncing || d5.sys.role != .active
    ({ d5 with pair := { d5.pair with bundles := if keep then d5.pair.bundles else d5.pair.bundles.filter (fun b => d5.beat.count ≤ b.beat) } } : Dev).showPair

/-- The engine sweeps at this boundary as far as the pair is concerned: not while a takeover or handover runs (R401, R405), nor
in the beat in which the active takes the image of a resync (R408). -/
def pairSweeps (d : Dev) : Bool :=
  !d.pair.skipNext && d.notDeciding

end Dev

/-! ### The commands -/

/-- PAIR_TAKEOVER (R405, R464). -/
def specPairTakeover : CmdSpec := ⟨cmdPairTakeover, noArgs, fun _ => false, fun d _ =>
  let d1 := if d.sys.mstate = .test then
      d.leaveTest 1 else d
  if d1.sys.role = .standby then ⟨(({ d1 with pair := { d1.pair with takeover := .asked } } : Dev).tieSend [d1.controlBytes ctlHandover]).showPair, ST_OK, [], true⟩
  else ⟨d1, ST_OK, [], true⟩⟩

def execPairTakeover (t : Nat) (e : Envelope) (s : State) : Host.Outcome State Fault Refusal :=
  s.runAt t fun d => d.command specPairTakeover e

/-- PAIR_DEMOTE (R405). -/
def specPairDemote : CmdSpec := ⟨cmdPairDemote, noArgs, fun _ => false, fun d _ => ⟨d.askHandover.showPair, ST_OK, [], true⟩⟩

def execPairDemote (t : Nat) (e : Envelope) (s : State) : Host.Outcome State Fault Refusal :=
  s.runAt t fun d => d.command specPairDemote e

/-- WATCH_INSTANCE (R237, R238, R399). -/
def execWatchInstance (t : Nat) (r : Fin 4) (f : Option RadioRx) (s : State) : Host.Outcome State Fault Refusal :=
  s.runAt t fun d => d.watchInstance r.val f

/-- PLCA_BEACON_RX (R259, R399): a follower keeps its timing; on the path-2 trunk, up to 100 µs after the boundary, the instance counts as
received. -/
def execPlcaBeaconRx (t : Nat) (p : Fin 8) (s : State) : Host.Outcome State Fault Refusal :=
  s.runAt t fun d =>
    let path2 := match d.pair.cfg with | some c => c.path2Trunk && c.path2 == p.val | none => false
    if d.plcaRole p.val ≠ 3 then d
    else
      let d1 := d.setTrk p.val (fun s => { s with heard := true })
      if path2 && d.beat.sinceBase ≤ 100000 then (({ d1 with pair := { d1.pair with path2Heard := true } } : Dev).put Reg.PAIR_LAG.path2_miss 0).showPair else d1

/-- HEARTBEAT_TX (R391): launched on the Tie 50 µs after the boundary, the only instant at which one leaves. -/
def execHeartbeatTx (t : Nat) (s : State) : Host.Outcome State Fault Refusal :=
  s.runAt t fun d => if d.pairTalks && d.beat.sinceBase / 1000 == 50 then d.tieSend [d.heartbeatBytes] else d

/-- HEARTBEAT_RX (R391, R404, R407, R409, R410). -/
def execHeartbeatRx (t : Nat) (h : Heartbeat) (s : State) : Host.Outcome State Fault Refusal :=
  s.runAt t fun d => if d.pairTalks && h.member ≠ d.pair.member then d.heartbeatRx h else d

/-- HEARTBEAT_MISSED (R391, R396, R399): the instance that has just ended, unless it was received. -/
def execHeartbeatMissed (t : Nat) (s : State) : Host.Outcome State Fault Refusal :=
  s.runAt t fun d => if d.pairTalks && d.pair.heard ≠ some d.lastInstance && d.pair.missed ≠ some d.lastInstance then d.heartbeatMissed else d

/-- BUNDLE_RX (R390, R392). -/
def execBundleRx (t beat : Nat) (recs : List BundleRec) (s : State) : Host.Outcome State Fault Refusal :=
  s.runAt t fun d =>
    if d.inPair && (d.sys.role = .standby || d.sys.role = .syncing || (d.sys.role = .ineligible && d.pair.resync.isSome)) then
      d.bundleRx beat recs else d

/-- BUNDLE_CLOSE_RX (R393, R394). -/
def execBundleCloseRx (t beat outcome entries sample digest : Nat) (s : State) : Host.Outcome State Fault Refusal :=
  s.runAt t fun d => if d.inPair then d.bundleCloseRx beat ⟨outcome, entries, sample, digest⟩ else d

/-- BUNDLE_ACKED (R395, R405): the change-set of the beat may leave, and a handover that waited for it goes on. -/
def execBundleAcked (t beat : Nat) (s : State) : Host.Outcome State Fault Refusal :=
  s.runAt t fun d =>
    if !d.inPair || d.sys.role ≠ .active || beat ≤ d.pair.acked then d
    else ((({ d with pair := { d.pair with acked := beat, bundles := d.pair.bundles.filter (fun b => beat < b.beat) } } : Dev).put
      Reg.PAIR_ACKED_LO.word (beat % 2 ^ 32)).put Reg.PAIR_ACKED_HI.word (beat / 2 ^ 32)).handOver

/-- A HELLO leaves, at least `gap` ns after the one before (R406). -/
def Dev.sendHello (d : Dev) (gap : Nat) : Dev :=
  if d.pair.helloAt.any (fun a => d.now < a + gap) then d
  else ({ d with pair := { d.pair with helloAt := some d.now } } : Dev).tieSend [d.controlBytes ctlHello]

/-- HELLO_TX (R406): every 100 ms at boot step 9. -/
def execHelloTx (t : Nat) (s : State) : Host.Outcome State Fault Refusal :=
  s.runAt t fun d =>
    if d.inPair && d.sys.mstate = .boot && d.get Reg.BST_STATUS.step = 9 then d.sendHello 100000000 else d

/-- HELLO_RX (R406, R407). -/
def execHelloRx (t : Nat) (h : Heartbeat) (pairId unitId : Nat) (s : State) : Host.Outcome State Fault Refusal :=
  s.runAt t fun d => if d.inPair then d.helloRx h pairId unitId else d

/-- HANDSHAKE_TIMEOUT (R406): no peer heard within 2 s. -/
def execHandshakeTimeout (t : Nat) (s : State) : Host.Outcome State Fault Refusal :=
  s.runAt t fun d =>
    if d.inPair && d.sys.mstate = .boot && d.get Reg.BST_STATUS.step = 9 && !d.pair.helloSeen && d.bst.stepAt + 2000000000 ≤ d.now then
      ((({ d with pair := { d.pair with helloSeen := true, handshake := true, incomplete := true, peerUp := false } } : Dev).handshakeRole .standby).offer
        Ev.HANDSHAKE [0, 1]).showPair
    else d

/-- HANDSHAKE_RETRY (R406): an INELIGIBLE module without a handshake sends HELLO every 10 s. -/
def execHandshakeRetry (t : Nat) (s : State) : Host.Outcome State Fault Refusal :=
  s.runAt t fun d => if d.inPair && d.sys.role = .ineligible && !d.pair.handshake then d.sendHello 10000000000 else d

/-- HANDOVER_RX (R405): the active is asked to hand over; or the standby takes over from the boundary *h*. -/
def execHandoverRx (t : Nat) (h : Heartbeat) (pairId unitId : Nat) (s : State) : Host.Outcome State Fault Refusal :=
  s.runAt t fun d =>
    if !d.inPair || 1 < d.helloFinding h pairId unitId then d
    else if d.sys.role = .active then
      (if d.pair.peerRole = .standby && d.pair.takeover = .none then d.askHandover.showPair else d)
    else if d.sys.role = .standby then
      (d.replayAll.decideTakeover 2 (!d.pair.gap && !d.pair.incomplete) pairHandover).showPair
    else d

/-- RESYNC_REQ_RX (R408): the active takes the image at the next boundary and skips that sweep. -/
def execResyncReqRx (t : Nat) (h : Heartbeat) (pairId unitId : Nat) (s : State) : Host.Outcome State Fault Refusal :=
  s.runAt t fun d =>
    if !d.inPair || 1 < d.helloFinding h pairId unitId || d.sys.role ≠ .active then d
    else (({ d with pair := { d.pair with skipNext := true, peerRole := .syncing } } : Dev).judgeLedger.showPair)

/-- RESYNC_CHUNK_RX (R408). -/
def execResyncChunkRx (t : Nat) (ch : ResyncChunk) (s : State) : Host.Outcome State Fault Refusal :=
  s.runAt t fun d => if d.inPair then d.resyncChunk ch else d

/-- CATCHUP_TIMEOUT (R408): catchup_s after the RESYNC_REQ. -/
def execCatchupTimeout (t : Nat) (s : State) : Host.Outcome State Fault Refusal :=
  s.runAt t fun d =>
    if d.inPair && (d.sys.role = .syncing || d.sys.role = .ineligible) && d.pair.resync.any (fun r =>
        r.started + (match d.pair.cfg with | some c => c.catchup | none => 0) * nsPerSec ≤ d.now) then
      (({ d with pair := { d.pair with resync := none, failedAt := some d.now } } : Dev).ineligible pairCatchup).showPair
    else d

/-- RESYNC_RETRY (R408): 10 s after a failed catch-up. -/
def execResyncRetry (t : Nat) (s : State) : Host.Outcome State Fault Refusal :=
  s.runAt t fun d => if d.inPair && d.sys.role = .ineligible && d.pair.resync.isNone && d.pair.failedAt.any (fun a => a + 10 * nsPerSec ≤ d.now) then
      (({ d with pair := { d.pair with failedAt := none } } : Dev).askResync).showPair else d

/-- LEASE_REQUEST (R397, R398): a REQUEST of the ACTIVE or of a STANDBY leaves, 250 ms after the message before. -/
def execLeaseRequest (t : Nat) (s : State) : Host.Outcome State Fault Refusal :=
  s.runAt t fun d =>
    if !d.inPair || !(d.sys.role = .active || d.sys.role = .standby) || !d.isState [.ready, .service, .hold] ||
        d.pair.reqAt.any (fun a => d.now < a + 250000000) then d
    else
      (d.leaseSend 1 d.pair.member (d.pair.unmirrored || (d.sys.role == .active && d.tieLost))).showPair

/-- LEASE_GRANT_RX (R398). -/
def execLeaseGrantRx (t : Nat) (msg : LeaseMsg) (s : State) : Host.Outcome State Fault Refusal :=
  s.runAt t fun d => if d.inPair then d.leaseGrant msg else d

/-- LEASE_DENY_RX (R398). -/
def execLeaseDenyRx (t : Nat) (msg : LeaseMsg) (s : State) : Host.Outcome State Fault Refusal :=
  s.runAt t fun d =>
    if !d.inPair then d
    else match d.leaseReply 3 msg with
      | some r => (d.witnessHeard r).showPair
      | none => d.badLease

/-- LEASE_REPLY_TIMEOUT (R396, R398): 250 ms have passed since the oldest REQUEST without a valid reply. -/
def execLeaseReplyTimeout (t : Nat) (s : State) : Host.Outcome State Fault Refusal :=
  s.runAt t fun d =>
    match d.pair.asked with
    | [] => d
    | r :: rest => if d.now < r.left + 250000000 then d else
      let n := d.pair.noReply + 1
      let d1 : Dev := { d with pair := { d.pair with
        asked := rest, noReply := n
        unreachableAt := if 4 ≤ n then (match d.pair.unreachableAt with | some u => some u | none => some d.now) else d.pair.unreachableAt } }
      let d2 := if 4 ≤ n then d1.becomeUnmirrored else d1
      (if d2.heartbeatTakeover then d2.leaveTest 1 else d2).showPair

/-- LEASE_LOST (R398, R400): the ACTIVE demotes itself at the next boundary. -/
def execLeaseLost (t : Nat) (s : State) : Host.Outcome State Fault Refusal :=
  s.runAt t fun d =>
    if !d.inPair || d.sys.role ≠ .active || d.pair.leaseEnd = 0 || d.leaseHeld then d
    else (({ d with pair := { d.pair with leaseEnd := 0, incomplete := true, nextRole := some (.standby, pairLease) } } : Dev).offer Ev.LEASE_LOST
      [d.pair.term]).showPair

/-- RESEND_GO (R402): firmware writes resend_go. -/
def execResendGo (t : Nat) (_m : Master) (s : State) : Host.Outcome State Fault Refusal := s.runAt t fun d => d.askResend

/-- RESEND_TIMEOUT (R402): 1 s after the role ACTIVE took effect. -/
def execResendTimeout (t : Nat) (s : State) : Host.Outcome State Fault Refusal :=
  s.runAt t fun d => if d.pair.resendAt.any (fun a => a ≤ d.now) then d.askResend else d

end Sys2Proof.Machine
end

