-- ==== Sys2Proof/Machine/Firmware.lean ====
section
/-! DEFINITION. Firmware slots, staging, activation and the luminaire library (R468-R484). -/

namespace Sys2Proof.Machine

/-- Bytes written into a slot at an offset; bytes never written before it read 0. -/
def writeAt (b : Bytes) (off : Nat) (x : Bytes) : Bytes :=
  let p := b ++ List.replicate (off - b.length) 0
  p.take off ++ x ++ p.drop (off + x.length)

/-- A firmware image's header fields (R468). -/
def fwVersionValue (b : Bytes) : Nat := byteAt b 20 * 2 ^ 24 + byteAt b 21 * 2 ^ 16 + fieldLE b 22 2
def fwSchema (b : Bytes) : Nat := fieldLE b 24 2
def fwUnit (b : Bytes) : Nat := fieldLE b 12 8
def fwRaisesFloor (b : Bytes) : Bool := bit (byteAt b 26) 1

/-- The fields of the FW_POINTER record (R473). -/
structure FwPtr where
  slot : Nat
  trial : Nat
  rejected : Nat
  version : Nat
  otherVersion : Nat
  floor : Nat
  hash : Bytes
  otherHash : Bytes
deriving DecidableEq, Repr

def FwPtr.record (p : FwPtr) : JVal := .fwPointer p.slot p.trial p.rejected p.version p.otherVersion p.floor p.hash p.otherHash

namespace Dev

/-- The pointer in force; at delivery slot A runs and slot B is empty (notes/assumptions/34). -/
def fwPtr (d : Dev) : FwPtr :=
  match d.inForce 0x0012 0 with
  | some (.fwPointer s t r v o f h oh) => ⟨s, t, r, v, o, f, h, oh⟩
  | _ => ⟨0, 0, 0, Config.version0, 0, 0, List.replicate 32 0, List.replicate 32 0⟩

def slotBytes (d : Dev) (s : Nat) : Bytes := if s = 0 then d.fwu.slotA else d.fwu.slotB

def setSlot (d : Dev) (s : Nat) (b : Bytes) : Dev :=
  { d with fwu := if s = 0 then { d.fwu with slotA := b } else { d.fwu with slotB := b } }

/-- The slot not in force. -/
def otherSlot (d : Dev) : Nat := 1 - d.fwPtr.slot

/-- A co-signature is required (R470). -/
def cosignRequired (d : Dev) : Bool :=
  d.pointerIds.any (fun k => k != 0xFF01 && (match d.keyStanding k with | .inForce b => bit b.usages useFwVerify | _ => false))

/-- The FWU registers (R484). -/
def showFw (d : Dev) : Dev :=
  let p := d.fwPtr
  let o := match d.fwu.other with | .empty => 0 | .partialImage => 1 | .verified => 2 | .rejected => 3
  (((((((((((d.put Reg.FWU_STATUS.rev Config.revision).putB Reg.FWU_STATUS.cosign_req d.cosignRequired).put Reg.FWU_STATUS.trial p.trial).put
    Reg.FWU_STATUS.other o).putB Reg.FWU_STATUS.activating d.fwu.activating.isSome).putB Reg.FWU_STATUS.committing
    d.fwu.committing.isSome).put Reg.FWU_STATUS.slot p.slot).put Reg.FWU_VER_RUN.word p.version).put Reg.FWU_VER_OTHER.word
    p.otherVersion).put Reg.FWU_FLOOR.word p.floor).put Reg.FWU_STAGE_FILL.bytes d.fwu.stageLen)

/-! ### Staging (R471, R472) -/

/-- A chunk is written into the slot not in force (R471). -/
def fwChunk (d : Dev) (p : Bytes) : Dev :=
  let reset := byteAt p 1 = 1
  let old := if reset then [] else d.slotBytes d.otherSlot
  let n := max (if reset then 0 else d.fwu.stageLen) (fieldLE p 4 4 + (p.length - 8))
  let d1 := d.setSlot d.otherSlot (writeAt old (fieldLE p 4 4) (p.drop 8))
  ({ d1 with fwu := { d1.fwu with stageLen := n, other := .partialImage } } : Dev).showFw

/-- The staged image is abandoned (R471). -/
def fwAbandon (d : Dev) : Dev :=
  let d1 := d.setSlot d.otherSlot []
  ({ d1 with fwu := { d1.fwu with stageLen := 0, other := .empty } } : Dev).showFw

/-- The checks of R472 in order: the first failing one with its status. -/
def fwChecks (d : Dev) (b : Bytes) : Option (Nat × Nat) × Dev :=
  let cosigned := bit (byteAt b 26) 0
  let digest := Config.sha256 (b.take 96)
  if b.length < 224 || 67108864 < b.length || slice b 0 4 ≠ ascii "QSFW" then (some (1, ST_BAD_ARGUMENT), d)
  else if byteAt b 4 ≠ 1 then (some (2, ST_VERSION), d)
  else if fieldLE b 6 2 ≠ 0x0740 || !bit (fieldLE b 8 4) Config.revision || 3 < byteAt b 26 || byteAt b 27 ≠ 0 || !allZero (slice b 30 2) ||
      !allZero (slice b 36 28) || (!cosigned && !(allZero (slice b 28 2) && allZero (slice b 160 64))) then (some (3, ST_BAD_ARGUMENT), d)
  else if fwUnit b ≠ 0 && fwUnit b ≠ Config.unitId.toNat then (some (4, ST_NOT_PERMITTED), d)
  else if 224 + fieldLE b 32 4 ≠ b.length then (some (5, ST_BAD_ARGUMENT), d)
  else if !Config.ecdsaVerify Config.firmwareKey digest (slice b 96 64) then (some (6, ST_INTEGRITY), d)
  else if d.cosignRequired && !cosigned then (some (7, ST_NOT_PERMITTED), d)
  else
    let r := if cosigned then d.useKey (fieldLE b 28 2) masterUpdate useFwVerify else (ST_OK, [], d)
    if r.1 ≠ ST_OK then (some (7, if r.1 = ST_ORPHANED then ST_ORPHANED else ST_NOT_PERMITTED), r.2.2)
    else if cosigned && !Config.ecdsaVerify r.2.1 digest (slice b 160 64) then (some (8, ST_INTEGRITY), r.2.2)
    else if Config.sha256 (b.drop 224) ≠ slice b 64 32 then (some (9, ST_INTEGRITY), r.2.2)
    else if fwVersionValue b < d.fwPtr.floor then (some (10, ST_STALE), r.2.2)
    else (none, r.2.2)

/-- The commit's checks complete (R472). -/
def fwCommitDone (d : Dev) : Dev :=
  match d.fwu.committing with
  | none => d
  | some (seq, _) =>
    let b := d.slotBytes d.otherSlot
    let d0 : Dev := { d with fwu := { d.fwu with committing := none } }
    match d0.fwChecks b with
    | (some (k, st), d1) =>
      (((({ d1 with fwu := { d1.fwu with other := .partialImage } } : Dev).put Reg.FWU_ERR.check k).put Reg.FWU_ERR.status st).raise
        Reg.FWU_IRQ_STATUS.staged).showFw.offer Ev.STAGE_REFUSED [seq, k, st]
    | (none, d1) =>
      let p := d1.fwPtr
      let d2 : Dev := ({ d1 with fwu := { d1.fwu with other := .verified } } : Dev).commit
        ({ p with rejected := 0, otherVersion := fwVersionValue b, otherHash := Config.sha256 b } : FwPtr).record
      (((d2.put Reg.FWU_ERR.check 0).put Reg.FWU_ERR.status ST_OK).raise Reg.FWU_IRQ_STATUS.staged).showFw.offer Ev.IMAGE_STAGED
        [seq, d.otherSlot, fwVersionValue b]

/-- The hash of the other slot's image is known (R473). -/
def slotCheckDone (d : Dev) : Dev :=
  let p := d.fwPtr
  let b := d.slotBytes d.otherSlot
  let st : SlotState := if b = [] then .empty
    else if !allZero p.otherHash && Config.sha256 b = p.otherHash then (if p.rejected = 1 then .rejected else .verified)
    else .partialImage
  ({ d with fwu := { d.fwu with other := st } } : Dev).showFw

/-! ### Activation (R475, R479, R480) -/

/-- ACTIVATE is accepted (R475, R479, R480): its status and the state. -/
def activate (d : Dev) (e : Envelope) : Done :=
  let p := d.fwPtr
  let major := p.otherVersion / 2 ^ 24
  if fieldLE e.body 4 4 ≠ p.otherVersion then ⟨d, ST_STALE, [], true⟩
  else if d.inPair && (d.sys.role = .standby || d.sys.role = .syncing || d.sys.role = .ineligible) && major ≠ d.pair.peerMajor &&
      !bit (byteAt e.body 0) 0 then ⟨d, ST_VERSION, [], true⟩
  else
    let hand := d.sys.role == .active && d.pair.peerRole == .standby && d.pair.peerUp
    let d1 : Dev := { d with fwu := { d.fwu with
      activating := some ⟨e.seq, d.sys.mstate, if hand then .standby else d.sys.role, d.now, 0, hand⟩ } }
    ⟨(if hand then d1.askHandover else d1).showFw, ST_PENDING, [], true⟩

/-- An ACTIVATE at a boundary: HOLD, once a handover has been made (R475 step 1, R480). -/
def activateBoundary (d : Dev) : Dev :=
  match d.fwu.activating with
  | none => d
  | some r =>
    if r.phase ≠ 0 || (r.handover && d.sys.role = .active) || !d.isState [.unframed, .ready, .service] then d
    else ({ d with fwu := { d.fwu with activating := some { r with phase := 1, start := d.now, back := d.sys.mstate } } } : Dev).goto .hold causeActivate

/-- The stop writes of an ACTIVATE complete (R475 steps 2 to 4). -/
def activateStopped (d : Dev) (r : ActRun) (straps : Nat) : Dev :=
  let d1 := (d.announce .boot causeActivate).stopWrites 3 true
  let p := d1.fwPtr
  let d2 : Dev := (d1.commit (⟨1 - p.slot, 1, 0, p.otherVersion, p.version, p.floor, p.otherHash, p.hash⟩ : FwPtr).record)
  ({ d2 with fwu := { d2.fwu with activating := some { r with phase := 2 } } } : Dev).beginBoot true straps

/-! ### The library (R481, R482) -/

/-- The entry of a lib_id. -/
def libEntry (d : Dev) (id : Nat) : Option LibEntry := d.fwu.lib.find? (fun x => x.libId == id)

/-- The free entries and space (R484). -/
def showLib (d : Dev) : Dev :=
  (d.put Reg.FWU_LIB_FREE.entries (256 - d.fwu.lib.length)).put Reg.FWU_LIB_FREE.kib
    (min (2 ^ 23 - 1) ((4294967296 - sumOf d.fwu.lib (fun x => x.bytes.length)) / 1024))

/-- The header's fields are right (R481). -/
def libHeaderOk (b : Bytes) (id : Nat) : Bool :=
  slice b 0 4 = ascii "QSLI" && fieldLE b 4 2 = id && allZero (slice b 6 2) && allZero (slice b 20 12) && 64 + fieldLE b 16 4 ≤ 67108864

/-- The status of a WRITE and the entry it makes (R482). -/
def libWriteJudge (d : Dev) (id addr : Nat) : Nat × Bytes :=
  let h := d.mem.readN addr 64
  let n := fieldLE h 16 4
  if !libHeaderOk h id || !inSramOrLpddr addr (64 + n) then (ST_BAD_ARGUMENT, [])
  else
    let b := d.mem.readN addr (64 + n)
    if Config.sha256 (b.drop 64) ≠ slice b 32 32 then (ST_INTEGRITY, [])
    else if ((d.libEntry id).isNone && 256 ≤ d.fwu.lib.length) || 4294967296 < sumOf d.fwu.lib (fun x => x.bytes.length) + b.length then
      (ST_CAPACITY, [])
    else (ST_OK, b)

/-- A library operation starts (R482): 1 WRITE, 2 READ, 3 DELETE. -/
def libStart (d : Dev) (bank op id : Nat) : Dev :=
  let addr := d.get Reg.FWU_LIB_ADDR_LO.word + 2 ^ 32 * (d.get Reg.FWU_LIB_ADDR_HI.word % 256)
  if d.fwu.libRuns.any (fun r => r.bank == bank) then d
  else if !d.isState [.ready, .hold, .service] then d.put (Reg.FWU_LIB_STATUS.status bank) ST_ILLEGAL_STATE
  else
    let run : LibRun :=
      if op = 1 then let x := d.libWriteJudge id addr; ⟨bank, op, id, x.1, addr, x.2⟩
      else match d.libEntry id with
        | none => ⟨bank, op, id, ST_BAD_ARGUMENT, addr, []⟩
        | some x =>
          if op = 3 then ⟨bank, op, id, ST_OK, addr, []⟩
          else if !inSramOrLpddr addr x.bytes.length then ⟨bank, op, id, ST_BAD_ARGUMENT, addr, []⟩
          else ⟨bank, op, id, if Config.sha256 (x.bytes.drop 64) = slice x.bytes 32 32 then ST_OK else ST_INTEGRITY, addr, x.bytes⟩
    ({ d with fwu := { d.fwu with libRuns := d.fwu.libRuns ++ [run] } } : Dev).put (Reg.FWU_LIB_STATUS.busy bank) 1

/-- A library operation completes (R482): one that changes an entry waits for a READ that copies it. -/
def libDone (d : Dev) (bank : Nat) : Dev :=
  match d.fwu.libRuns.find? (fun r => r.bank == bank) with
  | none => d
  | some r =>
    if r.op ≠ 2 && r.status = ST_OK && d.fwu.libRuns.any (fun x => x.op == 2 && x.libId == r.libId && x.status != ST_BAD_ARGUMENT) then d
    else
      let d1 : Dev := { d with fwu := { d.fwu with libRuns := d.fwu.libRuns.filter (fun x => x.bank != bank) } }
      let others := d.fwu.lib.filter (fun x => x.libId != r.libId)
      let d2 :=
        if r.op = 2 then { d1 with mem := d1.mem.writeN r.addr r.bytes }
        else if r.status ≠ ST_OK then d1
        else if r.op = 1 then ({ d1 with fwu := { d1.fwu with lib := others ++ [LibEntry.mk r.libId r.bytes] } } : Dev).offer Ev.LIB_WRITTEN
          [r.libId, fieldLE r.bytes 12 4]
        else ({ d1 with fwu := { d1.fwu with lib := others } } : Dev).offer Ev.LIB_DELETED [r.libId]
      (((d2.put (Reg.FWU_LIB_STATUS.status bank) r.status).put (Reg.FWU_LIB_STATUS.busy bank) 0).raise Reg.FWU_IRQ_STATUS.lib_done).showLib

end Dev

/-! ### The commands -/

/-- FW_STAGE's payload (R471). -/
def fwArgsOk (p : Bytes) : Bool :=
  8 ≤ p.length && allZero (slice p 2 2) &&
  (if byteAt p 0 = 1 then byteAt p 1 ≤ 1 && p.length ≤ 8192 && fieldLE p 4 4 + (p.length - 8) ≤ 67108864
   else (byteAt p 0 = 2 || byteAt p 0 = 3) && p.length = 8)

/-- FW_STAGE (R471, R472). -/
def specFwStage : CmdSpec := ⟨cmdFwStage, fun _ p => fwArgsOk p, fun _ => false, fun d e =>
  if byteAt e.body 0 = 1 then ⟨d.fwChunk e.body, ST_OK, [], true⟩
  else if byteAt e.body 0 = 3 then ⟨d.fwAbandon, ST_OK, [], true⟩
  else ⟨({ d with fwu := { d.fwu with committing := some (e.seq, d.now) } } : Dev).showFw, ST_PENDING, [], true⟩⟩

/-- FW_STAGE_CHUNK (R471). -/
def execFwStageChunk (t : Nat) (e : Envelope) (s : State) : Host.Outcome State Fault Refusal :=
  s.runAt t fun d => d.command specFwStage e

/-- FW_STAGE_COMMIT (R472). -/
def execFwStageCommit (t : Nat) (e : Envelope) (s : State) : Host.Outcome State Fault Refusal :=
  s.runAt t fun d => d.command specFwStage e

/-- FW_STAGE_ABANDON (R471). -/
def execFwStageAbandon (t : Nat) (e : Envelope) (s : State) : Host.Outcome State Fault Refusal :=
  s.runAt t fun d => d.command specFwStage e

/-- ACTIVATE (R475, R479, R480). -/
def specActivate : CmdSpec := ⟨cmdActivate,
  fun _ p => p.length = 8 && byteAt p 0 ≤ 3 && allZero (slice p 1 3), fun _ => false, fun d e => d.activate e⟩

def execActivate (t : Nat) (e : Envelope) (s : State) : Host.Outcome State Fault Refusal :=
  s.runAt t fun d => d.command specActivate e

/-- FW_COMMIT_DONE (R472). -/
def execFwCommitDone (t : Nat) (s : State) : Host.Outcome State Fault Refusal := s.runAt t fun d => d.fwCommitDone

/-- SLOT_CHECK_DONE (R473): after step 10, and while no staging has changed the slot. -/
def execSlotCheckDone (t : Nat) (s : State) : Host.Outcome State Fault Refusal :=
  s.runAt t fun d => if d.sys.mstate = .boot || d.sys.mstate = .off || d.fwu.committing.isSome then d else d.slotCheckDone

/-- LIB_WRITE (R482). -/
def execLibWrite (t : Nat) (m : Master) (libId : Nat) (s : State) : Host.Outcome State Fault Refusal :=
  s.runAt t fun d => d.libStart (bankOf m) 1 (libId % 256)

/-- LIB_READ (R482). -/
def execLibRead (t : Nat) (m : Master) (libId : Nat) (s : State) : Host.Outcome State Fault Refusal :=
  s.runAt t fun d => d.libStart (bankOf m) 2 (libId % 256)

/-- LIB_DELETE (R482). -/
def execLibDelete (t : Nat) (m : Master) (libId : Nat) (s : State) : Host.Outcome State Fault Refusal :=
  s.runAt t fun d => d.libStart (bankOf m) 3 (libId % 256)

/-- LIB_DONE (R482). -/
def execLibDone (t bank : Nat) (s : State) : Host.Outcome State Fault Refusal := s.runAt t fun d => d.libDone bank

end Sys2Proof.Machine
end

