-- ==== Sys2Proof/Machine/Lands.lean ====
section
/-! DEFINITION. The land grid and JTAG (R515-R518, R534). -/

namespace Sys2Proof.Machine

/-- What a land is assigned to (R516): strings by string and tap, matrix lines and columns by matrix, metering inputs by channel, the
42 multiplexed lands by their PINMUX entry (R518), and the rest by name. -/
inductive LandUse where
  | str (n k : Nat) | sgLine (m j : Nat) | sgCol (m j : Nat) | ledVs (n : Nat) | ntc (n : Nat)
  | mtrVp (c : Nat) | mtrVn (c : Nat) | mtrIp (c : Nat) | mtrIn (c : Nat) | mtrVrefP | mtrVrefN
  | mux (entry : Nat)
  | emgP (b : Bool) | emgN (b : Bool) | emgAck
  | usbDp | usbDm | tck | tms | tdi | tdo | trstN | boot (n : Nat) | rstN
  | pwrEn | svcOk | role | failsafeN | xtal32In | xtal32Out | xtal40In | xtal40Out | mdc | mdio | sgRefclkP | sgRefclkN | vbat
  | sgmii (tie : Bool) (rx : Bool) (neg : Bool) | t1s (n : Nat) (neg : Bool) | vhold | vin | ant (n : Nat)
  | dnc | gnd
deriving DecidableEq, Repr

/-- The row letters, from the edge that carries land A1 (R515). -/
def landRows : List String :=
  ["A", "B", "C", "D", "E", "F", "G", "H", "J", "K", "L", "M", "N", "P", "T", "U", "V", "W", "Y", "AA", "AB", "AC"]

/-- Rows A to H: strings, matrices, their supplies and the NTC inputs. -/
def lampLand (row col : Nat) : LandUse :=
  let i := (row - 1) % 4 * 12 + (col - 10)
  if col ≤ 9 then .str (row - 1) (col - 1)
  else if col ≤ 21 then (if i < 16 then .sgLine ((row - 1) / 4) i else .sgCol ((row - 1) / 4) (i - 16))
  else if row ≤ 4 then .ledVs (row - 1) else .ntc (row - 5)

/-- Row K: the metering inputs. -/
def meterLand (col : Nat) : LandUse :=
  if 2 ≤ col && col ≤ 17 then
    match (col - 2) % 4 with
    | 0 => .mtrVp ((col - 2) / 4) | 1 => .mtrVn ((col - 2) / 4) | 2 => .mtrIp ((col - 2) / 4) | _ => .mtrIn ((col - 2) / 4)
  else match col with | 18 => .mtrVrefP | 19 => .mtrVrefN | _ => .gnd

/-- Rows M, N and P: the multiplexed lands, the EMG channels, USB, JTAG and the control lands. -/
def digitalLand (row col : Nat) : LandUse :=
  match row with
  | 12 =>
    if 2 ≤ col && col ≤ 5 then .mux (24 + col) else if 19 ≤ col then .mux (3 + col)
    else match col with
      | 6 => .mux 30 | 7 => .mux 31 | 9 => .emgP false | 10 => .emgN false | 12 => .emgP true | 13 => .emgN true
      | 15 => .emgAck | 17 => .mux 40 | 18 => .mux 41 | _ => .gnd
  | 13 => .mux (col - 1)
  | _ =>
    if col ≤ 8 then .mux (31 + col)
    else match col with
      | 10 => .usbDp | 11 => .usbDm | 13 => .tck | 14 => .tms | 15 => .tdi | 16 => .tdo | 17 => .trstN
      | 19 => .boot 0 | 20 => .boot 1 | 21 => .boot 2 | 22 => .rstN | _ => .gnd

/-- Rows T to Y: control, clocks, the wired pairs and the supplies. -/
def supplyLand (row col : Nat) : LandUse :=
  match row with
  | 15 => match col with
    | 1 => .pwrEn | 2 => .svcOk | 3 => .role | 4 => .failsafeN | 6 => .xtal32In | 7 => .xtal32Out | 10 => .xtal40In | 11 => .xtal40Out
    | 13 => .mdc | 14 => .mdio | 16 => .sgRefclkP | 17 => .sgRefclkN | 19 => .vbat | _ => if 20 ≤ col then .dnc else .gnd
  | 16 =>
    if 14 ≤ col then .dnc
    else match col with
      | 2 => .sgmii false false false | 3 => .sgmii false false true | 5 => .sgmii false true false | 6 => .sgmii false true true
      | 8 => .sgmii true false false | 9 => .sgmii true false true | 11 => .sgmii true true false | 12 => .sgmii true true true
      | _ => .gnd
  | 19 => if col ≤ 4 then .vhold else if 6 ≤ col && col ≤ 17 then .vin else if 18 ≤ col then .dnc else .gnd
  | _ =>
    if 14 ≤ col then .dnc
    else if 2 ≤ col && col % 3 ≠ 1 then .t1s ((row - 17) * 4 + (col - 2) / 3) (col % 3 == 0) else .gnd

/-- Row AC: the antennas. -/
def antennaLand (col : Nat) : LandUse :=
  match col with
  | 2 => .ant 0 | 8 => .ant 1 | 14 => .ant 2 | 20 => .ant 3
  | 22 => .dnc
  | _ => if (4 ≤ col && col ≤ 6) || (10 ≤ col && col ≤ 12) || (16 ≤ col && col ≤ 18) then .dnc else .gnd

/-- The assignment of the land of a row and a column, both counted from 1; every land the table does not name is GND (R516). -/
def landAt (row col : Nat) : LandUse :=
  if row < 1 || 22 < row || col < 1 || 22 < col then .gnd
  else if row ≤ 8 then lampLand row col
  else match row with
    | 10 => meterLand col
    | 12 | 13 | 14 => digitalLand row col
    | 15 | 16 | 17 | 18 | 19 => supplyLand row col
    | 22 => antennaLand col
    | _ => .gnd

namespace Dev

/-- The level at the land of a PINMUX entry (R519, R542): what an output of function 0x2 drives, the 0 of an open-drain output, else
what stands there from outside. -/
def muxLevel (d : Dev) (i : Nat) : Bool :=
  let out := bit (d.get Reg.SYS_GPIO_OUT_LO.word + d.get Reg.SYS_GPIO_OUT_HI.word * 2 ^ 32) i
  let f := d.lnd.pinmux.getD i 0 % 16
  if f = 2 then out else if f = 3 && !out then false else Config.landLevel i d.now

/-- The level that the state gives at a land: of a multiplexed land, of SVC_OK, ROLE and FAILSAFE_N, and the 0 of EMG_ACK while it
conducts (R521, R525, R542); none for a land whose level comes from outside or is no logic level. -/
def landLevel (d : Dev) (u : LandUse) : Option Bool :=
  match u with
  | .mux i => some (d.muxLevel i)
  | .svcOk => some d.lnd.svcOk
  | .role => some d.lnd.role
  | .failsafeN => if d.lnd.failsafeN then none else some false
  | .emgAck => if d.lin.emgAck then some false else none
  | _ => none

end Dev

/-- What JTAG may address (R534). -/
inductive JtagTarget where
  | boundaryScan | cores | safetyController | vault | root
deriving DecidableEq, Repr

namespace Dev

/-- JTAG reaches the boundary scan in every life-cycle state, the application cores in PROVISIONED and RMA only, and the safety
controller, the key vault and the root never (R534, R427). -/
def jtagReaches (d : Dev) (x : JtagTarget) : Bool :=
  match x with
  | .boundaryScan => true
  | .cores => d.key.lcs == 1 || d.key.lcs == 3
  | .safetyController | .vault | .root => false

/-- The level that boundary scan shows of a land (R534); the order of its cells is not the spec's. -/
def scanLand (d : Dev) (row col : Nat) : Option Bool := if d.jtagReaches .boundaryScan then d.landLevel (landAt row col) else none

/-- The application cores wait at their reset vectors: a debug start holds them until they are released over JTAG (R533). -/
def coresHeld (d : Dev) : Bool := d.bst.debug

/-- Cores that a debug start holds are released over JTAG, where it reaches them (R533, R534). -/
def releaseCores (d : Dev) : Dev := if d.jtagReaches .cores then { d with bst := { d.bst with debug := false } } else d

end Dev

end Sys2Proof.Machine
end

