-- ==== Sys2Proof/Machine/Boot.lean ====
section
/-! DEFINITION. Boot steps, the boot ledger, the unit map, RESET, SHUTDOWN and the self-test (R449-R467). -/

namespace Sys2Proof.Machine

namespace Dev

/-! ### Failures of a step (R454, R456) -/

/-- The Cut List slot's container, and whether its hash is the pointer's (R92). -/
def nandSlot (d : Dev) (s : Nat) : Option NandSlot := if s = 0 then d.cut.slot0 else d.cut.slot1

/-- The sections of a container in a slot. -/
def slotImage (d : Dev) (s : Nat) : Option (List Sect × CutImage) :=
  match d.nandSlot s with
  | some n =>
    if Config.sha256 (n.container.drop 128) ≠ (cutHeader n.container).hash then none
    else match checkSections n.container requiredSections with
      | .ok l => some (l, buildImage n.container l)
      | .error _ => none
  | none => none

/-- The container that the pointer names, with its hash as the pointer has it (R92). -/
def pointedImage (d : Dev) : Option (List Sect × CutImage) :=
  match d.cutPtr with
  | some (s, _, _, h, _) => match d.nandSlot s with
    | some n => if Config.sha256 n.container = h then d.slotImage s else none
    | none => none
  | none => none

/-- Capacity of R89 at a start. -/
def fits (d : Dev) (x : List Sect × CutImage) : Bool :=
  match findSect x.1 1 with
  | some u => (d.checkCapacity u x.2).isNone
  | none => false

/-- The Lintel is brought up from the Cut List in force: SAFETY, RADIO, TRUNK, PINMUX and KEYS (R456). -/
def bringUpLintel (d : Dev) : Dev :=
  match d.pointedImage with
  | some x =>
    let p := periodNs x.2.beat.period
    let d1 := (((d.applyLinks x.2 p p).applyPins x.2.pinmux).setSafety (some x.2.safety)).latch
    d1.loadKeys (pinnedKeys x.2)
  | none => d

/-- FAILSAFE from a step (R454, R456). -/
def bootFailsafe (d : Dev) (n : Nat) : Dev :=
  let d1 := (({ d with bst := { d.bst with failStep := n }, fwu := { d.fwu with activating := none } } : Dev).put Reg.BST_STATUS.step 0).offer
    Ev.BOOT_FAILSAFE [n, d.consec n]
  let d2 := (if n ≤ 7 then d1.engineReset 0 else d1).goto .failsafe causeBootFail
  let d3 := if 4 ≤ n then d2.bringUpLintel else (d2.setSuspended 0x3FFF).offer Ev.LINTEL_UNAVAILABLE [n]
  d3.startFlush

/-- The count of failures that leads to FAILSAFE: the threshold + 3, or 3 for a step without an alternative (R454). -/
def failLimit (n : Nat) : Nat := match threshold n with | some k => k + 3 | none => 3

/-- A step fails in this start (R449, R454): counted and recorded; FAILSAFE at its limit, else the step runs again. -/
def stepFailed (d : Dev) (n cause : Nat) : Dev :=
  let c := min 255 (d.consec n + 1)
  let path := d.pathOf n
  let d1 := (d.noteStep n 3 path c cause).offer Ev.STEP_FAILED [n, path, cause, c]
  if failLimit n ≤ c then d1.bootFailsafe n else d1.startStep n

/-! ### Step 1 (R47, R279, R280, R316) -/

/-- Module time and the beat begin (R47, R279). DESIGN CHOICE (notes/assumptions/49): R47 does not say where the first beat stands on
the grid; it begins at the instant of module time at which step 1 completes, with BEAT_IN_SEC 0, and runs to the first instant of the
grid at least half a period on, as a realignment beat does (R52). -/
def stepPower (d : Dev) : Dev :=
  let d1 := (((d.put Reg.CLK_STATUS.xtal40_ok 1).put Reg.CLK_STATUS.pll_lock 1).put Reg.CLK_STATUS.sys_src 0).put Reg.CLK_XTAL40.start_us
    (min 65535 (((d.now : Int) - d.bst.started).toNat / 1000))
  let elapsed := (d.now : Int) - d.bst.started
  let start (d : Dev) (ns q : Nat) : Dev :=
    let period := periodNs (d.get Reg.BEAT_CFG.period)
    let p := max 1 period
    let next := (ns + p / 2 + p - 1) / p * p
    ((({ d with
      beat := { d.beat with
        count := 0, running := true, period := period, base := ns, sinceBase := 0, len := next - ns, slew := 0, slewNow := 0, step := none
        source := .crystal }
      pwr := { d.pwr with holdAt := if d.pwr.measured then some (ns / nsPerSec) else d.pwr.holdAt }
      bst := { d.bst with started := (ns : Int) - elapsed } } : Dev).put Reg.TIME_STATUS.quality q).put Reg.BEAT_STATUS.source 0)
  if d.flag Reg.RTC_VALID.valid then
    match d1.inForce 0x0032 0 with
    | some (.rtcMap ticks sec ns) =>
      let r := d1.rtcTicks
      start r.2 (sec * nsPerSec + ns + (r.1 - ticks) * 1000000000 / 32768) 1
    | _ => (start d1 0 0).offer Ev.TIME_INVALID [1]
  else (start d1 0 0).offer Ev.TIME_INVALID [0]

/-- The hold-up capacitor is to be measured before step 1 ends: its latest measurement is more than 30 days old by the time that step 1
restores, and none has run in this boot (R18, R317). A module that has none yet judges by the unit map (notes/assumptions/49). -/
def holdupDue (d : Dev) : Bool :=
  let x := d.stepPower
  !d.pwr.measured && x.get Reg.TIME_STATUS.quality != 0 && d.pwr.holdAt.any (fun s => s + 30 * 86400 < x.nowSec)

/-! ### Step 2 (R329, R335, R342, R343, R383, R452-R454) -/

/-- The stop that ended the boot before: its CLEAN_STOP, if it has one (R452). -/
def lastStop (d : Dev) : Option (Nat × Nat) :=
  match d.inForce 0x0002 0 with
  | some (.cleanStop b c l _) => if b = d.bootCount then some (c, l) else none
  | _ => none

/-- Steps that did not finish in an earlier boot are counted as failed (R454). -/
def judgeSteps (d : Dev) (prev : Nat) (excused : Bool) : Dev :=
  (List.range 10).foldl (fun (d : Dev) i =>
    let n := i + 1
    match d.progress n with
    | some (b, 1, pa, c, _) =>
      if b ≤ prev && !(excused && b = prev) then
        let c' := min 255 (c + 1)
        (d.commit (.bootStep b n 3 pa c' 0 d.nowSec)).offer Ev.STEP_FAILED [n, pa, 0, c']
      else d
    | _ => d) d

/-- A step whose failure in the last start, judged in this one, brings its count to the limit (R454). -/
def judgedOut (old : Dev) (new : Dev) : Option Nat :=
  ((List.range 10).map (· + 1)).find? (fun n => match old.progress n, new.progress n with
    | some (_, 1, _), some (_, 3, _, c, _) => failLimit n ≤ c
    | _, _ => false)

/-- The settings in force (R333). -/
def settings (d : Dev) : Option Settings :=
  match d.sil.settingsA, d.sil.settingsB with
  | some a, some b => if a.generation < b.generation then some b else some a
  | some a, none => some a
  | none, b => b

/-- The Sill is mounted, on the path given. -/
def stepMount (d : Dev) (path : Nat) : Dev :=
  let prev := d.bootCount
  let stop := d.lastStop
  let clean := stop.isSome || prev = 0
  let excused := match stop with | some (c, _) => c = 4 || c = 6 || c = 2 | none => false
  let early := (d.get Reg.BST_EARLY.consec1, d.get Reg.BST_EARLY.consec2)
  let d1 : Dev := { d with
    sil := { d.sil with mounted := true, readOnly := path == 1, torn := [] }
    lin := { d.lin with c0Seq := 0 }
    rad := d.rad.map (fun s => { s with c0Fc := 0 }), trk := d.trk.map (fun s => { s with c0Fc := 0 }) }
  let d2 := (((d1.commit (.epoch (prev + 1))).put Reg.SIL_EPOCH.word ((prev + 1) % 2 ^ 32)).put Reg.SIL_STATUS.mounted 1).put
    Reg.SIL_STATUS.nand_ok 1
  let d3 := ((d2.putB Reg.SIL_STATUS.read_only (path == 1)).putB Reg.PWR_STATUS.last_clean clean)
  let d4 := if d.sys.warm then
      [1, 3, 4, 5, 8].foldl (fun (d : Dev) n => d.commit (.bootStep (prev + 1) n 2 2 0 0 d.nowSec)) d3
    else
    (d3.commit (.bootStep (prev + 1) 1 2 0 early.1 0 d.nowSec)).put Reg.BST_EARLY.word 0
  let d5 := (d4.judgeSteps prev excused).noteStep 2 1 path early.2 0
  let x := d5.pointedImage
  let w := match x with | some i => i.2.ledger.windows | none => []
  let n := match x with | some i => i.2.nodes.length | none => 0
  let final := match stop with | some (c, _) => c ≤ 3 | none => prev = 0
  let stopAt := match d5.inForce 0x0040 0 with | some (.flushHdr _ _ s ns) => s * nsPerSec + ns | _ => 0
  let d6 := ((d5.restoreLedger w n final stopAt).1).meterRestore (match x with | some i => i.2.meter | none => none) w n
  let d7 := d.sil.torn.foldl (fun (d : Dev) x => d.offer Ev.RECORD_DISCARDED [x.1, x.2, 0]) (d6.startRecorder clean)
  let d8 := if clean then d7 else (d7.bump Reg.PWR_PF_CNT.unclean).offer Ev.UNCLEAN_STOP [d.get Reg.PWR_PF_LAST.step]
  let d9 := if d8.rtc.lostOwed then ({ d8 with rtc := { d8.rtc with lostOwed := false } } : Dev).offer Ev.RTC_LOST [] else d8
  let d10 := match d9.pwr.vinBack with
    | some us => ({ d9 with pwr := { d9.pwr with vinBack := none } } : Dev).offer Ev.VIN_RETURNED_IN_FLUSH [us]
    | none => d9
  let auto := match d10.settings with | some s => s.autostart | none => true
  { d10 with sys := { d10.sys with autostart := auto } }

/-! ### Step 4 (R462) -/

/-- The tests whose failure removes a unit, by the unit's kind: 0 lane, 1 core, 2 trunk, 3 radio, 4 port, 5 metering channel,
6 light output; and the index the unit has within the test (R459; notes/assumptions/35). -/
def unitTests (kind i : Nat) : List (Nat × Nat) :=
  match kind with
  | 0 => [(2, i)]
  | 1 => [(1, i)]
  | 2 => [(7, i), (11, 5 + i)]
  | 3 => [(5, i), (6, i)]
  | 4 => [(6, 4 + i), (8, i), (11, 3 + i)]
  | 5 => [(9, i)]
  | _ => (if i = 0 then [(10, 0)] else []) ++ [(11, i)]

def unitCount (kind : Nat) : Nat := [8, 8, 8, 4, 2, 4, 3].getD kind 0

/-- The tests of the quick subset (R459). -/
def quickTests : List Nat := [2, 3, 6, 8, 12, 14]

/-- The latest complete result of a test on an index: whether it failed, and its age in days (R462, R463). -/
def lastResult (d : Dev) (x : Nat × Nat) : Option (Bool × Nat) :=
  ((d.bst.results.filter (fun r => r.test == x.1 && r.index == x.2 && (r.result == 1 || r.result == 2))).getLast?).map
    (fun r => (r.result == 2, d.nowSec / 86400 - r.day))

/-- Stores a complete result in place of the one before. -/
def storeResult (d : Dev) (test index result code : Nat) : Dev :=
  { d with bst := { d.bst with results := d.bst.results.filter (fun r => !(r.test == test && (r.index == index || r.result == 3))) ++
      [{ test := test, index := index, result := result, code := code, day := d.nowSec / 86400 }] } }

/-- The verdict on a unit: in the map and tested, failed by a test, or untested with the age of its last result. -/
inductive UnitVerdict where
  | good
  | bad (test : Nat)
  | untested (age : Nat)
deriving DecidableEq, Repr

def judgeUnit (d : Dev) (quick : List (Nat × Nat)) (discard : Bool) (kind i : Nat) : UnitVerdict :=
  let ts := unitTests kind i
  let known := if discard then [] else ts.filterMap (fun x => (d.lastResult x).bind (fun r => if r.2 ≤ 30 then some (x.1, r.1) else none))
  let fast := ts.filter (fun x => quickTests.contains x.1)
  if !known.isEmpty then
    match known.find? (fun x => x.2) with | some x => .bad x.1 | none => .good
  else if !fast.isEmpty then
    match fast.find? (fun x => quick.contains x) with | some x => .bad x.1 | none => .good
  else .untested ((ts.filterMap (fun x => (d.lastResult x).map (·.2))).foldl max 0)

/-- The self-tests whose results name units of the unit map (R462). -/
def unitTestNos : List Nat := [1, 2, 5, 6, 7, 8, 9, 10, 11]

/-- Units that faulted in service, named as test `t` names them: each is reported, and its stored failure takes it out of the unit
map at the next start (R25, R462). -/
def unitFaults (d : Dev) (t : Nat) (units : List Nat) (code : Nat) : Dev :=
  if d.isState [.unframed, .ready, .service, .hold, .failsafe] && unitTestNos.contains t then
    units.foldl (fun (d : Dev) i => (d.storeResult t i 2 code).offer ⟨Config.evUnitFault, Config.sevUnitFault⟩ [t, i]) d
  else d

/-- The unit map: failed units leave it with event 0x1007, untested ones are entered with event 0x1008 (R462). -/
def unitMap (d : Dev) (quick : List (Nat × Nat)) (discard : Bool) : Dev :=
  let field (kind : Nat) : Fld := [Reg.BST_UNIT0.lanes, Reg.BST_UNIT0.cores, Reg.BST_UNIT0.trunks, Reg.BST_UNIT0.radios,
    Reg.BST_UNIT1.ports, Reg.BST_UNIT1.meter, Reg.BST_UNIT1.light].getD kind Reg.BST_UNIT0.lanes
  let d1 := (List.range 7).foldl (fun (d : Dev) kind =>
    (List.range (unitCount kind)).foldl (fun (d : Dev) i =>
      let f := field kind
      match d.judgeUnit quick discard kind i with
      | .good => d.put f (setBit (d.get f) i true)
      | .bad t => ((d.put f (setBit (d.get f) i false)).raise Reg.BST_IRQ_STATUS.unit_removed).offer Ev.UNIT_REMOVED [kind, i, t]
      | .untested a =>
        let u := if kind < 4 then Reg.BST_UNTESTED0.units else Reg.BST_UNTESTED1.units
        ((d.put f (setBit (d.get f) i true)).put u (setBit (d.get u) (f.lo + i) true)).offer Ev.RESULT_STALE [kind, i, a]) d)
    ((d.put Reg.BST_UNTESTED0.word 0).put Reg.BST_UNTESTED1.word 0)
  (d1.put Reg.RFT_STATUS.lanes (d1.get Reg.BST_UNIT0.lanes)).putB Reg.SYS_STATUS.degraded
    ((List.range 7).any (fun kind => d1.get (field kind) != 2 ^ unitCount kind - 1))

/-- The results of the quick tests that ran are stored (R461, R462). -/
def storeQuick (d : Dev) (quick : List (Nat × Nat)) (discard : Bool) : Dev :=
  let units := (List.range 7).flatMap (fun k => (List.range (unitCount k)).map (fun i => (k, i)))
  let d0 : Dev := if discard then { d with bst := { d.bst with results := [] } } else d
  units.foldl (fun (dv : Dev) u =>
    let ts := unitTests u.1 u.2
    let known := !discard && ts.any (fun x => match d.lastResult x with | some r => r.2 ≤ 30 | none => false)
    if known then dv
    else (ts.filter (fun x => quickTests.contains x.1)).foldl (fun (dv : Dev) x =>
      dv.storeResult x.1 x.2 (if quick.contains x then 2 else 1) 0) dv) d0

/-- T3 has an unrepairable fault (R462). -/
def sramFails (d : Dev) (quick : List (Nat × Nat)) : Bool :=
  quick.any (fun x => x.1 == 3) || d.bst.results.any (fun r => r.test == 3 && r.result == 2)

/-! ### Step 6 (R454, R473-R478) -/

/-- The settings image of the firmware's schema is put in force (R478). -/
def checkSettings (d : Dev) (schema : Nat) : Dev :=
  match d.settings with
  | none => d
  | some s =>
    if s.schema = schema then d
    else
      let aInForce := d.sil.settingsA == some s
      let other := if aInForce then d.sil.settingsB else d.sil.settingsA
      let fresh : Settings := match other with
        | some o => if schema < s.schema && o.schema = schema then { o with generation := s.generation + 1 }
          else ⟨s.generation + 1, schema, true, 20820, 0, 0, []⟩
        | none => ⟨s.generation + 1, schema, true, 20820, 0, 0, []⟩
      let d1 : Dev := { d with sil := if aInForce then { d.sil with settingsB := some fresh } else { d.sil with settingsA := some fresh } }
      ({ d1 with sys := { d1.sys with autostart := fresh.autostart } } : Dev).offer Ev.SETTINGS_RESET [s.schema, schema, b2n (schema < s.schema)]

/-- The firmware runs: on the alternative the other slot takes over, rejected and reported (R454, R477). -/
def stepFirmware (d : Dev) (path : Nat) : Dev :=
  let p := d.fwPtr
  let d1 := if path = 1 then
      ((d.commit (⟨1 - p.slot, 0, 1, p.otherVersion, p.version, p.floor, p.otherHash, p.hash⟩ : FwPtr).record).raise
        Reg.FWU_IRQ_STATUS.rollback).offer Ev.ROLLBACK [p.version, p.otherVersion]
    else d
  let q := d1.fwPtr
  let d2 : Dev := { d1 with
    fwu := { d1.fwu with runSlot := q.slot, other := if d1.slotBytes (1 - q.slot) = [] then .empty else .partialImage
                         stageLen := (d1.slotBytes (1 - q.slot)).length }
    sys := { d1.sys with fwVersion := q.version / 2 ^ 16 } }
  (d2.checkSettings (fwSchema (d2.slotBytes q.slot))).showFw.showLib

/-! ### Step 7 (R89, R92, R99, R450) -/

/-- A logged patch whose hash holds; one whose hash fails ends the chain (R99). -/
def loggedPatchOk (c : Bytes) : Bool := Config.sha256 (c.drop 128) == (cutHeader c).hash

/-- Loads the Cut List of a slot, with its patch log (R92, R99). -/
def loadSlot (d : Dev) (s : Nat) (x : CutImage) (patches : List Bytes) (generation : Nat) : Dev :=
  let fb := d.fallbackOf x
  let d1 := ((d.applyImage x fb (d.skippedUnits x.units) s true).setSafety (some x.safety)).latch
  let chain := patches.takeWhile loggedPatchOk
  let gen := if chain.length = patches.length then generation else
    match chain.getLast? with | some c => (cutHeader c).generation | none => x.header.generation
  let d2 := chain.foldl (fun (d : Dev) c => match checkSections c [] with
    | .ok l => (d.applyPatch (buildPatch c l))
    | .error _ => d) d1
  let d2 := if chain.length = patches.length then d2 else d2.offer Ev.SLOT_FALLBACK [s, gen]
  let d3 := (d2.put Reg.CUT_GEN.word gen).put Reg.CUT_PATCHES.count chain.length
  d3.loadKeys (pinnedKeys x)

/-- What step 7 finds. -/
inductive CutFound where
  | none
  | fails
  | slot (s : Nat) (fellBack : Bool)
deriving DecidableEq, Repr

def findCut (d : Dev) (path : Nat) : CutFound :=
  match d.cutPtr with
  | Option.none => .none
  | some (s, _) =>
    let other := match d.slotImage (1 - s) with | some x => d.fits x | Option.none => false
    match d.pointedImage with
    | some x =>
      if path = 0 then (if d.fits x then .slot s false else if other then .slot (1 - s) true else .none)
      else if other then .slot (1 - s) true else if d.fits x then .slot s false else .none
    | Option.none => if !other then .none else if path = 0 then .fails else .slot (1 - s) true

/-- What a load at step 7 reports: skipped sections, skipped optional units and the fallback in use (R81, R90); and the
period of the Cut List, which starts at the first second boundary (R47, R53; DEDUCED, assumption 38). -/
def announceLoad (d : Dev) (unknown : List Nat) (skipped : List (Nat × Nat)) (fallback : Option Fallback) : Dev :=
  let d1 := unknown.foldl (fun (d : Dev) k => d.offer Ev.SECTION_SKIPPED [k]) d
  let d2 := skipped.foldl (fun (d : Dev) k => d.offer Ev.OPTIONAL_UNIT_SKIPPED [k.1, k.2]) d1
  let d3 := match fallback with
    | some f => d2.offer Ev.FALLBACK_IN_USE [f.lanes, f.period, f.passes]
    | none => d2
  { d3 with beat := { d3.beat with nextPeriod := some (periodNs (d3.get Reg.BEAT_CFG.period)) } }

/-- No Cut List is in force: the engine has no nodes, and its state is that of a boot (R147). -/
def noCutList (d : Dev) : Dev :=
  ({ d with
    cut := { d.cut with image := none }
    rft := { d.rft with nodes := [], edges := [], zones := [], groups := [], profiles := [], exceptions := [], matched := [] } } : Dev).engineReset 0

/-- Step 7 finishes: with a Cut List, or in UNFRAMED (R62, R450, R454). -/
def stepCut (d : Dev) (f : CutFound) : Dev :=
  match f with
  | .slot s back =>
    match d.slotImage s, d.nandSlot s with
    | some x, some n =>
      let log := match d.cutPtr with | some (p, _, g, _, k) => if p = s then (n.patches.take k, g) else (n.patches, x.2.header.generation + n.patches.length)
                                     | Option.none => ([], x.2.header.generation)
      let d0 := d.loadSlot s x.2 log.1 log.2
      let d1 := d0.announceLoad x.2.unknown (d.skippedUnits x.2.units) (d.fallbackOf x.2)
      if back then ((d1.commit (.cutPointer s x.2.header.cutId log.2 x.2.hash log.1.length)).offer Ev.SLOT_FALLBACK [s, log.2]) else d1
    | _, _ => d.goto .unframed causeBoot
  | _ => ((d.noCutList.setSafety none).goto .unframed causeBoot).setSuspended 0x3FFF

/-! ### Step 10 (R62, R449, R474, R475) -/

/-- The start ends in the state of R62. -/
def stepService (d : Dev) : Dev :=
  let ms := ((d.now : Int) - d.bst.started).toNat / 1000000
  let alts := (d.bst.shown.filter (fun x => x.2.2 == 1)).length
  let d1 := (d.put Reg.BST_STATUS.step 0).put Reg.BST_BOOT_MS.word ms
  let d2 := if d1.sys.mstate = .unframed then d1.showBudget
    else
      let dest : ModState := match d1.fwu.activating with
        | some r => if r.back = .unframed then .ready else r.back
        | none => if d1.sys.autostart && !d1.sil.readOnly then .service else .ready
      let x := match d1.fwu.activating with
        | some r => if r.role == Role.solo || r.role == Role.active then d1.setRole r.role else d1
        | none => d1
      ((x.goto dest causeBoot).lightReady.meterStart.showBudget).judgeLedger
  let d3 := if (List.range (ceilDiv (plateUsed d2.windows) 512)).any (fun k => (d2.flushInForce k).isSome) && !d2.sil.readOnly then
      d2.fullSnapshot (d2.beat.count / max 1 d2.snapBeats) else d2
  let d4 := d3.offer Ev.BOOT_DONE [d3.bootCount, ms, alts]
  let p := d4.fwPtr
  let raise := p.trial = 1 && fwRaisesFloor (d4.slotBytes p.slot) && p.floor < p.version
  let d5 := if p.trial = 1 then d4.commit ({ p with trial := 0, floor := if raise then p.version else p.floor } : FwPtr).record else d4
  let d6 := if raise then d5.offer Ev.FLOOR_RAISED [p.floor, p.version] else d5
  match d6.fwu.activating with
  | some r => ((({ d6 with fwu := { d6.fwu with activating := none } } : Dev).raise Reg.FWU_IRQ_STATUS.activated).showFw).offer Ev.ACTIVATED
      [r.seq, p.version, (d6.now - r.start) / 1000000]
  | none => d6.showFw

/-! ### The sequence (R449, R455) -/

/-- The step after `n` in this start: a warm boot runs 2, 6, 7, 9 and 10 alone (R63). -/
def nextStep (d : Dev) (n : Nat) : Nat := if d.sys.warm then (if n = 2 then 6 else if n = 7 then 9 else n + 1) else n + 1

/-- A step has finished: it is recorded, and the next one begins. -/
def stepDone (d : Dev) (n path : Nat) : Dev :=
  let d1 := d.noteStep n 2 path 0 0
  if n = 10 then d1 else
  let m := d1.nextStep n
  let d2 := d1.startStep m
  if m = 9 then d2.pairStart else d2

/-- The running step has done its work (R449, R450, R454). DEDUCED (notes/assumptions/54): firmware that ends step 6 runs, so cores that a
debug start held have been released over JTAG by then. -/
def bootStep (d : Dev) (quick : List (Nat × Nat)) : Dev :=
  let n := d.get Reg.BST_STATUS.step
  let path := d.pathOf n
  if !d.isState [.boot, .unframed] then d
  else match n with
  | 1 => if (d.flag Reg.PWR_STATUS.vhold_ok || d.pwr.vholdWaited) && !d.holdupDue then d.stepPower.stepDone 1 path else d
  | 2 =>
    let x := d.stepMount path
    match judgedOut d x with
    | some k => ((x.noteStep 2 2 path 0 0).bootFailsafe k)
    | none => x.stepDone 2 path
  | 3 =>
    if !d.key.rootPresent && d.key.provisioned && d.key.lcs != 4 then (d.offer Ev.ROOT_MISSING []).bootFailsafe 3
    else (d.loadKeys d.pinnable).stepDone 3 path
  | 4 =>
    if d.sramFails quick then d.stepFailed 4 3
    else
      let x := (d.storeQuick quick (path == 1)).unitMap quick (path == 1)
      (x.noteUnits path).stepDone 4 path
  | 5 => (({ d with bst := { d.bst with training := true } } : Dev).noteData 5 path [path]).stepDone 5 path
  | 6 =>
    let x := d.releaseCores
    if x.coresHeld then d else (x.stepFirmware path).stepDone 6 path
  | 7 =>
    match d.findCut path with
    | .fails => d.stepFailed 7 1
    | f => (d.stepCut f).stepDone 7 path
  | 8 => (d.noteData 8 path [d.get Reg.BST_UNIT0.radios]).stepDone 8 path
  | 9 =>
    if !d.inPair then (d.setRole .solo).stepDone 9 path
    else if path = 1 && !d.pair.handshake then ((d.takeRole .ineligible pairHandshake).offer Ev.INELIGIBLE [pairHandshake]).stepDone 9 path
    else if d.pair.handshake then d.stepDone 9 path
    else d
  | 10 => (d.stepDone 10 path).stepService
  | _ => d

/-! ### The self-test (R458-R465) -/

/-- The draw of a test, mW, for the units of the map (R459). -/
def testDraw (d : Dev) (t : Nat) : Nat :=
  let n (f : Fld) (w : Nat) : Nat := popCount (d.get f) w
  match t with
  | 1 => 600 * n Reg.BST_UNIT0.cores 8
  | 2 => 200 * n Reg.BST_UNIT0.lanes 8
  | 3 => 1000
  | 4 => 800
  | 5 => 1600 * n Reg.BST_UNIT0.radios 4
  | 6 => 150
  | 7 => 120 * n Reg.BST_UNIT0.trunks 8
  | 8 => 300 * n Reg.BST_UNIT1.ports 2
  | 9 => 100
  | 10 => 50
  | 11 => 30
  | 12 => 10
  | 13 => 600
  | _ => 10

/-- Two tests that use a resource in common (R460; notes/assumptions/36). -/
def testsClash (a b : Nat) : Bool :=
  let lo := min a b
  let hi := max a b
  let turn := [7, 10, 11, 12, 14]
  hi == 13 && lo != 13 || lo == 13 || (hi == 3 && lo ≤ 2) || (lo == 5 && 6 ≤ hi) || (turn.contains lo && turn.contains hi && lo != hi)

/-- Starts the waiting tests that may start: one whose resources are busy is passed over, one that would exceed 15 W ends the
scan (R460). -/
def startTests (d : Dev) : Dev :=
  match d.bst.test with
  | none => d
  | some r =>
    let draw (l : List Nat) : Nat := 3500 + sumOf l d.testDraw
    let go (acc : List Nat × Bool) (t : Nat) : List Nat × Bool :=
      if acc.2 || acc.1.any (fun x => testsClash x t) then acc
      else if 15000 < draw (acc.1 ++ [t]) then (acc.1, true)
      else (acc.1 ++ [t], false)
    let run := (r.waiting.foldl go (r.running, false)).1
    { d with bst := { d.bst with test := some { r with
      running := run, waiting := r.waiting.filter (fun t => !run.contains t), peak := max r.peak (draw run) } } }

/-- TEST begins (R62, R458). -/
def enterTest (d : Dev) (r : ShutReq) : Dev :=
  let sel := (List.range 14).map (· + 1) |>.filter (fun t => r.mask = 0 || bit r.mask (t - 1))
  let standby := d.sys.mstate == .service && d.sys.role == .standby
  let d1 := (d.goto .test causeCommand).put Reg.BST_STATUS.testing 1
  let run : TestRun := { waiting := sel, running := [], passed := 0, failed := 0, incomplete := 0, restart := r.restart, seq := r.seq
                         fromStandby := standby, start := d.now, peak := 3500 }
  ({ d1 with
    bst := { d1.bst with shut := none, test := some run }
    cut := { d1.cut with load := none, patch := none } } : Dev).startTests

/-- All selected tests have ended: OFF, or BOOT when restart is set (R62, R458). -/
def finishTests (d : Dev) (straps : Nat) : Dev :=
  match d.bst.test with
  | none => d
  | some r =>
    if !(r.running.isEmpty && r.waiting.isEmpty) || d.sys.mstate ≠ .test then d
    else
      let d1 := (({ d with bst := { d.bst with test := none } } : Dev).put Reg.BST_STATUS.testing 0).offer Ev.TEST_DONE
        [r.seq, r.passed, r.failed, r.incomplete]
      let d2 := ((d1.put Reg.BST_TEST_PEAK.ms (min 65535 ((d.now - r.start) / 1000000))).put Reg.BST_TEST_PEAK.mw (min 65535 r.peak))
      if r.restart then (d2.announce .boot causeTests).writeSuppressed.beginBoot false straps
      else
        let x := (d2.announce .off causeTests).writeSuppressed.goOff
        { x with pwr := { x.pwr with heldOff := true } }

/-- The units a test tries, by index (R459). -/
def testIndices (d : Dev) (t : Nat) : List Nat :=
  match t with
  | 1 => bitList (d.get Reg.BST_UNIT0.cores) 8
  | 2 => bitList (d.get Reg.BST_UNIT0.lanes) 8
  | 5 => bitList (d.get Reg.BST_UNIT0.radios) 4
  | 6 => bitList (d.get Reg.BST_UNIT0.radios) 4 ++ (bitList (d.get Reg.BST_UNIT1.ports) 2).map (· + 4)
  | 7 => bitList (d.get Reg.BST_UNIT0.trunks) 8
  | 8 => bitList (d.get Reg.BST_UNIT1.ports) 2
  | 9 => bitList (d.get Reg.BST_UNIT1.meter) 4
  | 11 => bitList (d.get Reg.BST_UNIT1.light) 3 ++ (bitList (d.get Reg.BST_UNIT1.ports) 2).map (· + 3) ++
    (bitList (d.get Reg.BST_UNIT0.trunks) 8).map (· + 5)
  | _ => [0]

/-- A test ends with its result (R459, R460, R462). -/
def testFinished (d : Dev) (t : Nat) (failed : List Nat) (code straps : Nat) : Dev :=
  match d.bst.test with
  | none => d.unitFaults t failed code
  | some r =>
    if !r.running.contains t then d
    else
      let d1 := ((d.testIndices t ++ failed).eraseDups).foldl (fun (d : Dev) i => d.storeResult t i (if failed.contains i then 2 else 1) code) d
      let bad := !failed.isEmpty
      let d2 : Dev := { d1 with bst := { d1.bst with
        training := d1.bst.training && !(t == 4 && bad)
        test := some { r with
          running := r.running.filter (fun x => x != t)
          passed := r.passed + b2n (!bad), failed := r.failed + b2n bad } } }
      let d3 := if t = 12 then d2.judgeHoldup (d.get Reg.PWR_HOLDUP.cap_100nf) (10 * d.get Reg.PWR_HOLDUP.esr_10mohm) else d2
      (d3.startTests).finishTests straps

/-! ### RESET and SHUTDOWN (R457, R458) -/

/-- RESET (R457, R464). -/
def resetCmd (d : Dev) (clear : Bool) (chan straps : Nat) : Dev :=
  let d0 := d.endTests 2
  let d1 := if clear then
      let x := (List.range 10).foldl (fun (d : Dev) i => d.commit (.bootStep d.bootCount (i + 1) 4 0 0 0 d.nowSec)) d0
      (((x.put Reg.BST_EARLY.consec1 0).put Reg.BST_EARLY.consec2 0)).offer Ev.FAILCOUNT_CLEARED [chan]
    else d0
  ((d1.announce .boot causeReset).stopWrites 2 true).beginBoot false straps

/-- The stop writes of a SHUTDOWN or an ACTIVATE complete (R458, R475). -/
def stopWritesDone (d : Dev) (straps : Nat) : Dev :=
  match d.bst.shut, d.fwu.activating with
  | some r, _ =>
    let d0 : Dev := { d with bst := { d.bst with shut := none } }
    if !d.isState [.unframed, .ready, .service, .failsafe] then d0
    else
      if r.test then (d0.stopWrites 1 true).enterTest r
      else
        let x := (((d0.offer Ev.TEST_DONE [r.seq, 0, 0, 0]).announce .off causeCommand).stopWrites 1 true).goOff
        { x with pwr := { x.pwr with heldOff := true } }
  | none, some r => if r.phase = 1 then d.activateStopped r straps else d
  | none, none => d

end Dev

/-! ### The commands -/

/-- RESET (R457): flags and 3 reserved bytes. -/
def specReset (straps : Nat) : CmdSpec := ⟨cmdReset, fun _ p => p.length = 4 && byteAt p 0 ≤ 1 && allZero (slice p 1 3), fun _ => false,
  fun d e => ⟨d.resetCmd (byteAt e.body 0 = 1) (match e.chan with | .hostLink => 0 | .uplink => 1 | .usb => 2 | .firmware => 3) straps, ST_OK, [], true⟩⟩

def execReset (t : Nat) (e : Envelope) (straps : Fin 8) (s : State) : Host.Outcome State Fault Refusal :=
  s.runAt t fun d => d.command (specReset straps.val) e

/-- SHUTDOWN (R458): flags, 3 reserved bytes, the test mask. -/
def specShutdown : CmdSpec := ⟨cmdShutdown,
  fun _ p => p.length = 8 && byteAt p 0 ≤ 3 && allZero (slice p 1 3) && fieldLE p 4 4 < 2 ^ 14, fun _ => false,
  fun d e => ⟨{ d with bst := { d.bst with
      shut := some ⟨bit (byteAt e.body 0) 0, bit (byteAt e.body 0) 1, fieldLE e.body 4 4, e.seq⟩ } }, ST_PENDING, [], true⟩⟩

def execShutdown (t : Nat) (e : Envelope) (s : State) : Host.Outcome State Fault Refusal :=
  s.runAt t fun d => d.command specShutdown e

/-- BOOT_STEP_DONE (R449): `quick` names the quick tests that failed at step 4, as (test, index). -/
def execBootStepDone (t : Nat) (quick : List (Nat × Nat)) (s : State) : Host.Outcome State Fault Refusal :=
  s.runAt t fun d => d.bootStep quick

/-- BOOT_STEP_FAILED (R454). -/
def execBootStepFailed (t cause : Nat) (s : State) : Host.Outcome State Fault Refusal :=
  s.runAt t fun d =>
    if d.isState [.boot, .unframed] && d.get Reg.BST_STATUS.step ≠ 0 then d.stepFailed (d.get Reg.BST_STATUS.step) cause else d

/-- The limit of a step, ns (R449). -/
def Dev.stepLimit (d : Dev) (n : Nat) : Nat :=
  if n = 8 then 200000000 * popCount (d.get Reg.BST_UNIT0.radios) 4
  else [0, 2500, 1000, 100, 500, 500, 1500, 1000, 0, 2500, 100].getD n 0 * 1000000

/-- BOOT_STEP_TIMEOUT (R449): the step watchdog, when the step has not finished within its limit; the cause is the model's 0xFFFF. -/
def execBootStepTimeout (t : Nat) (s : State) : Host.Outcome State Fault Refusal :=
  s.runAt t fun d =>
    let n := d.get Reg.BST_STATUS.step
    if d.isState [.boot, .unframed] && n ≠ 0 && d.bst.stepAt + d.stepLimit n ≤ d.now then d.stepFailed n 0xFFFF else d

/-- XTAL_START_TIMEOUT (R303, R449): the crystal is not judged running within 50 ms, or 500 ms on the alternative, and step 1 fails. -/
def execXtalStartTimeout (t : Nat) (s : State) : Host.Outcome State Fault Refusal :=
  s.runAt t fun d =>
    if d.sys.mstate = .boot && d.get Reg.BST_STATUS.step = 1 && d.bst.stepAt + (if d.pathOf 1 = 1 then 500000000 else 50000000) ≤ d.now then
      d.stepFailed 1 1
    else d

/-- TEST_FINISHED (R460). -/
def execTestFinished (t : Nat) (test : Fin 15) (failed : List Nat) (code : Nat) (straps : Fin 8) (s : State) : Host.Outcome State Fault Refusal :=
  s.runAt t fun d => d.testFinished test.val failed code straps.val

/-- STOP_WRITES_DONE (R458, R475). -/
def execStopWritesDone (t : Nat) (straps : Fin 8) (s : State) : Host.Outcome State Fault Refusal :=
  s.runAt t fun d => d.stopWritesDone straps.val

end Sys2Proof.Machine
end

