-- ==== Sys2Proof/Machine/Beat.lean ====
section
/-! DEFINITION. The beat boundary, COMMIT, OVERRUN and the deadline (R46-R60, R100, R155, R392, R401). -/

namespace Sys2Proof.Machine

namespace Dev

/-! ### The boundary's time (R47, R51-R53) -/

/-- The first instant of the beat grid that lies at least half a period after `base` (R52). -/
def gridAfter (period base : Nat) : Nat :=
  let p := max 1 period
  (base + p / 2 + p - 1) / p * p

/-- What one beat of a period corrects of a correction still to slew (R51). -/
def slewStep (d : Dev) (period : Nat) (left : Int) : Int :=
  let most : Int := (d.get Reg.BEAT_SLEW_LIMIT.ppm * period / 1000000 : Nat)
  max (-most) (min most left)

/-- A boundary without a step (R47, R53). -/
def plainBoundary (d : Dev) (base : Nat) : Dev :=
  let period := if base % nsPerSec = 0 then d.beat.nextPeriod.getD d.beat.period else d.beat.period
  let d1 : Dev := { d with beat := { d.beat with
    count := d.beat.count + 1, base := base, sinceBase := 0, period := period
    slew := d.beat.slew - d.beat.slewNow, slewNow := d.slewStep period (d.beat.slew - d.beat.slewNow)
    nextPeriod := if base % nsPerSec = 0 then none else d.beat.nextPeriod
    len := gridAfter period base - base } }
  let d2 := if base % nsPerSec = 0 && d.beat.nextPeriod.isSome then d1.put Reg.RFT_CAPACITY.word (capacityAt d.lanes period) else d1
  ((d2.put Reg.BEAT_STATUS.realign 0).put Reg.BEAT_IN_SEC.index (base % nsPerSec / max 1 period)).showSlew

/-- A step boundary (R52, R282, R283). -/
def stepBoundary (d : Dev) (base : Nat) (r : StepReq) : Dev :=
  let now : Nat := if r.absolute then r.value.toNat else ((base : Int) + r.value).toNat
  let p := max 1 d.beat.period
  let next := gridAfter p now
  let perSec := nsPerSec / p
  let d1 : Dev := { d with
    beat := { d.beat with count := d.beat.count + 1, base := now, sinceBase := 0, slew := 0, slewNow := 0, step := none, len := next - now }
    tim := { d.tim with lastStep := some now, ppsOutHigh := false } }
  let d2 := ((d1.put Reg.BEAT_STATUS.realign 1).put Reg.BEAT_IN_SEC.index ((next % nsPerSec / p + perSec - 1) % max 1 perSec)).showSlew
  let d3 := d2.offer Ev.REALIGN []
  let step := toTwos 64 ((now : Int) - (base : Int))
  let d4 := if !r.noted then d3 else d3.offer (if r.forced then Ev.TIME_FORCED else Ev.TIME_STEPPED_AT_LOCK) [step]
  (match r.utc with | some u => d4.setUtc u 1 | none => d4).mapRecord

/-- The source that takes over at the boundary (R48). -/
def sourceBoundary (d : Dev) : Dev :=
  match d.beat.nextSource with
  | none => d
  | some s =>
    let d1 := (({ d with beat := { d.beat with source := s, nextSource := none } } : Dev).put Reg.BEAT_STATUS.source s.code)
    let d2 := if s = d.beat.source then d1 else d1.offer Ev.SOURCE_CHANGE [d.beat.source.code, s.code]
    if s = .pps then d2.setQuality 3 else d2

/-! ### What ends and starts with a beat -/

/-- The beat that ends: refused items (R173), deferred timers (R200), and the bundle of a beat that was not swept (R392). -/
def endBeat (d : Dev) : Dev :=
  let d1 := if d.rft.refusedItems = 0 then d else d.reportRefused d.beat.count
  let d2 := if d1.jst.stopped.isEmpty then d1
    else d1.offer Ev.TIMER_DEFERRED [d1.beat.count, d1.jst.stopped.length, d1.jst.stopped.foldl min 63]
  let x := (d2.tim.tsq.zipIdx.filter (fun q => q.1.lostBeat != 0)).foldl (fun (d : Dev) q =>
    d.offer Ev.TS_OVERFLOW [q.2, q.1.lostBeat, q.1.lostTag]) d2.newReleases
  let d3 : Dev := { x with tim := { x.tim with tsq := x.tim.tsq.map (fun q : TsQueue => { q with lostBeat := 0 }) } }
  let closed := d3.pair.bundles.any (fun b => b.beat == d3.beat.count && b.close.isSome)
  if d3.isState [.ready, .service, .hold] && !closed then d3.closeBundle 2 else d3

/-- START and STOP take effect (R61). -/
def startStop (d : Dev) : Dev :=
  let d1 : Dev := { d with sys := { d.sys with startPending := false, stopPending := false } }
  if d.sys.startPending && d.sys.mstate = .ready then d1.goto .service causeCommand
  else if d.sys.stopPending && d.sys.mstate = .service then (d1.goto .ready causeCommand).discardPort
  else d1

/-- Passes set or lowered come into force, and are mirrored (R58-R60, R161). -/
def passesBoundary (d : Dev) : Dev :=
  match d.beat.nextPasses with
  | none => d
  | some n =>
    ((({ d with beat := { d.beat with nextPasses := none } } : Dev).put Reg.BEAT_PASSES.passes_now n).showBudget).mirror
      (fun b => { b with controls := b.controls ++ [PairCtl.passes n] })

/-- The command-path entries as the bundle carries them (R390): an EMG edge as the entries of the frames it made active. -/
def mirroredCmds (d : Dev) : List CmdEntry :=
  d.rft.cmdBuf.flatMap (fun c => match c with
    | .emg => (d.lin.active.filter (fun a => a.cause == 1)).map (fun a => CmdEntry.class0 a.frame.index true)
    | c => [c])

/-- The engine at the boundary (R57, R95, R124, R126, R151, R392): it latches its inputs and sweeps, holds them through HOLD, or
carries them over a beat that the pair does not sweep. -/
def engineBoundary (d : Dev) : Dev :=
  if d.sys.mstate = .hold then
    let d1 : Dev := { d with rft := { d.rft with carriedPort := d.rft.carriedPort ++ d.rft.port, port := [] } }
    d1.mirror (fun b => { b with port := b.port ++ d.rft.port })
  else if d.servesAsActive then
    let cmds := d.rft.carriedCmd ++ d.rft.cmdBuf
    let ports := d.rft.carriedPort ++ d.rft.port
    let d1 := d.mirror (fun b => { b with
      port := b.port ++ d.rft.port, cmds := b.cmds ++ d.mirroredCmds, refused := b.refused ++ d.rft.refused })
    let d2 : Dev := { d1 with rft := { d1.rft with
      c0 := d1.lin.active.map (fun a : ActiveFrame => a.frame)
      cmdBuf := []
      port := []
      carriedCmd := []
      carriedPort := []
      cmdNoted := 0
      refused := []
      refusedItems := 0 } }
    let d3 := d2.ingest cmds d.rft.cmdNoted ports d.rft.refused
    if d.pairSweeps then (d3.startSweep (d3.get Reg.BEAT_PASSES.passes_now)).put Reg.BEAT_STATUS.phase 1
    else
      let x := if d3.pair.skipNext then d3.sendImage else d3
      { x.carry with pair := { x.pair with skipNext := false } }
  else d

/-- The boundary of a beat (R47), with everything that takes effect at it. -/
def boundary (d : Dev) : Dev :=
  let d0 := (({ d with cyc := CycleSt.start } : Dev).endBeat).put Reg.BEAT_STATUS.phase 0
  let base := d.beat.base + d.beat.len
  let d1 := match d.beat.step with | some r => d0.stepBoundary base r | none => d0.plainBoundary base
  let d2 := ((d1.raise Reg.BEAT_IRQ_STATUS.boundary).put Reg.BEAT_TIMING.deadline_us (min 65535 (d1.beat.len * 9 / 10000))).sourceBoundary
  let d3 := if d2.nowSec % 3600 = 0 && d2.get Reg.BEAT_IN_SEC.index = 0 then d2.mapRecord else d2
  let d4 := ((d3.pairBoundary).startStop).passesBoundary
  let d5 := (((d4.loadBoundary).patchWaits d.beat.len).patchBoundary).activateBoundary
  let d6 := (List.range 4).foldl (fun (e : Dev) r => e.radioBoundary r) d5.sendHeld
  let d7 := (List.range 10).foldl (fun (e : Dev) p => e.wiredBoundary p) d6
  let d8 := (List.range 4).foldl (fun (e : Dev) r => e.wakeStep r) (d7.lightBoundary).keyBoundary.latch
  let d9 := if d8.inPair && d8.sys.role ≠ Role.active then d8 else (d8.snapBoundary).sampleTime
  let d10 := d9.engineBoundary
  (if d10.rft.sweeping then d10 else d10.ledgerCommit).finishTests d9.pwr.straps

/-- The beat counter runs, and nothing stops a boundary (R47, R306, R318). -/
def beats (d : Dev) : Bool :=
  d.beat.running && d.sys.mstate != .off && d.pwr.failedAt.isNone && d.pwr.pf.isNone && !d.pwr.stopped

/-! ### COMMIT and OVERRUN (R11, R55-R58, R155) -/

/-- The 90 % deadline of the beat in progress, ns after its boundary (R46, R52). -/
def deadline (d : Dev) : Nat := d.beat.len * 9 / 10

/-- The time left to the deadline is more than the commit reserve, in cycles of 600 MHz (R55). -/
def commitFits (d : Dev) : Bool := d.commitReserve * 5 < (d.deadline - d.beat.sinceBase) * 3

/-- COMMIT of the swept beat: the passes are done; pages, levels, change-set, digest, the bundle's close, the resend's places and the patch window. -/
def commitBeat (d : Dev) : Dev :=
  let b := d.beat.count
  let r := (d.runSweep d.rft.passesRun d.rft.passesRun).commitEngine b
  let lin := { r.1.lin with active := r.1.lin.active.map (fun a : ActiveFrame => { a with committed := true }) }
  let d1 : Dev := { r.1 with lin := lin }
  let d2 := r.2.foldl (fun (d : Dev) x => d.pushItem x) d1
  let fresh := (r.2.flatMap (fun x => x.eids)).filter (fun e => !d2.pair.freshSince.contains e)
  let d3 : Dev := if d2.pair.resending || d2.pair.resendAt.isSome then
      { d2 with pair := { d2.pair with freshSince := d2.pair.freshSince ++ fresh } } else d2
  let d4 := (d3.resendBeat r.2.length).closeBundle 0
  let us := min 65535 (d.usInBeat)
  let d5 := ((((d4.put Reg.BEAT_SWEEP_TIME.last_us us).put Reg.BEAT_SWEEP_TIME.max_us (max us (d.get Reg.BEAT_SWEEP_TIME.max_us))).put
    Reg.BEAT_OVR_STATE.consec 0).raise Reg.BEAT_IRQ_STATUS.commit_done).put Reg.BEAT_STATUS.phase 3
  d5.ledgerCommit.patchWindow

/-- The beat is abandoned (R11, R56, R58); `pass` is the pass reached, whose output stands in its page (R152). DESIGN CHOICE (notes/assumptions/49): where a SET_PASSES waits
for the same boundary as a lowering at the third overrun, the spec gives no order; the lowering replaces the value that waits. -/
def overrunBeat (d : Dev) (pass : Nat) : Dev :=
  let carried := d.rft.cmdSet.length + d.rft.portSet.length
  let n := d.get Reg.BEAT_OVR_STATE.consec + 1
  let now := d.get Reg.BEAT_PASSES.passes_now
  let d1 := ((d.runSweep d.rft.passesRun (min pass d.rft.passesRun)).closeBundle 1).carry.dropLedgerCommit
  let d2 := ((((d1.bump Reg.BEAT_OVR_CNT.word).put Reg.BEAT_OVR_STATE.carried (min carried 65535)).raise Reg.BEAT_IRQ_STATUS.overrun).put
    Reg.BEAT_STATUS.phase 3).offer Ev.OVERRUN [d.beat.count, now, carried, pass]
  let d3 := if n < 3 then d2.put Reg.BEAT_OVR_STATE.consec n
    else
      let low := max 1 (now - 1)
      let x := ((d2.put Reg.BEAT_OVR_STATE.consec 0).raise Reg.BEAT_IRQ_STATUS.passes_lowered).offer Ev.PASSES_LOWERED [low]
      if 1 < now then ({ x with beat := { x.beat with nextPasses := some low } } : Dev).bump Reg.BEAT_OVR_STATE.lowered else x
  d3.patchWindow

end Dev

/-! ### The commands -/

/-- BEAT_BOUNDARY (R47). -/
def execBeatBoundary (s : State) : Host.Outcome State Fault Refusal :=
  s.run fun d => if d.beats then d.boundary else d

/-- COMMIT ends (R155). One that would end after the 90 % deadline could not be started: the beat is abandoned (R11, R55). -/
def execCommit (t : Nat) (s : State) : Host.Outcome State Fault Refusal :=
  s.runAt t fun d =>
    if !(d.rft.sweeping && d.beats) then d
    else if d.deadline < d.beat.sinceBase then d.overrunBeat d.rft.passesRun else d.commitBeat

/-- OVERRUN (R11, R55, R56): the SWEEP is not done when the commit reserve begins, at `pass`. Before that instant nothing is decided. -/
def execOverrun (t pass : Nat) (s : State) : Host.Outcome State Fault Refusal :=
  s.runAt t fun d => if d.rft.sweeping && d.beats && !d.commitFits then d.overrunBeat pass else d

/-- BEAT_DEADLINE (R100): in a beat without a sweep a ready patch is written. -/
def execBeatDeadline (t : Nat) (s : State) : Host.Outcome State Fault Refusal :=
  s.runAt t fun d => if d.rft.sweeping || !d.beats then d else d.patchWindow

end Sys2Proof.Machine
end

