-- ==== Sys2Proof/Machine/RegAccess.lean ====
section
/-! DEFINITION. The access type of every register field (R31), block by block, as the spec's register tables give it.
A row names an offset within its block (within one radio's or one port's window for RAD and TRK), how many words the
row repeats over, and the field's bits. Bits no row covers are reserved: they read 0 and writes to them are ignored
(R32). -/

namespace Sys2Proof.Machine

def fieldRowsSys : List FieldRow :=
  [ ⟨0x0000, 1, 16, 16, .w1c, false⟩,
    ⟨0x0000, 1, 10, 10, .ro, false⟩,
    ⟨0x0000, 1, 9, 9, .ro, false⟩,
    ⟨0x0000, 1, 8, 8, .ro, false⟩,
    ⟨0x0000, 1, 7, 7, .ro, false⟩,
    ⟨0x0000, 1, 6, 4, .ro, false⟩,
    ⟨0x0000, 1, 2, 0, .ro, false⟩,
    ⟨0x0004, 1, 31, 0, .ro, false⟩,
    ⟨0x0008, 1, 31, 0, .ro, false⟩,
    ⟨0x000C, 1, 31, 0, .ro, false⟩,
    ⟨0x0010, 1, 13, 0, .ro, false⟩,
    ⟨0x0200, 1, 31, 0, .ro, false⟩,
    ⟨0x0204, 1, 9, 0, .ro, false⟩,
    ⟨0x0208, 1, 31, 0, .rw, false⟩,
    ⟨0x020C, 1, 9, 0, .rw, false⟩,
    ⟨0x0220, 1, 31, 0, .rw, true⟩,
    ⟨0x0224, 1, 7, 0, .rw, true⟩,
    ⟨0x0228, 1, 8, 8, .ro, true⟩,
    ⟨0x0228, 1, 7, 0, .ro, true⟩,
    ⟨0x0230, 1, 7, 7, .w1c, false⟩,
    ⟨0x0230, 1, 6, 6, .ro, false⟩,
    ⟨0x0230, 1, 5, 5, .ro, false⟩,
    ⟨0x0230, 1, 4, 4, .ro, false⟩,
    ⟨0x0230, 1, 3, 3, .ro, false⟩ ] ++
  [ ⟨0x0230, 1, 2, 0, .ro, false⟩ ]

def fieldRowsBeat : List FieldRow :=
  [ ⟨0x0000, 1, 2, 0, .rwl, false⟩,
    ⟨0x0004, 1, 5, 5, .ro, false⟩,
    ⟨0x0004, 1, 4, 4, .ro, false⟩,
    ⟨0x0004, 1, 3, 2, .ro, false⟩,
    ⟨0x0004, 1, 1, 0, .ro, false⟩,
    ⟨0x0008, 1, 31, 0, .ro, false⟩,
    ⟨0x000C, 1, 31, 0, .ro, false⟩,
    ⟨0x0010, 1, 8, 0, .ro, false⟩,
    ⟨0x0014, 1, 11, 8, .ro, false⟩,
    ⟨0x0014, 1, 3, 0, .ro, false⟩,
    ⟨0x0018, 1, 31, 16, .ro, false⟩,
    ⟨0x0018, 1, 15, 0, .ro, false⟩,
    ⟨0x001C, 1, 31, 16, .w1c, false⟩,
    ⟨0x001C, 1, 15, 0, .ro, false⟩,
    ⟨0x0020, 1, 31, 0, .ro, false⟩,
    ⟨0x0024, 1, 31, 16, .ro, false⟩,
    ⟨0x0024, 1, 15, 8, .ro, false⟩,
    ⟨0x0024, 1, 7, 0, .ro, false⟩,
    ⟨0x0028, 1, 31, 0, .ro, false⟩,
    ⟨0x002C, 1, 9, 0, .rwl, false⟩,
    ⟨0x0030, 1, 31, 16, .ro, false⟩,
    ⟨0x0030, 1, 15, 0, .ro, false⟩,
    ⟨0x0034, 1, 4, 4, .w1c, false⟩,
    ⟨0x0034, 1, 3, 3, .w1c, false⟩ ] ++
  [ ⟨0x0034, 1, 2, 2, .w1c, false⟩,
    ⟨0x0034, 1, 1, 1, .w1c, false⟩,
    ⟨0x0034, 1, 0, 0, .w1c, false⟩,
    ⟨0x0038, 1, 4, 0, .rw, false⟩ ]

def fieldRowsCut : List FieldRow :=
  [ ⟨0x0000, 1, 15, 8, .ro, false⟩,
    ⟨0x0000, 1, 5, 5, .ro, false⟩,
    ⟨0x0000, 1, 4, 4, .ro, false⟩,
    ⟨0x0000, 1, 3, 3, .ro, false⟩,
    ⟨0x0000, 1, 2, 2, .ro, false⟩,
    ⟨0x0000, 1, 1, 1, .ro, false⟩,
    ⟨0x0000, 1, 0, 0, .ro, false⟩,
    ⟨0x0004, 1, 31, 0, .ro, false⟩,
    ⟨0x0008, 1, 31, 0, .ro, false⟩,
    ⟨0x000C, 1, 31, 0, .ro, false⟩,
    ⟨0x0010, 1, 15, 8, .ro, false⟩,
    ⟨0x0010, 1, 7, 0, .ro, false⟩,
    ⟨0x0014, 1, 6, 0, .ro, false⟩,
    ⟨0x0018, 1, 25, 0, .ro, false⟩,
    ⟨0x001C, 1, 20, 0, .ro, false⟩,
    ⟨0x0020, 1, 17, 0, .ro, false⟩,
    ⟨0x0024, 1, 20, 0, .ro, false⟩,
    ⟨0x0028, 1, 23, 16, .ro, false⟩,
    ⟨0x0028, 1, 15, 0, .ro, false⟩,
    ⟨0x002C, 1, 15, 8, .ro, false⟩,
    ⟨0x002C, 1, 7, 0, .ro, false⟩,
    ⟨0x0030, 1, 31, 0, .ro, false⟩,
    ⟨0x0040, 8, 31, 0, .ro, false⟩ ]

def fieldRowsRft : List FieldRow :=
  [ ⟨0x0000, 1, 15, 8, .ro, false⟩,
    ⟨0x0000, 1, 7, 4, .ro, false⟩,
    ⟨0x0000, 1, 3, 3, .ro, false⟩,
    ⟨0x0000, 1, 1, 1, .ro, false⟩,
    ⟨0x0000, 1, 0, 0, .ro, false⟩,
    ⟨0x0004, 1, 31, 0, .ro, false⟩,
    ⟨0x0008, 1, 15, 0, .ro, false⟩,
    ⟨0x000C, 1, 31, 0, .ro, false⟩,
    ⟨0x0010, 4, 31, 0, .wo, true⟩,
    ⟨0x0020, 1, 7, 0, .ro, true⟩,
    ⟨0x0024, 1, 31, 0, .ro, false⟩,
    ⟨0x0028, 1, 31, 0, .ro, false⟩,
    ⟨0x002C, 1, 31, 0, .ro, false⟩,
    ⟨0x0030, 1, 31, 0, .ro, false⟩,
    ⟨0x0034, 1, 31, 16, .ro, false⟩,
    ⟨0x0034, 1, 15, 0, .ro, false⟩,
    ⟨0x0040, 1, 31, 0, .ro, false⟩,
    ⟨0x0044, 1, 31, 0, .ro, false⟩,
    ⟨0x0048, 1, 31, 0, .ro, false⟩,
    ⟨0x004C, 1, 31, 0, .ro, false⟩,
    ⟨0x0050, 1, 31, 16, .ro, false⟩,
    ⟨0x0050, 1, 15, 0, .ro, false⟩,
    ⟨0x0054, 1, 17, 0, .ro, false⟩,
    ⟨0x0058, 1, 16, 0, .ro, false⟩ ] ++
  [ ⟨0x005C, 1, 31, 0, .ro, false⟩,
    ⟨0x0060, 1, 31, 0, .ro, false⟩,
    ⟨0x0070, 1, 13, 3, .rw, false⟩,
    ⟨0x0070, 1, 2, 0, .rw, false⟩,
    ⟨0x0074, 1, 10, 0, .ro, false⟩,
    ⟨0x0078, 1, 16, 0, .rw, false⟩,
    ⟨0x007C, 1, 31, 0, .ro, false⟩,
    ⟨0x0080, 1, 16, 16, .ro, false⟩,
    ⟨0x0080, 1, 15, 0, .ro, false⟩,
    ⟨0x0084, 1, 3, 3, .w1c, false⟩,
    ⟨0x0084, 1, 2, 2, .w1c, false⟩,
    ⟨0x0084, 1, 1, 1, .w1c, false⟩,
    ⟨0x0084, 1, 0, 0, .w1c, false⟩,
    ⟨0x0088, 1, 3, 0, .rw, false⟩ ]

def fieldRowsJst : List FieldRow :=
  [ ⟨0x0000, 1, 16, 16, .ro, false⟩,
    ⟨0x0000, 1, 14, 0, .ro, false⟩,
    ⟨0x0004, 1, 30, 16, .ro, false⟩,
    ⟨0x0004, 1, 14, 0, .ro, false⟩,
    ⟨0x0010, 1, 31, 0, .ro, true⟩,
    ⟨0x0014, 1, 31, 0, .wo, true⟩,
    ⟨0x0018, 1, 7, 0, .ro, true⟩,
    ⟨0x001C, 1, 11, 8, .ro, true⟩,
    ⟨0x001C, 1, 1, 0, .rw, true⟩,
    ⟨0x0020, 1, 27, 25, .ro, true⟩,
    ⟨0x0020, 1, 24, 20, .ro, true⟩,
    ⟨0x0020, 1, 19, 0, .ro, true⟩,
    ⟨0x0030, 1, 28, 26, .wo, true⟩,
    ⟨0x0030, 1, 25, 20, .wo, true⟩,
    ⟨0x0030, 1, 19, 0, .wo, true⟩,
    ⟨0x0034, 1, 1, 1, .wo, true⟩,
    ⟨0x0034, 1, 0, 0, .wo, true⟩,
    ⟨0x0040, 1, 9, 9, .ro, true⟩,
    ⟨0x0040, 1, 8, 8, .ro, true⟩,
    ⟨0x0040, 1, 7, 0, .ro, true⟩,
    ⟨0x0080, 16, 31, 0, .wo, true⟩,
    ⟨0x00C0, 16, 31, 0, .ro, true⟩,
    ⟨0x0100, 1, 31, 0, .wo, true⟩,
    ⟨0x0104, 1, 31, 0, .wo, true⟩ ] ++
  [ ⟨0x0108, 1, 29, 24, .wo, true⟩,
    ⟨0x0108, 1, 23, 0, .wo, true⟩,
    ⟨0x010C, 1, 19, 0, .wo, true⟩,
    ⟨0x0110, 1, 0, 0, .wo, true⟩,
    ⟨0x0114, 1, 31, 8, .ro, true⟩,
    ⟨0x0114, 1, 7, 0, .ro, true⟩,
    ⟨0x0118, 1, 23, 0, .wo, true⟩,
    ⟨0x011C, 1, 16, 0, .ro, false⟩,
    ⟨0x0120, 1, 31, 0, .ro, false⟩,
    ⟨0x0130, 1, 8, 8, .wo, false⟩,
    ⟨0x0130, 1, 5, 0, .wo, false⟩,
    ⟨0x0134, 1, 31, 16, .ro, false⟩,
    ⟨0x0134, 1, 13, 8, .ro, false⟩,
    ⟨0x0134, 1, 0, 0, .ro, false⟩,
    ⟨0x0140, 1, 5, 5, .w1c, false⟩,
    ⟨0x0140, 1, 4, 4, .w1c, false⟩,
    ⟨0x0140, 1, 3, 3, .w1c, false⟩,
    ⟨0x0140, 1, 2, 2, .w1c, false⟩,
    ⟨0x0140, 1, 1, 1, .w1c, false⟩,
    ⟨0x0140, 1, 0, 0, .w1c, false⟩,
    ⟨0x0144, 1, 5, 0, .rw, false⟩,
    ⟨0x0400, 64, 30, 16, .ro, false⟩,
    ⟨0x0400, 64, 14, 0, .ro, false⟩,
    ⟨0x0500, 64, 31, 30, .ro, false⟩ ] ++
  [ ⟨0x0500, 64, 29, 26, .ro, false⟩,
    ⟨0x0500, 64, 25, 18, .ro, false⟩,
    ⟨0x0500, 64, 14, 0, .ro, false⟩,
    ⟨0x0600, 64, 31, 0, .ro, false⟩ ]

def fieldRowsRad : List FieldRow :=
  [ ⟨0x0000, 1, 18, 8, .ro, false⟩,
    ⟨0x0000, 1, 7, 7, .w1c, false⟩,
    ⟨0x0000, 1, 6, 5, .ro, false⟩,
    ⟨0x0000, 1, 4, 4, .ro, false⟩,
    ⟨0x0000, 1, 3, 3, .ro, false⟩,
    ⟨0x0000, 1, 2, 2, .ro, false⟩,
    ⟨0x0000, 1, 1, 1, .ro, false⟩,
    ⟨0x0000, 1, 0, 0, .ro, false⟩,
    ⟨0x0004, 1, 22, 16, .ro, false⟩,
    ⟨0x0004, 1, 10, 8, .ro, false⟩,
    ⟨0x0004, 1, 7, 0, .ro, false⟩,
    ⟨0x0008, 1, 18, 0, .ro, false⟩,
    ⟨0x000C, 1, 31, 16, .ro, false⟩,
    ⟨0x000C, 1, 15, 0, .ro, false⟩,
    ⟨0x0010, 1, 31, 16, .ro, false⟩,
    ⟨0x0010, 1, 7, 0, .ro, false⟩,
    ⟨0x0020, 1, 7, 7, .rw, false⟩,
    ⟨0x0020, 1, 6, 0, .rw, false⟩,
    ⟨0x0024, 1, 31, 0, .ro, false⟩,
    ⟨0x0028, 1, 31, 0, .ro, false⟩,
    ⟨0x002C, 1, 31, 0, .ro, false⟩,
    ⟨0x0040, 1, 9, 0, .rw, true⟩,
    ⟨0x0044, 1, 29, 16, .rw, true⟩,
    ⟨0x0044, 1, 12, 0, .rw, true⟩ ] ++
  [ ⟨0x0048, 1, 31, 0, .rw, true⟩,
    ⟨0x004C, 1, 31, 16, .rw, true⟩,
    ⟨0x004C, 1, 15, 0, .rw, true⟩,
    ⟨0x0050, 1, 31, 31, .rw, true⟩,
    ⟨0x0050, 1, 30, 24, .rw, true⟩,
    ⟨0x0050, 1, 19, 16, .rw, true⟩,
    ⟨0x0050, 1, 14, 8, .rw, true⟩,
    ⟨0x0050, 1, 6, 0, .rw, true⟩,
    ⟨0x0054, 4, 31, 0, .rw, true⟩,
    ⟨0x0064, 1, 31, 16, .rw, true⟩,
    ⟨0x0064, 1, 15, 0, .rw, true⟩,
    ⟨0x0068, 1, 31, 0, .rw, true⟩,
    ⟨0x006C, 1, 31, 16, .ro, false⟩,
    ⟨0x006C, 1, 15, 0, .ro, false⟩,
    ⟨0x0070, 1, 31, 16, .ro, false⟩,
    ⟨0x0070, 1, 15, 0, .ro, false⟩,
    ⟨0x0074, 1, 31, 16, .ro, false⟩,
    ⟨0x0074, 1, 10, 4, .ro, false⟩,
    ⟨0x0074, 1, 3, 2, .ro, false⟩,
    ⟨0x0074, 1, 1, 0, .ro, false⟩,
    ⟨0x0078, 1, 3, 3, .wo, true⟩,
    ⟨0x0078, 1, 2, 0, .wo, true⟩,
    ⟨0x007C, 1, 7, 0, .ro, true⟩,
    ⟨0x0080, 1, 5, 5, .w1c, false⟩ ] ++
  [ ⟨0x0080, 1, 4, 4, .w1c, false⟩,
    ⟨0x0080, 1, 3, 3, .w1c, false⟩,
    ⟨0x0080, 1, 2, 2, .w1c, false⟩,
    ⟨0x0080, 1, 1, 1, .w1c, false⟩,
    ⟨0x0080, 1, 0, 0, .w1c, false⟩,
    ⟨0x0084, 1, 5, 0, .rw, false⟩,
    ⟨0x0100, 16, 31, 0, .ro, false⟩ ]

def fieldRowsTrk : List FieldRow :=
  [ ⟨0x0000, 1, 10, 8, .ro, false⟩,
    ⟨0x0000, 1, 7, 6, .ro, false⟩,
    ⟨0x0000, 1, 5, 5, .ro, false⟩,
    ⟨0x0000, 1, 4, 4, .ro, false⟩,
    ⟨0x0000, 1, 3, 3, .ro, false⟩,
    ⟨0x0000, 1, 2, 2, .w1c, false⟩,
    ⟨0x0000, 1, 1, 1, .ro, false⟩,
    ⟨0x0000, 1, 0, 0, .ro, false⟩,
    ⟨0x0004, 1, 28, 24, .ro, false⟩,
    ⟨0x0004, 1, 23, 16, .ro, false⟩,
    ⟨0x0004, 1, 13, 8, .ro, false⟩,
    ⟨0x0004, 1, 2, 0, .ro, false⟩,
    ⟨0x0008, 1, 31, 16, .ro, false⟩,
    ⟨0x0008, 1, 15, 0, .ro, false⟩,
    ⟨0x000C, 1, 18, 0, .ro, false⟩,
    ⟨0x0010, 1, 13, 8, .ro, false⟩,
    ⟨0x0010, 1, 4, 4, .ro, false⟩,
    ⟨0x0010, 1, 3, 0, .ro, false⟩,
    ⟨0x0014, 1, 30, 28, .rw, false⟩,
    ⟨0x0014, 1, 27, 16, .rw, false⟩,
    ⟨0x0014, 1, 15, 10, .rw, false⟩,
    ⟨0x0014, 1, 9, 9, .rw, false⟩,
    ⟨0x0014, 1, 8, 8, .rw, false⟩,
    ⟨0x0014, 1, 6, 0, .rw, false⟩ ] ++
  [ ⟨0x0018, 1, 31, 16, .ro, false⟩,
    ⟨0x0018, 1, 15, 0, .ro, false⟩,
    ⟨0x001C, 1, 22, 16, .ro, false⟩,
    ⟨0x001C, 1, 15, 0, .ro, false⟩,
    ⟨0x0020, 1, 23, 16, .w1c, false⟩,
    ⟨0x0020, 1, 15, 8, .rw, false⟩,
    ⟨0x0020, 1, 0, 0, .rw, false⟩,
    ⟨0x0024, 1, 2, 0, .rw, false⟩,
    ⟨0x0028, 4, 31, 0, .rw, false⟩,
    ⟨0x0038, 1, 15, 0, .rw, false⟩,
    ⟨0x0040, 1, 3, 0, .rw, true⟩,
    ⟨0x0044, 1, 31, 24, .rw, true⟩,
    ⟨0x0044, 1, 19, 16, .rw, true⟩,
    ⟨0x0044, 1, 6, 0, .rw, true⟩,
    ⟨0x0048, 1, 31, 16, .rw, true⟩,
    ⟨0x0048, 1, 15, 0, .rw, true⟩,
    ⟨0x004C, 1, 15, 0, .rw, true⟩,
    ⟨0x0050, 1, 31, 0, .rw, true⟩,
    ⟨0x0054, 1, 31, 16, .ro, false⟩,
    ⟨0x0054, 1, 15, 0, .ro, false⟩,
    ⟨0x0058, 1, 31, 16, .ro, false⟩,
    ⟨0x0058, 1, 15, 0, .ro, false⟩,
    ⟨0x005C, 1, 10, 4, .ro, false⟩,
    ⟨0x005C, 1, 3, 2, .ro, false⟩ ] ++
  [ ⟨0x005C, 1, 1, 0, .ro, false⟩,
    ⟨0x0060, 1, 28, 0, .rw, false⟩,
    ⟨0x0064, 1, 26, 16, .ro, false⟩,
    ⟨0x0064, 1, 10, 0, .rw, false⟩,
    ⟨0x0068, 1, 9, 0, .wo, false⟩,
    ⟨0x0070, 1, 3, 3, .wo, true⟩,
    ⟨0x0070, 1, 2, 0, .wo, true⟩,
    ⟨0x0074, 1, 7, 0, .ro, true⟩,
    ⟨0x0080, 1, 6, 6, .w1c, false⟩,
    ⟨0x0080, 1, 5, 5, .w1c, false⟩,
    ⟨0x0080, 1, 4, 4, .w1c, false⟩,
    ⟨0x0080, 1, 3, 3, .w1c, false⟩,
    ⟨0x0080, 1, 2, 2, .w1c, false⟩,
    ⟨0x0080, 1, 1, 1, .w1c, false⟩,
    ⟨0x0080, 1, 0, 0, .w1c, false⟩,
    ⟨0x0084, 1, 6, 0, .rw, false⟩,
    ⟨0x0090, 1, 31, 31, .ro, false⟩,
    ⟨0x0090, 1, 30, 28, .wo, false⟩,
    ⟨0x0090, 1, 25, 21, .rw, false⟩,
    ⟨0x0090, 1, 20, 16, .rw, false⟩,
    ⟨0x0094, 1, 15, 0, .rw, false⟩,
    ⟨0x0100, 16, 31, 0, .ro, false⟩ ]

def fieldRowsTime : List FieldRow :=
  [ ⟨0x0000, 1, 7, 7, .ro, false⟩,
    ⟨0x0000, 1, 6, 6, .ro, false⟩,
    ⟨0x0000, 1, 5, 5, .ro, false⟩,
    ⟨0x0000, 1, 4, 4, .ro, false⟩,
    ⟨0x0000, 1, 3, 3, .ro, false⟩,
    ⟨0x0000, 1, 2, 0, .ro, false⟩,
    ⟨0x0004, 1, 31, 0, .ro, false⟩,
    ⟨0x0008, 1, 31, 0, .ro, false⟩,
    ⟨0x000C, 1, 29, 0, .ro, false⟩,
    ⟨0x0010, 1, 15, 0, .ro, false⟩,
    ⟨0x0014, 1, 17, 17, .rw, false⟩,
    ⟨0x0014, 1, 16, 16, .rw, false⟩,
    ⟨0x0014, 1, 15, 0, .ro, false⟩,
    ⟨0x0018, 1, 31, 0, .ro, false⟩,
    ⟨0x001C, 1, 31, 0, .ro, false⟩,
    ⟨0x0020, 1, 19, 0, .rw, false⟩,
    ⟨0x0030, 1, 11, 4, .rw, false⟩,
    ⟨0x0030, 1, 3, 3, .rw, false⟩,
    ⟨0x0030, 1, 2, 2, .rw, false⟩,
    ⟨0x0030, 1, 1, 1, .rw, false⟩,
    ⟨0x0030, 1, 0, 0, .rw, false⟩,
    ⟨0x0034, 1, 9, 0, .rw, false⟩,
    ⟨0x0038, 1, 19, 16, .rw, false⟩,
    ⟨0x0038, 1, 15, 12, .rw, false⟩ ] ++
  [ ⟨0x0038, 1, 11, 8, .rw, false⟩,
    ⟨0x0038, 1, 7, 4, .rw, false⟩,
    ⟨0x003C, 1, 31, 24, .rw, false⟩,
    ⟨0x003C, 1, 23, 16, .rw, false⟩,
    ⟨0x003C, 1, 15, 8, .rw, false⟩,
    ⟨0x0040, 1, 15, 0, .rw, false⟩,
    ⟨0x0044, 1, 31, 0, .ro, false⟩,
    ⟨0x0048, 1, 29, 0, .ro, false⟩,
    ⟨0x004C, 1, 31, 0, .ro, false⟩,
    ⟨0x0050, 1, 31, 0, .ro, false⟩,
    ⟨0x0060, 1, 10, 1, .rw, false⟩,
    ⟨0x0060, 1, 0, 0, .rw, false⟩,
    ⟨0x0070, 1, 1, 0, .rw, false⟩,
    ⟨0x0074, 1, 31, 0, .rw, false⟩,
    ⟨0x0078, 1, 31, 0, .rw, false⟩,
    ⟨0x007C, 1, 31, 0, .rw, false⟩,
    ⟨0x0080, 1, 31, 0, .rw, false⟩,
    ⟨0x0084, 1, 4, 4, .ro, false⟩,
    ⟨0x0084, 1, 3, 3, .w1c, false⟩,
    ⟨0x0084, 1, 2, 2, .ro, false⟩,
    ⟨0x0084, 1, 1, 1, .rw, false⟩,
    ⟨0x0084, 1, 0, 0, .wo, false⟩,
    ⟨0x0090, 1, 3, 0, .rw, false⟩,
    ⟨0x0094, 1, 31, 16, .ro, false⟩ ] ++
  [ ⟨0x0094, 1, 15, 7, .ro, false⟩,
    ⟨0x0094, 1, 6, 0, .ro, false⟩,
    ⟨0x0098, 4, 31, 0, .ro, false⟩,
    ⟨0x00A8, 1, 9, 0, .rw, false⟩,
    ⟨0x00B0, 1, 4, 4, .w1c, false⟩,
    ⟨0x00B0, 1, 3, 3, .w1c, false⟩,
    ⟨0x00B0, 1, 2, 2, .w1c, false⟩,
    ⟨0x00B0, 1, 1, 1, .w1c, false⟩,
    ⟨0x00B0, 1, 0, 0, .w1c, false⟩,
    ⟨0x00B4, 1, 4, 0, .rw, false⟩ ]

def fieldRowsRtc : List FieldRow :=
  [ ⟨0x0000, 1, 15, 8, .ro, false⟩,
    ⟨0x0000, 1, 0, 0, .ro, false⟩,
    ⟨0x0004, 1, 0, 0, .w1s, false⟩,
    ⟨0x0008, 1, 31, 0, .ro, false⟩,
    ⟨0x000C, 1, 15, 0, .ro, false⟩,
    ⟨0x0010, 1, 22, 20, .ro, false⟩,
    ⟨0x0010, 1, 19, 15, .ro, false⟩,
    ⟨0x0010, 1, 11, 6, .ro, false⟩,
    ⟨0x0010, 1, 5, 0, .ro, false⟩,
    ⟨0x0018, 1, 22, 20, .rw, false⟩,
    ⟨0x0018, 1, 19, 15, .rw, false⟩,
    ⟨0x0018, 1, 11, 6, .rw, false⟩,
    ⟨0x0018, 1, 5, 0, .rw, false⟩,
    ⟨0x0014, 1, 15, 9, .ro, false⟩,
    ⟨0x0014, 1, 8, 5, .ro, false⟩,
    ⟨0x0014, 1, 4, 0, .ro, false⟩,
    ⟨0x001C, 1, 15, 9, .rw, false⟩,
    ⟨0x001C, 1, 8, 5, .rw, false⟩,
    ⟨0x001C, 1, 4, 0, .rw, false⟩,
    ⟨0x0020, 1, 0, 0, .wo, false⟩,
    ⟨0x0030, 1, 26, 23, .rw, false⟩,
    ⟨0x0030, 1, 22, 0, .rw, false⟩,
    ⟨0x0038, 1, 26, 23, .rw, false⟩,
    ⟨0x0038, 1, 22, 0, .rw, false⟩ ] ++
  [ ⟨0x0034, 1, 31, 31, .rw, false⟩,
    ⟨0x0034, 1, 18, 16, .rw, false⟩,
    ⟨0x0034, 1, 15, 0, .rw, false⟩,
    ⟨0x003C, 1, 31, 31, .rw, false⟩,
    ⟨0x003C, 1, 18, 16, .rw, false⟩,
    ⟨0x003C, 1, 15, 0, .rw, false⟩,
    ⟨0x0040, 1, 31, 0, .rw, false⟩,
    ⟨0x0044, 1, 31, 31, .ro, false⟩,
    ⟨0x0044, 1, 15, 0, .rw, false⟩,
    ⟨0x0050, 1, 3, 0, .rw, false⟩,
    ⟨0x0054, 1, 15, 0, .rw, false⟩,
    ⟨0x0058, 1, 31, 16, .ro, false⟩,
    ⟨0x0058, 1, 7, 0, .ro, false⟩,
    ⟨0x0060, 1, 5, 5, .w1c, false⟩,
    ⟨0x0060, 1, 4, 4, .w1c, false⟩,
    ⟨0x0060, 1, 3, 3, .w1c, false⟩,
    ⟨0x0060, 1, 2, 2, .w1c, false⟩,
    ⟨0x0060, 1, 1, 1, .w1c, false⟩,
    ⟨0x0060, 1, 0, 0, .w1c, false⟩,
    ⟨0x0064, 1, 5, 0, .rw, false⟩ ]

def fieldRowsClk : List FieldRow :=
  [ ⟨0x0000, 1, 7, 6, .ro, false⟩,
    ⟨0x0000, 1, 5, 5, .ro, false⟩,
    ⟨0x0000, 1, 4, 4, .ro, false⟩,
    ⟨0x0000, 1, 3, 3, .ro, false⟩,
    ⟨0x0000, 1, 2, 2, .ro, false⟩,
    ⟨0x0000, 1, 1, 1, .ro, false⟩,
    ⟨0x0000, 1, 0, 0, .ro, false⟩,
    ⟨0x0004, 1, 5, 5, .w1c, false⟩,
    ⟨0x0004, 1, 4, 4, .w1c, false⟩,
    ⟨0x0004, 1, 3, 3, .w1c, false⟩,
    ⟨0x0004, 1, 2, 2, .w1c, false⟩,
    ⟨0x0004, 1, 1, 1, .w1c, false⟩,
    ⟨0x0004, 1, 0, 0, .w1c, false⟩,
    ⟨0x0008, 1, 31, 16, .ro, false⟩,
    ⟨0x0008, 1, 9, 0, .ro, false⟩,
    ⟨0x000C, 1, 31, 16, .ro, false⟩,
    ⟨0x000C, 1, 15, 0, .ro, false⟩,
    ⟨0x0010, 1, 31, 16, .ro, false⟩,
    ⟨0x0010, 1, 15, 0, .ro, false⟩,
    ⟨0x0014, 1, 5, 0, .rw, false⟩ ]

def fieldRowsPwr : List FieldRow :=
  [ ⟨0x0000, 1, 4, 4, .ro, false⟩,
    ⟨0x0000, 1, 3, 3, .ro, false⟩,
    ⟨0x0000, 1, 2, 2, .ro, false⟩,
    ⟨0x0000, 1, 1, 1, .ro, false⟩,
    ⟨0x0000, 1, 0, 0, .ro, false⟩,
    ⟨0x0004, 1, 31, 16, .ro, false⟩,
    ⟨0x0004, 1, 15, 0, .ro, false⟩,
    ⟨0x0008, 1, 31, 16, .ro, false⟩,
    ⟨0x0008, 1, 15, 0, .ro, false⟩,
    ⟨0x000C, 1, 31, 23, .ro, false⟩,
    ⟨0x000C, 1, 22, 13, .ro, false⟩,
    ⟨0x000C, 1, 12, 0, .ro, false⟩,
    ⟨0x0010, 1, 19, 16, .ro, false⟩,
    ⟨0x0010, 1, 15, 0, .ro, false⟩,
    ⟨0x0014, 1, 31, 16, .ro, false⟩,
    ⟨0x0014, 1, 15, 0, .ro, false⟩,
    ⟨0x0018, 1, 3, 3, .w1c, false⟩,
    ⟨0x0018, 1, 2, 2, .w1c, false⟩,
    ⟨0x0018, 1, 1, 1, .w1c, false⟩,
    ⟨0x0018, 1, 0, 0, .w1c, false⟩,
    ⟨0x001C, 1, 3, 0, .rw, false⟩ ]

def fieldRowsSil : List FieldRow :=
  [ ⟨0x0000, 1, 5, 5, .ro, false⟩,
    ⟨0x0000, 1, 4, 4, .ro, false⟩,
    ⟨0x0000, 1, 3, 3, .ro, false⟩,
    ⟨0x0000, 1, 2, 2, .ro, false⟩,
    ⟨0x0000, 1, 1, 1, .ro, false⟩,
    ⟨0x0000, 1, 0, 0, .ro, false⟩,
    ⟨0x0004, 1, 31, 0, .ro, false⟩,
    ⟨0x0008, 1, 31, 0, .ro, false⟩,
    ⟨0x000C, 1, 31, 8, .ro, false⟩,
    ⟨0x000C, 1, 7, 0, .ro, false⟩,
    ⟨0x0010, 1, 27, 0, .rw, false⟩,
    ⟨0x0014, 1, 16, 0, .rw, true⟩,
    ⟨0x0018, 1, 31, 0, .rw, true⟩,
    ⟨0x001C, 1, 31, 0, .rw, true⟩,
    ⟨0x0020, 1, 1, 0, .wo, true⟩,
    ⟨0x0024, 1, 7, 0, .ro, true⟩,
    ⟨0x0028, 1, 31, 9, .ro, false⟩,
    ⟨0x0028, 1, 8, 0, .ro, false⟩,
    ⟨0x0030, 1, 31, 0, .rw, true⟩,
    ⟨0x0034, 1, 7, 0, .rw, true⟩,
    ⟨0x0038, 1, 31, 16, .wo, true⟩,
    ⟨0x0038, 1, 13, 0, .wo, true⟩,
    ⟨0x003C, 1, 8, 8, .ro, true⟩,
    ⟨0x003C, 1, 7, 0, .ro, true⟩ ] ++
  [ ⟨0x0040, 1, 31, 16, .ro, false⟩,
    ⟨0x0040, 1, 15, 0, .ro, false⟩,
    ⟨0x0044, 1, 31, 19, .ro, false⟩,
    ⟨0x0044, 1, 18, 0, .ro, false⟩,
    ⟨0x0048, 1, 31, 16, .ro, false⟩,
    ⟨0x0048, 1, 11, 0, .ro, false⟩,
    ⟨0x004C, 1, 31, 16, .ro, false⟩,
    ⟨0x004C, 1, 15, 0, .ro, false⟩,
    ⟨0x0050, 1, 3, 3, .w1c, false⟩,
    ⟨0x0050, 1, 2, 2, .w1c, false⟩,
    ⟨0x0050, 1, 1, 1, .w1c, false⟩,
    ⟨0x0050, 1, 0, 0, .w1c, false⟩,
    ⟨0x0054, 1, 3, 0, .rw, false⟩ ]

def fieldRowsMtr : List FieldRow :=
  [ ⟨0x0000, 1, 15, 12, .ro, false⟩,
    ⟨0x0000, 1, 11, 8, .ro, false⟩,
    ⟨0x0000, 1, 5, 4, .ro, false⟩,
    ⟨0x0000, 1, 3, 0, .ro, false⟩,
    ⟨0x0004, 1, 3, 0, .w1c, true⟩,
    ⟨0x0008, 1, 31, 16, .ro, false⟩,
    ⟨0x0008, 1, 15, 0, .ro, false⟩,
    ⟨0x000C, 1, 31, 16, .ro, false⟩,
    ⟨0x000C, 1, 15, 0, .ro, false⟩,
    ⟨0x0010, 1, 31, 0, .ro, false⟩,
    ⟨0x0014, 1, 31, 0, .ro, false⟩,
    ⟨0x0018, 1, 31, 0, .rw, false⟩,
    ⟨0x001C, 1, 31, 0, .rw, false⟩,
    ⟨0x0020, 1, 31, 16, .ro, false⟩,
    ⟨0x0020, 1, 8, 8, .ro, false⟩,
    ⟨0x0020, 1, 7, 0, .ro, false⟩,
    ⟨0x0024, 1, 3, 3, .w1c, false⟩,
    ⟨0x0024, 1, 2, 2, .w1c, false⟩,
    ⟨0x0024, 1, 1, 1, .w1c, false⟩,
    ⟨0x0024, 1, 0, 0, .w1c, false⟩,
    ⟨0x0028, 1, 3, 0, .rw, false⟩,
    ⟨0x0080, 16, 31, 0, .ro, false⟩ ] ++
  (List.range 4).flatMap (fun c =>
    [ ⟨0x0200 + 0x40 * c, 7, 31, 0, .ro, false⟩,
      ⟨0x021C + 0x40 * c, 4, 31, 0, .ro, false⟩,
      ⟨0x022C + 0x40 * c, 1, 31, 16, .ro, false⟩,
      ⟨0x022C + 0x40 * c, 1, 2, 0, .ro, false⟩,
      ⟨0x0230 + 0x40 * c, 1, 31, 16, .ro, false⟩,
      ⟨0x0230 + 0x40 * c, 1, 15, 0, .ro, false⟩ ])

def fieldRowsEvr : List FieldRow :=
  [ ⟨0x0000, 1, 14, 14, .ro, false⟩,
    ⟨0x0000, 1, 13, 13, .ro, false⟩,
    ⟨0x0000, 1, 12, 0, .ro, false⟩,
    ⟨0x0004, 1, 31, 0, .ro, false⟩,
    ⟨0x0008, 1, 31, 0, .ro, false⟩,
    ⟨0x000C, 1, 0, 0, .wo, false⟩,
    ⟨0x0010, 1, 31, 16, .ro, false⟩,
    ⟨0x0010, 1, 15, 0, .ro, false⟩,
    ⟨0x0014, 1, 31, 0, .ro, false⟩,
    ⟨0x0020, 1, 31, 0, .rw, false⟩,
    ⟨0x0024, 1, 7, 0, .ro, false⟩,
    ⟨0x0040, 8, 31, 0, .ro, false⟩,
    ⟨0x0028, 1, 2, 2, .w1c, false⟩,
    ⟨0x0028, 1, 1, 1, .w1c, false⟩,
    ⟨0x0028, 1, 0, 0, .w1c, false⟩,
    ⟨0x002C, 1, 2, 0, .rw, false⟩ ]

def fieldRowsPair : List FieldRow :=
  [ ⟨0x0000, 1, 10, 10, .ro, false⟩,
    ⟨0x0000, 1, 9, 9, .ro, false⟩,
    ⟨0x0000, 1, 8, 8, .ro, false⟩,
    ⟨0x0000, 1, 7, 7, .ro, false⟩,
    ⟨0x0000, 1, 6, 6, .ro, false⟩,
    ⟨0x0000, 1, 5, 5, .ro, false⟩,
    ⟨0x0000, 1, 4, 4, .ro, false⟩,
    ⟨0x0000, 1, 3, 3, .ro, false⟩,
    ⟨0x0000, 1, 2, 0, .ro, false⟩,
    ⟨0x0004, 1, 31, 0, .ro, false⟩,
    ⟨0x0008, 1, 31, 0, .ro, false⟩,
    ⟨0x000C, 1, 31, 16, .ro, false⟩,
    ⟨0x000C, 1, 15, 8, .ro, false⟩,
    ⟨0x000C, 1, 7, 0, .ro, false⟩,
    ⟨0x0010, 1, 31, 8, .ro, false⟩,
    ⟨0x0010, 1, 7, 0, .ro, false⟩,
    ⟨0x0014, 1, 31, 0, .ro, false⟩,
    ⟨0x0018, 1, 10, 0, .ro, false⟩,
    ⟨0x001C, 1, 31, 0, .ro, false⟩,
    ⟨0x0020, 1, 31, 24, .ro, false⟩,
    ⟨0x0020, 1, 23, 16, .ro, false⟩,
    ⟨0x0020, 1, 15, 0, .ro, false⟩,
    ⟨0x0030, 1, 15, 0, .rw, false⟩,
    ⟨0x0034, 1, 31, 0, .ro, false⟩ ] ++
  [ ⟨0x0040, 1, 0, 0, .wo, false⟩,
    ⟨0x0044, 1, 17, 17, .ro, false⟩,
    ⟨0x0044, 1, 16, 0, .ro, false⟩,
    ⟨0x0050, 1, 4, 4, .w1c, false⟩,
    ⟨0x0050, 1, 3, 3, .w1c, false⟩,
    ⟨0x0050, 1, 2, 2, .w1c, false⟩,
    ⟨0x0050, 1, 1, 1, .w1c, false⟩,
    ⟨0x0050, 1, 0, 0, .w1c, false⟩,
    ⟨0x0054, 1, 4, 0, .rw, false⟩ ]

def fieldRowsKey : List FieldRow :=
  [ ⟨0x0000, 1, 22, 16, .ro, false⟩,
    ⟨0x0000, 1, 15, 8, .ro, false⟩,
    ⟨0x0000, 1, 3, 3, .ro, false⟩,
    ⟨0x0000, 1, 2, 0, .ro, false⟩,
    ⟨0x0040, 16, 31, 0, .ro, false⟩,
    ⟨0x0010, 1, 5, 0, .rw, false⟩,
    ⟨0x0014, 1, 31, 16, .ro, false⟩,
    ⟨0x0014, 1, 3, 3, .ro, false⟩,
    ⟨0x0014, 1, 2, 2, .ro, false⟩,
    ⟨0x0014, 1, 1, 1, .ro, false⟩,
    ⟨0x0014, 1, 0, 0, .ro, false⟩,
    ⟨0x0020, 1, 31, 16, .rw, true⟩,
    ⟨0x0020, 1, 3, 0, .rw, true⟩,
    ⟨0x0024, 1, 31, 0, .rw, true⟩,
    ⟨0x0028, 1, 7, 0, .rw, true⟩,
    ⟨0x002C, 1, 8, 8, .ro, true⟩,
    ⟨0x002C, 1, 7, 0, .ro, true⟩,
    ⟨0x0030, 1, 31, 16, .ro, false⟩,
    ⟨0x0030, 1, 15, 0, .ro, false⟩,
    ⟨0x0034, 1, 3, 3, .w1c, false⟩,
    ⟨0x0034, 1, 2, 2, .w1c, false⟩,
    ⟨0x0034, 1, 1, 1, .w1c, false⟩,
    ⟨0x0034, 1, 0, 0, .w1c, false⟩,
    ⟨0x0038, 1, 3, 0, .rw, false⟩ ]

def fieldRowsBst : List FieldRow :=
  [ ⟨0x0000, 1, 11, 8, .ro, false⟩,
    ⟨0x0000, 1, 7, 7, .ro, false⟩,
    ⟨0x0000, 1, 6, 6, .ro, false⟩,
    ⟨0x0000, 1, 5, 5, .ro, false⟩,
    ⟨0x0004, 1, 3, 0, .rw, false⟩,
    ⟨0x0008, 1, 31, 16, .ro, false⟩,
    ⟨0x0008, 1, 15, 8, .ro, false⟩,
    ⟨0x0008, 1, 7, 4, .ro, false⟩,
    ⟨0x0008, 1, 3, 0, .ro, false⟩,
    ⟨0x000C, 1, 31, 0, .ro, false⟩,
    ⟨0x0010, 1, 27, 24, .ro, false⟩,
    ⟨0x0010, 1, 23, 16, .ro, false⟩,
    ⟨0x0010, 1, 15, 8, .ro, false⟩,
    ⟨0x0010, 1, 7, 0, .ro, false⟩,
    ⟨0x0014, 1, 8, 6, .ro, false⟩,
    ⟨0x0014, 1, 5, 2, .ro, false⟩,
    ⟨0x0014, 1, 1, 0, .ro, false⟩,
    ⟨0x0018, 1, 27, 0, .ro, false⟩,
    ⟨0x001C, 1, 8, 0, .ro, false⟩,
    ⟨0x0020, 1, 7, 4, .rw, false⟩,
    ⟨0x0020, 1, 3, 0, .rw, false⟩,
    ⟨0x0024, 1, 31, 16, .ro, false⟩,
    ⟨0x0024, 1, 15, 8, .ro, false⟩,
    ⟨0x0024, 1, 1, 0, .ro, false⟩ ] ++
  [ ⟨0x0028, 1, 31, 16, .ro, false⟩,
    ⟨0x0028, 1, 15, 0, .ro, false⟩,
    ⟨0x0030, 1, 8, 8, .ro, false⟩,
    ⟨0x0030, 1, 7, 4, .ro, false⟩,
    ⟨0x0030, 1, 3, 0, .ro, false⟩,
    ⟨0x0034, 1, 2, 2, .w1c, false⟩,
    ⟨0x0034, 1, 1, 1, .w1c, false⟩,
    ⟨0x0034, 1, 0, 0, .w1c, false⟩,
    ⟨0x0038, 1, 2, 0, .rw, false⟩ ]

def fieldRowsFwu : List FieldRow :=
  [ ⟨0x0000, 1, 12, 8, .ro, false⟩,
    ⟨0x0000, 1, 7, 7, .ro, false⟩,
    ⟨0x0000, 1, 6, 6, .ro, false⟩,
    ⟨0x0000, 1, 5, 4, .ro, false⟩,
    ⟨0x0000, 1, 3, 3, .ro, false⟩,
    ⟨0x0000, 1, 2, 2, .ro, false⟩,
    ⟨0x0000, 1, 0, 0, .ro, false⟩,
    ⟨0x0004, 1, 31, 0, .ro, false⟩,
    ⟨0x0008, 1, 31, 0, .ro, false⟩,
    ⟨0x000C, 1, 31, 0, .ro, false⟩,
    ⟨0x0010, 1, 26, 0, .ro, false⟩,
    ⟨0x0014, 1, 15, 8, .ro, false⟩,
    ⟨0x0014, 1, 7, 0, .ro, false⟩,
    ⟨0x0020, 1, 31, 0, .rw, false⟩,
    ⟨0x0024, 1, 7, 0, .rw, false⟩,
    ⟨0x0028, 1, 9, 8, .wo, true⟩,
    ⟨0x0028, 1, 7, 0, .wo, true⟩,
    ⟨0x002C, 1, 8, 8, .ro, true⟩,
    ⟨0x002C, 1, 7, 0, .ro, true⟩,
    ⟨0x0030, 1, 31, 23, .ro, false⟩,
    ⟨0x0030, 1, 22, 0, .ro, false⟩,
    ⟨0x0034, 1, 3, 3, .w1c, false⟩,
    ⟨0x0034, 1, 2, 2, .w1c, false⟩,
    ⟨0x0034, 1, 1, 1, .w1c, false⟩ ] ++
  [ ⟨0x0034, 1, 0, 0, .w1c, false⟩,
    ⟨0x0038, 1, 3, 0, .rw, false⟩ ]

def fieldRowsLgt : List FieldRow :=
  [ ⟨0x0000, 1, 10, 10, .ro, false⟩,
    ⟨0x0000, 1, 9, 8, .ro, false⟩,
    ⟨0x0000, 1, 7, 0, .ro, false⟩,
    ⟨0x0004, 1, 2, 0, .rw, false⟩,
    ⟨0x0008, 1, 11, 11, .ro, false⟩,
    ⟨0x0008, 1, 10, 10, .ro, false⟩,
    ⟨0x0008, 1, 9, 0, .rw, false⟩,
    ⟨0x000C, 1, 24, 24, .ro, false⟩,
    ⟨0x000C, 1, 23, 16, .ro, false⟩,
    ⟨0x000C, 1, 15, 8, .ro, false⟩,
    ⟨0x000C, 1, 7, 0, .ro, false⟩,
    ⟨0x0010, 1, 31, 16, .ro, false⟩,
    ⟨0x0010, 1, 15, 0, .ro, false⟩,
    ⟨0x0014, 1, 8, 0, .ro, false⟩,
    ⟨0x0018, 1, 7, 0, .wo, false⟩,
    ⟨0x0020, 1, 16, 16, .rw, false⟩,
    ⟨0x0020, 1, 15, 8, .rw, false⟩,
    ⟨0x0020, 1, 1, 1, .ro, false⟩,
    ⟨0x0020, 1, 0, 0, .wo, false⟩,
    ⟨0x0024, 1, 16, 16, .rw, false⟩,
    ⟨0x0024, 1, 15, 8, .rw, false⟩,
    ⟨0x0024, 1, 1, 1, .ro, false⟩,
    ⟨0x0024, 1, 0, 0, .wo, false⟩,
    ⟨0x0028, 1, 31, 0, .ro, false⟩ ] ++
  [ ⟨0x002C, 1, 31, 0, .ro, false⟩,
    ⟨0x0030, 1, 31, 16, .ro, false⟩,
    ⟨0x0030, 1, 15, 0, .ro, false⟩,
    ⟨0x0040, 4, 25, 25, .ro, false⟩,
    ⟨0x0040, 4, 24, 16, .ro, false⟩,
    ⟨0x0040, 4, 15, 0, .ro, false⟩,
    ⟨0x0050, 1, 3, 3, .w1c, false⟩,
    ⟨0x0050, 1, 2, 2, .w1c, false⟩,
    ⟨0x0050, 1, 1, 1, .w1c, false⟩,
    ⟨0x0050, 1, 0, 0, .w1c, false⟩,
    ⟨0x0054, 1, 3, 0, .rw, false⟩,
    ⟨0x1000, 128, 31, 0, .wo, false⟩,
    ⟨0x1200, 128, 31, 0, .wo, false⟩ ]

def fieldRowsHlk : List FieldRow :=
  [ ⟨0x0000, 1, 1, 1, .ro, false⟩,
    ⟨0x0000, 1, 0, 0, .ro, false⟩,
    ⟨0x0004, 1, 31, 16, .ro, false⟩,
    ⟨0x0004, 1, 15, 0, .ro, false⟩,
    ⟨0x0008, 1, 31, 16, .rw, false⟩,
    ⟨0x0008, 1, 15, 0, .rw, false⟩,
    ⟨0x000C, 1, 31, 16, .rw, false⟩,
    ⟨0x000C, 1, 15, 0, .rw, false⟩,
    ⟨0x0010, 1, 15, 0, .rw, false⟩,
    ⟨0x0014, 1, 31, 0, .wo, true⟩,
    ⟨0x0018, 1, 31, 0, .wo, true⟩,
    ⟨0x001C, 1, 15, 8, .ro, true⟩,
    ⟨0x001C, 1, 1, 1, .wo, true⟩,
    ⟨0x001C, 1, 0, 0, .wo, true⟩,
    ⟨0x0020, 1, 31, 16, .ro, false⟩,
    ⟨0x0020, 1, 15, 0, .ro, false⟩,
    ⟨0x0024, 1, 2, 2, .w1c, false⟩,
    ⟨0x0024, 1, 1, 1, .w1c, false⟩,
    ⟨0x0024, 1, 0, 0, .w1c, false⟩,
    ⟨0x0028, 1, 2, 0, .rw, false⟩ ]

def fieldRowsUsb : List FieldRow :=
  [ ⟨0x0000, 1, 10, 0, .ro, false⟩,
    ⟨0x0004, 1, 2, 2, .ro, false⟩,
    ⟨0x0004, 1, 1, 1, .ro, false⟩,
    ⟨0x0004, 1, 0, 0, .ro, false⟩,
    ⟨0x0008, 1, 0, 0, .w1c, false⟩,
    ⟨0x000C, 1, 0, 0, .rw, false⟩ ]

/-- The field rows of a block ID (R29). -/
def fieldRows : Nat → List FieldRow
  | 0 => fieldRowsSys
  | 1 => fieldRowsBeat
  | 2 => fieldRowsCut
  | 3 => fieldRowsRft
  | 4 => fieldRowsJst
  | 5 => fieldRowsRad
  | 6 => fieldRowsTrk
  | 7 => fieldRowsTime
  | 8 => fieldRowsRtc
  | 9 => fieldRowsClk
  | 10 => fieldRowsPwr
  | 11 => fieldRowsSil
  | 12 => fieldRowsMtr
  | 13 => fieldRowsEvr
  | 14 => fieldRowsPair
  | 15 => fieldRowsKey
  | 16 => fieldRowsBst
  | 17 => fieldRowsFwu
  | 18 => fieldRowsLgt
  | 19 => fieldRowsHlk
  | 20 => fieldRowsUsb
  | _ => []

end Sys2Proof.Machine
end

