-- ==== Sys2Proof/Machine/Registers.lean ====
section
/-! DEFINITION. Register reads and writes (R26-R35, R313), access faults (R27) and the serial controllers (R541). -/

namespace Sys2Proof.Machine

/-! ### Addresses (R26, R29) -/

/-- A range of the address space (R26): its start and size, and whether the cores may store to it and execute from it. -/
structure AddrRange where
  start : Nat
  size : Nat
  write : Bool
  run : Bool
deriving DecidableEq, Repr

/-- The populated ranges of R26, the register blocks of R29 last. -/
def ranges : List AddrRange :=
  [⟨0x0000000000, 0x20000, false, true⟩, ⟨0x0010000000, 0x800000, true, true⟩, ⟨0x0020000000, 0x1000000, false, false⟩,
   ⟨0x0030000000, 0x800000, false, false⟩, ⟨0x0040000000, 0x80000, true, false⟩, ⟨0x0100000000, 0x2000000, false, false⟩,
   ⟨0x0800000000, 0x80000000, true, true⟩, ⟨0x1000000000, 0x150000, true, false⟩]

/-- The base of the register blocks (R29). -/
def regBase : Nat := 0x1000000000

/-- A range allows a kind of access (R26). -/
def AddrRange.allows (r : AddrRange) : AccessKind → Bool
  | .load => true
  | .store => r.write
  | .execute => r.run

end Sys2Proof.Machine

namespace Sys2Proof

open Machine

/-- An access that the table of R26 allows: it lies in one range, and in the registers it is an aligned word (R30). -/
def Access.allowed (a : Access) : Bool :=
  ranges.any (fun r => r.start ≤ a.addr && a.addr + a.size ≤ r.start + r.size && r.allows a.kind) &&
    (a.addr < regBase || (a.addr % 4 == 0 && a.size == 4))

/-- A store of a 32-bit word (R30). -/
def Access.storeWord (addr : Nat) (v : W32) : Access := ⟨⟨.store, 4, v.setWidth 64⟩, addr⟩

end Sys2Proof

namespace Sys2Proof.Machine

/-- A register as R29 places it: its block, the window of a radio or a wired port, and the offset within block or window. -/
structure RegPlace where
  block : Nat
  window : Nat
  off : Nat
deriving DecidableEq, Repr

/-- The place of a register key (block ID × 0x1_0000 + offset). -/
def regPlace (key : Nat) : RegPlace :=
  let b := key / 65536
  let o := key % 65536
  if b = 5 then ⟨b, o / 0x4000, o % 0x4000⟩ else if b = 6 then ⟨b, o / 0x1000, o % 0x1000⟩ else ⟨b, 0, o⟩

/-- The field rows of the register at a place; none for an unimplemented offset (R32). -/
def rowsAt (p : RegPlace) : List FieldRow :=
  if p.block = 6 && 8 ≤ p.window && p.window < 14 then []
  else (fieldRows p.block).filter (fun r => r.off ≤ p.off && p.off < r.off + 4 * r.count && (p.off - r.off) % 4 == 0)

/-- The bits of a word that the rows define; reserved bits are 0 (R32). -/
def definedBits (rows : List FieldRow) (v : Nat) : Nat := sumOf rows (fun r => bits v r.hi r.lo * 2 ^ r.lo)

/-- The wired port of a TRK window (R29): trunks 0-7, UPLINK 8, TIE 9. -/
def windowPort (w : Nat) : Nat := if w < 8 then w else w - 6

/-- The key a register is held under: one that is banked per master has one word per bank. -/
def heldKey (key bank : Nat) (rows : List FieldRow) : Nat := if rows.any (·.banked) then key + (bank + 1) * 0x1000000 else key

/-- _LO registers of the 64-bit pairs of R34; the _HI register follows at the next word. -/
def loRegs : List Nat :=
  [0x000008, 0x000200, 0x000208, 0x000220, 0x010008, 0x020004, 0x030040, 0x030048, 0x070004, 0x07004C, 0x080008, 0x080040] ++
  [0x0B0004, 0x0B0018, 0x0B0030, 0x0C0010, 0x0C0018, 0x0E0004, 0x0F0024, 0x110020] ++ ((List.range 8).map (fun n => 0x0400C0 + 8 * n)) ++
  ((List.range 4).flatMap (fun c => [0x0C0200 + 0x40 * c, 0x0C0208 + 0x40 * c, 0x0C0210 + 0x40 * c]))

namespace Dev

/-- The block, or the window of it, is under self-test (R459, R465; notes/assumptions/37). -/
def blockTested (d : Dev) (p : RegPlace) : Bool :=
  let runs (l : List Nat) : Bool := match d.bst.test with | some r => r.running.any (fun t => l.contains t) | none => false
  match p.block with
  | 3 => runs [2]
  | 5 => d.mediumTested p.window
  | 6 => d.mediumTested (windowPort p.window + 4)
  | 12 => runs [9]
  | 18 => runs [10, 11]
  | _ => false

/-! ### Reads (R31, R34) -/

/-- A word of the fields given: value and lowest bit. -/
def pack (l : List (Nat × Nat)) : Nat := sumOf l (fun x => x.1 * 2 ^ x.2)

/-- The registers of the Joist that show its state (R204). -/
def readJst (d : Dev) (bank off : Nat) : Option Nat :=
  let buf := (d.heldBy bank).find? (fun h => h.buf == d.get (Reg.JST_ITEM_SEL.hold bank))
  let q := off % 0x100 / 4
  -- before a QUEUES section is in force the counts of free slots read 0, as the Reset column has them
  let shared := !d.jst.qcfg.isEmpty
  if off = 0 then some (pack [(if shared then poolSlots - d.jst.items.length else 0, 0), (b2n d.joistRuns, 16)])
  else if off = 4 then some (pack [(if shared then d.sharedFree else 0, 0), (d.reserveTotal, 16)])
  else if off = 0x20 then some (match buf with
    | some h => pack [(h.item.flow, 0), (h.item.producer, 20), (h.item.words.length - 1, 25)] | none => 0)
  else if 0xC0 ≤ off && off < 0x100 then some (match buf with
    | some h => h.item.words.getD ((off - 0xC0) / 8) 0 / 2 ^ (32 * ((off - 0xC0) / 4 % 2)) % 2 ^ 32 | none => 0)
  else if 0x400 ≤ off && off < 0x500 then some (match d.qcfgOf q with | some c => pack [(d.fill q, 0), (c.depth, 16)] | none => 0)
  else if 0x500 ≤ off && off < 0x600 then some (match d.qcfgOf q with
    | some c => pack [(c.reserve, 0), (c.consumer, 18), (c.weight, 26), (c.cls, 30)] | none => 0)
  else none

/-- Link sequence, credit and state of a selected link (R246, R275): register 0, 1 or 2 of the three. -/
def readLink (d : Dev) (md bank which : Nat) : Nat :=
  match d.findLink md (d.selectedLink md bank) with
  | none => 0
  | some l =>
    if which = 0 then pack [(l.txSeq, 0), (l.rxSeq, 16)]
    else if which = 1 then pack [(l.txLimit, 0), (l.rxLimit, 16)]
    else pack [(if l.lost then 2 else 1, 0), (l.cause, 2), (l.frames.length, 4), (if md < 4 then l.event % 65536 else 0, 16)]

/-- The registers of a radio that show its state (R246). -/
def readRad (d : Dev) (bank r off : Nat) : Option Nat :=
  let s := (d.radAt r).settledAt d.now
  let acc := s.accs.find? (fun a => a.kind == d.get (Reg.RAD_ACC_SEL.kind r) && a.index == d.get (Reg.RAD_ACC_SEL.index r))
  let lim : Nat × Nat := match s.profile, acc with | some f, some a => accLimits f a | _, _ => (0, 0)
  if off = 0 then
    match s.plan with
    | none => some (d.get (Reg.RAD_STATUS.word r))
    | some p =>
      let on := d.mediumPresent r && d.sys.mstate != .off
      let word := d.get (Reg.RAD_STATUS.word r)
      some (pack [(b2n on, 0), (bits word 2 1, 1), (b2n (p.watch && d.watches), 3), (b2n (on && d.linksRun && p.beaconPeriod != 0), 4),
        (if !on then 0 else if d.mainReceiver r then 1 else 2, 5), (bits word 7 7, 7), ((d.linksOf r).length, 8)])
  else if off = 0x24 then some (match acc with | some a => a.used | none => 0)
  else if off = 0x28 then some lim.1
  else if off = 0x2C then some lim.2
  else if off = 0x6C then some (d.readLink r bank 0)
  else if off = 0x70 then some (d.readLink r bank 1)
  else if off = 0x74 then some (d.readLink r bank 2)
  else none

/-- The registers of a wired port that show its state (R275). -/
def readTrk (d : Dev) (bank w off : Nat) : Option Nat :=
  let p := windowPort w
  let s := d.trkAt p
  let pat := s.wake.getD (d.get (Reg.TRK_WAKE_SEL.pattern w)) ⟨0, 0⟩
  if off = 0 then
    let word := d.get (Reg.TRK_STATUS.word w)
    let on := d.mediumPresent (portMedium p) && (p ≥ 8 || s.cfg.isSome)
    some (pack [(b2n on, 0), (if p < 8 then b2n on else bits word 1 1, 1), (bits word 4 2, 2), (d.get (Reg.TRK_WAKE_CTRL.sleep w), 5),
      (if p < 8 then (if on then 0 else 3) else bits word 7 6, 6), (if p < 8 then d.plcaRole p else 0, 8)])
  else if off = 0x04 then some (putBits (d.get (Reg.TRK_PLCA.word w)) (b2n (p < 8 && d.plcaRole p == 3)) 28 24)
  else if off = 0x1C then
    some (pack [(if d.now < s.pauseEnd then min 65535 (ceilDiv (s.pauseEnd - d.now) (64 * d.byteNs p)) else 0, 0),
      (sumOf ((List.range 7).filter (fun i => d.pfcHeld p i)) (fun i => 2 ^ i), 16)])
  else if 0x28 ≤ off && off < 0x38 then some (pat.mask / 2 ^ (8 * (off - 0x28)) % 2 ^ 32)
  else if off = 0x38 then some pat.check
  else if off = 0x54 then some (d.readLink (portMedium p) bank 0)
  else if off = 0x58 then some (d.readLink (portMedium p) bank 1)
  else if off = 0x5C then some (d.readLink (portMedium p) bank 2)
  else none

/-- The registers of TIME that show state (R300). -/
def readTime (d : Dev) (off : Nat) : Option Nat :=
  let x := d.tpoAt (d.get Reg.TIME_TPO_SEL.tpo)
  let q := d.tim.tsq.getD (d.get Reg.TIME_TSQ_SEL.port) ⟨[], 0, 0, ⟨0, 0, 0, 0⟩⟩
  match off with
  | 0x00 => if d.inPair && d.isState [.ready, .service, .hold, .test] && d.sys.role != .solo && d.sys.role != .active then
      some (putBits (d.get Reg.TIME_STATUS.word) (Config.peerQuality d.pair.peerBeat % 5) 2 0) else none
  | 0x04 => some (d.nowSec % 2 ^ 32)
  | 0x1C => some (satTwos 32 d.slewLeft)
  | 0x74 => some x.startSec
  | 0x78 => some x.startNs
  | 0x7C => some x.period
  | 0x80 => some x.width
  | 0x84 => some (pack [(b2n x.invert, 1), (b2n x.armed, 2), (b2n x.late, 3), (b2n x.bad, 4)])
  | 0x94 => some (pack [(q.entries.length, 0), (bits (d.get Reg.TIME_TSQ_STATUS.word) 31 7, 7)])
  | 0x98 => some q.latched.w0
  | 0x9C => some q.latched.w1
  | 0xA0 => some q.latched.w2
  | 0xA4 => some q.latched.w3
  | _ => none

/-- The registers of a metering channel that show its accumulators (R359, R373). -/
def readMtr (d : Dev) (off : Nat) : Option Nat :=
  let c := (off - 0x200) / 0x40
  let x := d.meterCh c
  if off < 0x200 || 0x300 ≤ off then none
  else match off % 0x40 with
    | 0x00 => some (x.impTotal % 2 ^ 32)
    | 0x04 => some (x.impTotal / 2 ^ 32)
    | 0x08 => some (x.expTotal % 2 ^ 32)
    | 0x0C => some (x.expTotal / 2 ^ 32)
    | 0x10 => some (x.rep % 2 ^ 32)
    | 0x14 => some (x.rep / 2 ^ 32)
    | 0x18 => some (d.fastTotal c % 2 ^ 24 + d.fastTotal c / 2 ^ 24 % 256 * 2 ^ 24)
    | 0x1C => some x.s0
    | _ => none

/-- The registers of boot and self-test that show a selected step or result (R467). -/
def readBst (d : Dev) (off : Nat) : Option Nat :=
  if off = 0x08 then
    let n := d.get Reg.BST_STEP_SEL.step
    let sh : Nat × Nat := match d.bst.shown.find? (fun x => x.1 == n) with | some x => (x.2.1, x.2.2) | none => (0, 0)
    let cause := match d.progress n with | some (_, _, _, _, c) => c | none => 0
    some (pack [(sh.1, 0), (sh.2, 4), (min 255 (d.consec n), 8), (cause, 16)])
  else if off = 0x24 then
    some (match d.bst.results.find? (fun r => r.test == d.get Reg.BST_TEST_SEL.test && r.index == d.get Reg.BST_TEST_SEL.index) with
    | some r => pack [(r.result, 0), (r.code, 8), (min 65535 (d.nowSec / 86400 - r.day), 16)]
    | none => 0)
  else none

/-- The registers of a selected string (R502). -/
def readLgt (d : Dev) (off : Nat) : Option Nat :=
  let n := d.get Reg.LGT_STR_SEL.string
  let s := d.strAt n
  match off with
  | 0x08 => some (d.shownLevel n)
  | 0x0C => some (pack [(sumOf (d.usable n) (fun k => 2 ^ k), 0), (s.suspect, 8), (s.bypassed, 16), (b2n (d.diagMode n), 24)])
  | 0x10 => some (pack [(d.strTicks n, 0), (s.debt, 16)])
  | 0x14 => some (d.strFactor n)
  | _ => none

/-- The engine sweeps beats (R176): its own as SOLO or ACTIVE, those it replays as STANDBY, or as SYNCING with its image loaded. -/
def engineSweeps (d : Dev) : Bool :=
  d.sys.mstate == .service && (d.sys.role == .solo || d.sys.role == .active || d.sys.role == .standby ||
    (d.sys.role == .syncing && d.pair.resync.any (fun r => r.loaded != 0)))

/-- The registers of the smaller blocks that show state (R36, R74, R176, R301, R324, R325, R350, R386, R412, R448, R514, R542). -/
def readOther (d : Dev) (key : Nat) : Option Nat :=
  let slot := d.key.slots.find? (fun s => s.slot == d.get Reg.KEY_SLOT_SEL.slot)
  match key with
  | 0x000008 => some (Config.unitId.toNat % 2 ^ 32)
  | 0x00000C => some (Config.unitId.toNat / 2 ^ 32)
  | 0x000200 => some (sumOf ((List.range 32).filter d.muxLevel) (fun i => 2 ^ i))
  | 0x000204 => some (sumOf ((List.range 10).filter (fun i => d.muxLevel (32 + i))) (fun i => 2 ^ i))
  | 0x010008 => some (d.beat.count % 2 ^ 32)
  | 0x01000C => some (d.beat.count / 2 ^ 32)
  | 0x030000 => some (pack [(d.get Reg.RFT_STATUS.word / 2 * 2, 0), (b2n d.engineSweeps, 0)])
  | 0x080008 => some (d.rtc.ticks % 2 ^ 32)
  | 0x08000C => some (d.rtc.ticks / 2 ^ 32 % 65536)
  | 0x080054 => some (toTwos 16 (d.rtc.curve.getD (d.get Reg.RTC_COMP_SEL.point) 0))
  | 0x09000C => some (pack [(d.get Reg.CLK_XTAL40.start_us, 0), (Config.xtalAmp % 65536, 16)])
  | 0x0A000C => some (putBits (d.get Reg.PWR_HOLDUP.word) (match d.pwr.holdAt with | some s => min 511 ((d.nowSec - s) / 86400) | none => 0) 31 23)
  | 0x0A0000 => some (putBits (d.get Reg.PWR_STATUS.word) (b2n (d.sys.mstate != .off && d.get Reg.PWR_VHOLD.mv < 56000)) 2 2)
  | 0x0B0004 => some (d.sil.recs.foldl (fun n r => max n r.seq) 0 % 2 ^ 32)
  | 0x0B0008 => some (d.sil.recs.foldl (fun n r => max n r.seq) 0 / 2 ^ 32)
  | 0x0B0048 => some (putBits (d.get Reg.SIL_SCRUB.word) (min 65535 ((d.nowSec - d.sil.scrubAt) / 86400)) 31 16)
  | 0x0D0000 => some (pack [(d.evr.buf.length, 0), (b2n (ringSlots ≤ d.evr.ring.length), 13), (b2n (d.evr.flushLeft != 0), 14)])
  | 0x0D0004 => some d.evr.nextSeq
  | 0x0D0008 => some (match d.heldRecords with | r :: _ => r.seq | [] => Config.oldestOfNone % 2 ^ 32)
  | 0x0E0018 => some (if d.pair.leased then min 2047 ((d.pair.leaseEnd - d.now) / 1000000) else 0)
  | 0x0E0034 => some (d.markOf (d.get Reg.PAIR_FC_SEL.handle) + 8192)
  | 0x0F0014 => some (match slot with
    | some s => pack [(1, 0), (b2n (s.ops != 0), 1), (b2n s.orphaned, 2), (b2n s.pinned, 3), (s.blob.keyId, 16)]
    | none => 0)
  | 0x140000 => some (Config.usbFrame d.now % 2048)
  | _ => none

/-- The value a read of a register shows (R31, R32): WO fields and reserved bits 0, everything 0 while the block is under test
(R465). The _HI half of a pair is shown by `readHi`. -/
def readReg (d : Dev) (bank key : Nat) : Nat :=
  let p := regPlace key
  let rows := rowsAt p
  let shown := match p.block with
    | 4 => d.readJst bank p.off
    | 5 => d.readRad bank p.window p.off
    | 6 => d.readTrk bank p.window p.off
    | 7 => d.readTime p.off
    | 12 => d.readMtr p.off
    | 16 => d.readBst p.off
    | 18 => d.readLgt p.off
    | 15 => if 0x40 ≤ p.off && p.off < 0x80 then some (fieldLE (Config.ecPublic deviceScalar) (p.off - 0x40) 4) else d.readOther key
    | _ => d.readOther key
  let v := match shown with | some v => v | none => (d.regs.get (heldKey key bank rows)).toNat
  if d.blockTested p then 0
  else definedBits (rows.filter (fun r => r.acc != .wo)) v

/-- A latch of the reading master, replacing the one it held (R34). -/
def setLatch (d : Dev) (bank key v : Nat) : Dev :=
  { d with latches := ⟨bank, key, v⟩ :: d.latches.filter (fun x => !(x.bank == bank && x.key == key)) }

/-- The upper half that a read of a _HI register returns (R34, R278): what the master's last read of _LO latched, or 0. -/
def readHi (d : Dev) (bank key : Nat) : Nat :=
  match d.latches.find? (fun x => x.bank == bank && x.key == key) with | some x => x.value | none => 0

/-- A read of a _LO register (R34). A read of TIME_NOW_SEC_LO latches seconds, nanoseconds and fraction together (R278); the
model has no state below a nanosecond, so the fraction is a free value. -/
def readLo (d : Dev) (bank key : Nat) : Dev :=
  if !loRegs.contains key || d.blockTested (regPlace key) then d
  else if key = 0x070004 then
    let f := d.fresh
    ((f.2.setLatch bank 0x070008 (d.nowSec / 2 ^ 32)).setLatch bank 0x07000C (d.now % 1000000000)).setLatch bank 0x070010 (f.1 % 65536)
  else d.setLatch bank (key + 4) (d.readReg bank (key + 4))

/-! ### Writes (R31-R35) -/

/-- Registers of which a later command takes the value although their fields read 0 (R204): the timer staged for JST_TMR_ARM. -/
def stagingWo : List Nat := [0x040100, 0x040104, 0x040108, 0x04010C]

/-- One field of a write, by its access type (R31); a W1C bit that hardware has set in this cycle stays set (R35); a locked RWL
field sets lock_viol (R33). -/
def writeField (d : Dev) (key held v : Nat) (r : FieldRow) : Dev :=
  let f : Fld := ⟨held, r.hi, r.lo⟩
  let x := bits v r.hi r.lo
  match r.acc with
  | .rw => d.put f x
  | .ro => d
  | .wo => if stagingWo.contains key then d.put f x else d
  | .w1c => d.put f (clearBits (d.get f) (clearBits x (d.raisedNow f)))
  | .w1s => d.raiseBits f x
  | .rwl => if d.sys.mstate = .unframed then d.put f x else d.raise Reg.SYS_STATUS.lock_viol

/-- Writable pairs whose _LO commits both halves, by the key of _LO and whether they are banked (R34). -/
def pairLos : List (Nat × Bool) :=
  [(0x000208, false), (0x080040, false), (0x0C0018, false), (0x110020, false), (0x000220, true), (0x040100, true), (0x0B0018, true),
   (0x0B0030, true), (0x0F0024, true), (0x130014, true)]

/-- The held key of a pair's register for a master. -/
def pairKey (key bank : Nat) (banked : Bool) : Nat := if banked then key + (bank + 1) * 0x1000000 else key

/-- Restores the relations a write must keep between the fields of some registers: values out of range are written as the
tables say (R74, R275, R300, R513). -/
def fixWritten (d : Dev) (p : RegPlace) : Dev :=
  match p.block, p.off with
  | 1, 0x00 => if 4 < d.get Reg.BEAT_CFG.period then d.put Reg.BEAT_CFG.period 1 else d
  | 1, 0x2C => if d.get Reg.BEAT_SLEW_LIMIT.ppm < 10 || 1000 < d.get Reg.BEAT_SLEW_LIMIT.ppm then d.put Reg.BEAT_SLEW_LIMIT.ppm 500 else d
  | 6, 0x14 => if d.get (Reg.TRK_GBE_CFG.pcp p.window) = 7 then d.put (Reg.TRK_GBE_CFG.pcp p.window) 6 else d
  | 7, 0x20 => d.put Reg.TIME_JUMP_THR.us (clampNat (d.get Reg.TIME_JUMP_THR.us) 1 1000000)
  | 7, 0x14 => d.putB Reg.TIME_STATUS.leap_pending (d.flag Reg.TIME_UTC.leap59 || d.flag Reg.TIME_UTC.leap61)
  | 7, 0x30 => d.bmca
  | 7, 0x34 => d.bmca
  | 19, 0x08 =>
    (if d.get Reg.HLK_DN_MARKS.high ≤ d.get Reg.HLK_DN_MARKS.low then d.put Reg.HLK_DN_MARKS.high (d.get Reg.HLK_DN_MARKS.low + 1)
      else d).hlSignals
  | 19, 0x0C =>
    (if d.get Reg.HLK_UP_MARKS.high ≤ d.get Reg.HLK_UP_MARKS.low then d.put Reg.HLK_UP_MARKS.high (d.get Reg.HLK_UP_MARKS.low + 1)
      else d).hlSignals
  | _, _ => d

/-- A write of TIME_TPO_START_SEC to TIME_TPO_WIDTH, or of invert and late in TIME_TPO_CTRL, for the output selected (R292, R300). -/
def writeTpo (d : Dev) (off v : Nat) : Dev :=
  d.setTpo (d.get Reg.TIME_TPO_SEL.tpo) (fun x =>
    match off with
    | 0x74 => { x with startSec := v }
    | 0x78 => { x with startNs := v }
    | 0x7C => { x with period := v }
    | 0x80 => { x with width := v }
    | _ => { x with invert := bit v 1, late := x.late && !bit v 3 })

/-- A write into the wake-filter pattern selected (R273, R275). -/
def writeWake (d : Dev) (w off v : Nat) : Dev :=
  d.setTrk (windowPort w) (fun s => { s with wake := modifyAt s.wake (d.get (Reg.TRK_WAKE_SEL.pattern w)) (fun x =>
    if off = 0x38 then { x with check := v % 65536 }
    else
      let i := (off - 0x28) / 4
      { x with mask := putBits x.mask v (32 * i + 31) (32 * i) }) })

/-- A write reaches its register: each field by its type, and what the register's own rules add. -/
def applyWrite (d : Dev) (bank key v : Nat) : Dev :=
  let p := regPlace key
  let rows := rowsAt p
  let held := heldKey key bank rows
  if p.block = 1 && p.off = 0x1C then (if bit v 16 then d.put Reg.BEAT_SWEEP_TIME.max_us 0 else d)
  else if p.block = 7 && 0x74 ≤ p.off && p.off ≤ 0x84 then d.writeTpo p.off v
  else if p.block = 6 && 0x28 ≤ p.off && p.off ≤ 0x38 && !rows.isEmpty then d.writeWake p.window p.off v
  else if key = 0x080054 then
    { d with rtc := { d.rtc with curve := modifyAt d.rtc.curve (d.get Reg.RTC_COMP_SEL.point) (fun _ => sext 16 v) } }
  else if key = 0x0B0010 then d.setLedgerBase (bits v 27 0)
  else if p.block = 6 && p.off = 0x14 && !(match d.qcfgOf (bits v 15 10) with | some c => c.consumer == 0xFF | none => false) then
    -- rx_queue must name a queue of the cores (R275): such a write leaves rx_queue as it was
    ((rows.filter (fun r => r.lo != 10)).foldl (fun d r => d.writeField key held v r) d).fixWritten p
  else (rows.foldl (fun d r => d.writeField key held v r) d).fixWritten p

/-- A write by a master (R31-R34, R313): a _HI half is staged, a _LO half commits both, and a write into the backup domain is
posted, replacing one posted to the same register that has not crossed. -/
def writeReg (d : Dev) (bank key v : Nat) : Dev :=
  match pairLos.find? (fun x => x.1 + 4 == key) with
  | some x => d.stageHi bank ⟨pairKey key bank x.2, 31, 0⟩ (definedBits (rowsAt (regPlace key)) v)
  | none =>
    match pairLos.find? (fun x => x.1 == key) with
    | some x => d.commitPair bank ⟨pairKey key bank x.2, 31, 0⟩ ⟨pairKey (key + 4) bank x.2, 31, 0⟩ v
    | none =>
      if key / 65536 = 8 && !(rowsAt (regPlace key)).isEmpty then
        { d with rtc := { d.rtc with posted := d.rtc.posted.filter (fun x => x.key != key) ++ [⟨key, v⟩] } }
      else d.applyWrite bank key v

/-! ### Access faults (R27) -/

/-- The Sill's window (R326). -/
def sillBase : Nat := 0x0100000000

/-- The offset lies in a line of the Sill with an uncorrectable error (R327, R345). -/
def sillBad (d : Dev) (o : Nat) : Bool := d.sil.badLines.contains (o / 64 * 64)

/-- R26 and R30 allow the access, and no byte of it lies in a line of the Sill with an uncorrectable error (R327). -/
def accessOk (d : Dev) (a : Access) : Bool :=
  a.allowed && !(sillBase ≤ a.addr && a.addr < sillBase + 0x2000000 && (d.sillBad (a.addr - sillBase) || d.sillBad (a.addr + a.size - 1 - sillBase)))

/-- The access has no effect on what it addresses; a load returns 0, an application core takes the access-fault exception, and
the module writes a rate-limited event that names the master and the address (R27). -/
def accessFault (d : Dev) (m : Master) (a : Access) : Dev :=
  let core (d : Dev) : Dev := { d with sys := { d.sys with coreFaults :=
    ⟨bankOf m, a.kind, a.addr, 0⟩ :: d.sys.coreFaults.filter (fun x => x.core != bankOf m) } }
  (d.when (isCore m) core).offer ⟨Config.evAccessFault, Config.sevAccessFault⟩ [bankOf m, a.addr]

/-- A store that R26 allows outside the registers: its bytes, low byte first (R5). -/
def storeBytes (d : Dev) (a : Access) : Dev := { d with mem := d.mem.writeN a.addr (toLE a.size a.value.toNat) }

/-! ### The serial controllers (R541) -/

/-- The judgement of a descriptor: its bus, write length, read length and buffer, or none for a descriptor fault. -/
def serDesc (d : Dev) (a : Nat) : Option (Nat × Nat × Nat × Nat) :=
  let b := d.mem.readN a 16
  let bus := byteAt b 0
  let w := fieldLE b 4 2
  let r := fieldLE b 6 2
  let buf := fieldLE b 8 8
  let modeOk := if bus = 1 then byteAt b 1 < 128 && byteAt b 2 ≤ 1 else byteAt b 1 < 4
  if inSramOrLpddr a 16 && (bus = 1 || bus = 2) && modeOk && byteAt b 3 = 0 && w ≤ 4096 && r ≤ 4096 && inSramOrLpddr buf (max 1 (w + r)) then
    some (bus, w, r, buf)
  else none

/-- A write of SYS_SER_DESC_LO starts a transfer. -/
def serialTransfer (d : Dev) (bank lo : Nat) : Dev :=
  let d0 := d.commitPair bank (Reg.SYS_SER_DESC_LO.word bank) (Reg.SYS_SER_DESC_HI.word bank) lo
  let a := bits (d0.get (Reg.SYS_SER_DESC_HI.word bank)) 7 0 * 2 ^ 32 + lo
  let answer (st : Nat) : Dev := d0.put (Reg.SYS_SER_STATUS.status bank) st
  if d.lnd.serial.isSome then answer ST_REFUSED_FULL
  else match d0.serDesc a with
    | none => answer ST_BAD_ARGUMENT
    | some (bus, w, r, buf) =>
      let lands := if bus = 1 then [16, 17] else [18, 19, 20, 21]
      if d.cut.image.isNone || !lands.all (fun i => d.landDedicated i) then answer ST_ILLEGAL_STATE
      else ({ d0 with lnd := { d0.lnd with serial := some ⟨bank, ST_PENDING, buf + w, r, bus⟩ } } : Dev).put (Reg.SYS_SER_STATUS.busy bank) 1

/-- The transfer under way ends: its read bytes follow the write bytes in the buffer; only an I²C target times out. -/
def serialDone (d : Dev) (timeout : Bool) (data : Bytes) : Dev :=
  match d.lnd.serial with
  | none => d
  | some r =>
    let late := timeout && r.bus == 1
    let got := data.take r.readLen ++ List.replicate (r.readLen - data.length) 0
    let d1 : Dev := { d with
      mem := if late then d.mem else d.mem.writeN r.dest got
      lnd := { d.lnd with serial := none } }
    (d1.put (Reg.SYS_SER_STATUS.busy r.bank) 0).put (Reg.SYS_SER_STATUS.status r.bank) (if late then ST_TIMEOUT else ST_OK)

end Dev

/-! ### The commands -/

/-- READ_LO_LATCH (R34). -/
def execReadLoLatch (t : Nat) (m : Master) (key : Nat) (s : State) : Host.Outcome State Fault Refusal :=
  s.runAt t fun d => d.readLo (bankOf m) key

/-- ACCESS_FAULT (R26, R27, R30): an access that the table of R26 allows does not fault. Such a store outside the registers
writes its bytes; a load, a fetch and a register's word leave the machine to the rows of their own. -/
def execAccessFault (t : Nat) (m : Master) (addr : Nat) (f : AccessForm) (s : State) : Host.Outcome State Fault Refusal :=
  s.runAt t fun d =>
    let a := Access.mk f addr
    if !d.accessOk a then d.accessFault m a else if a.kind == .store && a.addr < regBase then d.storeBytes a else d

/-- A write to a register that has a row of its own is that row's command; none for any other register, and for the KEY_OP
descriptor, whose commands carry the world of the master (R448). -/
def rowWrite (t : Nat) (m : Master) (key : Nat) (v : W32) (s : State) : Option (Host.Outcome State Fault Refusal) :=
  let p := regPlace key
  let w := v.toNat
  let rad : Fin 4 := Fin.ofNat 4 p.window
  let port : Fin 10 := Fin.ofNat 10 (windowPort p.window)
  let gbe : Fin 2 := Fin.ofNat 2 (windowPort p.window)
  let linkOp (o c r : Host.Outcome State Fault Refusal) : Option (Host.Outcome State Fault Refusal) :=
    match bits w 2 0 with | 1 => some o | 2 => some c | 3 => some r | _ => some (s.runAt t id)
  let when_ (b : Bool) (o : Host.Outcome State Fault Refusal) : Option (Host.Outcome State Fault Refusal) :=
    some (if b then o else s.runAt t id)
  -- TRK offsets 0x8000-0xDFFF are reserved (R29): no register of them has a row
  if p.block = 6 && 8 ≤ p.window && p.window < 14 then none
  else match p.block, p.off with
  | 3, 0x10 => some (execRftIngestW0 t m v s)
  | 3, 0x14 => some (execRftIngestWord t m 0 v s)
  | 3, 0x18 => some (execRftIngestWord t m 1 v s)
  | 3, 0x1C => some (execRftIngestCommit t m v s)
  | 3, 0x70 => some (execRftSpeedSel t m v s)
  | 3, 0x78 => some (execRftBattenSel t m v s)
  | 4, 0x14 => some (execJstDone t m v s)
  | 4, 0x30 => some (execJstPushOpen t m v s)
  | 4, 0x34 => if bit w 1 then some (execJstPushAbandon t m s) else when_ (bit w 0) (execJstPushCommit t m s)
  | 4, 0x110 => when_ (bit w 0) (execJstTmrArm t m s)
  | 4, 0x118 => some (execJstTmrCancel t m v s)
  | 4, 0x130 => when_ (bit w 8) (execJstFlush t m (Fin.ofNat 64 (bits w 5 0)) s)
  | 5, 0x78 => linkOp (execRadLinkOpen t rad m s) (execRadLinkClose t rad m (bit w 3) s) (execRadLinkResume t rad m s)
  | 6, 0x70 => linkOp (execTrkLinkOpen t port m s) (execTrkLinkClose t port m (bit w 3) s) (execTrkLinkResume t port m s)
  | 6, 0x64 => if 14 ≤ p.window then some (execRawCfgWrite t gbe v s) else none
  | 6, 0x68 => if 14 ≤ p.window then some (execRawSlotFree t gbe v s) else none
  | 6, 0x90 => when_ (p.window == 14) (execMdioCmd t v s)
  | 8, 0x20 => when_ (bit w 0) (execCalLoad t m s)
  | 8, 0x40 => some (execTickAlarmArm t m v s)
  | 11, 0x20 => match bits w 1 0 with
    | 1 => some (execAddEnergy t m s)
    | 2 => some (execAddRun t m s)
    | 3 => some (execSetCredit t m s)
    | _ => some (s.runAt t fun d => d.post (bankOf m) 0)
  | 11, 0x38 => some (execSilJwWrite t m v s)
  | 12, 0x18 => some (execArcFetch t m v s)
  | 13, 0x0C => when_ (bit w 0) (execEvrFlush t m s)
  | 13, 0x20 => some (execEvrRdSeq t m v s)
  | 14, 0x40 => when_ (bit w 0) (execResendGo t m s)
  | 17, 0x28 => match bits w 9 8 with
    | 1 => some (execLibWrite t m (bits w 7 0) s)
    | 2 => some (execLibRead t m (bits w 7 0) s)
    | 3 => some (execLibDelete t m (bits w 7 0) s)
    | _ => some (s.runAt t id)
  | 18, 0x08 => some (execStrLevelWrite t m v s)
  | 18, 0x18 => some (execLampReturned t m v s)
  | 19, 0x14 => some (execHlUpData t m v s)
  | 19, 0x1C => if bit w 1 then some (execHlUpAbandon t m s) else when_ (bit w 0) (execHlUpCommit t m s)
  | b, off =>
    if b = 4 && 0x80 ≤ off && off < 0xC0 && off % 4 = 0 then some (execJstPushWord t m (Fin.ofNat 16 ((off - 0x80) / 4)) v s)
    else if b = 18 && 0x1000 ≤ off && off < 0x1400 && off % 4 = 0 then
      some (execSignPixWrite t m (Fin.ofNat 2 ((off - 0x1000) / 0x200)) (Fin.ofNat 128 ((off - 0x1000) % 0x200 / 4)) v s)
    else none

/-- SERIAL_TRANSFER (R541). -/
def execSerialTransfer (t : Nat) (m : Master) (lo : W32) (s : State) : Host.Outcome State Fault Refusal :=
  s.runAt t fun d => d.serialTransfer (bankOf m) lo.toNat

/-- SERIAL_DONE (R541). -/
def execSerialDone (t : Nat) (timeout : Bool) (data : Bytes) (s : State) : Host.Outcome State Fault Refusal :=
  s.runAt t fun d => d.serialDone timeout data

/-- The bits of a write that act beside the fields it holds: arm in TIME_TPO_CTRL (R292), flip in LGT_SG*_CTRL (R498). -/
def Dev.actOnWrite (d : Dev) (key v : Nat) : Dev :=
  match key with
  | 0x070084 =>
    let k := d.get Reg.TIME_TPO_SEL.tpo
    if bit v 0 then d.tpoArm k else d.setTpo k (fun x => { x with armed := false, pulsing := false })
  | 0x120020 => if bit v 0 then d.setMat 0 (fun m => { m with flip := true, flipAt := d.now }) else d
  | 0x120024 => if bit v 0 then d.setMat 1 (fun m => { m with flip := true, flipAt := d.now }) else d
  | _ => d

/-- REGISTER_WRITE (R26-R34, R465): a word that the table of R26 does not allow, or that goes to no register, is that of
ACCESS_FAULT; a block under test ignores it; a register with a row of its own acts by that row; SYS_SER_DESC_LO starts a transfer;
every other field acts by its access type. -/
def execRegisterWrite (t : Nat) (m : Master) (addr : Nat) (v : W32) (s : State) : Host.Outcome State Fault Refusal :=
  if !(Access.storeWord addr v).allowed || addr < regBase then execAccessFault t m addr (Access.storeWord addr v).toAccessForm s
  else
    let key := addr - regBase
    if s.dev.blockTested (regPlace key) || s.dev.sys.mstate == .off then s.runAt t id
    else if key = 0x000220 then execSerialTransfer t m v s
    else match rowWrite t m key v s with
      | some o => o
      | none => s.runAt t fun d => (d.writeReg (bankOf m) key v.toNat).actOnWrite key v.toNat

/-- POSTED_WRITE_CROSSED (R313): the posted write to a register reaches the backup domain. -/
def execPostedWriteCrossed (t key : Nat) (s : State) : Host.Outcome State Fault Refusal :=
  s.runAt t fun d =>
    match d.rtc.posted.find? (fun x => x.key == key) with
    | none => d
    | some x => ({ d with rtc := { d.rtc with posted := d.rtc.posted.filter (fun y => y.key != key) } } : Dev).applyWrite 0 key x.value

end Sys2Proof.Machine
end

