-- ==== Sys2Proof/Machine/Dispatch.lean ====
section
/-! DEFINITION. One arm per command: its meaning, or a refusal by name. -/

namespace Sys2Proof.Machine

def exec (i : Instr) (s : State) : Host.Outcome State Fault Refusal :=
  match i with
  | .getStatus t e => Sys2Proof.Machine.execGetStatus t e s
  | .readEvents t e => Sys2Proof.Machine.execReadEvents t e s
  | .reset t e straps => Sys2Proof.Machine.execReset t e straps s
  | .start t e => Sys2Proof.Machine.execStart t e s
  | .stop t e => Sys2Proof.Machine.execStop t e s
  | .shutdown t e => Sys2Proof.Machine.execShutdown t e s
  | .cutStage t e => Sys2Proof.Machine.execCutStage t e s
  | .cutLoad t e => Sys2Proof.Machine.execCutLoad t e s
  | .cutPatch t e => Sys2Proof.Machine.execCutPatch t e s
  | .setPasses t e => Sys2Proof.Machine.execSetPasses t e s
  | .overrideC1Set t e => Sys2Proof.Machine.execOverrideC1Set t e s
  | .overrideC1Clear t e => Sys2Proof.Machine.execOverrideC1Clear t e s
  | .class0Activate t e => Sys2Proof.Machine.execClass0Activate t e s
  | .class0Release t e => Sys2Proof.Machine.execClass0Release t e s
  | .timeSet t e => Sys2Proof.Machine.execTimeSet t e s
  | .forceTime t e => Sys2Proof.Machine.execForceTime t e s
  | .fwStageChunk t e => Sys2Proof.Machine.execFwStageChunk t e s
  | .fwStageCommit t e => Sys2Proof.Machine.execFwStageCommit t e s
  | .fwStageAbandon t e => Sys2Proof.Machine.execFwStageAbandon t e s
  | .activate t e => Sys2Proof.Machine.execActivate t e s
  | .pairTakeover t e => Sys2Proof.Machine.execPairTakeover t e s
  | .pairDemote t e => Sys2Proof.Machine.execPairDemote t e s
  | .keyUpdateImport t e => Sys2Proof.Machine.execKeyUpdateImport t e s
  | .keyUpdateDerive t e => Sys2Proof.Machine.execKeyUpdateDerive t e s
  | .keyUpdateLifecycle t e => Sys2Proof.Machine.execKeyUpdateLifecycle t e s
  | .keyInvalidate t e => Sys2Proof.Machine.execKeyInvalidate t e s
  | .meterSnapshot t e => Sys2Proof.Machine.execMeterSnapshot t e s
  | .keyUpdateDone t => Sys2Proof.Machine.execKeyUpdateDone t s
  | .cutLoadStored t good => Sys2Proof.Machine.execCutLoadStored t good s
  | .cutCopyDone t => Sys2Proof.Machine.execCutCopyDone t s
  | .patchReady t good => Sys2Proof.Machine.execPatchReady t good s
  | .beatBoundary => Sys2Proof.Machine.execBeatBoundary s
  | .commit t => Sys2Proof.Machine.execCommit t s
  | .overrun t pass => Sys2Proof.Machine.execOverrun t pass s
  | .c0Refresh t index => Sys2Proof.Machine.execC0Refresh t index s
  | .ppsEdge t => Sys2Proof.Machine.execPpsEdge t s
  | .c1Expired t scope id => Sys2Proof.Machine.execC1Expired t scope id s
  | .refreshDue t eid => Sys2Proof.Machine.execRefreshDue t eid s
  | .waveHoldExpired t eid => Sys2Proof.Machine.execWaveHoldExpired t eid s
  | .edgeDelayElapsed t eid j => Sys2Proof.Machine.execEdgeDelayElapsed t eid j s
  | .daylightStale t eid => Sys2Proof.Machine.execDaylightStale t eid s
  | .rftIngestW0 t m v => Sys2Proof.Machine.execRftIngestW0 t m v s
  | .rftIngestWord t m j v => Sys2Proof.Machine.execRftIngestWord t m j v s
  | .rftIngestCommit t m v => Sys2Proof.Machine.execRftIngestCommit t m v s
  | .rftBattenSel t m v => Sys2Proof.Machine.execRftBattenSel t m v s
  | .rftSpeedSel t m v => Sys2Proof.Machine.execRftSpeedSel t m v s
  | .jstPushOpen t m v => Sys2Proof.Machine.execJstPushOpen t m v s
  | .jstPushWord t m j v => Sys2Proof.Machine.execJstPushWord t m j v s
  | .jstPushCommit t m => Sys2Proof.Machine.execJstPushCommit t m s
  | .jstPushAbandon t m => Sys2Proof.Machine.execJstPushAbandon t m s
  | .jstGet t m irq => Sys2Proof.Machine.execJstGet t m irq s
  | .jstGetDeliver t => Sys2Proof.Machine.execJstGetDeliver t s
  | .jstGetInterrupted t core => Sys2Proof.Machine.execJstGetInterrupted t core s
  | .jstDone t m v => Sys2Proof.Machine.execJstDone t m v s
  | .jstFlush t m queue => Sys2Proof.Machine.execJstFlush t m queue s
  | .jstFlushDone t => Sys2Proof.Machine.execJstFlushDone t s
  | .jstTmrArm t m => Sys2Proof.Machine.execJstTmrArm t m s
  | .jstTmrCancel t m v => Sys2Proof.Machine.execJstTmrCancel t m v s
  | .jstTimerRelease t => Sys2Proof.Machine.execJstTimerRelease t s
  | .radLinkOpen t r m => Sys2Proof.Machine.execRadLinkOpen t r m s
  | .radLinkClose t r m report => Sys2Proof.Machine.execRadLinkClose t r m report s
  | .radLinkResume t r m => Sys2Proof.Machine.execRadLinkResume t r m s
  | .linkEvent t r link => Sys2Proof.Machine.execLinkEvent t r link s
  | .linkEventEnd t r link => Sys2Proof.Machine.execLinkEventEnd t r link s
  | .linkAnswerTimeout t r link => Sys2Proof.Machine.execLinkAnswerTimeout t r link s
  | .dwellBinAdvance t r kind index => Sys2Proof.Machine.execDwellBinAdvance t r kind index s
  | .linkSupervisionTimeout t medium link => Sys2Proof.Machine.execLinkSupervisionTimeout t medium link s
  | .txItemTake t medium => Sys2Proof.Machine.execTxItemTake t medium s
  | .radioFrameRx t r f => Sys2Proof.Machine.execRadioFrameRx t r f s
  | .beaconTx t r => Sys2Proof.Machine.execBeaconTx t r s
  | .watchInstance t r f => Sys2Proof.Machine.execWatchInstance t r f s
  | .wake t r addr rssi => Sys2Proof.Machine.execWake t r addr rssi s
  | .wakeHoldExpired t r => Sys2Proof.Machine.execWakeHoldExpired t r s
  | .trkLinkOpen t p m => Sys2Proof.Machine.execTrkLinkOpen t p m s
  | .trkLinkClose t p m report => Sys2Proof.Machine.execTrkLinkClose t p m report s
  | .trkLinkResume t p m => Sys2Proof.Machine.execTrkLinkResume t p m s
  | .wiredFrameRx t p f => Sys2Proof.Machine.execWiredFrameRx t p f s
  | .plcaCycleEnd t p us => Sys2Proof.Machine.execPlcaCycleEnd t p us s
  | .txOpportunity t p => Sys2Proof.Machine.execTxOpportunity t p s
  | .plcaConflict t p src => Sys2Proof.Machine.execPlcaConflict t p src s
  | .plcaStandin t p => Sys2Proof.Machine.execPlcaStandin t p s
  | .wiredAckTimeout t p link => Sys2Proof.Machine.execWiredAckTimeout t p link s
  | .keepalive t p link => Sys2Proof.Machine.execKeepalive t p link s
  | .gateEntry t p entry => Sys2Proof.Machine.execGateEntry t p entry s
  | .portLink t p up speed => Sys2Proof.Machine.execPortLink t p up speed s
  | .pauseRx t p quanta => Sys2Proof.Machine.execPauseRx t p quanta s
  | .pauseExpired t p => Sys2Proof.Machine.execPauseExpired t p s
  | .pfcRx t p enabled quanta => Sys2Proof.Machine.execPfcRx t p enabled quanta s
  | .rawSlotFree t p v => Sys2Proof.Machine.execRawSlotFree t p v s
  | .rawCfgWrite t p v => Sys2Proof.Machine.execRawCfgWrite t p v s
  | .mdioCmd t v => Sys2Proof.Machine.execMdioCmd t v s
  | .mdioDone t data => Sys2Proof.Machine.execMdioDone t data s
  | .readLoLatch t m key => Sys2Proof.Machine.execReadLoLatch t m key s
  | .ptpMessageRx t port msg => Sys2Proof.Machine.execPtpMessageRx t port msg s
  | .ptpMessageTx t port kind => Sys2Proof.Machine.execPtpMessageTx t port kind s
  | .ptpAnnounceTimeout t port => Sys2Proof.Machine.execPtpAnnounceTimeout t port s
  | .ptpSyncTimeout t port => Sys2Proof.Machine.execPtpSyncTimeout t port s
  | .leapSecond t => Sys2Proof.Machine.execLeapSecond t s
  | .tsqLatch t m => Sys2Proof.Machine.execTsqLatch t m s
  | .tsqPop t m => Sys2Proof.Machine.execTsqPop t m s
  | .timedLaunch t port => Sys2Proof.Machine.execTimedLaunch t port s
  | .ppsOut t => Sys2Proof.Machine.execPpsOut t s
  | .ppsOutEnd t => Sys2Proof.Machine.execPpsOutEnd t s
  | .tpoArm t m => Sys2Proof.Machine.execTpoArm t m s
  | .tpoDisarm t m => Sys2Proof.Machine.execTpoDisarm t m s
  | .tpoPulse t k => Sys2Proof.Machine.execTpoPulse t k s
  | .tpoPulseEnd t k => Sys2Proof.Machine.execTpoPulseEnd t k s
  | .rtcCompTick t temp => Sys2Proof.Machine.execRtcCompTick t temp s
  | .calSecond t => Sys2Proof.Machine.execCalSecond t s
  | .calLoad t m => Sys2Proof.Machine.execCalLoad t m s
  | .tickAlarmArm t m v => Sys2Proof.Machine.execTickAlarmArm t m v s
  | .tickAlarm t => Sys2Proof.Machine.execTickAlarm t s
  | .backupToMain t => Sys2Proof.Machine.execBackupToMain t s
  | .backupToVbat t => Sys2Proof.Machine.execBackupToVbat t s
  | .rtcLost t => Sys2Proof.Machine.execRtcLost t s
  | .mainClockFail t pll => Sys2Proof.Machine.execMainClockFail t pll s
  | .mainClockReturned t straps => Sys2Proof.Machine.execMainClockReturned t straps s
  | .xtal32Fail t => Sys2Proof.Machine.execXtal32Fail t s
  | .xtal32Returned t => Sys2Proof.Machine.execXtal32Returned t s
  | .rcFail t err => Sys2Proof.Machine.execRcFail t err s
  | .rcTrimCount t reference cycles => Sys2Proof.Machine.execRcTrimCount t reference cycles s
  | .muxSwitchRequest t mux source => Sys2Proof.Machine.execMuxSwitchRequest t mux source s
  | .swForced t mux source => Sys2Proof.Machine.execSwForced t mux source s
  | .powerOn t straps vin => Sys2Proof.Machine.execPowerOn t straps vin s
  | .powerFail t vin vhold => Sys2Proof.Machine.execPowerFail t vin vhold s
  | .vinDip t => Sys2Proof.Machine.execVinDip t s
  | .vinRange t mv => Sys2Proof.Machine.execVinRange t mv s
  | .vholdWaitTimeout t mv => Sys2Proof.Machine.execVholdWaitTimeout t mv s
  | .holdupMeasured t cap esr => Sys2Proof.Machine.execHoldupMeasured t cap esr s
  | .rstNAssert t => Sys2Proof.Machine.execRstNAssert t s
  | .rstNRelease t straps => Sys2Proof.Machine.execRstNRelease t straps s
  | .watchdogExpiry t straps => Sys2Proof.Machine.execWatchdogExpiry t straps s
  | .bootStepDone t quick => Sys2Proof.Machine.execBootStepDone t quick s
  | .bootStepFailed t cause => Sys2Proof.Machine.execBootStepFailed t cause s
  | .bootStepTimeout t => Sys2Proof.Machine.execBootStepTimeout t s
  | .xtalStartTimeout t => Sys2Proof.Machine.execXtalStartTimeout t s
  | .testFinished t test failed code straps => Sys2Proof.Machine.execTestFinished t test failed code straps s
  | .stopWritesDone t straps => Sys2Proof.Machine.execStopWritesDone t straps s
  | .journalRecordDone t => Sys2Proof.Machine.execJournalRecordDone t s
  | .silJwWrite t m v => Sys2Proof.Machine.execSilJwWrite t m v s
  | .addEnergy t m => Sys2Proof.Machine.execAddEnergy t m s
  | .addRun t m => Sys2Proof.Machine.execAddRun t m s
  | .setCredit t m => Sys2Proof.Machine.execSetCredit t m s
  | .scrubBlock t corrected bad => Sys2Proof.Machine.execScrubBlock t corrected bad s
  | .nandRefresh t part block retired => Sys2Proof.Machine.execNandRefresh t part block retired s
  | .meterCycleEnd t c x => Sys2Proof.Machine.execMeterCycleEnd t c x s
  | .noZc t c => Sys2Proof.Machine.execNoZc t c s
  | .pulseEmit t n => Sys2Proof.Machine.execPulseEmit t n s
  | .pulseEnd t n => Sys2Proof.Machine.execPulseEnd t n s
  | .s0Pulse t c => Sys2Proof.Machine.execS0Pulse t c s
  | .reconIntervalEnd t c => Sys2Proof.Machine.execReconIntervalEnd t c s
  | .accSave t => Sys2Proof.Machine.execAccSave t s
  | .mtrFastRead t m c => Sys2Proof.Machine.execMtrFastRead t m c s
  | .arcFetch t m v => Sys2Proof.Machine.execArcFetch t m v s
  | .arcFetchDone t => Sys2Proof.Machine.execArcFetchDone t s
  | .rateTokenTick t => Sys2Proof.Machine.execRateTokenTick t s
  | .suppressed t code => Sys2Proof.Machine.execSuppressed t code s
  | .evrFlushTimer t => Sys2Proof.Machine.execEvrFlushTimer t s
  | .evrFlush t m => Sys2Proof.Machine.execEvrFlush t m s
  | .evrSlotWritten t => Sys2Proof.Machine.execEvrSlotWritten t s
  | .evrRdSeq t m v => Sys2Proof.Machine.execEvrRdSeq t m v s
  | .heartbeatTx t => Sys2Proof.Machine.execHeartbeatTx t s
  | .heartbeatRx t h => Sys2Proof.Machine.execHeartbeatRx t h s
  | .heartbeatMissed t => Sys2Proof.Machine.execHeartbeatMissed t s
  | .bundleRx t beat recs => Sys2Proof.Machine.execBundleRx t beat recs s
  | .bundleCloseRx t beat outcome entries sample digest => Sys2Proof.Machine.execBundleCloseRx t beat outcome entries sample digest s
  | .bundleAcked t beat => Sys2Proof.Machine.execBundleAcked t beat s
  | .helloTx t => Sys2Proof.Machine.execHelloTx t s
  | .helloRx t h pairId unitId => Sys2Proof.Machine.execHelloRx t h pairId unitId s
  | .handshakeTimeout t => Sys2Proof.Machine.execHandshakeTimeout t s
  | .handshakeRetry t => Sys2Proof.Machine.execHandshakeRetry t s
  | .handoverRx t h pairId unitId => Sys2Proof.Machine.execHandoverRx t h pairId unitId s
  | .resyncReqRx t h pairId unitId => Sys2Proof.Machine.execResyncReqRx t h pairId unitId s
  | .resyncChunkRx t ch => Sys2Proof.Machine.execResyncChunkRx t ch s
  | .catchupTimeout t => Sys2Proof.Machine.execCatchupTimeout t s
  | .resyncRetry t => Sys2Proof.Machine.execResyncRetry t s
  | .leaseRequest t => Sys2Proof.Machine.execLeaseRequest t s
  | .leaseGrantRx t msg => Sys2Proof.Machine.execLeaseGrantRx t msg s
  | .leaseDenyRx t msg => Sys2Proof.Machine.execLeaseDenyRx t msg s
  | .leaseReplyTimeout t => Sys2Proof.Machine.execLeaseReplyTimeout t s
  | .leaseLost t => Sys2Proof.Machine.execLeaseLost t s
  | .resendGo t m => Sys2Proof.Machine.execResendGo t m s
  | .resendTimeout t => Sys2Proof.Machine.execResendTimeout t s
  | .keyOpGcmEncrypt t m secure lo => Sys2Proof.Machine.execKeyOpGcmEncrypt t m secure lo s
  | .keyOpGcmDecrypt t m secure lo => Sys2Proof.Machine.execKeyOpGcmDecrypt t m secure lo s
  | .keyOpHmac t m secure lo => Sys2Proof.Machine.execKeyOpHmac t m secure lo s
  | .keyOpEcdsaSign t m secure lo => Sys2Proof.Machine.execKeyOpEcdsaSign t m secure lo s
  | .keyOpEcdsaVerify t m secure lo => Sys2Proof.Machine.execKeyOpEcdsaVerify t m secure lo s
  | .keyOpSha256 t m secure lo => Sys2Proof.Machine.execKeyOpSha256 t m secure lo s
  | .keyOpDone t bank => Sys2Proof.Machine.execKeyOpDone t bank s
  | .fwCommitDone t => Sys2Proof.Machine.execFwCommitDone t s
  | .slotCheckDone t => Sys2Proof.Machine.execSlotCheckDone t s
  | .libWrite t m libId => Sys2Proof.Machine.execLibWrite t m libId s
  | .libRead t m libId => Sys2Proof.Machine.execLibRead t m libId s
  | .libDelete t m libId => Sys2Proof.Machine.execLibDelete t m libId s
  | .libDone t bank => Sys2Proof.Machine.execLibDone t bank s
  | .stringFrame t mv => Sys2Proof.Machine.execStringFrame t mv s
  | .matrixFrame t => Sys2Proof.Machine.execMatrixFrame t s
  | .ntcRead t n temp => Sys2Proof.Machine.execNtcRead t n temp s
  | .neighbourShort t k pairs => Sys2Proof.Machine.execNeighbourShort t k pairs s
  | .lampReturned t m v => Sys2Proof.Machine.execLampReturned t m v s
  | .strLevelWrite t m v => Sys2Proof.Machine.execStrLevelWrite t m v s
  | .signPixWrite t m k j v => Sys2Proof.Machine.execSignPixWrite t m k j v s
  | .signFlip t m k => Sys2Proof.Machine.execSignFlip t m k s
  | .hlWrite t items => Sys2Proof.Machine.execHlWrite t items s
  | .hlRead t n => Sys2Proof.Machine.execHlRead t n s
  | .hlMark t => Sys2Proof.Machine.execHlMark t s
  | .hlRewind t => Sys2Proof.Machine.execHlRewind t s
  | .hlRelease t n => Sys2Proof.Machine.execHlRelease t n s
  | .hlStatus t => Sys2Proof.Machine.execHlStatus t s
  | .badCommand t command => Sys2Proof.Machine.execBadCommand t command s
  | .hlDownFrame t => Sys2Proof.Machine.execHlDownFrame t s
  | .hlUpData t m v => Sys2Proof.Machine.execHlUpData t m v s
  | .hlUpCommit t m => Sys2Proof.Machine.execHlUpCommit t m s
  | .hlUpAbandon t m => Sys2Proof.Machine.execHlUpAbandon t m s
  | .hlUpTimeout t => Sys2Proof.Machine.execHlUpTimeout t s
  | .usbAttached t attached => Sys2Proof.Machine.execUsbAttached t attached s
  | .usbSuspend t suspended => Sys2Proof.Machine.execUsbSuspend t suspended s
  | .emgEdge t channelB active => Sys2Proof.Machine.execEmgEdge t channelB active s
  | .emgDisagree t ms => Sys2Proof.Machine.execEmgDisagree t ms s
  | .serialTransfer t m lo => Sys2Proof.Machine.execSerialTransfer t m lo s
  | .serialDone t timeout data => Sys2Proof.Machine.execSerialDone t timeout data s
  | .accessFault t m addr f => Sys2Proof.Machine.execAccessFault t m addr f s
  | .registerWrite t m addr v => Sys2Proof.Machine.execRegisterWrite t m addr v s
  | .plcaBeaconRx t p => Sys2Proof.Machine.execPlcaBeaconRx t p s
  | .lastByteSent t p => Sys2Proof.Machine.execLastByteSent t p s
  | .postedWriteCrossed t key => Sys2Proof.Machine.execPostedWriteCrossed t key s
  | .beatDeadline t => Sys2Proof.Machine.execBeatDeadline t s
  | .vholdLow t => Sys2Proof.Machine.execVholdLow t s
  | .vholdOk t mv => Sys2Proof.Machine.execVholdOk t mv s
  | .codeNotDefined t code e => Sys2Proof.Machine.execCodeNotDefined t code e s

end Sys2Proof.Machine
end

