-- ==== Sys2Proof/WellFormed.lean ====
section
/-! DEFINITION. Which commands are well formed: every operand fits the field of the spec that carries it. The machine gives
every command its effect, well formed or not; the check says which commands the spec's own encodings can spell. -/

namespace Sys2Proof

/-- The number fits a field of so many bits. -/
def fits (bits n : Nat) : Bool := n < 2 ^ bits

/-- The header fields fit their bytes (R65). -/
def Envelope.wf (e : Envelope) : Bool :=
  fits 16 e.magic && fits 8 e.version && fits 32 e.seq && fits 16 e.length && fits 16 e.keyId && fits 32 e.mac && fits 6 e.route

/-- The PHR is two bytes and the PSDU fits its length field (R206), the channel index and the strength their fields. -/
def RadioRx.wf (f : RadioRx) : Bool := f.phr.length == 2 && f.mpdu.length ≤ 2047 && fits 8 f.rssi && fits 8 f.channel

/-- The address fits the address space (R26) and the size is that of a byte, halfword, word or doubleword (R30). -/
def Access.wf (a : Access) : Bool := fits 40 a.addr && [1, 2, 4, 8].contains a.size

/-- The fields fit those of the record (R390). -/
def Heartbeat.wf (h : Heartbeat) : Bool :=
  fits 8 h.role && fits 8 h.member && fits 64 h.beat && fits 64 h.seconds && fits 32 h.ns && fits 32 h.count && fits 16 h.c0Seq && fits 8 h.major &&
    fits 8 h.minor && fits 64 h.cutHash && fits 32 h.generation

/-- A code of a 24-bit converter (R355). -/
def fitsCode (x : Int) : Bool := -8388608 ≤ x && x < 8388608

/-- Every sample is one of the converters' codes, and the cycle has some, no more than 40 ms of them (R355, R356). -/
def MeterCycle.wf (x : MeterCycle) : Bool :=
  !x.samples.isEmpty && x.samples.length ≤ 320 && (x.ahead :: x.samples).all (fun s => fitsCode s.1 && fitsCode s.2)

/-- The command is well formed. -/
def Instr.wf : Instr → Bool
  | .getStatus _ e => e.wf
  | .readEvents _ e => e.wf
  | .reset _ e _ => e.wf
  | .start _ e => e.wf
  | .stop _ e => e.wf
  | .shutdown _ e => e.wf
  | .cutStage _ e => e.wf
  | .cutLoad _ e => e.wf
  | .cutPatch _ e => e.wf
  | .setPasses _ e => e.wf
  | .overrideC1Set _ e => e.wf
  | .overrideC1Clear _ e => e.wf
  | .class0Activate _ e => e.wf
  | .class0Release _ e => e.wf
  | .timeSet _ e => e.wf
  | .forceTime _ e => e.wf
  | .fwStageChunk _ e => e.wf
  | .fwStageCommit _ e => e.wf
  | .fwStageAbandon _ e => e.wf
  | .activate _ e => e.wf
  | .pairTakeover _ e => e.wf
  | .pairDemote _ e => e.wf
  | .keyUpdateImport _ e => e.wf
  | .keyUpdateDerive _ e => e.wf
  | .keyUpdateLifecycle _ e => e.wf
  | .keyInvalidate _ e => e.wf
  | .meterSnapshot _ e => e.wf
  | .keyUpdateDone _ => true
  | .cutLoadStored _ _ => true
  | .cutCopyDone _ => true
  | .patchReady _ _ => true
  | .beatBoundary => true
  | .commit _ => true
  | .overrun _ pass => fits 4 pass
  | .c0Refresh _ index => fits 8 index
  | .ppsEdge _ => true
  | .c1Expired _ scope id => fits 2 scope && fits 17 id
  | .refreshDue _ eid => fits 17 eid
  | .waveHoldExpired _ eid => fits 17 eid
  | .edgeDelayElapsed _ eid j => fits 17 eid && fits 4 j
  | .daylightStale _ eid => fits 17 eid
  | .rftIngestW0 _ _ _ => true
  | .rftIngestWord _ _ _ _ => true
  | .rftIngestCommit _ _ _ => true
  | .rftBattenSel _ _ _ => true
  | .rftSpeedSel _ _ _ => true
  | .jstPushOpen _ _ _ => true
  | .jstPushWord _ _ _ _ => true
  | .jstPushCommit _ _ => true
  | .jstPushAbandon _ _ => true
  | .jstGet _ _ _ => true
  | .jstGetDeliver _ => true
  | .jstGetInterrupted _ _ => true
  | .jstDone _ _ _ => true
  | .jstFlush _ _ _ => true
  | .jstFlushDone _ => true
  | .jstTmrArm _ _ => true
  | .jstTmrCancel _ _ _ => true
  | .jstTimerRelease _ => true
  | .radLinkOpen _ _ _ => true
  | .radLinkClose _ _ _ _ => true
  | .radLinkResume _ _ _ => true
  | .linkEvent _ _ link => fits 16 link
  | .linkEventEnd _ _ link => fits 16 link
  | .linkAnswerTimeout _ _ link => fits 16 link
  | .dwellBinAdvance _ _ kind index => fits 8 kind && fits 8 index
  | .linkSupervisionTimeout _ _ link => fits 16 link
  | .txItemTake _ _ => true
  | .radioFrameRx _ _ f => f.wf
  | .beaconTx _ _ => true
  | .watchInstance _ _ f => f.all RadioRx.wf
  | .wake _ _ addr rssi => fits 16 addr && fits 8 rssi
  | .wakeHoldExpired _ _ => true
  | .trkLinkOpen _ _ _ => true
  | .trkLinkClose _ _ _ _ => true
  | .trkLinkResume _ _ _ => true
  | .wiredFrameRx _ _ _ => true
  | .plcaCycleEnd _ _ us => fits 32 us
  | .txOpportunity _ _ => true
  | .plcaConflict _ _ src => fits 48 src
  | .plcaStandin _ _ => true
  | .wiredAckTimeout _ _ link => fits 16 link
  | .keepalive _ _ link => fits 16 link
  | .gateEntry _ _ entry => fits 6 entry
  | .portLink _ _ _ speed => fits 2 speed
  | .pauseRx _ _ quanta => fits 16 quanta
  | .pauseExpired _ _ => true
  | .pfcRx _ _ enabled quanta => fits 8 enabled && quanta.length == 8 && quanta.all (fits 16)
  | .rawSlotFree _ _ _ => true
  | .rawCfgWrite _ _ _ => true
  | .mdioCmd _ _ => true
  | .mdioDone _ data => fits 16 data
  | .readLoLatch _ _ _ => true
  | .ptpMessageRx _ _ _ => true
  | .ptpMessageTx _ _ _ => true
  | .ptpAnnounceTimeout _ _ => true
  | .ptpSyncTimeout _ _ => true
  | .leapSecond _ => true
  | .tsqLatch _ _ => true
  | .tsqPop _ _ => true
  | .timedLaunch _ _ => true
  | .ppsOut _ => true
  | .ppsOutEnd _ => true
  | .tpoArm _ _ => true
  | .tpoDisarm _ _ => true
  | .tpoPulse _ _ => true
  | .tpoPulseEnd _ _ => true
  | .rtcCompTick _ _ => true
  | .calSecond _ => true
  | .calLoad _ _ => true
  | .tickAlarmArm _ _ _ => true
  | .tickAlarm _ => true
  | .backupToMain _ => true
  | .backupToVbat _ => true
  | .rtcLost _ => true
  | .mainClockFail _ _ => true
  | .mainClockReturned _ _ => true
  | .xtal32Fail _ => true
  | .xtal32Returned _ => true
  | .rcFail _ _ => true
  | .rcTrimCount _ _ _ => true
  | .muxSwitchRequest _ mux _ => fits 8 mux
  | .swForced _ mux _ => fits 8 mux
  | .powerOn _ _ _ => true
  | .powerFail _ _ _ => true
  | .vinDip _ => true
  | .vinRange _ _ => true
  | .vholdWaitTimeout _ _ => true
  | .holdupMeasured _ _ _ => true
  | .rstNAssert _ => true
  | .rstNRelease _ _ => true
  | .watchdogExpiry _ _ => true
  | .bootStepDone _ _ => true
  | .bootStepFailed _ _ => true
  | .bootStepTimeout _ => true
  | .xtalStartTimeout _ => true
  | .testFinished _ _ _ _ _ => true
  | .stopWritesDone _ _ => true
  | .journalRecordDone _ => true
  | .silJwWrite _ _ _ => true
  | .addEnergy _ _ => true
  | .addRun _ _ => true
  | .setCredit _ _ => true
  | .scrubBlock _ _ _ => true
  | .nandRefresh _ part block _ => fits 8 part && fits 32 block
  | .meterCycleEnd _ _ x => x.wf
  | .noZc _ _ => true
  | .pulseEmit _ _ => true
  | .pulseEnd _ _ => true
  | .s0Pulse _ _ => true
  | .reconIntervalEnd _ _ => true
  | .accSave _ => true
  | .mtrFastRead _ _ _ => true
  | .arcFetch _ _ _ => true
  | .arcFetchDone _ => true
  | .rateTokenTick _ => true
  | .suppressed _ code => fits 16 code
  | .evrFlushTimer _ => true
  | .evrFlush _ _ => true
  | .evrSlotWritten _ => true
  | .evrRdSeq _ _ _ => true
  | .heartbeatTx _ => true
  | .heartbeatRx _ h => h.wf
  | .heartbeatMissed _ => true
  | .bundleRx _ beat _ => fits 64 beat
  | .bundleCloseRx _ beat outcome entries sample digest => fits 64 beat && fits 8 outcome && fits 32 entries && fits 16 sample && fits 64 digest
  | .bundleAcked _ beat => fits 64 beat
  | .helloTx _ => true
  | .helloRx _ h pairId unitId => h.wf && fits 64 pairId && fits 64 unitId
  | .handshakeTimeout _ => true
  | .handshakeRetry _ => true
  | .handoverRx _ h pairId unitId => h.wf && fits 64 pairId && fits 64 unitId
  | .resyncReqRx _ h pairId unitId => h.wf && fits 64 pairId && fits 64 unitId
  | .resyncChunkRx _ _ => true
  | .catchupTimeout _ => true
  | .resyncRetry _ => true
  | .leaseRequest _ => true
  | .leaseGrantRx _ msg => msg.length == 32
  | .leaseDenyRx _ msg => msg.length == 32
  | .leaseReplyTimeout _ => true
  | .leaseLost _ => true
  | .resendGo _ _ => true
  | .resendTimeout _ => true
  | .keyOpGcmEncrypt _ _ _ _ => true
  | .keyOpGcmDecrypt _ _ _ _ => true
  | .keyOpHmac _ _ _ _ => true
  | .keyOpEcdsaSign _ _ _ _ => true
  | .keyOpEcdsaVerify _ _ _ _ => true
  | .keyOpSha256 _ _ _ _ => true
  | .keyOpDone _ _ => true
  | .fwCommitDone _ => true
  | .slotCheckDone _ => true
  | .libWrite _ _ libId => fits 8 libId
  | .libRead _ _ libId => fits 8 libId
  | .libDelete _ _ libId => fits 8 libId
  | .libDone _ _ => true
  | .stringFrame _ _ => true
  | .matrixFrame _ => true
  | .ntcRead _ _ _ => true
  | .neighbourShort _ _ _ => true
  | .lampReturned _ _ _ => true
  | .strLevelWrite _ _ _ => true
  | .signPixWrite _ _ _ _ _ => true
  | .signFlip _ _ _ => true
  | .hlWrite _ _ => true
  | .hlRead _ _ => true
  | .hlMark _ => true
  | .hlRewind _ => true
  | .hlRelease _ _ => true
  | .hlStatus _ => true
  | .badCommand _ command => fits 8 command
  | .hlDownFrame _ => true
  | .hlUpData _ _ _ => true
  | .hlUpCommit _ _ => true
  | .hlUpAbandon _ _ => true
  | .hlUpTimeout _ => true
  | .usbAttached _ _ => true
  | .usbSuspend _ _ => true
  | .emgEdge _ _ _ => true
  | .emgDisagree _ _ => true
  | .serialTransfer _ _ _ => true
  | .serialDone _ _ _ => true
  | .accessFault _ _ addr f => (Access.mk f addr).wf
  | .registerWrite _ _ addr _ => fits 40 addr
  | .plcaBeaconRx _ _ => true
  | .lastByteSent _ _ => true
  | .postedWriteCrossed _ _ => true
  | .beatDeadline _ => true
  | .vholdLow _ => true
  | .vholdOk _ _ => true
  | .codeNotDefined _ code e => fits 8 code && e.wf

end Sys2Proof
end

