-- ==== Sys2Proof/Safety.lean ====
section
/-! DEFINITION. What the claims speak of: a command that completes, the registers and components a command keeps, and the
canonical form of a state. -/

namespace Sys2Proof

open Machine

/-- The command answers a next state: the queue is left as it was, and the machine then meets `P`. -/
def Completes (c : Instr) (s : State) (P : Dev → Prop) : Prop :=
  ∃ u : State, exec c s = .next u ∧ u.pending = s.pending ∧ P u.dev

/-- Every register word but those of `keys` is as before. -/
def KeepsRegs (d d' : Dev) (keys : List Nat) : Prop :=
  ∀ k, k ∉ keys → d'.regs.get k = d.regs.get k

/-- The words of the event recorder's own status, which any recorded event may change (R376-R379): EVR_LOST, EVR_SUPP and
EVR_IRQ_STATUS. -/
def eventKeys : List Nat := [Reg.EVR_LOST.buf_refused.key, Reg.EVR_SUPP.word.key, Reg.EVR_IRQ_STATUS.lost.key]

/-- The components of the machine beside its register file and its event recorder. What the model notes of the cycle in progress
(Dev.cyc) is none of them: any command may add to it, and the next instant clears it (notes/assumptions/47). -/
inductive Part where
  | mem | latches | staged | freeCtr | sys | beat | sil | key | cut | rft | lin | jst | tim
  | rtc | hlk | rad | trk | pwr | bst | fwu | mtr | pair | lgt | lnd
deriving DecidableEq, Repr

/-- The component of `d'` is that of `d`; of the beat, all but the time since its boundary, which a command's instant sets. -/
def Part.same : Part → Dev → Dev → Prop
  | .mem, d, d' => d'.mem = d.mem
  | .latches, d, d' => d'.latches = d.latches
  | .staged, d, d' => d'.staged = d.staged
  | .freeCtr, d, d' => d'.freeCtr = d.freeCtr
  | .sys, d, d' => d'.sys = d.sys
  | .beat, d, d' => { d'.beat with sinceBase := d.beat.sinceBase } = d.beat
  | .sil, d, d' => d'.sil = d.sil
  | .key, d, d' => d'.key = d.key
  | .cut, d, d' => d'.cut = d.cut
  | .rft, d, d' => d'.rft = d.rft
  | .lin, d, d' => d'.lin = d.lin
  | .jst, d, d' => d'.jst = d.jst
  | .tim, d, d' => d'.tim = d.tim
  | .rtc, d, d' => d'.rtc = d.rtc
  | .hlk, d, d' => d'.hlk = d.hlk
  | .rad, d, d' => d'.rad = d.rad
  | .trk, d, d' => d'.trk = d.trk
  | .pwr, d, d' => d'.pwr = d.pwr
  | .bst, d, d' => d'.bst = d.bst
  | .fwu, d, d' => d'.fwu = d.fwu
  | .mtr, d, d' => d'.mtr = d.mtr
  | .pair, d, d' => d'.pair = d.pair
  | .lgt, d, d' => d'.lgt = d.lgt
  | .lnd, d, d' => d'.lnd = d.lnd

/-- The keys of these fields' registers. -/
def Machine.Dev.keysOf (l : List Fld) : List Nat := l.map (fun f => f.key)

/-- In every state the command answers a next state that differs from the one before in the components `parts`, in the register
words that `regs` names and in the event recorder only. -/
def Frame (c : Instr) (parts : List Part) (regs : Nat → Prop) : Prop :=
  ∀ s : State, Completes c s fun d => (∀ p, p ∉ parts → p.same s.dev d) ∧
    ∀ k, ¬ regs k → k ∉ eventKeys → d.regs.get k = s.dev.regs.get k

/-- A record of this code and these arguments stands in the event buffer (R374, R375). -/
def Machine.Dev.recorded (d : Dev) (e : EvCode) (args : List Nat) : Prop :=
  ∃ r ∈ d.evr.buf, r.code = e.code ∧ r.sev = e.sev ∧ r.args = args

/-- An answer to the envelope stands as the last answer of its channel, with this status and result (R66). -/
def Machine.Dev.answered (d : Dev) (e : Envelope) (code status : Nat) (result : Bytes) : Prop :=
  ∃ a ∈ d.sys.answers, a.chan = e.chan ∧ a.code = code ∧ a.seq = e.seq ∧ a.keyId = e.keyId ∧ a.status = status ∧ a.result = result

/-- The command port takes the envelope and every check of R67 passes for it as command `c`; `d'` is the machine whose carrier
is released and whose key has been used. -/
structure Machine.Dev.Accepts (d d' : Dev) (c : CmdSpec) (e : Envelope) : Prop where
  on : d.sys.mstate ≠ .off
  notStopped : d.pwr.stopped = false
  noPowerFail : d.pwr.pf = none
  carried : d.carried e = true
  magic : e.magic = envelopeMagic
  version : e.version = 1
  length : e.lengthOk = true
  mac : (d.releaseCarrier e).macCheck e c.code = (true, d')
  later : e.keyId = 0 ∨ d'.lastSeq e.keyId = none ∨ ∃ x, d'.lastSeq e.keyId = some x ∧ laterMod 32 e.seq x.1 = true
  permitted : d'.keyPermits e c.code = true
  legal : d'.legal c.code e.body = true
  args : c.argsOk d' e.body = true
  free : c.underTest d' = false

/-- Every core holds its items in buffers 0-3, each buffer at most once (R185, R189). -/
def Machine.Dev.holdsOk (d : Dev) : Prop :=
  ∀ core, ((d.heldBy core).map (·.buf)).Nodup ∧ ∀ h ∈ d.heldBy core, h.buf < 4

/-- The register file and memory are in canonical form. -/
def Machine.Dev.canonical (d : Dev) : Prop := d.regs.wf = true ∧ d.mem.wf = true

end Sys2Proof
end

