-- ==== Sys2Proof/Certificates/Slice0/Obligations.lean ====
section
/-! DEFINITION. The statements for the provers. Each follows the rules of spec/ that OBLIGATIONS.json cites for it; hypotheses
name the state and the operands alone, `s.dev.atTime t` being the machine at the command's instant. -/

open Sys2Proof Sys2Proof.Machine

/-- A step runs the command at the front of the queue. -/
def Obligations.StepTakesFront : Prop :=
  (∀ (c : Instr) (rest : List Instr) (s : State), s.pending = c :: rest → step s = exec c { s with pending := rest }) ∧
  (∀ s : State, s.pending = [] → step s = .next s)

/-- Every queue of commands is served to its end. -/
def Obligations.QueueServed : Prop :=
  ∀ s : State, ∃ u : State, u.pending = [] ∧
    (List.range s.pending.length).foldl
      (fun o _ => match o with | Host.Outcome.next v => step v | other => other) (Host.Outcome.next s) = .next u

/-- The machine right after reset. -/
def Obligations.ResetState : Prop :=
  State.reset.pending = [] ∧ State.reset.dev.sys.mstate = .boot ∧ State.reset.dev.get Reg.BST_STATUS.step = 1 ∧
  State.reset.dev.get Reg.BST_STATUS.warm = 0 ∧ State.reset.dev.beat.count = 0 ∧ State.reset.dev.beat.running = false ∧
  State.reset.dev.jst.items = [] ∧ State.reset.dev.jst.holds = [] ∧ State.reset.dev.jst.timers = [] ∧
  State.reset.dev.cut.image = none ∧ State.reset.dev.evr.buf = [] ∧
  State.reset.dev.get Reg.BEAT_PASSES.passes_now = 1 ∧ State.reset.dev.get Reg.BEAT_TIMING.deadline_us = 3600 ∧
  State.reset.dev.get Reg.BEAT_SLEW_LIMIT.ppm = 500 ∧ State.reset.dev.get Reg.TIME_JUMP_THR.us = 1000 ∧
  State.reset.dev.get Reg.TIME_PTP_PRIO.priority1 = 128 ∧ State.reset.dev.get Reg.TIME_PTP_LOCK.lock_ns = 1000 ∧
  State.reset.dev.get Reg.TIME_PPS_OUT.width_ms = 100 ∧ State.reset.dev.get Reg.RTC_ALM0_TIME.mask = 15 ∧
  State.reset.dev.get Reg.RTC_ALM1_DATE.mask = 7 ∧ State.reset.dev.get Reg.RTC_IRQ_STATUS.lost = 1 ∧
  State.reset.dev.get Reg.CLK_RC_TRIM.code = 512 ∧ State.reset.dev.get Reg.LGT_SGA_CTRL.dim = 255 ∧
  State.reset.dev.get Reg.HLK_UP_TMO.us = 100 ∧ State.reset.dev.get Reg.BST_STEP_SEL.step = 1

/-- The invariants hold after reset. -/
def Obligations.ResetInvariants : Prop :=
  State.reset.dev.canonical ∧ State.reset.dev.holdsOk ∧ State.reset.dev.evr.offers = []

/-- Every step keeps registers and memory in canonical form. -/
def Obligations.CanonicalKept : Prop :=
  ∀ s u : State, s.dev.canonical → step s = .next u → u.dev.canonical

/-- Every record offered in a command is taken in it. -/
def Obligations.OffersSettled : Prop :=
  ∀ s u : State, s.dev.evr.offers = [] → step s = .next u → u.dev.evr.offers = []

/-- No core ever holds more than 4 items. -/
def Obligations.HoldsBounded : Prop :=
  ∀ s u : State, s.dev.holdsOk → step s = .next u → u.dev.holdsOk

/-- A core holds at most 4 items, and a load while it holds 4 is answered at once. -/
def Obligations.HeldFull : Prop :=
  (∀ (d : Dev) (core : Nat), d.holdsOk → (d.heldBy core).length ≤ 4) ∧
  (∀ s u : State, s.dev.holdsOk → step s = .next u → ∀ core, (u.dev.heldBy core).length ≤ 4) ∧
  (∀ (t : Nat) (n : Fin 8) (irq : Bool) (s : State), (s.dev.heldBy n.val).length = 4 →
    Completes (.jstGet t (.core n) irq) s fun d =>
      d.get (Reg.JST_GET.word n.val) = 0 ∧ d.get Reg.JST_IRQ_STATUS.held_full = 1 ∧ d.jst = s.dev.jst)

/-- A mux changes only to a source that runs. -/
def Obligations.MuxRequests : Prop :=
  ∀ (t mux : Nat) (source : Fin 2) (s : State),
    ((s.dev.atTime t).sourceRuns source.val = false → Completes (.muxSwitchRequest t mux source) s fun d =>
      (∀ m, d.muxAt m = s.dev.muxAt m) ∧ d.get Reg.CLK_FAIL.sw_refused = 1) ∧
    ((s.dev.atTime t).sourceRuns source.val = true → (s.dev.atTime t).sourceRuns (s.dev.muxAt mux) = true →
      Completes (.muxSwitchRequest t mux source) s fun d =>
        d.muxAt mux = source.val ∧ (∀ m, m ≠ mux → d.muxAt m = s.dev.muxAt m) ∧
        d.get Reg.CLK_FAIL.sw_refused = s.dev.get Reg.CLK_FAIL.sw_refused)

/-- The ramp limiter never passes the target. -/
def Obligations.RampLimited : Prop :=
  ∀ (d : Dev) (n : Node), n.stat.drives = true → d.class0Level n.stat = none →
    let l := (d.curPage n).l
    let l' := (d.curPage (d.pipeline n)).l
    let t6 := d.target n (d.class1Level n) * 64
    (l ≤ t6 → l ≤ l' ∧ l' ≤ t6 ∧ (n.stat.rampUp ≠ 0 → l' ≤ l + n.stat.rampUp)) ∧
    (t6 ≤ l → t6 ≤ l' ∧ l' ≤ l ∧ (n.stat.rampDown ≠ 0 → l ≤ l' + n.stat.rampDown)) ∧
    (d.pipeline n).stat = n.stat

/-- Opening, filling, committing and abandoning a push. -/
def Obligations.PushingCompletes : Prop :=
  (∀ (t : Nat) (m : Master) (v : W32) (s : State), Completes (.jstPushOpen t m v) s fun d =>
    d.stageOf (bankOf m) = some ⟨bankOf m, bits v.toNat 25 20, bits v.toNat 19 0, bits v.toNat 28 26 + 1,
      List.replicate 8 0, false⟩ ∧
    d.get (Reg.JST_PUSH_STATUS.open_f (bankOf m)) = 1) ∧
  (∀ (t : Nat) (m : Master) (i : Fin 16) (v : W32) (s : State) (st : PushStage), s.dev.stageOf (bankOf m) = some st →
    st.flushed = false →
    Completes (.jstPushWord t m i v) s fun d =>
      if i.val % 2 = 1 then d.get (Reg.JST_PUSH_W.word (bankOf m) i.val) = v.toNat ∧ d.stageOf (bankOf m) = some st
      else d.stageOf (bankOf m) = some { st with words := modifyAt st.words (i.val / 2) (fun _ =>
          s.dev.get (Reg.JST_PUSH_W.word (bankOf m) (i.val + 1)) * 2 ^ 32 + v.toNat) } ∧
        d.get (Reg.JST_PUSH_W.word (bankOf m) (i.val + 1)) = 0) ∧
  (∀ (t : Nat) (m : Master) (s : State) (st : PushStage) (c : QCfg), s.dev.stageOf (bankOf m) = some st →
    s.dev.joistRuns = true → st.flushed = false → s.dev.flushing st.queue = false → flowReserved st.flow = false →
    s.dev.qcfgOf st.queue = some c → s.dev.fill st.queue < c.depth → s.dev.slotFree st.queue c = true →
    Completes (.jstPushCommit t m) s fun d =>
      d.jst.items = s.dev.jst.items ++ [JItem.mk st.queue st.flow (bankOf m) ((s.dev.jst.pushCount + 1) % 65536)
        (st.words.take st.count) [] s.dev.beat.count] ∧
      d.jst.pushCount = s.dev.jst.pushCount + 1 ∧ d.stageOf (bankOf m) = none ∧
      d.get (Reg.JST_PUSH_STATUS.status (bankOf m)) = ST_OK ∧ d.get (Reg.JST_PUSH_STATUS.open_f (bankOf m)) = 0) ∧
  (∀ (t : Nat) (m : Master) (s : State), Completes (.jstPushAbandon t m) s fun d =>
    d.stageOf (bankOf m) = none ∧ d.get (Reg.JST_PUSH_STATUS.open_f (bankOf m)) = 0 ∧ d.jst.items = s.dev.jst.items)

/-- A push the checks refuse changes no queue. -/
def Obligations.PushRefusals : Prop :=
  ∀ (t : Nat) (m : Master) (s : State) (st : PushStage), s.dev.stageOf (bankOf m) = some st →
    (s.dev.joistRuns = false → Completes (.jstPushCommit t m) s fun d =>
      d.jst.items = s.dev.jst.items ∧ d.stageOf (bankOf m) = none ∧
      d.get (Reg.JST_PUSH_STATUS.status (bankOf m)) = if s.dev.sys.mstate = .test then ST_BUSY_TEST else ST_ILLEGAL_STATE) ∧
    (s.dev.joistRuns = true → (st.flushed || s.dev.flushing st.queue) = true → Completes (.jstPushCommit t m) s fun d =>
      d.jst.items = s.dev.jst.items ∧ d.stageOf (bankOf m) = none ∧
      d.get (Reg.JST_PUSH_STATUS.status (bankOf m)) = ST_FLUSHED) ∧
    (s.dev.joistRuns = true → (st.flushed || s.dev.flushing st.queue) = false → flowReserved st.flow = true →
      Completes (.jstPushCommit t m) s fun d =>
        d.jst.items = s.dev.jst.items ∧ d.stageOf (bankOf m) = none ∧
        d.get (Reg.JST_PUSH_STATUS.status (bankOf m)) = ST_BAD_ARGUMENT) ∧
    (∀ c : QCfg, s.dev.joistRuns = true → (st.flushed || s.dev.flushing st.queue) = false → flowReserved st.flow = false →
      s.dev.qcfgOf st.queue = some c → (c.depth ≤ s.dev.fill st.queue ∨ s.dev.slotFree st.queue c = false) →
      Completes (.jstPushCommit t m) s fun d =>
        d.jst.items = s.dev.jst.items ∧ d.stageOf (bankOf m) = none ∧
        d.get (Reg.JST_PUSH_STATUS.status (bankOf m)) = ST_REFUSED_FULL ∧ d.get Reg.JST_IRQ_STATUS.refused = 1)

/-- A core takes, waits for and releases an item. -/
def Obligations.TakingCompletes : Prop :=
  (∀ (t : Nat) (n : Fin 8) (s : State) (i : JItem) (d' : Dev) (b : Nat), s.dev.joistRuns = true →
    (s.dev.heldBy n.val).length < 4 → (s.dev.atTime t).select 0xFF (some n.val) = some (i, d') → s.dev.freeHold n.val = some b →
    Completes (.jstGet t (.core n) false) s fun d =>
      HoldBuf.mk n.val b i ∈ d.jst.holds ∧ d.jst.items = d'.jst.items.erase i ∧
      d.get (Reg.JST_GET.word n.val) = descriptor i b % 2 ^ 32) ∧
  (∀ (t : Nat) (m : Master) (irq : Bool) (s : State),
    (isCore m = false ∨ s.dev.joistRuns = false ∨ 4 ≤ (s.dev.heldBy (bankOf m)).length ∨ irq = true) →
    Completes (.jstGet t m irq) s fun d => d.get (Reg.JST_GET.word (bankOf m)) = 0 ∧ d.jst = s.dev.jst) ∧
  (∀ (t : Nat) (s : State) (c : Nat) (d' : Dev),
    s.dev.jst.waiting.findSome? (fun c => ((s.dev.atTime t).takeFor c).map (fun d' => (c, d'))) = some (c, d') →
    Completes (.jstGetDeliver t) s fun d =>
      d.jst.holds = d'.jst.holds ∧ d.jst.items = d'.jst.items ∧ d.jst.waiting = d'.jst.waiting.erase c) ∧
  (∀ (t : Nat) (n : Fin 8) (s : State), s.dev.jst.waiting.contains n.val = true →
    Completes (.jstGetInterrupted t n) s fun d =>
      d.get (Reg.JST_GET.word n.val) = 0 ∧ d.jst.waiting = s.dev.jst.waiting.erase n.val ∧ d.jst.items = s.dev.jst.items) ∧
  (∀ (t : Nat) (n : Fin 8) (v : W32) (s : State) (h : HoldBuf),
    v ≠ 0 →
    s.dev.jst.holds.find? (fun h => h.core == n.val && h.buf == bits v.toNat 21 20 && h.item.tag == bits v.toNat 15 0) = some h →
    Completes (.jstDone t (.core n) v) s fun d =>
      d.jst.holds = s.dev.jst.holds.erase h ∧ d.get (Reg.JST_DONE_STATUS.status n.val) = ST_OK)

/-- Flushing a queue and the delay lists. -/
def Obligations.FlushAndTimersComplete : Prop :=
  (∀ (t : Nat) (m : Master) (q : Fin 64) (s : State), s.dev.get Reg.JST_FLUSH_STATUS.busy = 0 →
    Completes (.jstFlush t m q) s fun d =>
      d.jst.items = s.dev.jst.items.filter (fun i => i.queue != q.val) ∧ d.get Reg.JST_FLUSH_STATUS.busy = 1 ∧
      d.get Reg.JST_FLUSH_STATUS.queue = q.val) ∧
  (∀ (t : Nat) (s : State), s.dev.get Reg.JST_FLUSH_STATUS.busy = 1 → Completes (.jstFlushDone t) s fun d =>
    d.get Reg.JST_FLUSH_STATUS.busy = 0 ∧ d.get Reg.JST_IRQ_STATUS.flush_done = 1 ∧ d.jst = s.dev.jst) ∧
  (∀ (t : Nat) (m : Master) (s : State), s.dev.joistRuns = true → s.dev.get (Reg.JST_TMR_CFG.delay (bankOf m)) ≠ 0 →
    flowReserved (s.dev.get (Reg.JST_TMR_FLOW.flow (bankOf m))) = false → s.dev.jst.timers.length < 65536 →
    Completes (.jstTmrArm t m) s fun d =>
      d.jst.timers = s.dev.jst.timers ++ [Timer.mk s.dev.freePlace (s.dev.tagOf s.dev.freePlace % 255 + 1)
        (s.dev.beat.count + s.dev.get (Reg.JST_TMR_CFG.delay (bankOf m))) s.dev.jst.armOrder
        (s.dev.get (Reg.JST_TMR_CFG.queue (bankOf m))) (s.dev.get (Reg.JST_TMR_FLOW.flow (bankOf m)))
        (s.dev.get (Reg.JST_TMR_DATA_HI.word (bankOf m)) * 2 ^ 32 + s.dev.get (Reg.JST_TMR_DATA_LO.word (bankOf m))) false] ∧
      d.get (Reg.JST_TMR_STATUS.status (bankOf m)) = ST_OK) ∧
  (∀ (t : Nat) (m : Master) (v : W32) (s : State),
    Completes (.jstTmrCancel t m v) s fun d =>
      match s.dev.jst.timers.find? (fun x => x.tag * 65536 + x.place == bits v.toNat 23 0) with
      | some x => d.jst.timers = s.dev.jst.timers.erase x ∧ d.get (Reg.JST_TMR_STATUS.status (bankOf m)) = ST_OK
      | none => d.jst.timers = s.dev.jst.timers ∧ d.get (Reg.JST_TMR_STATUS.status (bankOf m)) = ST_STALE) ∧
  (∀ (t : Nat) (s : State) (x : Timer) (d' : Dev) (b : Bool), s.dev.jst.released < 4096 → s.dev.joistRuns = true →
    s.dev.dueTimers.find? (fun y => !s.dev.jst.stopped.contains y.queue) = some x →
    (s.dev.atTime t).push x.queue x.flow producerTimers [x.word] = (d', ST_OK, b) →
    Completes (.jstTimerRelease t) s fun d =>
      d.jst.items = d'.jst.items ∧ d.jst.timers = d'.jst.timers.erase x ∧ d.jst.released = s.dev.jst.released + 1)

/-- The recorder's commands complete. -/
def Obligations.RecorderCommandsComplete : Prop :=
  (∀ (t : Nat) (s : State), Completes (.rateTokenTick t) s fun d =>
    s.dev.evr.offers = [] → d.evr.limits = s.dev.evr.limits.map (fun b : Bucket =>
      { b with units := min (b.burst * 1000000) (b.units + b.rate) })) ∧
  (∀ (t code : Nat) (s : State) (p : PendSupp), s.dev.evr.pend.find? (fun p => p.code == code) = some p →
    s.dev.evr.started = true → s.dev.evr.buf.length < 4096 → s.dev.evr.offers = [] →
    p.since + 60 * 1000000000 ≤ (s.dev.atTime t).now →
    Completes (.suppressed t code) s fun d =>
      d.recorded Ev.SUPPRESSED [p.code, p.count] ∧ d.evr.pend.all (fun x => x.code != code) = true) ∧
  (∀ (t : Nat) (m : Master) (s : State), s.dev.evr.started = true → s.dev.evr.offers = [] → s.dev.evr.flushLeft = 0 →
    s.dev.evr.buf ≠ [] →
    (Completes (.evrFlush t m) s fun d => d.evr.flushLeft = s.dev.evr.buf.length ∧ d.evr.buf = s.dev.evr.buf) ∧
    (s.dev.evr.flushAt + 1000000000 ≤ (s.dev.atTime t).now → Completes (.evrFlushTimer t) s fun d => d.evr.flushLeft = s.dev.evr.buf.length ∧ d.evr.buf = s.dev.evr.buf)) ∧
  (∀ (t n : Nat) (s : State) (r : EvRec) (rest : List EvRec), s.dev.pwr.pf = none → s.dev.evr.offers = [] →
    s.dev.evr.flushLeft = n + 1 → s.dev.evr.buf = r :: rest → s.dev.evr.ring.length < ringSlots → s.dev.evr.dropNow = 0 →
    r.lost ≤ 65535 → s.dev.evr.flushAgain = false →
    Completes (.evrSlotWritten t) s fun d =>
      d.evr.buf = rest ∧ d.evr.ring = s.dev.evr.ring ++ [r] ∧ d.evr.flushLeft = n) ∧
  (∀ (t : Nat) (m : Master) (v : W32) (s : State) (r : EvRec), v ≠ 0 → s.dev.seqBehind v.toNat ≠ 0 →
    s.dev.seqBehind v.toNat < 2 ^ 31 → s.dev.heldRecords.find? (fun r => r.seq == v.toNat && !(s.dev.atTime t).cyc.records.contains r.seq) = some r →
    Completes (.evrRdSeq t m v) s fun d =>
      d.get Reg.EVR_RD_STATUS.status = ST_OK ∧ d.get Reg.EVR_RD_SEQ.word = v.toNat ∧
      (∀ i < 8, d.get (Reg.EVR_RD_W.word i) = fieldLE r.bytes (4 * i) 4 % 2 ^ 32))

/-- The host link's and the USB port's commands complete. -/
def Obligations.HostLinkCommandsComplete : Prop :=
  (∀ (t : Nat) (items : List (BitVec 64)) (s : State), s.dev.hlRuns = true → items.length ≤ 256 →
    s.dev.hlk.down.length + items.length ≤ hlDepth → Completes (.hlWrite t items) s fun d =>
      d.hlk.down = s.dev.hlk.down ++ items.map (·.toNat)) ∧
  (∀ (t n : Nat) (s : State), s.dev.hlRuns = true → n ≤ 256 →
    s.dev.hlk.read + n + (s.dev.atTime t).cyc.upNew ≤ s.dev.hlk.up.length →
    Completes (.hlRead t n) s fun d =>
      d.hlk.sent = (s.dev.hlk.up.drop s.dev.hlk.read).take n ∧ d.hlk.read = s.dev.hlk.read + n ∧ d.hlk.up = s.dev.hlk.up) ∧
  (∀ (t : Nat) (s : State), s.dev.hlRuns = true →
    (Completes (.hlMark t) s fun d => d.hlk.mark = s.dev.hlk.read ∧ d.hlk.read = s.dev.hlk.read) ∧
    (Completes (.hlRewind t) s fun d => d.hlk.read = s.dev.hlk.mark ∧ d.hlk.up = s.dev.hlk.up) ∧
    (Completes (.hlStatus t) s fun d => d.hlk.sent = [s.dev.dnFill + s.dev.upUnread * 2 ^ 16 + s.dev.upUnreleased * 2 ^ 32 +
      bits (s.dev.get Reg.HLK_STATUS.word) 7 0 * 2 ^ 48 + s.dev.hlk.dropCause * 2 ^ 56] ∧ d.hlk.up = s.dev.hlk.up) ∧
    (∀ command : Nat, Completes (.badCommand t command) s fun d =>
      d.get Reg.HLK_CNT.bad_cmd = min (s.dev.get Reg.HLK_CNT.bad_cmd + 1) 65535 ∧ d.get Reg.HLK_IRQ_STATUS.bad_cmd = 1)) ∧
  (∀ (t n : Nat) (s : State), s.dev.hlRuns = true → 0 < n → n ≤ 256 → n ≤ s.dev.hlk.read →
    Completes (.hlRelease t n) s fun d =>
      d.hlk.up = s.dev.hlk.up.drop n ∧ d.hlk.read = s.dev.hlk.read - n ∧ d.hlk.mark = s.dev.hlk.mark - n ∧
      d.get Reg.HLK_IRQ_STATUS.up_space = 1) ∧
  (∀ (t : Nat) (s : State) (h n : Nat) (rest : List Nat) (d' : Dev) (b : Bool),
    s.dev.hlk.down.take (s.dev.dnFill - (s.dev.atTime t).cyc.downNew) = h :: rest →
    frameBody h = some n → n ≤ rest.length → frameKind h ≠ 2 → s.dev.joistRuns = true →
    (s.dev.atTime t).push ((s.dev.jst.qcfg.findIdx? (fun c => c.hostDown)).getD 64) (bits h 19 0) producerHost (rest.take n) =
      (d', ST_OK, b) →
    Completes (.hlDownFrame t) s fun d => d.jst = d'.jst ∧ d.hlk.down = s.dev.hlk.down.drop (n + 1)) ∧
  (∀ (t : Nat) (s : State) (h n : Nat) (rest : List Nat),
    s.dev.hlk.down.take (s.dev.dnFill - (s.dev.atTime t).cyc.downNew) = h :: rest → frameBody h = some n → n ≤ rest.length →
    frameKind h = 2 → Completes (.hlDownFrame t) s fun d =>
      d.hlk.passed = s.dev.hlk.passed + 1 ∧ d.hlk.down = s.dev.hlk.down.drop (n + 1) ∧ d.jst = s.dev.jst) ∧
  (∀ (t : Nat) (m : Master) (v : W32) (s : State) (old : List Nat),
    s.dev.hlk.staging.find? (fun x => x.1 == bankOf m) = some (bankOf m, old) → old.length < 9 →
    Completes (.hlUpData t m v) s fun d =>
      d.hlk.staging.find? (fun x => x.1 == bankOf m) = some (bankOf m, old ++
        [s.dev.stagedHi (bankOf m) (Reg.HLK_UP_DATA_HI.word (bankOf m)) * 2 ^ 32 + v.toNat])) ∧
  (∀ (t : Nat) (m : Master) (s : State) (h : Nat) (r : List Nat),
    s.dev.hlk.staging.find? (fun x => x.1 == bankOf m) = some (bankOf m, h :: r) → frameBody h = some r.length →
    s.dev.hlk.up.length + (r.length + 1) ≤ hlDepth →
    Completes (.hlUpCommit t m) s fun d =>
      d.hlk.up = s.dev.hlk.up ++ h :: r ∧ d.get (Reg.HLK_UP_CTRL.status (bankOf m)) = ST_OK ∧
      d.hlk.staging.find? (fun x => x.1 == bankOf m) = none) ∧
  (∀ (t : Nat) (m : Master) (s : State), Completes (.hlUpAbandon t m) s fun d =>
    d.hlk.staging.find? (fun x => x.1 == bankOf m) = none ∧ d.hlk.up = s.dev.hlk.up) ∧
  (∀ (t : Nat) (s : State), s.dev.get Reg.HLK_UP_TMO.us ≠ 0 → s.dev.upUnread ≠ 0 →
    (∃ x ∈ s.dev.hlk.upAt.drop s.dev.hlk.read, x + s.dev.get Reg.HLK_UP_TMO.us * 1000 ≤ (s.dev.atTime t).now) →
    Completes (.hlUpTimeout t) s fun d => d.hlk.timedOut = true ∧ d.hlk.up = s.dev.hlk.up) ∧
  (∀ (t : Nat) (a : Bool) (s : State),
    ((a && s.dev.flag Reg.CLK_STATUS.trimmed) ≠ s.dev.flag Reg.USB_STATE.attached → Completes (.usbAttached t a) s fun d =>
      d.hlk.vbus = a ∧ d.get Reg.USB_STATE.attached = b2n (a && s.dev.flag Reg.CLK_STATUS.trimmed) ∧
      d.get Reg.USB_IRQ_STATUS.attach = 1) ∧
    ((a && s.dev.flag Reg.CLK_STATUS.trimmed) = s.dev.flag Reg.USB_STATE.attached → Completes (.usbAttached t a) s fun d =>
      d.hlk.vbus = a ∧ d.get Reg.USB_STATE.attached = s.dev.get Reg.USB_STATE.attached)) ∧
  (∀ (t : Nat) (a : Bool) (s : State), Completes (.usbSuspend t a) s fun d =>
    d.get Reg.USB_STATE.suspended =
      if s.dev.flag Reg.USB_STATE.attached then b2n a else s.dev.get Reg.USB_STATE.suspended)

/-- Status, event, meter and undefined commands answer. -/
def Obligations.StatusCommandsComplete : Prop :=
  (∀ (t : Nat) (e : Envelope) (s : State) (d' : Dev), (s.dev.atTime t).Accepts d' specGetStatus e →
    Completes (.getStatus t e) s fun d => d.answered e cmdGetStatus ST_OK (statusRecord d') ∧
      (statusRecord d').take 2 = toLE 1 d'.sys.mstate.code ++ toLE 1 d'.sys.role.code ∧ d.sys.mstate = d'.sys.mstate) ∧
  (∀ (t : Nat) (e : Envelope) (s : State) (d' : Dev), (s.dev.atTime t).Accepts d' specReadEvents e →
    Completes (.readEvents t e) s fun d =>
      d.answered e cmdReadEvents ST_OK (d'.readEventsResult (readEventsArgs e.body)) ∧ d.evr.ring = d'.evr.ring) ∧
  (∀ (t : Nat) (e : Envelope) (s : State) (d' : Dev), (s.dev.atTime t).Accepts d' specMeterSnapshot e →
    Completes (.meterSnapshot t e) s fun d => d.answered e cmdMeterSnapshot ST_OK (meterSnapshotResult d') ∧ d.mtr = d'.mtr) ∧
  (∀ (t code : Nat) (e : Envelope) (s : State), s.dev.sys.mstate ≠ .off → s.dev.pwr.stopped = false → s.dev.pwr.pf = none →
    s.dev.carried e = true → e.magic ≠ envelopeMagic → Completes (.codeNotDefined t code e) s fun d =>
      d.get Reg.SYS_CMD_BAD.word = min (s.dev.get Reg.SYS_CMD_BAD.word + 1) (2 ^ 32 - 1) ∧ d.sys = s.dev.sys) ∧
  (∀ (t code : Nat) (e : Envelope) (s : State) (d' : Dev), matrixRow code = none → s.dev.sys.mstate ≠ .off →
    s.dev.pwr.stopped = false → s.dev.pwr.pf = none → s.dev.carried e = true → e.magic = envelopeMagic → e.version = 1 → e.lengthOk = true →
    ((s.dev.atTime t).releaseCarrier e).macCheck e code = (true, d') → d'.lastSeq e.keyId = none → e.keyId ≠ 0 →
    code ≠ cmdKeyUpdate → Completes (.codeNotDefined t code e) s fun d => d.answered e code ST_BAD_ARGUMENT [])

/-- START, STOP, SHUTDOWN, SET_PASSES and RESET. -/
def Obligations.ControlCommandsComplete : Prop :=
  (∀ (t : Nat) (e : Envelope) (s : State) (d' : Dev), (s.dev.atTime t).Accepts d' specStart e →
    Completes (.start t e) s fun d => d.sys.startPending = true ∧ d.sys.mstate = d'.sys.mstate ∧ d.answered e cmdStart ST_OK []) ∧
  (∀ (t : Nat) (e : Envelope) (s : State) (d' : Dev), (s.dev.atTime t).Accepts d' specStop e →
    Completes (.stop t e) s fun d => d.sys.stopPending = true ∧ d.sys.mstate = d'.sys.mstate ∧ d.answered e cmdStop ST_OK []) ∧
  (∀ (t : Nat) (e : Envelope) (s : State) (d' : Dev), (s.dev.atTime t).Accepts d' specShutdown e →
    Completes (.shutdown t e) s fun d =>
      d.bst.shut = some ⟨bit (byteAt e.body 0) 0, bit (byteAt e.body 0) 1, fieldLE e.body 4 4, e.seq⟩ ∧
      d.answered e cmdShutdown ST_PENDING []) ∧
  (∀ (t : Nat) (e : Envelope) (s : State) (d' : Dev), (s.dev.atTime t).Accepts d' specSetPasses e →
    Completes (.setPasses t e) s fun d => d.beat.nextPasses = some (byteAt e.body 1) ∧
      d.get Reg.BEAT_PASSES.passes_now = d'.get Reg.BEAT_PASSES.passes_now ∧ d.answered e cmdSetPasses ST_OK []) ∧
  (∀ (t : Nat) (e : Envelope) (straps : Fin 8) (s : State) (d' : Dev), (s.dev.atTime t).Accepts d' (specReset straps.val) e →
    Completes (.reset t e straps) s fun d => d.sys.mstate = .boot ∧ d.sys.warm = false ∧ d.answered e cmdReset ST_OK [])

/-- Loading and patching a Cut List. -/
def Obligations.CutCommandsComplete : Prop :=
  (∀ (t : Nat) (e : Envelope) (s : State) (d' : Dev), (s.dev.atTime t).Accepts d' specCutStage e →
    Completes (.cutStage t e) s fun d => d.answered e cmdCutStage ST_OK [] ∧
      (let a := stageArgs e.body
       if a.target = 0 then ∀ i < a.data.length, d.cut.stage.read (a.offset + i) = a.data.getD i 0
       else ∀ i < a.data.length, d.cut.patchStage.read (a.offset + i) = a.data.getD i 0)) ∧
  (∀ (t : Nat) (e : Envelope) (s : State) (d' : Dev), (s.dev.atTime t).Accepts d' specCutLoad e →
    Completes (.cutLoad t e) s fun d =>
      match d'.checkFull (d'.cut.stage.readN 0 d'.cut.stageLen) with
      | (.ok x, _) => d.answered e cmdCutLoad ST_PENDING [] ∧ d.get Reg.CUT_STATUS.load_busy = 1 ∧
          ∃ r, d.cut.load = some r ∧ r.phase = .storing ∧ r.image = x ∧ r.container = d'.cut.stage.readN 0 d'.cut.stageLen
      | (.error r, _) => d.answered e cmdCutLoad r.status [] ∧ d.get Reg.CUT_ERR_SECTION.check = r.check % 256) ∧
  (∀ (t : Nat) (e : Envelope) (s : State) (d' : Dev), (s.dev.atTime t).Accepts d' specCutPatch e →
    Completes (.cutPatch t e) s fun d =>
      match d'.checkAPatch (d'.cut.patchStage.readN 0 d'.cut.patchLen) with
      | (.ok x, _) => d.get Reg.CUT_STATUS.patch_busy = 1 ∧
          ∃ r, d.cut.patch = some r ∧ r.phase = .logging ∧ r.image = x
      | (.error r, _) => r.status ≠ ST_PENDING → d.answered e cmdCutPatch r.status []) ∧
  (∀ (t : Nat) (s : State) (run : LoadRun), s.dev.cut.load = some run → run.phase = .storing →
    (Completes (.cutLoadStored t true) s fun d => d.cut.load = some { run with phase := .waiting } ∧
      (if run.slot = 0 then d.cut.slot0 = some ⟨run.container, []⟩ ∧ d.cut.slot1 = s.dev.cut.slot1
       else d.cut.slot0 = s.dev.cut.slot0)) ∧
    (Completes (.cutLoadStored t false) s fun d => d.cut.load = none ∧ d.get Reg.CUT_STATUS.load_busy = 0 ∧
      d.get Reg.CUT_STATUS.last_status = ST_INTEGRITY)) ∧
  (∀ (t : Nat) (s : State) (run : LoadRun), s.dev.cut.load = some run → run.phase = .copying →
    Completes (.cutCopyDone t) s fun d =>
      d.cut.load = some { run with phase := .leaving } ∧ d.lin.nextSafety = some run.image.safety) ∧
  (∀ (t : Nat) (s : State) (run : PatchRun), s.dev.cut.patch = some run → run.phase = .logging →
    (Completes (.patchReady t true) s fun d =>
      d.cut.patch = some { run with phase := .ready, thisBeat := (s.dev.atTime t).windowAhead }) ∧
    (Completes (.patchReady t false) s fun d => d.cut.patch = none ∧ d.get Reg.CUT_STATUS.patch_busy = 0)) ∧
  (∀ (t : Nat) (s : State) (run : PatchRun), s.dev.rft.sweeping = false → s.dev.beats = true → s.dev.cut.patch = some run →
    run.phase = .ready → run.thisBeat = true →
    Completes (.beatDeadline t) s fun d => d.cut.patch = some { run with phase := .written })

/-- Overrides and the emergency bound. -/
def Obligations.LightCommandsComplete : Prop :=
  (∀ (t : Nat) (e : Envelope) (s : State) (d' : Dev), (s.dev.atTime t).Accepts d' specOverrideC1 e → d'.cmdPathFull = false → d'.cmdPathOpen = true →
    let a := c1Args e.body
    let entry : CmdEntry := if a.action = 1 then .c1Set a.scope a.id a.level (d'.beat.count + 1) a.duration else .c1Clear a.scope a.id
    (Completes (.overrideC1Set t e) s fun d => d.rft.cmdBuf = d'.rft.cmdBuf ++ [entry] ∧
      d.answered e cmdOverrideC1 ST_OK (toLE 8 (d'.beat.count + 1))) ∧
    (Completes (.overrideC1Clear t e) s fun d => d.rft.cmdBuf = d'.rft.cmdBuf ++ [entry] ∧
      d.answered e cmdOverrideC1 ST_OK (toLE 8 (d'.beat.count + 1)))) ∧
  (∀ (t : Nat) (e : Envelope) (s : State) (d' : Dev), (s.dev.atTime t).Accepts d' specClass0 e → byteAt e.body 0 = 1 → d'.c0Wanted (byteAt e.body 1) = false →
    (d'.cmdPathOpen && d'.cmdPathFull) = false →
    Completes (.class0Activate t e) s fun d => d.lin.waiting = d'.lin.waiting ++ [C0Req.activate (byteAt e.body 1)] ∧
      d.answered e cmdClass0 ST_OK (toLE 8 (d'.beat.count + 1))) ∧
  (∀ (t : Nat) (e : Envelope) (s : State) (d' : Dev), (s.dev.atTime t).Accepts d' specClass0 e → byteAt e.body 0 = 2 → d'.c0Wanted (byteAt e.body 1) = true → d'.emgActive = false →
    (d'.cmdPathOpen && d'.cmdPathFull) = false →
    Completes (.class0Release t e) s fun d => d.lin.waiting = d'.lin.waiting ++ [C0Req.release (byteAt e.body 1)] ∧
      d.answered e cmdClass0 ST_OK (toLE 8 (d'.beat.count + 1))) ∧
  (∀ (t : Nat) (b : Bool) (s : State), s.dev.sys.mstate ≠ .off → s.dev.lin.safety.isSome = true →
    (if b then s.dev.lin.emgB else s.dev.lin.emgA) = false →
    Completes (.emgEdge t b true) s fun d => (if b then d.lin.emgB else d.lin.emgA) = true ∧
      d.lin.waiting = s.dev.lin.waiting ++ [C0Req.emg]) ∧
  (∀ (t : Nat) (b : Bool) (s : State), Completes (.emgEdge t b false) s fun d =>
    (if b then d.lin.emgB else d.lin.emgA) = false ∧ d.lin.waiting = s.dev.lin.waiting) ∧
  (∀ (t ms : Nat) (s : State), 100 < ms → s.dev.lin.emgA ≠ s.dev.lin.emgB → s.dev.lin.disagree = false → s.dev.sys.mstate ≠ .off →
    Completes (.emgDisagree t ms) s fun d => d.lin.disagree = true ∧ d.get Reg.SYS_PIN_STATUS.emg_disagree = 1) ∧
  (∀ (t index : Nat) (s : State) (a : ActiveFrame), s.dev.lintelActs = true →
    s.dev.lin.active.find? (fun a => a.frame.index == index) = some a →
    (List.range 4).any (fun r => match ((s.dev.atTime t).radAt r).plan with
      | some p => p.c0Refresh != 0 && bit a.frame.media r && a.loadBeat < s.dev.beat.count &&
          (s.dev.beat.count - a.latchBeat) % p.c0Refresh == 0
      | none => false) = true →
    Completes (.c0Refresh t index) s fun d => ∃ x ∈ d.lin.active, x.frame.index = index ∧ x.loadBeat = s.dev.beat.count)

/-- TIME_SET and FORCE_TIME. -/
def Obligations.TimeCommandsComplete : Prop :=
  (∀ (t : Nat) (e : Envelope) (s : State) (d' : Dev), (s.dev.atTime t).Accepts d' specForceTime e → d'.beat.source ≠ .ptp →
    Completes (.forceTime t e) s fun d =>
      d.beat.step = some (Dev.stepOf (timeArgs e.body) (if (timeArgs e.body).setUtc then some (timeArgs e.body).utcOffset else none)) ∧
      d.answered e cmdForceTime ST_OK (Dev.timeResult (d'.askedCorrection (timeArgs e.body)) 0)) ∧
  (∀ (t : Nat) (e : Envelope) (s : State) (d' : Dev), (s.dev.atTime t).Accepts d' specTimeSet e → d'.beat.source ≠ .ptp → d'.quality ≤ 1 →
    Completes (.timeSet t e) s fun d => d.beat.step = some (Dev.stepOf (timeArgs e.body) none) ∧
      d.answered e cmdTimeSet ST_OK (Dev.timeResult (d'.askedCorrection (timeArgs e.body)) 0)) ∧
  (∀ (t : Nat) (e : Envelope) (s : State) (d' : Dev), (s.dev.atTime t).Accepts d' specTimeSet e → d'.beat.source ≠ .ptp → 1 < d'.quality →
    Completes (.timeSet t e) s fun d => d.beat.step = d'.beat.step ∧
      d.beat.slew = d'.askedCorrection (timeArgs e.body) + d'.slewDone)

/-- Firmware staging, activation and the library. -/
def Obligations.FirmwareCommandsComplete : Prop :=
  (∀ (t : Nat) (e : Envelope) (s : State) (d' : Dev), (s.dev.atTime t).Accepts d' specFwStage e → byteAt e.body 0 = 1 →
    Completes (.fwStageChunk t e) s fun d => d.fwu = (d'.fwChunk e.body).fwu ∧ d.fwu.other = .partialImage ∧
      d.answered e cmdFwStage ST_OK []) ∧
  (∀ (t : Nat) (e : Envelope) (s : State) (d' : Dev), (s.dev.atTime t).Accepts d' specFwStage e → byteAt e.body 0 = 2 →
    Completes (.fwStageCommit t e) s fun d => d.fwu.committing = some (e.seq, d'.now) ∧ d.answered e cmdFwStage ST_PENDING []) ∧
  (∀ (t : Nat) (e : Envelope) (s : State) (d' : Dev), (s.dev.atTime t).Accepts d' specFwStage e → byteAt e.body 0 = 3 →
    Completes (.fwStageAbandon t e) s fun d => d.fwu.other = .empty ∧ d.fwu.stageLen = 0 ∧ d.answered e cmdFwStage ST_OK []) ∧
  (∀ (t : Nat) (e : Envelope) (s : State) (d' : Dev), (s.dev.atTime t).Accepts d' specActivate e → fieldLE e.body 4 4 = d'.fwPtr.otherVersion → d'.inPair = false →
    Completes (.activate t e) s fun d => (∃ r, d.fwu.activating = some r ∧ r.seq = e.seq ∧ r.phase = 0) ∧
      d.answered e cmdActivate ST_PENDING []) ∧
  (∀ (t : Nat) (s : State) (seq at_ : Nat), s.dev.fwu.committing = some (seq, at_) →
    Completes (.fwCommitDone t) s fun d => d.fwu.committing = none ∧ d.get Reg.FWU_IRQ_STATUS.staged = 1 ∧
      (d.fwu.other = .verified ∨ d.fwu.other = .partialImage)) ∧
  (∀ (t : Nat) (s : State), s.dev.sys.mstate ≠ .boot → s.dev.sys.mstate ≠ .off → s.dev.fwu.committing = none →
    Completes (.slotCheckDone t) s fun d => d.fwu = ((s.dev.atTime t).slotCheckDone).fwu ∧
      (s.dev.slotBytes s.dev.otherSlot = [] → d.fwu.other = .empty)) ∧
  (∀ (t : Nat) (m : Master) (libId : Nat) (s : State), s.dev.isState [.ready, .hold, .service] = true →
    s.dev.fwu.libRuns.any (fun r => r.bank == bankOf m) = false →
    (Completes (.libWrite t m libId) s fun d => d.get (Reg.FWU_LIB_STATUS.busy (bankOf m)) = 1 ∧
      ∃ r, d.fwu.libRuns = s.dev.fwu.libRuns ++ [r] ∧ r.bank = bankOf m ∧ r.op = 1 ∧ r.libId = libId % 256) ∧
    (Completes (.libRead t m libId) s fun d => d.get (Reg.FWU_LIB_STATUS.busy (bankOf m)) = 1 ∧
      ∃ r, d.fwu.libRuns = s.dev.fwu.libRuns ++ [r] ∧ r.bank = bankOf m ∧ r.op = 2 ∧ r.libId = libId % 256) ∧
    (Completes (.libDelete t m libId) s fun d => d.get (Reg.FWU_LIB_STATUS.busy (bankOf m)) = 1 ∧
      ∃ r, d.fwu.libRuns = s.dev.fwu.libRuns ++ [r] ∧ r.bank = bankOf m ∧ r.op = 3 ∧ r.libId = libId % 256)) ∧
  (∀ (t bank : Nat) (s : State) (r : LibRun), s.dev.fwu.libRuns.find? (fun r => r.bank == bank) = some r → r.op = 2 →
    Completes (.libDone t bank) s fun d => d.mem = s.dev.mem.writeN r.addr r.bytes ∧
      d.fwu.libRuns = s.dev.fwu.libRuns.filter (fun x => x.bank != bank) ∧ d.fwu.lib = s.dev.fwu.lib)

/-- Key updates and key operations. -/
def Obligations.VaultCommandsComplete : Prop :=
  (∀ (t : Nat) (e : Envelope) (s : State) (d' : Dev), (s.dev.atTime t).Accepts d' specKeyUpdate e → byteAt e.body 0 = 3 → d'.key.lcs < (keyUpdArgs e.body).keyId →
    ((keyUpdArgs e.body).keyId = 4 ∨ (keyUpdArgs e.body).keyId = d'.key.lcs + 1) → d'.key.nextLcs = none →
    Completes (.keyUpdateLifecycle t e) s fun d => d.key.nextLcs = some (keyUpdArgs e.body).keyId ∧ d.key.lcs = d'.key.lcs ∧
      d.answered e cmdKeyUpdate ST_OK (Dev.keyResult (keyUpdArgs e.body).keyId 0)) ∧
  (∀ (t : Nat) (e : Envelope) (s : State) (d' : Dev), (s.dev.atTime t).Accepts d' specKeyUpdate e → (byteAt e.body 0 = 1 ∨ byteAt e.body 0 = 2) →
    (let r := d'.keyUpdate e
     (Completes (.keyUpdateImport t e) s fun d => d.key = r.dev.key ∧ d.answered e cmdKeyUpdate r.status r.result) ∧
     (Completes (.keyUpdateDerive t e) s fun d => d.key = r.dev.key ∧ d.answered e cmdKeyUpdate r.status r.result))) ∧
  (∀ (t : Nat) (e : Envelope) (s : State) (d' : Dev) (p g slot : Nat), (s.dev.atTime t).Accepts d' specKeyInvalidate e → fieldLE e.body 0 2 < 0xFF00 →
    d'.pointer (fieldLE e.body 0 2) = some (p, g, slot) → fieldLE e.body 4 4 = g → slot ≠ 0xFFFF → d'.sil.readOnly = false →
    d'.onlyWith (fieldLE e.body 0 2) useCutVerify = false → d'.onlyWith (fieldLE e.body 0 2) useCommandMac = false →
    d'.ringRoom (.keyPointer (fieldLE e.body 0 2) p g 0xFFFF 0) = true →
    Completes (.keyInvalidate t e) s fun d => d.pointer (fieldLE e.body 0 2) = some (p, g, 0xFFFF) ∧
      d.answered e cmdKeyInvalidate ST_OK []) ∧
  (∀ (t : Nat) (s : State) (r : KeyUpdRun) (rest : List KeyUpdRun), s.dev.key.pending = r :: rest →
    Completes (.keyUpdateDone t) s fun d => d.key.pending = rest) ∧
  (∀ (t : Nat) (m : Master) (secure : Bool) (lo : W32) (s : State), s.dev.get (Reg.KEY_OP_STATUS.busy (bankOf m)) = 0 →
    (let d0 := (s.dev.atTime t).commitPair (bankOf m) (Reg.KEY_OP_DESC_LO.word (bankOf m)) (Reg.KEY_OP_DESC_HI.word (bankOf m)) lo.toNat
     let a := bits (d0.get (Reg.KEY_OP_DESC_HI.word (bankOf m))) 7 0 * 2 ^ 32 + lo.toNat
     inSramOrLpddr a 32 = true →
     (Dev.descOk 6 (d0.opDesc a) = true → Completes (.keyOpSha256 t m secure lo) s fun d => d.get (Reg.KEY_OP_STATUS.busy (bankOf m)) = 1 ∧
       ∃ x, d.key.ops = s.dev.key.ops ++ [x] ∧ x.bank = bankOf m ∧ x.out = (d0.opResult 6 [] (d0.opDesc a)).2 ∧ x.waits = false) ∧
     (∀ k, d0.permit (s.dev.get (Reg.KEY_OP_CFG.key_id (bankOf m))) (if secure then masterAppSecure else masterAppNormal) (Dev.opUsage 1) =
         (ST_OK, some k) → Dev.descOk 1 (d0.opDesc a) = true → Completes (.keyOpGcmEncrypt t m secure lo) s fun d =>
       d.get (Reg.KEY_OP_STATUS.busy (bankOf m)) = 1 ∧
       ∃ x, d.key.ops = s.dev.key.ops ++ [x] ∧ x.bank = bankOf m ∧ x.out = (d0.opResult 1 (d0.keyBytes k) (d0.opDesc a)).2) ∧
     (∀ k, d0.permit (s.dev.get (Reg.KEY_OP_CFG.key_id (bankOf m))) (if secure then masterAppSecure else masterAppNormal) (Dev.opUsage 2) =
         (ST_OK, some k) → Dev.descOk 2 (d0.opDesc a) = true → Completes (.keyOpGcmDecrypt t m secure lo) s fun d =>
       d.get (Reg.KEY_OP_STATUS.busy (bankOf m)) = 1 ∧
       ∃ x, d.key.ops = s.dev.key.ops ++ [x] ∧ x.bank = bankOf m ∧ x.out = (d0.opResult 2 (d0.keyBytes k) (d0.opDesc a)).2) ∧
     (∀ k, d0.permit (s.dev.get (Reg.KEY_OP_CFG.key_id (bankOf m))) (if secure then masterAppSecure else masterAppNormal) (Dev.opUsage 3) =
         (ST_OK, some k) → Dev.descOk 3 (d0.opDesc a) = true → Completes (.keyOpHmac t m secure lo) s fun d =>
       d.get (Reg.KEY_OP_STATUS.busy (bankOf m)) = 1 ∧
       ∃ x, d.key.ops = s.dev.key.ops ++ [x] ∧ x.bank = bankOf m ∧ x.out = (d0.opResult 3 (d0.keyBytes k) (d0.opDesc a)).2) ∧
     (∀ k, d0.permit (s.dev.get (Reg.KEY_OP_CFG.key_id (bankOf m))) (if secure then masterAppSecure else masterAppNormal) (Dev.opUsage 4) =
         (ST_OK, some k) → Dev.descOk 4 (d0.opDesc a) = true → Completes (.keyOpEcdsaSign t m secure lo) s fun d =>
       d.get (Reg.KEY_OP_STATUS.busy (bankOf m)) = 1 ∧ d.freeCtr = s.dev.freeCtr + 1 ∧
       ∃ x, d.key.ops = s.dev.key.ops ++ [x] ∧ x.bank = bankOf m) ∧
     (∀ k, d0.permit (s.dev.get (Reg.KEY_OP_CFG.key_id (bankOf m))) (if secure then masterAppSecure else masterAppNormal) (Dev.opUsage 5) =
         (ST_OK, some k) → Dev.descOk 5 (d0.opDesc a) = true → Completes (.keyOpEcdsaVerify t m secure lo) s fun d =>
       d.get (Reg.KEY_OP_STATUS.busy (bankOf m)) = 1 ∧ d.freeCtr = s.dev.freeCtr ∧
       ∃ x, d.key.ops = s.dev.key.ops ++ [x] ∧ x.bank = bankOf m))) ∧
  (∀ (t bank : Nat) (s : State) (r : KeyOpRun), s.dev.key.ops.find? (fun r => r.bank == bank) = some r → r.waits = false →
    Completes (.keyOpDone t bank) s fun d => d.mem = s.dev.mem.writeN r.dest r.out ∧
      d.get (Reg.KEY_OP_STATUS.busy bank) = 0 ∧ d.get (Reg.KEY_OP_STATUS.status bank) = r.status % 256 ∧
      d.get Reg.KEY_IRQ_STATUS.op_done = 1)

/-- The beat boundary, COMMIT and OVERRUN. -/
def Obligations.BeatCommandsComplete : Prop :=
  (∀ (s : State), s.dev.beats = true → s.dev.beat.step = none → s.dev.pair.cfg = none → s.dev.bst.test = none →
    Completes .beatBoundary s fun d => d.beat.count = s.dev.beat.count + 1 ∧ d.beat.base = s.dev.beat.base + s.dev.beat.len ∧
      d.get Reg.BEAT_IRQ_STATUS.boundary = 1) ∧
  (∀ (s : State) (r : StepReq), s.dev.beats = true → s.dev.beat.step = some r → s.dev.pair.cfg = none →
    s.dev.bst.test = none → Completes .beatBoundary s fun d => d.beat.count = s.dev.beat.count + 1 ∧
      (d.beat.base : Int) = max 0 (if r.absolute then r.value else ((s.dev.beat.base + s.dev.beat.len : Nat) : Int) + r.value) ∧
      d.beat.step = none) ∧
  (∀ (s : State), s.dev.beats = false → Completes .beatBoundary s fun d => d.beat = s.dev.beat) ∧
  (∀ (t : Nat) (s : State), s.dev.rft.sweeping = true → s.dev.beats = true → (s.dev.atTime t).beat.sinceBase ≤ s.dev.deadline →
    Completes (.commit t) s fun d => d.get Reg.BEAT_STATUS.phase = 3 ∧ d.get Reg.BEAT_IRQ_STATUS.commit_done = 1 ∧
      d.get Reg.BEAT_OVR_STATE.consec = 0 ∧ d.beat.count = s.dev.beat.count) ∧
  (∀ (t pass : Nat) (s : State), s.dev.rft.sweeping = true → s.dev.beats = true → (s.dev.atTime t).commitFits = false →
    Completes (.overrun t pass) s fun d => d.get Reg.BEAT_STATUS.phase = 3 ∧ d.get Reg.BEAT_IRQ_STATUS.overrun = 1 ∧
      d.beat.count = s.dev.beat.count ∧ d.get Reg.BEAT_OVR_STATE.consec =
        (if s.dev.get Reg.BEAT_OVR_STATE.consec < 2 then s.dev.get Reg.BEAT_OVR_STATE.consec + 1 else 0) ∧
      (s.dev.get Reg.BEAT_OVR_STATE.consec < 2 → d.beat.nextPasses = s.dev.beat.nextPasses) ∧
      (2 ≤ s.dev.get Reg.BEAT_OVR_STATE.consec → 1 < s.dev.get Reg.BEAT_PASSES.passes_now →
        d.beat.nextPasses = some (s.dev.get Reg.BEAT_PASSES.passes_now - 1)))

/-- The rafter engine's commands complete. -/
def Obligations.EngineCommandsComplete : Prop :=
  (∀ (t : Nat) (m : Master) (v : W32) (s : State), Completes (.rftIngestW0 t m v) s fun d =>
    d.ingestStage (bankOf m) = some ⟨bankOf m, [v, 0, 0]⟩ ∧ d.rft.port = s.dev.rft.port) ∧
  (∀ (t : Nat) (m : Master) (i : Fin 2) (v : W32) (s : State) (x : IngestStage), s.dev.ingestStage (bankOf m) = some x →
    Completes (.rftIngestWord t m i v) s fun d =>
      d.ingestStage (bankOf m) = some { x with words := modifyAt x.words (i.val + 1) (fun _ => v) }) ∧
  (∀ (t : Nat) (m : Master) (w0 w1 w2 v : W32) (s : State) (n : Node), s.dev.ingestStage (bankOf m) = some ⟨bankOf m, [w0, w1, w2]⟩ →
    s.dev.sys.mstate = .service → s.dev.sys.role = .solo → bits w0.toNat 31 17 = 0 → bits w1.toNat 15 8 = 0 → bits v.toNat 31 16 = 0 →
    bits w1.toNat 31 16 ≤ 1023 → (bits w1.toNat 7 0 = 3 ∨ bits w1.toNat 31 16 = 0) → s.dev.nodeAt (bits w0.toNat 16 0) = some n →
    n.stat.takes (bits w1.toNat 7 0) = true → s.dev.rft.port.length < s.dev.portLimit →
    Completes (.rftIngestCommit t m v) s fun d =>
      d.rft.port = s.dev.rft.port ++ [⟨bits w0.toNat 16 0, bits w1.toNat 7 0, bits w1.toNat 31 16, w2.toNat, bits v.toNat 15 0⟩] ∧
      d.get (Reg.RFT_INGEST_STATUS.status (bankOf m)) = ST_OK ∧ d.ingestStage (bankOf m) = none) ∧
  (∀ (t : Nat) (m : Master) (v : W32) (s : State), Completes (.rftBattenSel t m v) s fun d =>
    d.rft = s.dev.rft ∧ d.get Reg.RFT_BATTEN_SEL.eid = bits v.toNat 16 0 ∧
    match s.dev.battenOf (bits v.toNat 16 0) with
    | some b => d.get Reg.RFT_BATTEN_US.valid = 1 ∧ d.get Reg.RFT_BATTEN_BEAT.word = b.beat % 2 ^ 32
    | none => d.get Reg.RFT_BATTEN_US.valid = 0 ∧ d.get Reg.RFT_BATTEN_BEAT.word = 0) ∧
  (∀ (t : Nat) (m : Master) (v : W32) (s : State), Completes (.rftSpeedSel t m v) s fun d =>
    d.rft = s.dev.rft ∧ d.get Reg.RFT_SPEED_SEL.zone = bits v.toNat 13 3 ∧ d.get Reg.RFT_SPEED_SEL.heading = bits v.toNat 2 0) ∧
  (∀ (t id : Nat) (s : State) (n : Node), s.dev.nodeAt id = some n → n.run.c1Eid = true →
    expired n.run.c1Noexp n.run.c1Expiry s.dev.beat.count = true → s.dev.servesAsActive = true → s.dev.rft.sweeping = true →
    Completes (.c1Expired t 0 id) s fun d => ∃ n', d.nodeAt id = some n' ∧ n'.run.c1Eid = false ∧ n'.stat = n.stat) ∧
  (∀ (t id : Nat) (s : State) (o : Nat × Override), s.dev.rft.ovGroup.find? (fun o => o.1 == id) = some o →
    expired o.2.noexp o.2.expiry s.dev.beat.count = true → s.dev.servesAsActive = true → s.dev.rft.sweeping = true →
    Completes (.c1Expired t 1 id) s fun d => d.rft.ovGroup = s.dev.rft.ovGroup.filter (fun o => o.1 != id)) ∧
  (∀ (t id : Nat) (s : State) (o : Nat × Override), s.dev.rft.ovZone.find? (fun o => o.1 == id) = some o →
    expired o.2.noexp o.2.expiry s.dev.beat.count = true → s.dev.servesAsActive = true → s.dev.rft.sweeping = true →
    Completes (.c1Expired t 2 id) s fun d => d.rft.ovZone = s.dev.rft.ovZone.filter (fun o => o.1 != id)) ∧
  (∀ (t id : Nat) (s : State) (o : Override), s.dev.rft.ovSite = some o → expired o.noexp o.expiry s.dev.beat.count = true →
    s.dev.servesAsActive = true → s.dev.rft.sweeping = true → Completes (.c1Expired t 3 id) s fun d => d.rft.ovSite = none) ∧
  (∀ (t eid : Nat) (s : State) (n : Node), s.dev.nodeAt eid = some n → n.stat.drives = true → n.stat.refresh ≠ 0 →
    n.run.refreshTmr = 0 → n.run.c0Active = false →
    Completes (.refreshDue t eid) s fun d => ∃ n', d.nodeAt eid = some n' ∧ n'.run.pending = true) ∧
  (∀ (t eid j : Nat) (s : State), s.dev.rft.sweeping = true →
    (Completes (.waveHoldExpired t eid) s fun d => d.rft.nodes.length = s.dev.rft.nodes.length ∧
      ∀ k, k ≠ eid → d.nodeAt k = s.dev.nodeAt k) ∧
    (Completes (.edgeDelayElapsed t eid j) s fun d => d.rft.nodes.length = s.dev.rft.nodes.length ∧
      ∀ k, k ≠ eid → d.nodeAt k = s.dev.nodeAt k)) ∧
  (∀ (t eid : Nat) (s : State), Completes (.daylightStale t eid) s fun d => d.rft = s.dev.rft)

/-- PPS, PTP, leap seconds, time-stamp queues and timed outputs. -/
def Obligations.TimeEventsComplete : Prop :=
  (∀ (t : Nat) (s : State), s.dev.beat.running = false → Completes (.ppsEdge t) s fun d => d.tim = s.dev.tim) ∧
  (∀ (t : Nat) (s : State), s.dev.beat.running = true → s.dev.alwaysDedicated [40] = true → s.dev.sys.mstate ≠ .failsafe →
    s.dev.beat.source = .pps → mag (s.dev.atTime t).secondOffset ≤ 50000 →
    Completes (.ppsEdge t) s fun d => d.tim = s.dev.tim ∧ d.beat.count = s.dev.beat.count ∧
      d.beat.base = s.dev.beat.base ∧ d.beat.ppsAccepted = s.dev.beat.ppsAccepted + 1 ∧ d.beat.ppsRejected = 0) ∧
  (∀ (t : Nat) (port : Fin 10) (x : PtpPort) (t3 t4 : Nat) (s : State), s.dev.ptpEnabled port.val = true →
    (port.val < 8 → s.dev.plcaRole port.val = 1) →
    s.dev.beat.running = true → s.dev.sys.mstate ≠ .failsafe → s.dev.tim.ptp[port.val]? = some x → x.state = 4 →
    s.dev.get Reg.TIME_PTP_CFG.p2p = 1 →
    Completes (.ptpMessageRx t port (.delayResp t3 t4)) s fun d =>
      d.tim.ptp[port.val]? = some { x with delay := some (((t4 : Int) - (t3 : Int)) / 2) }) ∧
  (∀ (t : Nat) (port : Fin 10) (x : PtpPort) (t1 t2 : Nat) (s : State), s.dev.ptpEnabled port.val = true →
    (port.val < 8 → s.dev.plcaRole port.val = 1) →
    s.dev.beat.running = true → s.dev.sys.mstate ≠ .failsafe → s.dev.tim.ptp[port.val]? = some x → x.state = 4 → x.delay = none →
    Completes (.ptpMessageRx t port (.sync t1 t2)) s fun d =>
      d.tim.ptp[port.val]? = some { x with lastSync := some (t1, t2) }) ∧
  (∀ (t : Nat) (port : Fin 10) (k : PtpKind) (s : State), s.dev.ptpMaySend port.val k = true → s.dev.trk.length = 10 →
    Completes (.ptpMessageTx t port k) s fun d => (d.trkAt port.val).ptpOut = (s.dev.trkAt port.val).ptpOut ++ [ptpCode k]) ∧
  (∀ (t : Nat) (port : Fin 10) (x : PtpPort) (s : State), s.dev.tim.lockedPort = some port.val → s.dev.tim.ptp[port.val]? = some x →
    ((s.dev.atTime t).ptpOver x.measuredAt 8 (sext 4 (s.dev.get Reg.TIME_PTP_INTV.log_sync)) = true →
      Completes (.ptpSyncTimeout t port) s fun d => d.tim.lockedPort = none) ∧
    (s.dev.ptpEnabled port.val = true → (s.dev.atTime t).ptpOver x.announcedAt (s.dev.get Reg.TIME_PTP_INTV.ann_timeout)
        (sext 4 (s.dev.get Reg.TIME_PTP_INTV.log_announce)) = true →
      Completes (.ptpAnnounceTimeout t port) s fun d => d.tim.lockedPort = none)) ∧
  (∀ (t : Nat) (s : State), s.dev.get Reg.TIME_UTC.leap61 = 1 → Completes (.leapSecond t) s fun d =>
    d.tim.utcOffset = s.dev.tim.utcOffset + 1 ∧ d.get Reg.TIME_UTC.leap61 = 0 ∧ d.get Reg.TIME_STATUS.leap_pending = 0) ∧
  (∀ (t : Nat) (s : State), s.dev.get Reg.TIME_UTC.leap61 = 0 → s.dev.get Reg.TIME_UTC.leap59 = 1 →
    Completes (.leapSecond t) s fun d => d.tim.utcOffset = s.dev.tim.utcOffset - 1 ∧ d.get Reg.TIME_UTC.leap59 = 0) ∧
  (∀ (t : Nat) (m : Master) (s : State) (q : TsQueue), s.dev.tim.tsq[s.dev.get Reg.TIME_TSQ_SEL.port]? = some q →
    (s.dev.get Reg.TIME_TSQ_SEL.port ∉ (s.dev.atTime t).cyc.stamped → Completes (.tsqLatch t m) s fun d => d.tim.tsq[s.dev.get Reg.TIME_TSQ_SEL.port]? =
      some { q with latched := q.entries.headD ⟨0, 0, 0, 0⟩ }) ∧
    (q.entries.head? = some q.latched → Completes (.tsqPop t m) s fun d => d.tim.tsq[s.dev.get Reg.TIME_TSQ_SEL.port]? =
      some { q with entries := q.entries.drop 1, latched := ⟨0, 0, 0, 0⟩ })) ∧
  (∀ (t : Nat) (s : State), s.dev.beat.running = true → s.dev.get Reg.TIME_PPS_OUT.pps_en = 1 → s.dev.tim.lastStep = none →
    s.dev.quiet = false → (s.dev.atTime t).now % nsPerSec < 4 →
    Completes (.ppsOut t) s fun d => d.tim.ppsOutHigh = true ∧ d.tim.ppsOutAt = (s.dev.atTime t).now) ∧
  (∀ (t : Nat) (s : State), s.dev.tim.ppsOutAt + s.dev.get Reg.TIME_PPS_OUT.width_ms * 1000000 ≤ (s.dev.atTime t).now →
    Completes (.ppsOutEnd t) s fun d => d.tim.ppsOutHigh = false) ∧
  (∀ (t : Nat) (m : Master) (s : State) (x : Tpo), s.dev.tim.tpo[s.dev.get Reg.TIME_TPO_SEL.tpo]? = some x →
    (Completes (.tpoDisarm t m) s fun d => d.tim.tpo[s.dev.get Reg.TIME_TPO_SEL.tpo]? =
      some { x with armed := false, pulsing := false }) ∧
    ((4 ≤ x.width && x.period % 4 = 0 && x.period ≤ 4294967292 && (x.period = 0 || x.width < x.period)) = true →
      Completes (.tpoArm t m) s fun d => ∃ y, d.tim.tpo[s.dev.get Reg.TIME_TPO_SEL.tpo]? = some y ∧ y.armed = true ∧ y.bad = false)) ∧
  (∀ (t : Nat) (k : Fin 4) (s : State) (x : Tpo), s.dev.tim.tpo[k.val]? = some x → x.armed = true →
    (s.dev.atTime t).tpoDue x = true → s.dev.quiet = false →
    Completes (.tpoPulse t k) s fun d => d.tim.tpo[k.val]? = some { x with pulsing := true, rose := (s.dev.atTime t).now }) ∧
  (∀ (t : Nat) (k : Fin 4) (s : State) (x : Tpo), s.dev.tim.tpo[k.val]? = some x → x.pulsing = true →
    x.rose + x.width ≤ (s.dev.atTime t).now + 4 → Completes (.tpoPulseEnd t k) s fun d => d.tim.tpo[k.val]? =
      some { x with pulsing := false, armed := x.armed && x.period != 0 })

/-- The real-time clock's commands complete. -/
def Obligations.RtcCommandsComplete : Prop :=
  (∀ (t : Nat) (temp : Int) (s : State), s.dev.rtc.counting = true → s.dev.rtc.talmArmed = false →
    Completes (.rtcCompTick t temp) s fun d => d.get Reg.RTC_STATUS.temp = toTwos 8 temp ∧
      d.rtc.frac = (s.dev.rtc.frac + s.dev.curveAt temp * (262144 * 65536) / 1000000000) % 65536) ∧
  (∀ (t : Nat) (s : State), s.dev.rtc.counting = true → s.dev.rtc.talmArmed = false →
    Completes (.calSecond t) s fun d => d.rtc.ticks = (s.dev.rtc.ticks / 32768 + 1) * 32768 % 2 ^ 48 ∧
      ((s.dev.atTime t).cyc.calWas = [] → d.calNow = s.dev.calNow.tick)) ∧
  (∀ (t : Nat) (m : Master) (s : State), Completes (.calLoad t m) s fun d => d.rtc = s.dev.rtc ∧ d.calNow = s.dev.calStaged) ∧
  (∀ (t : Nat) (m : Master) (v : W32) (s : State),
    s.dev.rtc.ticks < s.dev.stagedHi (bankOf m) ⟨Reg.RTC_TALM_HI.word.key, 15, 0⟩ % 65536 * 2 ^ 32 + v.toNat →
    Completes (.tickAlarmArm t m v) s fun d => d.rtc.talmArmed = true ∧
      d.rtc.talmTarget = s.dev.stagedHi (bankOf m) ⟨Reg.RTC_TALM_HI.word.key, 15, 0⟩ % 65536 * 2 ^ 32 + v.toNat) ∧
  (∀ (t : Nat) (s : State), s.dev.rtc.talmArmed = true → s.dev.rtc.counting = true →
    Completes (.tickAlarm t) s fun d => d.rtc.talmArmed = false ∧ d.get Reg.RTC_IRQ_STATUS.talm = 1) ∧
  (∀ (t : Nat) (s : State), (Completes (.backupToMain t) s fun d => d.get Reg.RTC_STATUS.on_vbat = 0 ∧ d.rtc = s.dev.rtc) ∧
    (Completes (.backupToVbat t) s fun d => d.get Reg.RTC_STATUS.on_vbat = 1 ∧ d.rtc = s.dev.rtc)) ∧
  (∀ (t : Nat) (s : State), s.dev.get Reg.RTC_STATUS.on_vbat = 1 → Completes (.rtcLost t) s fun d => d.rtc.ticks = 0 ∧ d.rtc.talmArmed = false ∧
    d.get Reg.RTC_CAL_DATE.month = 1 ∧ d.get Reg.RTC_CAL_DATE.day = 1 ∧ d.get Reg.RTC_IRQ_STATUS.lost = 1) ∧
  (∀ (t key : Nat) (s : State) (x : Posted), s.dev.rtc.posted.find? (fun x => x.key == key) = some x → key = 0x080054 →
    Completes (.postedWriteCrossed t key) s fun d =>
      d.rtc.posted = s.dev.rtc.posted.filter (fun y => y.key != key) ∧
      d.rtc.curve = modifyAt s.dev.rtc.curve (s.dev.get Reg.RTC_COMP_SEL.point) (fun _ => sext 16 x.value)) ∧
  (∀ (t : Nat) (s : State), (Completes (.xtal32Fail t) s fun d => d.rtc.counting = false ∧ d.get Reg.CLK_STATUS.xtal32_ok = 0 ∧
      d.get Reg.CLK_FAIL.xtal32_fail = 1 ∧ d.get Reg.RTC_VALID.valid = 0) ∧
    (Completes (.xtal32Returned t) s fun d => d.rtc.counting = true ∧ d.get Reg.CLK_STATUS.xtal32_ok = 1))

/-- Metering, the ledger and the Sill. -/
def Obligations.MeterAndSillComplete : Prop :=
  (∀ (t : Nat) (c : Fin 4) (x : MeterCycle) (s : State) (k : MeterCfg) (len : Nat), s.dev.meterCfg c.val = some k →
    Dev.cycleLength k x = some len → s.dev.measured c.val = true →
    (let run := cycleSums k (s.dev.meterCh c.val).segment x.ahead (s.dev.mtr.paths.getD c.val ⟨0, 0, 0, 0⟩) ⟨0, 0, 0⟩ x.samples
     let f := cycleFigures k x.samples.length run.2
     Completes (.meterCycleEnd t c x) s fun d => d.get (Reg.MTR_VRMS.word c.val) = f.1 % 2 ^ 32 ∧
       d.get (Reg.MTR_IRMS.word c.val) = f.2.1 % 2 ^ 32 ∧ d.get (Reg.MTR_P.word c.val) = satTwos 32 (f.2.2.tdiv 100000) ∧
       d.mtr.paths = modifyAt s.dev.mtr.paths c.val (fun _ => run.1))) ∧
  (∀ (t : Nat) (c : Fin 4) (s : State), s.dev.measured c.val = true → (s.dev.meterCfg c.val).any (fun k => !k.dc) = true →
    Completes (.noZc t c) s fun d => bit (d.get Reg.MTR_STATUS.no_zc) c.val = true) ∧
  (∀ (t : Nat) (n : Fin 2) (s : State), s.dev.emittedOf n.val < s.dev.pulsesDue n.val → s.dev.pulseUsed n.val = true →
    s.dev.metersActive = true → s.dev.isState [.off, .failsafe] = false →
    (s.dev.mtr.lastEdge.getD n.val 0 = 0 ∨ s.dev.mtr.lastEdge.getD n.val 0 + 60000000 ≤ (s.dev.atTime t).now) →
    Completes (.pulseEmit t n) s fun d => d.mtr.emitted = modifyAt s.dev.mtr.emitted n.val (· + 1) ∧
      d.mtr.lastEdge = modifyAt s.dev.mtr.lastEdge n.val (fun _ => (s.dev.atTime t).now)) ∧
  (∀ (t : Nat) (n : Fin 2) (s : State), s.dev.mtr.lastEdge.getD n.val 0 + 30000000 ≤ (s.dev.atTime t).now → Completes (.pulseEnd t n) s fun d =>
    bit (d.get Reg.MTR_STATUS.pout_active) n.val = false ∧ d.mtr = s.dev.mtr) ∧
  (∀ (t : Nat) (c : Fin 4) (s : State) (ch : MeterCh), s.dev.isState [.off, .failsafe] = false →
    (s.dev.meterCfg c.val).any (fun k => k.s0 != 0) = true → s.dev.mtr.ch[c.val]? = some ch →
    Completes (.s0Pulse t c) s fun d => d.mtr.ch[c.val]? = some { ch with s0 := (ch.s0 + 1) % 2 ^ 32 }) ∧
  (∀ (t : Nat) (c : Fin 4) (s : State) (k : MeterCfg), s.dev.isState [.off, .failsafe] = false → s.dev.meterCfg c.val = some k →
    k.reconMin ≠ 0 → s.dev.metersActive = true → bit (s.dev.meterCh c.val).flags 3 = true →
    ((s.dev.meterCh c.val).start / (k.reconMin * 60) + 1) * (k.reconMin * 60) ≤ (s.dev.atTime t).nowSec →
    Completes (.reconIntervalEnd t c) s fun d => d.mtr.number = s.dev.mtr.number + 1 ∧ d.get Reg.MTR_IRQ_STATUS.record = 1) ∧
  (∀ (t : Nat) (s : State), s.dev.mtr.cfg.isSome = true → s.dev.isState [.off, .boot, .failsafe] = false →
    Completes (.accSave t) s fun d => d.mtr.lastSave = (s.dev.atTime t).now) ∧
  (∀ (t : Nat) (m : Master) (c : Fin 4) (s : State), Completes (.mtrFastRead t m c) s fun d =>
    d.mtr.wraps = s.dev.mtr.wraps.filter (fun w => !(w.1 == bankOf m && w.2.1 == c.val))) ∧
  (∀ (t : Nat) (m : Master) (v : W32) (s : State), Completes (.arcFetch t m v) s fun d =>
    d.get Reg.MTR_ARC_STATUS.busy = 1 ∧ d.get Reg.MTR_ARC_SEL_LO.word = v.toNat) ∧
  (∀ (t : Nat) (s : State), s.dev.get Reg.MTR_ARC_STATUS.busy = 1 → Completes (.arcFetchDone t) s fun d =>
    d.get Reg.MTR_ARC_STATUS.busy = 0 ∧ d.get Reg.MTR_IRQ_STATUS.fetched = 1 ∧ d.mtr = s.dev.mtr) ∧
  (∀ (t : Nat) (m : Master) (s : State), s.dev.pwr.pf = none → s.dev.sys.mstate = .ready →
    s.dev.get (Reg.SIL_LPOST_EID.eid (bankOf m)) < s.dev.nodeCount →
    (let v := s.dev.get (Reg.SIL_LPOST_VAL_HI.word (bankOf m)) * 2 ^ 32 + s.dev.get (Reg.SIL_LPOST_VAL_LO.word (bankOf m))
     let eid := s.dev.get (Reg.SIL_LPOST_EID.eid (bankOf m))
     (Completes (.addEnergy t m) s fun d => d.mem = ((s.dev.atTime t).applyPost 1 eid v).mem ∧
       d.get (Reg.SIL_LPOST_STATUS.status (bankOf m)) = ST_OK) ∧
     (v < 2 ^ 32 → Completes (.addRun t m) s fun d => d.mem = ((s.dev.atTime t).applyPost 2 eid v).mem ∧
       d.get (Reg.SIL_LPOST_STATUS.status (bankOf m)) = ST_OK) ∧
     (Completes (.setCredit t m) s fun d => d.mem = ((s.dev.atTime t).applyPost 3 eid v).mem ∧
       d.get (Reg.SIL_LPOST_STATUS.status (bankOf m)) = ST_OK))) ∧
  (∀ (t : Nat) (m : Master) (v : W32) (s : State),
    (let addr := bits (s.dev.get (Reg.SIL_JW_ADDR_HI.word (bankOf m))) 7 0 * 2 ^ 32 + s.dev.get (Reg.SIL_JW_ADDR_LO.word (bankOf m))
     0x8000 ≤ bits v.toNat 31 16 → bits v.toNat 13 0 ≤ 8192 → inSramOrLpddr addr (bits v.toNat 13 0) = true →
     s.dev.sil.current.isSome = true → Completes (.silJwWrite t m v) s fun d => d.get (Reg.SIL_JW_STATUS.busy (bankOf m)) = 1 ∧
       d.sil.queue = s.dev.sil.queue ++ [JReq.mk .app (.application (bits v.toNat 31 16) (s.dev.mem.readN addr (bits v.toNat 13 0)))
         (bankOf m)])) ∧
  (∀ (t : Nat) (s : State) (r : JReq), s.dev.sil.current = some r → s.dev.sil.queue = [] →
    (s.dev.sil.readOnly = false ∨ r.val.typeKey.1 ≤ 3) → s.dev.ringRoom r.val = true → s.dev.pwr.pf = none →
    Completes (.journalRecordDone t) s fun d => d.sil = { s.dev.sil.append r.val with current := none } ∧
      d.inForce r.val.typeKey.1 r.val.typeKey.2 = some r.val) ∧
  (∀ (t : Nat) (s : State), s.dev.sil.mounted = true → ∀ corrected bad : List Nat,
    Completes (.scrubBlock t corrected bad) s fun d =>
    d.get Reg.SIL_SCRUB.block = (if s.dev.get Reg.SIL_SCRUB.block < 4095 then s.dev.get Reg.SIL_SCRUB.block + 1 else 0)) ∧
  (∀ (t part block : Nat) (s : State), Completes (.nandRefresh t part block true) s fun d =>
    d.get Reg.SIL_NAND.reserve_free = s.dev.get Reg.SIL_NAND.reserve_free - 1 ∧ d.get Reg.SIL_IRQ_STATUS.nand_retired = 1)

/-- Links open, close, resume and time out. -/
def Obligations.LinkCommandsComplete : Prop :=
  (∀ (t : Nat) (r : Fin 4) (m : Master) (s : State), s.dev.rad.length = 4 →
    (let d0 := s.dev.atTime t
     let idx := d0.selectedLink r.val (bankOf m)
     let c := d0.stagedRadio r.val (bankOf m)
     d0.linkGate r.val = ST_OK → d0.indexOk r.val idx = true →
     d0.radioParams r.val c (d0.get (Reg.RAD_LINK_FC.word r.val (bankOf m))) = true →
     (d0.useKey c.keyId masterRadio useRadioLink).1 = ST_OK →
     (d0.findLink r.val idx = none → Completes (.radLinkOpen t r m) s fun d =>
       d.get (Reg.RAD_LINK_STATUS.status r.val (bankOf m)) = ST_OK ∧
       ∃ l, d.findLink r.val idx = some l ∧ l.lost = false ∧ l.cfg = c ∧ l.frames = [] ∧ l.txSeq = 0) ∧
     (∀ o, d0.findLink r.val idx = some o → o.lost = true → Completes (.radLinkResume t r m) s fun d =>
       d.get (Reg.RAD_LINK_STATUS.status r.val (bankOf m)) = ST_OK ∧
       ∃ l, d.findLink r.val idx = some l ∧ l.lost = false ∧ l.frames = o.frames.map (fun f => { f with sends := 0 }) ∧ l.txSeq = o.txSeq))) ∧
  (∀ (t : Nat) (p : Fin 10) (m : Master) (s : State), s.dev.trk.length = 10 →
    (let d0 := s.dev.atTime t
     let md := portMedium p.val
     let idx := d0.selectedLink md (bankOf m)
     let c := d0.stagedWired p.val (bankOf m)
     d0.linkGate md = ST_OK → d0.indexOk md idx = true →
     Dev.wiredParams c (d0.get (Reg.TRK_LINK_FC.word (trkWindow p.val) (bankOf m))) = true →
     (d0.useKey c.keyId masterTrunk useTrunkLink).1 = ST_OK →
     (d0.findLink md idx = none → Completes (.trkLinkOpen t p m) s fun d =>
       d.get (Reg.TRK_LINK_STATUS.status (trkWindow p.val) (bankOf m)) = ST_OK ∧
       ∃ l, d.findLink md idx = some l ∧ l.lost = false ∧ l.cfg = c ∧ l.frames = [] ∧ l.txSeq = 0) ∧
     (∀ o, d0.findLink md idx = some o → o.lost = true → Completes (.trkLinkResume t p m) s fun d =>
       d.get (Reg.TRK_LINK_STATUS.status (trkWindow p.val) (bankOf m)) = ST_OK ∧
       ∃ l, d.findLink md idx = some l ∧ l.lost = false ∧ l.frames = o.frames.map (fun f => { f with sends := 0 }) ∧ l.txSeq = o.txSeq))) ∧
  (∀ (t : Nat) (r : Fin 4) (m : Master) (report : Bool) (s : State), s.dev.rad.length = 4 → s.dev.linkGate r.val = ST_OK →
    (s.dev.findLink r.val (s.dev.selectedLink r.val (bankOf m))).isSome = true →
    Completes (.radLinkClose t r m report) s fun d => d.findLink r.val (s.dev.selectedLink r.val (bankOf m)) = none ∧
      d.get (Reg.RAD_LINK_STATUS.status r.val (bankOf m)) = ST_OK) ∧
  (∀ (t : Nat) (p : Fin 10) (m : Master) (report : Bool) (s : State), s.dev.trk.length = 10 →
    s.dev.linkGate (portMedium p.val) = ST_OK →
    (s.dev.findLink (portMedium p.val) (s.dev.selectedLink (portMedium p.val) (bankOf m))).isSome = true →
    Completes (.trkLinkClose t p m report) s fun d =>
      d.findLink (portMedium p.val) (s.dev.selectedLink (portMedium p.val) (bankOf m)) = none ∧
      d.get (Reg.TRK_LINK_STATUS.status (trkWindow p.val) (bankOf m)) = ST_OK) ∧
  (∀ (t link : Nat) (md : Fin 14) (s : State) (l : Link), s.dev.rad.length = 4 → s.dev.trk.length = 10 →
    s.dev.findLink md.val link = some l → l.lost = false → l.lastRx + l.cfg.supervision ≤ s.dev.beat.count →
    Completes (.linkSupervisionTimeout t md link) s fun d => ∃ l', d.findLink md.val link = some l' ∧ l'.lost = true ∧ l'.cause = 1) ∧
  (∀ (t link : Nat) (r : Fin 4) (s : State) (x : EventRun), s.dev.rad.length = 4 → (s.dev.radAt r.val).event = some x → x.link = link →
    (Completes (.linkEventEnd t r link) s fun d => (d.radAt r.val).event = none) ∧
    (∀ l, s.dev.findLink r.val link = some l → l.awaiting = true → (s.dev.atTime t).answerBy r.val ≤ (s.dev.atTime t).now →
      Completes (.linkAnswerTimeout t r link) s fun d => (d.radAt r.val).event = none ∧
        ∃ l', d.findLink r.val link = some l' ∧ l'.sentNow = 0 ∧ l'.awaiting = false)) ∧
  (∀ (t link : Nat) (r : Fin 4) (s : State) (l : Link) (p : RadPlan), s.dev.rad.length = 4 → s.dev.findLink r.val link = some l →
    (s.dev.radAt r.val).plan = some p → l.lost = false → s.dev.linksRun = true → s.dev.mediumPresent r.val = true →
    s.dev.mediumTested r.val = false → s.dev.eventDue l = true →
    (let d0 := s.dev.atTime t
     let start := d0.eventStart r.val (d0.beat.base + l.cfg.anchorUs * 1000)
     ((s.dev.radAt r.val).event.isSome = true →
      Completes (.linkEvent t r link) s fun d => (∃ l', d.findLink r.val link = some l' ∧ l'.event = l.event + 1) ∧
        d.get (Reg.RAD_CNT.word r.val 12) = min (s.dev.get (Reg.RAD_CNT.word r.val 12) + 1) (2 ^ 32 - 1)) ∧
     (start ≤ d0.beat.base + l.cfg.anchorUs * 1000 + 500000 → (s.dev.radAt r.val).event = none → (s.dev.radAt r.val).waking = none →
      ((s.dev.radAt r.val).claimed = false ∨ 2000 ≤ l.cfg.anchorUs) →
      (l.cfg.wake = true → dwellRefuses (s.dev.radAt r.val) p.wakeCh p.mode 32080 false = none →
       Completes (.linkEvent t r link) s fun d => (∃ l', d.findLink r.val link = some l' ∧ l'.event = l.event + 1) ∧
         (d.radAt r.val).waking = some ⟨link, Dev.eventChannel l p, start + 32000000⟩ ∧
         (d.radAt r.val).busyUntil = start + 32080000) ∧
      (l.cfg.wake = false → Completes (.linkEvent t r link) s fun d =>
         d.rad = ((d0.updLink r.val link (fun l => { l with event := l.event + 1 })).later (start - d0.beat.base)
           (fun d => d.beginEvent r.val link (Dev.eventChannel l p) l.cfg.eventLen)).rad)))) ∧
  (∀ (t link : Nat) (p : Fin 10) (s : State) (l : Link), s.dev.trk.length = 10 → s.dev.findLink (portMedium p.val) link = some l →
    l.lost = false → l.sentNow ≠ 0 → l.markAt + l.cfg.ackTimeout * 100000 ≤ (s.dev.atTime t).now →
    (Completes (.wiredAckTimeout t p link) s fun d => ∃ l', d.findLink (portMedium p.val) link = some l' ∧
      (if l.frames.head?.any (fun f => f.sends ≥ l.cfg.maxRetries + 1) then l'.lost = true ∧ l'.cause = 2
       else l'.lost = false ∧ l'.sentNow = 0))) ∧
  (∀ (t link : Nat) (p : Fin 10) (s : State) (l : Link), s.dev.trk.length = 10 → s.dev.findLink (portMedium p.val) link = some l →
    l.lost = false → l.lastTx + l.cfg.keepalive ≤ s.dev.beat.count →
    Completes (.keepalive t p link) s fun d => ∃ l', d.findLink (portMedium p.val) link = some l' ∧ l'.ackDue = true ∧ l'.awaiting = true)

/-- Media: airtime, taking items, frames and beacons. -/
def Obligations.MediumCommandsComplete : Prop :=
  (∀ (t : Nat) (r : Fin 4) (kind index : Nat) (s : State), s.dev.rad.length = 4 → Completes (.dwellBinAdvance t r kind index) s fun d =>
    (d.radAt r.val).accs = ((s.dev.radAt r.val).settledAt (s.dev.atTime t).now).accs.map (fun a : DwellAcc =>
      if a.kind = kind ∧ a.index = index then { a with bins := 0 :: a.bins.take 32, noted := false } else a)) ∧
  (∀ (t : Nat) (md : Fin 14) (s : State) (i : JItem) (d' : Dev), s.dev.joistRuns = true → s.dev.mediumPresent md.val = true →
    (s.dev.atTime t).takeForConsumer md.val = some (i, d') → (s.dev.atTime t).mirrorHeld i = false →
    ((md.val < 12 ∨ i.producer = producerEngine ∨ bits (i.words.headD 0) 15 0 ≠ 0xFFFF) →
     (if md.val < 4 then (s.dev.atTime t).ringFits md.val (Dev.radioItemSize i) = true
      else ∀ n, (s.dev.atTime t).wiredItemSize (md.val - 4) i = some n → (s.dev.atTime t).ringFits md.val n = true) →
     Completes (.txItemTake t md) s fun d => d.jst = { d'.jst with service := d'.jst.service.erase (Service.mk md.val i) }) ∧
    (12 ≤ md.val → i.producer ≠ producerEngine → bits (i.words.headD 0) 15 0 = 0xFFFF → s.dev.trk.length = 10 →
     (s.dev.trkAt (md.val - 4)).launch.length < 16 → 60 ≤ bits (i.words.headD 0) 26 16 → bits (i.words.headD 0) 26 16 ≤ 1518 →
     bit (i.words.headD 0) 28 = false → Completes (.txItemTake t md) s fun d => d.jst = d'.jst ∧
       (d.trkAt (md.val - 4)).raw.map (·.item) = (s.dev.trkAt (md.val - 4)).raw.map (·.item) ++ [i])) ∧
  (∀ (t : Nat) (r : Fin 4) (f : RadioRx) (s : State) (p : RadPlan), (s.dev.radAt r.val).plan = some p →
    bit (s.dev.get Reg.BST_UNIT0.radios) r.val = true → s.dev.mediumTested r.val = false → (s.dev.atTime t).mainReceiver r.val = true →
    f.phrOk = true → f.fcsOk = true →
    16 ≤ f.psdu.length → f.psdu.length ≤ 62 → byteAt f.psdu 0 % 16 = 5 → byteAt f.psdu 1 = 1 → fieldLE f.psdu 2 2 = p.netId →
    bits (fieldLE f.psdu 4 2) 11 10 = r.val →
    Completes (.radioFrameRx t r f) s fun d =>
      (let d0 := s.dev.atTime t
       let st := d0.rxStamp f.sfdAgo
       let x := d0.deliverRx p.rxQueue 0x3FFFF (producerRadio r.val) (Dev.rxWords st.1 st.2 0xFFFF (byteAt f.psdu 0) (f.psdu.length - 16)
         f.rssi f.channel (fieldLE f.psdu 6 2) (f.psdu.drop 16))
       d.jst = x.1.jst)) ∧
  (∀ (t : Nat) (r : Fin 4) (f : RadioRx) (s : State) (p : RadPlan), (s.dev.radAt r.val).plan = some p →
    bit (s.dev.get Reg.BST_UNIT0.radios) r.val = true → s.dev.mediumTested r.val = false → (s.dev.atTime t).mainReceiver r.val = true →
    f.phrOk = true → f.fcsOk = false →
    Completes (.radioFrameRx t r f) s fun d => d.jst = s.dev.jst ∧ d.rad = s.dev.rad ∧
      d.get (Reg.RAD_CNT.word r.val 3) = min (s.dev.get (Reg.RAD_CNT.word r.val 3) + 1) (2 ^ 32 - 1)) ∧
  (∀ (t : Nat) (r : Fin 4) (s : State) (p : RadPlan), s.dev.rad.length = 4 → (s.dev.radAt r.val).plan = some p → s.dev.linksRun = true →
    s.dev.mediumPresent r.val = true → s.dev.mediumTested r.val = false → beaconBeat p s.dev.beat.count = true →
    (s.dev.atTime t).beat.sinceBase / 1000 = p.beaconOffset → (s.dev.radAt r.val).beaconBeat ≠ some s.dev.beat.count →
    (let d0 := (s.dev.atTime t).setRad r.val (fun x => { x with beaconBeat := some s.dev.beat.count })
     let k := d0.useKey p.bcastKey masterRadio useBroadcast
     let b := k.2.2.broadcast r.val k.2.1 Dev.fcBeacon k.2.2.beaconPayload
     let ch := maskTurn p.beaconMap (s.dev.beat.count / p.beaconPeriod)
     k.1 = ST_OK → (s.dev.radAt r.val).event = none → (k.2.2.tryAir r.val ch p.mode p.preamble b.1).1 = .sent →
     Completes (.beaconTx t r) s fun d => (d.radAt r.val).beaconBeat = some s.dev.beat.count ∧
       (d.radAt r.val).bcastFc = (s.dev.radAt r.val).bcastFc + 1 ∧ d.rft = s.dev.rft ∧ d.jst = s.dev.jst ∧
       (d.radAt r.val).air = (s.dev.radAt r.val).air ++
         [⟨ch, p.mode, p.preamble, txPower (s.dev.radAt r.val) ch p.mode, onAir b.1, (s.dev.atTime t).now⟩])) ∧
  (∀ (t : Nat) (r : Fin 4) (addr rssi : Nat) (s : State) (p : RadPlan), s.dev.rad.length = 4 → (s.dev.radAt r.val).plan = some p →
    p.wakeRx = true → addr = p.wakeAddr → bit (s.dev.get Reg.BST_UNIT0.radios) r.val = true →
    Completes (.wake t r addr rssi) s fun d => (d.radAt r.val).wakeHold = true ∧
      (d.radAt r.val).wakeUntil = (s.dev.atTime t).now + p.wakeHold * 1000000) ∧
  (∀ (t : Nat) (r : Fin 4) (s : State), s.dev.rad.length = 4 → (s.dev.radAt r.val).wakeUntil ≤ (s.dev.atTime t).now → Completes (.wakeHoldExpired t r) s fun d => (d.radAt r.val).wakeHold = false) ∧
  (∀ (t : Nat) (p : Fin 10) (f : WiredRx) (s : State), s.dev.portUp p.val = true → s.dev.mediumTested (portMedium p.val) = false →
    (8 ≤ p.val ∨ s.dev.plcaRole p.val ≠ 0) → f.fcsOk = false →
    Completes (.wiredFrameRx t p f) s fun d => d.jst = s.dev.jst ∧ d.mem = s.dev.mem ∧
      d.get (Reg.TRK_CNT.word (trkWindow p.val) 3) = min (s.dev.get (Reg.TRK_CNT.word (trkWindow p.val) 3) + 1) (2 ^ 32 - 1)) ∧
  (∀ (t : Nat) (p : Fin 10) (f : WiredRx) (s : State), 8 ≤ p.val → s.dev.portUp p.val = true →
    s.dev.mediumTested (portMedium p.val) = false → f.fcsOk = true → 60 ≤ f.frame.length →
    f.frame.length + 4 ≤ s.dev.maxFrame (portMedium p.val) → beNat (slice f.frame 12 2) = 0x8808 → beNat (slice f.frame 14 2) = 1 →
    Completes (.wiredFrameRx t p f) s fun d => d.jst = s.dev.jst ∧
      d.trk = ((s.dev.atTime t).pauseRx p.val (beNat (slice f.frame 16 2))).trk) ∧
  (∀ (t : Nat) (p : Fin 10) (f : WiredRx) (s : State), 8 ≤ p.val → s.dev.portUp p.val = true →
    s.dev.mediumTested (portMedium p.val) = false → f.fcsOk = true → 60 ≤ f.frame.length →
    f.frame.length + 4 ≤ s.dev.maxFrame (portMedium p.val) → beNat (slice f.frame 12 2) = 0x0800 →
    s.dev.get (Reg.TRK_WAKE_CTRL.sleep (trkWindow p.val)) = 0 →
    Completes (.wiredFrameRx t p f) s fun d => d.mem = ((s.dev.atTime t).rawRx p.val f).mem ∧
      d.jst = ((s.dev.atTime t).rawRx p.val f).jst)

/-- The trunks and ports' commands complete. -/
def Obligations.WiredCommandsComplete : Prop :=
  (∀ (t us : Nat) (p : Fin 8) (s : State), s.dev.plcaRole p.val ≠ 0 → Completes (.plcaCycleEnd t p us) s fun d =>
    d.get (Reg.TRK_CYCLE.last_us p.val) = min us 65535 ∧ (s.dev.trk.length = 10 → s.dev.plcaRole p.val ≠ 3 →
      (s.dev.atTime t).cycleTooLong p.val = true → (d.trkAt p.val).idle = true)) ∧
  (∀ (t src : Nat) (p : Fin 8) (s : State), (s.dev.plcaRole p.val = 1 ∨ s.dev.plcaRole p.val = 2) →
    Completes (.plcaConflict t p src) s fun d => d.get (Reg.TRK_STATUS.plca_conflict p.val) = 1 ∧
      d.get (Reg.TRK_IRQ_STATUS.plca_conflict p.val) = 1) ∧
  (∀ (t : Nat) (p : Fin 8) (s : State), s.dev.trk.length = 10 → s.dev.plcaRole p.val = 3 → s.dev.c0Due p.val ≠ [] →
    (s.dev.trkAt p.val).silent = false → s.dev.quiet = false → (s.dev.trkAt p.val).heard = false →
    100000 ≤ (s.dev.atTime t).beat.sinceBase → Completes (.plcaStandin t p) s fun d => (d.trkAt p.val).silent = true ∧ d.get (Reg.TRK_GATE.window p.val) = 0) ∧
  (∀ (t : Nat) (p : Fin 10) (s : State) (c : C0Send) (rest : List C0Send), s.dev.trk.length = 10 → 8 ≤ p.val →
    s.dev.quiet = false → s.dev.portUp p.val = true → s.dev.mediumTested (portMedium p.val) = false → s.dev.c0Tested (portMedium p.val) = false →
    (s.dev.trkAt p.val).sending = none → (s.dev.trkAt p.val).pauseEnd ≤ (s.dev.atTime t).now → s.dev.c0Due p.val = c :: rest →
    Completes (.txOpportunity t p) s fun d => (d.trkAt p.val).sending = some .plain ∧
      (d.trkAt p.val).wire = (s.dev.trkAt p.val).wire ++ [macFrame c.bytes] ∧
      d.get (Reg.TRK_GATE.window (trkWindow p.val)) = b2n !rest.isEmpty) ∧
  (∀ (t : Nat) (p : Fin 10) (s : State), s.dev.trk.length = 10 → p.val < 8 → s.dev.plcaRole p.val = 2 → s.dev.quiet = false →
    s.dev.portUp p.val = true → s.dev.mediumTested (portMedium p.val) = false → s.dev.c0Tested (portMedium p.val) = false →
    (s.dev.trkAt p.val).silent = false → (s.dev.trkAt p.val).idle = false →
    Completes (.txOpportunity t p) s fun d => (d.trkAt p.val).wire = (s.dev.trkAt p.val).wire ++
      (s.dev.c0Due p.val).map (fun c => macFrame c.bytes) ∧ d.get (Reg.TRK_GATE.window (trkWindow p.val)) = 0) ∧
  (∀ (t entry : Nat) (p : Fin 10) (s : State) (e : GateEntry), (s.dev.trkAt p.val).gates[entry]? = some e →
    e.start * 1000 ≤ (s.dev.atTime t).beat.sinceBase →
    Completes (.gateEntry t p entry) s fun d => d.get (Reg.TRK_GATE.gates (trkWindow p.val)) = e.gates % 16) ∧
  (∀ (t speed : Nat) (p : Fin 2) (up : Bool) (s : State), Completes (.portLink t p up speed) s fun d =>
    d.get (Reg.TRK_STATUS.link_up (14 + p.val)) = b2n (up && (speed == 1 || speed == 2))) ∧
  (∀ (t quanta : Nat) (p : Fin 10) (s : State), s.dev.trk.length = 10 → 8 ≤ p.val →
    s.dev.get (Reg.TRK_GBE_CFG.pause_en (trkWindow p.val)) = 1 → quanta ≠ 0 → (s.dev.trkAt p.val).sending = none →
    Completes (.pauseRx t p quanta) s fun d => (d.trkAt p.val).pauseEnd =
      (s.dev.atTime t).now + quanta * 64 * s.dev.byteNs p.val ∧ d.get (Reg.TRK_STATUS.pause_active (trkWindow p.val)) = 1) ∧
  (∀ (t : Nat) (p : Fin 10) (s : State), s.dev.trk.length = 10 → s.dev.get (Reg.TRK_STATUS.pause_active (trkWindow p.val)) = 1 →
    (s.dev.trkAt p.val).pauseEnd ≤ (s.dev.atTime t).now → Completes (.pauseExpired t p) s fun d => (d.trkAt p.val).pauseEnd = 0 ∧
      d.get (Reg.TRK_STATUS.pause_active (trkWindow p.val)) = 0) ∧
  (∀ (t q : Nat) (p : Fin 10) (s : State), s.dev.trk.length = 10 → q ≠ 0 →
    bit (s.dev.get (Reg.TRK_GBE_CFG.pfc_mask (trkWindow p.val))) 0 = true →
    Completes (.pfcRx t p 1 [q]) s fun d => (d.trkAt p.val).pfcEnd =
      (s.dev.trkAt p.val).pfcEnd.filter (fun x => x.1 != 0) ++ [(0, (s.dev.atTime t).now + q * 64 * s.dev.byteNs p.val)]) ∧
  (∀ (t : Nat) (p : Fin 2) (v : W32) (s : State), s.dev.trk.length = 10 →
    (Completes (.rawSlotFree t p v) s fun d => (d.trkAt (8 + p.val)).usedSlots =
      (s.dev.trkAt (8 + p.val)).usedSlots.filter (fun i => i != v.toNat % 1024)) ∧
    (Completes (.rawCfgWrite t p v) s fun d => (d.trkAt (8 + p.val)).usedSlots = [] ∧
      d.get (Reg.TRK_RAW_CFG.slots (14 + p.val)) = bits v.toNat 10 0)) ∧
  (∀ (t : Nat) (v : W32) (s : State), s.dev.trk.length = 10 → s.dev.get (Reg.TRK_MDIO_CMD.busy 14) = 0 →
    1 ≤ bits v.toNat 30 28 → bits v.toNat 30 28 ≤ 5 → Completes (.mdioCmd t v) s fun d =>
      d.get (Reg.TRK_MDIO_CMD.busy 14) = 1 ∧ (d.trkAt 8).mdioOp = bits v.toNat 30 28) ∧
  (∀ (t data : Nat) (s : State), s.dev.get (Reg.TRK_MDIO_CMD.busy 14) = 1 → (s.dev.trkAt 8).mdioOp = 2 →
    Completes (.mdioDone t data) s fun d => d.get (Reg.TRK_MDIO_CMD.busy 14) = 0 ∧
      d.get (Reg.TRK_MDIO_DATA.data 14) = data % 65536) ∧
  (∀ (t : Nat) (p : Fin 10) (s : State), s.dev.trk.length = 10 → (s.dev.trkAt p.val).sending = some .plain →
    (s.dev.trkAt p.val).pauseDeferred = none → Completes (.lastByteSent t p) s fun d => (d.trkAt p.val).sending = none) ∧
  (∀ (t : Nat) (p : Fin 10) (s : State) (r : RawTx), s.dev.trk.length = 10 → 8 ≤ p.val →
    ((s.dev.trkAt p.val).launch.filter (fun r => r.launch ≤ (s.dev.atTime t).now)).head? = some r →
    (s.dev.trkAt p.val).sending = none → (s.dev.trkAt p.val).pauseEnd ≤ (s.dev.atTime t).now → s.dev.portUp p.val = true →
    s.dev.get (Reg.TRK_GATE.window (trkWindow p.val)) = 0 → (s.dev.atTime t).gateOpen p.val 3 (r.len + 4) = true →
    (s.dev.atTime t).pfcHeld p.val ((s.dev.atTime t).rawPcp r) = false → s.dev.quiet = false →
    Completes (.timedLaunch t p) s fun d => (d.trkAt p.val).sending.isSome = true ∧
      (d.trkAt p.val).launch = (s.dev.trkAt p.val).launch.filter (fun x => x.item != r.item))

/-- The clock monitors' commands complete. -/
def Obligations.ClockCommandsComplete : Prop :=
  (∀ (t : Nat) (pll : Bool) (s : State), s.dev.sys.mstate ≠ .off → s.dev.pwr.failedAt = none → s.dev.pwr.stopped = false →
    (s.dev.pwr.rcFailed = true → Completes (.mainClockFail t pll) s fun d => d.pwr.stopped = true ∧ d.beat.running = false ∧
      d.lgt.safe = true ∧ d.lnd.safe = true) ∧
    (s.dev.pwr.rcFailed = false → s.dev.pwr.pf = none → Completes (.mainClockFail t pll) s fun d => d.sys.mstate = .failsafe ∧
      d.beat.running = false ∧ d.get Reg.CLK_STATUS.sys_src = 1 ∧ d.lgt.safe = true ∧ d.lnd.safe = true ∧
      d.get Reg.SYS_C0_SUSPEND.media = 0x3FFF)) ∧
  (∀ (t since : Nat) (straps : Fin 8) (s : State), s.dev.sys.mstate ≠ .off → s.dev.pwr.failedAt = some since → s.dev.pwr.stopped = false →
    (s.dev.pwr.pf = none → Completes (.mainClockReturned t straps) s fun d => d.sys.mstate = .boot ∧ d.sys.warm = false ∧
      d.pwr.failedAt = none ∧ d.get Reg.CLK_STATUS.xtal40_ok = 1 ∧ d.get Reg.CLK_STATUS.sys_src = 0) ∧
    (∀ r, s.dev.pwr.pf = some r → Completes (.mainClockReturned t straps) s fun d => d.pwr.failedAt = none ∧
      d.sys.mstate = s.dev.sys.mstate ∧ d.get Reg.CLK_STATUS.pll_lock = 1)) ∧
  (∀ (t : Nat) (err : Int) (s : State), s.dev.sys.mstate ≠ .off → s.dev.mainClockRuns = true → s.dev.get Reg.CLK_STATUS.rc_ok = 1 →
    (err < -500 ∨ 500 < err) →
    Completes (.rcFail t err) s fun d => d.pwr.rcFailed = true ∧ d.get Reg.CLK_STATUS.rc_ok = 0 ∧ d.get Reg.CLK_FAIL.rc_fail = 1 ∧
      d.get Reg.CLK_STATUS.trimmed = 0 ∧ d.get Reg.USB_STATE.attached = 0 ∧ d.sys = s.dev.sys ∧
      (s.dev.get Reg.USB_STATE.attached = 1 → d.get Reg.USB_STATE.configured = 0 ∧ d.get Reg.USB_IRQ_STATUS.attach = 1)) ∧
  (∀ (t cycles : Nat) (s : State), s.dev.sys.mstate ≠ .off → s.dev.get Reg.CLK_STATUS.xtal40_ok = 1 → s.dev.get Reg.CLK_STATUS.rc_ok = 1 →
    Completes (.rcTrimCount t 0 cycles) s fun d => d.get Reg.CLK_STATUS.trimmed = 1 ∧ d.get Reg.CLK_STATUS.trim_ref = 3 ∧
      d.get Reg.CLK_RC_TRIM.code ≤ s.dev.get Reg.CLK_RC_TRIM.code + 4 ∧ s.dev.get Reg.CLK_RC_TRIM.code ≤ d.get Reg.CLK_RC_TRIM.code + 4) ∧
  (∀ (t mux : Nat) (source : Fin 2) (s : State),
    s.dev.sourceRuns source.val = true → s.dev.sourceRuns (s.dev.muxAt mux) = false →
      (Completes (.muxSwitchRequest t mux source) s fun d => d.pwr.muxes = s.dev.pwr.muxes) ∧
      Completes (.swForced t mux source) s fun d => d.muxAt mux = source.val ∧ d.get Reg.CLK_FAIL.sw_forced = 1)

/-- The supply's commands complete. -/
def Obligations.PowerCommandsComplete : Prop :=
  (∀ (t vin : Nat) (straps : Fin 8) (s : State), 9000 ≤ vin →
    (s.dev.pwr.pf = none → s.dev.sys.mstate = .off → s.dev.pwr.heldOff = false →
      Completes (.powerOn t straps vin) s fun d => d.sys.mstate = (if s.dev.pwr.rstLow then .off else .boot) ∧ d.pwr.vinLow = false ∧
        d.get Reg.PWR_VIN.mv = min vin 65535) ∧
    (∀ r, s.dev.pwr.pf = some r → r.vinReturned = none → Completes (.powerOn t straps vin) s fun d =>
      d.pwr.pf = some { r with vinReturned := some straps.val } ∧ d.sys.mstate = s.dev.sys.mstate)) ∧
  (∀ (t vin vhold : Nat) (s : State), s.dev.sys.mstate ≠ .off → s.dev.pwr.pf = none → s.dev.get Reg.PWR_STATUS.pf_armed = 1 →
    (s.dev.pwr.stopped = false → s.dev.sil.mounted = false → Completes (.powerFail t vin vhold) s fun d => d.sys.mstate = .off ∧
      d.get Reg.BST_EARLY.interrupted = 1 ∧ d.mem = [] ∧ d.pwr.vinLow = true) ∧
    (s.dev.pwr.stopped = true → Completes (.powerFail t vin vhold) s fun d => d.sys.mstate = .off ∧ d.mem = []) ∧
    (s.dev.pwr.stopped = false → s.dev.sil.mounted = true → Completes (.powerFail t vin vhold) s fun d => d.jst.items = [] ∧
      d.rft.sweeping = false ∧ d.cut.load = none ∧ d.pwr.vinLow = true ∧ (d.sys.mstate = .off ∨ d.pwr.pf.isSome = true))) ∧
  (∀ (t : Nat) (s : State), s.dev.sys.mstate ≠ .off → Completes (.vinDip t) s fun d => d.get Reg.PWR_IRQ_STATUS.dip = 1 ∧
    d.get Reg.PWR_VIN.dips = min (s.dev.get Reg.PWR_VIN.dips + 1) 65535) ∧
  (∀ (t mv : Nat) (s : State), s.dev.sys.mstate ≠ .off → Completes (.vinRange t mv) s fun d => d.get Reg.PWR_VIN.mv = min mv 65535 ∧
    d.get Reg.PWR_IRQ_STATUS.vin_range = (if (8000 ≤ mv ∧ mv < 9000) ∨ 62000 < mv then 1 else s.dev.get Reg.PWR_IRQ_STATUS.vin_range)) ∧
  (∀ (t mv : Nat) (s : State), s.dev.sys.mstate = .boot → s.dev.get Reg.BST_STATUS.step = 1 → s.dev.get Reg.PWR_STATUS.vhold_ok = 0 →
    s.dev.pwr.vholdWaited = false → s.dev.bst.stepAt + 2000000000 ≤ (s.dev.atTime t).now → Completes (.vholdWaitTimeout t mv) s fun d => d.pwr.vholdWaited = true ∧
      d.get Reg.PWR_STATUS.holdup_met = 0 ∧ d.get Reg.PWR_IRQ_STATUS.holdup_low = 1 ∧ d.get Reg.PWR_VHOLD.mv = min mv 65535) ∧
  (∀ (t mv : Nat) (s : State), s.dev.sys.mstate ≠ .off → 50000 ≤ mv → Completes (.vholdOk t mv) s fun d =>
    d.get Reg.PWR_STATUS.vhold_ok = 1 ∧ d.get Reg.PWR_VHOLD.mv = min mv 65535) ∧
  (∀ (t cap esr : Nat) (s : State), s.dev.isState [.boot, .test] = true → Completes (.holdupMeasured t cap esr) s fun d =>
    d.get Reg.PWR_HOLDUP.cap_100nf = min cap 8191 ∧ d.get Reg.PWR_HOLDUP.esr_10mohm = min (esr / 10) 1023 ∧
    d.get Reg.PWR_IRQ_STATUS.measured = 1 ∧ d.get Reg.PWR_HOLDUP.age_days = 0 ∧ d.pwr.holdAt = some (s.dev.atTime t).nowSec ∧
    d.get Reg.PWR_STATUS.holdup_met =
      b2n (680 ≤ cap && esr ≤ 1000 && s.dev.flag Reg.PWR_STATUS.vhold_ok && !s.dev.comparatorFails)) ∧
  (∀ (t : Nat) (s : State) (r : PfRun), s.dev.pwr.pf = some r → Completes (.vholdLow t) s fun d => d.pwr.pf = none ∧
    d.sys.mstate = (if r.vinReturned.isSome = true ∧ r.rstLow = false then .boot else .off) ∧ (r.vinReturned = none → d.mem = []) ∧
    d.get Reg.PWR_PF_LAST.step = r.step % 16 ∧ d.get Reg.PWR_PF_CNT.count = min (s.dev.get Reg.PWR_PF_CNT.count + 1) 65535)

/-- RST_N and the watchdog. -/
def Obligations.ResetCommandsComplete : Prop :=
  (∀ (t : Nat) (s : State), s.dev.pwr.pf = none → s.dev.sys.mstate ≠ .off → s.dev.pwr.stopped = false →
    Completes (.rstNAssert t) s fun d => d.sys.mstate = .off ∧ d.pwr.rstLow = true ∧ d.pwr.rstHeld = true ∧ d.lgt.safe = true ∧
      d.beat.running = false ∧ d.get Reg.SYS_STATUS.state = 0) ∧
  (∀ (t : Nat) (s : State) (r : PfRun), s.dev.pwr.pf = some r →
    (Completes (.rstNAssert t) s fun d => d.pwr.pf = some { r with rstLow := true } ∧ d.pwr.rstLow = true) ∧
    (∀ straps : Fin 8, s.dev.pwr.rstLow = true → Completes (.rstNRelease t straps) s fun d =>
      d.pwr.pf = some { r with rstLow := false } ∧ d.pwr.rstLow = false)) ∧
  (∀ (t : Nat) (straps : Fin 8) (s : State), s.dev.pwr.rstLow = true → s.dev.pwr.pf = none → s.dev.sys.mstate = .off →
    s.dev.pwr.vinLow = false → s.dev.pwr.stopped = false →
    Completes (.rstNRelease t straps) s fun d => d.sys.mstate = .boot ∧ d.sys.warm = false ∧ d.pwr.rstLow = false ∧
      d.get Reg.SYS_PIN_STATUS.straps = straps.val) ∧
  (∀ (t : Nat) (straps : Fin 8) (s : State), s.dev.sys.mstate ≠ .off → s.dev.pwr.pf = none → s.dev.pwr.stopped = false →
    Completes (.watchdogExpiry t straps) s fun d => d.sys.mstate = .boot ∧ d.sys.warm = false ∧
      d.get Reg.SYS_PIN_STATUS.straps = straps.val ∧ d.get Reg.BST_STATUS.warm = 0 ∧ d.jst.items = [] ∧ d.jst.holds = [])

/-- Boot steps end, fail and reach FAILSAFE. -/
def Obligations.BootCommandsComplete : Prop :=
  (∀ (t : Nat) (quick : List (Nat × Nat)) (s : State), s.dev.isState [.boot, .unframed] = true →
    (s.dev.get Reg.BST_STATUS.step = 1 → s.dev.get Reg.PWR_STATUS.vhold_ok = 1 → s.dev.sys.warm = false →
      (s.dev.atTime t).holdupDue = false → Completes (.bootStepDone t quick) s fun d =>
      d.get Reg.BST_STATUS.step = 2 ∧ d.beat.running = true ∧ d.beat.count = 0 ∧ d.get Reg.CLK_STATUS.pll_lock = 1) ∧
    (s.dev.get Reg.BST_STATUS.step = 3 → s.dev.key.rootPresent = true → s.dev.sys.warm = false → Completes (.bootStepDone t quick) s fun d =>
      d.get Reg.BST_STATUS.step = 4) ∧
    (s.dev.get Reg.BST_STATUS.step = 5 → s.dev.sys.warm = false → Completes (.bootStepDone t quick) s fun d =>
      d.get Reg.BST_STATUS.step = 6 ∧ d.bst.training = true) ∧
    (s.dev.get Reg.BST_STATUS.step = 6 → s.dev.bst.debug = false → Completes (.bootStepDone t quick) s fun d =>
      d.get Reg.BST_STATUS.step = 7) ∧
    (s.dev.get Reg.BST_STATUS.step = 7 → s.dev.cutPtr = none → s.dev.sys.warm = false → Completes (.bootStepDone t quick) s fun d =>
      d.get Reg.BST_STATUS.step = 8 ∧ d.sys.mstate = .unframed ∧ d.get Reg.SYS_C0_SUSPEND.media = 0x3FFF) ∧
    (s.dev.get Reg.BST_STATUS.step = 10 → s.dev.sys.mstate = .boot → s.dev.fwu.activating = none →
      Completes (.bootStepDone t quick) s fun d => d.get Reg.BST_STATUS.step = 0 ∧
        d.sys.mstate = (if s.dev.sys.autostart && !s.dev.sil.readOnly then .service else .ready))) ∧
  (∀ (t cause : Nat) (s : State) (n : Nat), s.dev.isState [.boot, .unframed] = true → s.dev.get Reg.BST_STATUS.step = n → n ≠ 0 →
    ((min 255 (s.dev.consec n + 1) < Dev.failLimit n →
       (Completes (.bootStepFailed t cause) s fun d => d.get Reg.BST_STATUS.step = n ∧ d.sys.mstate = s.dev.sys.mstate) ∧
       (s.dev.bst.stepAt + s.dev.stepLimit n ≤ (s.dev.atTime t).now →
        Completes (.bootStepTimeout t) s fun d => d.get Reg.BST_STATUS.step = n ∧ d.sys.mstate = s.dev.sys.mstate) ∧
       (s.dev.sys.mstate = .boot → n = 1 →
        s.dev.bst.stepAt + (if s.dev.pathOf 1 = 1 then 500000000 else 50000000) ≤ (s.dev.atTime t).now → Completes (.xtalStartTimeout t) s fun d => d.get Reg.BST_STATUS.step = 1 ∧ d.sys.mstate = .boot)) ∧
     (Dev.failLimit n ≤ min 255 (s.dev.consec n + 1) →
       (Completes (.bootStepFailed t cause) s fun d => d.sys.mstate = .failsafe ∧ d.bst.failStep = n) ∧
       (s.dev.bst.stepAt + s.dev.stepLimit n ≤ (s.dev.atTime t).now →
        Completes (.bootStepTimeout t) s fun d => d.sys.mstate = .failsafe ∧ d.bst.failStep = n) ∧
       (s.dev.sys.mstate = .boot → n = 1 →
        s.dev.bst.stepAt + (if s.dev.pathOf 1 = 1 then 500000000 else 50000000) ≤ (s.dev.atTime t).now → Completes (.xtalStartTimeout t) s fun d => d.sys.mstate = .failsafe ∧ d.bst.failStep = 1))))

/-- Self-test and the end of a SHUTDOWN. -/
def Obligations.TestCommandsComplete : Prop :=
  (∀ (t code : Nat) (test : Fin 15) (failed : List Nat) (straps : Fin 8) (s : State) (r : TestRun), s.dev.bst.test = some r →
    s.dev.sys.mstate = .test → test.val ∈ r.running →
    ((∃ u ∈ r.running, u ≠ test.val) → Completes (.testFinished t test failed code straps) s fun d => d.sys.mstate = .test ∧
      ∃ r', d.bst.test = some r' ∧ r'.passed = r.passed + b2n failed.isEmpty ∧ r'.failed = r.failed + b2n (!failed.isEmpty)) ∧
    (r.running = [test.val] → r.waiting = [] → r.restart = true → Completes (.testFinished t test failed code straps) s fun d =>
      d.sys.mstate = .boot ∧ d.sys.warm = false) ∧
    (r.running = [test.val] → r.waiting = [] → r.restart = false → Completes (.testFinished t test failed code straps) s fun d =>
      d.sys.mstate = .off ∧ d.pwr.heldOff = true ∧ d.get Reg.BST_STATUS.testing = 0)) ∧
  (∀ (t code i : Nat) (test : Fin 15) (failed : List Nat) (straps : Fin 8) (s : State), s.dev.bst.test = none →
    s.dev.isState [.unframed, .ready, .service, .hold, .failsafe] = true → Dev.unitTestNos.contains test.val = true → i ∈ failed → Completes (.testFinished t test failed code straps) s fun d =>
      d.lastResult (test.val, i) = some (true, 0) ∧ d.sys.mstate = s.dev.sys.mstate) ∧
  (∀ (t : Nat) (straps : Fin 8) (s : State) (r : ShutReq), s.dev.bst.shut = some r →
    s.dev.isState [.unframed, .ready, .service, .failsafe] = true →
    (r.test = true → Completes (.stopWritesDone t straps) s fun d => d.sys.mstate = .test ∧ d.bst.shut = none ∧
      d.get Reg.BST_STATUS.testing = 1 ∧ d.bst.test.isSome = true) ∧
    (r.test = false → Completes (.stopWritesDone t straps) s fun d => d.sys.mstate = .off ∧ d.pwr.heldOff = true))

/-- Matrices, NTC inputs and lamps. -/
def Obligations.LightCommandsChange : Prop :=
  (∀ (t : Nat) (mv : List (List Nat)) (s : State), (s.dev.atTime t).frameDue 1 = true →
    s.dev.lgt.frameAt ≠ some (s.dev.atTime t).frameInstant →
    (s.dev.lgt.safe = true → Completes (.stringFrame t mv) s fun d => d.lgt.frame = (s.dev.lgt.frame + 1) % 2 ^ 32 ∧
      d.lgt.strings = s.dev.lgt.strings) ∧
    (s.dev.lgt.safe = false → s.dev.lightRuns = false → Completes (.stringFrame t mv) s fun d =>
      ∀ x ∈ d.lgt.strings, x.open_ = List.replicate 8 8000)) ∧
  (∀ (t : Nat) (mv : List (List Nat)) (s : State),
    ((s.dev.atTime t).frameDue 1 = false ∨ s.dev.lgt.frameAt = some (s.dev.atTime t).frameInstant) →
    Completes (.stringFrame t mv) s fun d => d.lgt = s.dev.lgt) ∧
  (∀ (t : Nat) (s : State), (s.dev.atTime t).frameDue 2 = true → s.dev.lgt.scanAt ≠ some (s.dev.atTime t).frameInstant →
    ((s.dev.lgt.safe = true ∨ s.dev.lightHeld = true) → Completes (.matrixFrame t) s fun d =>
      d.lgt = { s.dev.lgt with scanAt := some (s.dev.atTime t).frameInstant }) ∧
    (s.dev.lgt.safe = false → s.dev.lightRuns = false → Completes (.matrixFrame t) s fun d => ∀ x ∈ d.lgt.matrices, x.scan = [])) ∧
  (∀ (t : Nat) (k : Fin 2) (s : State) (c : MatrixCfg), (s.dev.atTime t).frameDue 2 = true →
    s.dev.lgt.scanAt ≠ some (s.dev.atTime t).frameInstant → s.dev.lgt.safe = false → s.dev.lightRuns = true → s.dev.lightHeld = false →
    s.dev.matCfg k.val = some c → s.dev.lgt.matrices.length = 2 → (s.dev.matAt k.val).flip = false → (s.dev.atTime t).frameLen 2 ≤ (s.dev.atTime t).now % 1000000000 →
    Completes (.matrixFrame t) s fun d => ∀ line col, line < 16 → col < 32 →
      ((d.matAt k.val).scan.getD line []).getD col 0 =
        (let x := s.dev.matAt k.val
         let page := if x.c0 then c.pattern else if s.dev.matShown k.val = 1 then x.page1 else x.page0
         let dim := (if x.c0 then 255 else s.dev.matDim k.val) * s.dev.matFactor k.val / 256
         if c.lines ≤ line ∨ (s.dev.matBlank k.val = true ∧ x.c0 = false) ∨ bit (s.dev.heldLines k.val) line = true ∨
           bit (s.dev.heldCols k.val) col = true then 0
         else byteAt page (32 * line + col) * dim * 230 / 65025)) ∧
  (∀ (t : Nat) (k : Fin 2) (s : State) (c : MatrixCfg), (s.dev.atTime t).frameDue 2 = true →
    s.dev.lgt.scanAt ≠ some (s.dev.atTime t).frameInstant → s.dev.lgt.safe = false → s.dev.lightRuns = true → s.dev.lightHeld = false →
    s.dev.matCfg k.val = some c → s.dev.lgt.matrices.length = 2 → (s.dev.matAt k.val).flip = true → (s.dev.matAt k.val).flipAt ≠ (s.dev.atTime t).now →
    Completes (.matrixFrame t) s fun d => d.matShown k.val = 1 - s.dev.matShown k.val ∧ (d.matAt k.val).flip = false) ∧
  (∀ (t : Nat) (n : Fin 4) (temp : Int) (s : State) (c : NtcCfg), s.dev.lgt.cfg.bind (fun c => c.ntcs[n.val]?) = some c → c.enabled = true →
    ((temp < -500 ∨ 1500 < temp) → Completes (.ntcRead t n temp) s fun d => d.get (Reg.LGT_NTC.fault n.val) = 1 ∧
      d.get (Reg.LGT_NTC.temp n.val) = satTwos 16 temp ∧
      d.get (Reg.LGT_NTC.f n.val) = (if s.dev.lgt.ntcSeen.getD n.val false then s.dev.get (Reg.LGT_NTC.f n.val) else 128)) ∧
    (-500 ≤ temp → temp ≤ 1500 → Completes (.ntcRead t n temp) s fun d => d.get (Reg.LGT_NTC.fault n.val) = 0 ∧
      d.get (Reg.LGT_NTC.temp n.val) = satTwos 16 temp ∧
      d.get (Reg.LGT_NTC.f n.val) = (if temp ≤ c.knee then 256 else if c.cutoff ≤ temp then 0
        else (256 * (c.cutoff - temp) / (c.cutoff - c.knee)).toNat))) ∧
  (∀ (t : Nat) (k : Fin 2) (pairs : List (Nat × Nat)) (s : State), s.dev.lgt.matrices.length = 2 →
    Completes (.neighbourShort t k pairs) s fun d =>
      (d.matAt k.val).suspects = pairs.filter (fun p => !(s.dev.matAt k.val).suspects.contains p) ∧
      ∀ p ∈ pairs, p ∈ (s.dev.matAt k.val).suspects → p.1 < 32 → bit (d.get Reg.LGT_SGA_HELD.word) p.1 = true ∧
        d.get Reg.LGT_IRQ_STATUS.short = 1) ∧
  (∀ (t : Nat) (m : Master) (v : W32) (s : State), s.dev.lgt.strings.length = 8 → Completes (.lampReturned t m v) s fun d => ∀ k, k < 8 →
    bit (d.strAt (s.dev.get Reg.LGT_STR_SEL.string)).bypassed k =
      (bit (s.dev.strAt (s.dev.get Reg.LGT_STR_SEL.string)).bypassed k && !bit v.toNat k)) ∧
  (∀ (t : Nat) (m : Master) (v : W32) (s : State), s.dev.lgt.strings.length = 8 →
    (let n := s.dev.get Reg.LGT_STR_SEL.string
     (((s.dev.strAt n).engine = true ∨ s.dev.strCfg n = none) → Completes (.strLevelWrite t m v) s fun d => d.lgt = s.dev.lgt) ∧
     ((s.dev.strAt n).engine = false → s.dev.strCfg n ≠ none → Completes (.strLevelWrite t m v) s fun d =>
       d.strAt n = { s.dev.strAt n with next := some (bits v.toNat 9 0) }))) ∧
  (∀ (t : Nat) (m : Master) (k : Fin 2) (i : Fin 128) (v : W32) (s : State), s.dev.lgt.matrices.length = 2 →
    (s.dev.matAt k.val).page0.length = 512 → (s.dev.matAt k.val).page1.length = 512 →
    Completes (.signPixWrite t m k i v) s fun d =>
      (let old := if s.dev.matShown k.val = 1 then (s.dev.matAt k.val).page0 else (s.dev.matAt k.val).page1
       let new := if s.dev.matShown k.val = 1 then (d.matAt k.val).page0 else (d.matAt k.val).page1
       (if s.dev.matShown k.val = 1 then (d.matAt k.val).page1 = (s.dev.matAt k.val).page1 else (d.matAt k.val).page0 = (s.dev.matAt k.val).page0) ∧
       ∀ j, j < 512 → byteAt new j = if 4 * i.val ≤ j ∧ j < 4 * i.val + 4 then v.toNat / 256 ^ (j - 4 * i.val) % 256 else byteAt old j)) ∧
  (∀ (t : Nat) (m : Master) (k : Fin 2) (s : State), s.dev.lgt.matrices.length = 2 → Completes (.signFlip t m k) s fun d =>
    d.matAt k.val = { s.dev.matAt k.val with flip := true, flipAt := (s.dev.atTime t).now } ∧ d.matShown k.val = s.dev.matShown k.val)

/-- One frame of a string opens its lamps in turn. -/
def Obligations.StringFrameOpens : Prop :=
  ∀ (t n : Nat) (mv : List (List Nat)) (s : State) (c : StringCfg), n < 8 → s.dev.lgt.strings.length = 8 → s.dev.lgt.safe = false →
    (s.dev.atTime t).frameDue 1 = true → s.dev.lgt.frameAt ≠ some (s.dev.atTime t).frameInstant → s.dev.lightRuns = true → s.dev.strCfg n = some c → (s.dev.strAt n).engine = true → (s.dev.strAt n).debt = 0 →
    s.dev.diagMode n = false → (∀ k, (mv.getD n []).getD k 0 ≤ c.vOpen) →
    Completes (.stringFrame t mv) s fun d => ∀ i, i < (s.dev.usable n).length →
      (d.strAt n).open_.getD ((s.dev.usable n).getD ((s.dev.lgt.frame + i) % (s.dev.usable n).length) 0) 0 =
        (if i < s.dev.strTicks n / 8000 then 8000 else if i = s.dev.strTicks n / 8000 then s.dev.strTicks n % 8000 else 0)

/-- Latched reads, access faults and serial transfers. -/
def Obligations.RegisterCommandsComplete : Prop :=
  (∀ (t key : Nat) (m : Master) (s : State), loRegs.contains key = true → s.dev.blockTested (regPlace key) = false → key ≠ 0x070004 →
    Completes (.readLoLatch t m key) s fun d => d.readHi (bankOf m) (key + 4) = (s.dev.atTime t).readReg (bankOf m) (key + 4) ∧
      d.regs.get key = s.dev.regs.get key) ∧
  (∀ (t : Nat) (m : Master) (s : State), Completes (.readLoLatch t m 0x070004) s fun d =>
    d.readHi (bankOf m) 0x070008 = (s.dev.atTime t).nowSec / 2 ^ 32 ∧
    d.readHi (bankOf m) 0x07000C = (s.dev.atTime t).now % 1000000000) ∧
  (∀ (t : Nat) (m : Master) (a : Access) (s : State),
    Completes (.accessFault t m a.addr a.toAccessForm) s fun d => KeepsRegs s.dev d eventKeys ∧ d.jst = s.dev.jst ∧ d.lnd = s.dev.lnd ∧
      d.mem = (if s.dev.accessOk a = true ∧ a.kind = .store ∧ a.addr < regBase then s.dev.mem.writeN a.addr (toLE a.size a.value.toNat)
        else s.dev.mem) ∧
      d.sys.coreFaults = (if s.dev.accessOk a = false ∧ isCore m = true then
          ⟨bankOf m, a.kind, a.addr, 0⟩ :: s.dev.sys.coreFaults.filter (fun x => x.core != bankOf m)
        else s.dev.sys.coreFaults)) ∧
  (∀ (t : Nat) (m : Master) (lo : W32) (s : State) (x : Nat × Nat × Nat × Nat),
    (let a := bits (s.dev.stagedHi (bankOf m) (Reg.SYS_SER_DESC_HI.word (bankOf m))) 7 0 * 2 ^ 32 + lo.toNat
     s.dev.stagedHi (bankOf m) (Reg.SYS_SER_DESC_HI.word (bankOf m)) < 2 ^ 32 →
     (s.dev.lnd.serial.isSome = true → Completes (.serialTransfer t m lo) s fun d => d.lnd.serial = s.dev.lnd.serial ∧
       d.get (Reg.SYS_SER_STATUS.status (bankOf m)) = ST_REFUSED_FULL) ∧
     (s.dev.lnd.serial = none → s.dev.serDesc a = none → Completes (.serialTransfer t m lo) s fun d => d.lnd.serial = none ∧
       d.get (Reg.SYS_SER_STATUS.status (bankOf m)) = ST_BAD_ARGUMENT) ∧
     (s.dev.lnd.serial = none → s.dev.serDesc a = some x → s.dev.cut.image.isSome = true →
       (if x.1 = 1 then [16, 17] else [18, 19, 20, 21]).all (fun i => s.dev.landDedicated i) = true →
       Completes (.serialTransfer t m lo) s fun d =>
         d.lnd.serial = some ⟨bankOf m, ST_PENDING, x.2.2.2 + x.2.1, x.2.2.1, x.1⟩ ∧ d.get (Reg.SYS_SER_STATUS.busy (bankOf m)) = 1))) ∧
  (∀ (t : Nat) (timeout : Bool) (data : Bytes) (s : State) (r : SerRun), s.dev.lnd.serial = some r →
    Completes (.serialDone t timeout data) s fun d => d.lnd.serial = none ∧ d.get (Reg.SYS_SER_STATUS.busy r.bank) = 0 ∧
      (if timeout = true ∧ r.bus = 1 then d.get (Reg.SYS_SER_STATUS.status r.bank) = ST_TIMEOUT ∧ d.mem = s.dev.mem
       else d.get (Reg.SYS_SER_STATUS.status r.bank) = ST_OK ∧
         (∀ i, i < r.readLen → d.mem.read (r.dest + i) = data.getD i 0) ∧
         (∀ a, a < r.dest ∨ r.dest + r.readLen ≤ a → d.mem.read a = s.dev.mem.read a)))

/-- A register write acts by its register. -/
def Obligations.RegisterWriteActs : Prop :=
  (∀ (t addr : Nat) (m : Master) (v : W32) (s : State), ((Access.storeWord addr v).allowed = false ∨ addr < regBase) →
    exec (.registerWrite t m addr v) s = exec (.accessFault t m addr (Access.storeWord addr v).toAccessForm) s) ∧
  (∀ (t : Nat) (m : Master) (v : W32) (s : State), s.dev.sys.mstate ≠ .off →
    (exec (.registerWrite t m (regBase + 0x0D0020) v) s = exec (.evrRdSeq t m v) s) ∧
    (exec (.registerWrite t m (regBase + 0x040014) v) s = exec (.jstDone t m v) s) ∧
    (Completes (.registerWrite t m (regBase + 0x010038) v) s fun d => d.get Reg.BEAT_IRQ_ENABLE.word =
      putBits (s.dev.get Reg.BEAT_IRQ_ENABLE.word) (bits v.toNat 4 0) 4 0) ∧
    (Completes (.registerWrite t m (regBase + 0x010034) v) s fun d => d.get Reg.BEAT_IRQ_STATUS.commit_done =
      if bit v.toNat 1 = true ∧ (s.dev.atTime t).raisedNow Reg.BEAT_IRQ_STATUS.commit_done = 0 then 0
      else s.dev.get Reg.BEAT_IRQ_STATUS.commit_done) ∧
    (s.dev.sys.mstate ≠ .unframed → Completes (.registerWrite t m regBase v) s fun d => d.get Reg.SYS_STATUS.state = s.dev.get Reg.SYS_STATUS.state) ∧
    (s.dev.sys.mstate ≠ .unframed → Completes (.registerWrite t m (regBase + 0x010000) v) s fun d =>
      d.get Reg.SYS_STATUS.lock_viol = 1 ∧
      (s.dev.get Reg.BEAT_CFG.period ≤ 4 → d.get Reg.BEAT_CFG.period = s.dev.get Reg.BEAT_CFG.period)) ∧
    (s.dev.sys.mstate = .unframed → Completes (.registerWrite t m (regBase + 0x010000) v) s fun d =>
      d.get Reg.BEAT_CFG.period = if bits v.toNat 2 0 ≤ 4 then bits v.toNat 2 0 else 1) ∧
    (Completes (.registerWrite t m (regBase + 0x00020C) v) s fun d =>
      d.stagedHi (bankOf m) Reg.SYS_GPIO_OUT_HI.word = bits v.toNat 9 0 ∧ d.get Reg.SYS_GPIO_OUT_HI.word = s.dev.get Reg.SYS_GPIO_OUT_HI.word) ∧
    (s.dev.stagedHi (bankOf m) Reg.SYS_GPIO_OUT_HI.word < 2 ^ 32 → Completes (.registerWrite t m (regBase + 0x000208) v) s fun d =>
      d.get Reg.SYS_GPIO_OUT_LO.word = v.toNat ∧
      d.get Reg.SYS_GPIO_OUT_HI.word = s.dev.stagedHi (bankOf m) Reg.SYS_GPIO_OUT_HI.word) ∧
    (Completes (.registerWrite t m (regBase + 0x080054) v) s fun d => d.rtc.curve = s.dev.rtc.curve ∧
      d.rtc.posted = s.dev.rtc.posted.filter (fun x => x.key != 0x080054) ++ [⟨0x080054, v.toNat⟩]))

/-- The Tie: takeover, watch, heartbeats and bundles. -/
def Obligations.TieCommandsComplete : Prop :=
  (∀ (t : Nat) (e : Envelope) (s : State) (d' : Dev), (s.dev.atTime t).Accepts d' specPairTakeover e → d'.sys.mstate ≠ .test → d'.sys.role = .standby →
    Completes (.pairTakeover t e) s fun d => d.pair.takeover = .asked ∧ d.sys.role = .standby ∧ d.answered e cmdPairTakeover ST_OK []) ∧
  (∀ (t : Nat) (e : Envelope) (s : State) (d' : Dev), (s.dev.atTime t).Accepts d' specPairDemote e →
    Completes (.pairDemote t e) s fun d => d.pair.takeover = .asked ∧ d.sys.role = d'.sys.role ∧ d.answered e cmdPairDemote ST_OK []) ∧
  (∀ (t : Nat) (r : Fin 4) (f : Option RadioRx) (s : State) (p : RadPlan), (s.dev.radAt r.val).plan = some p → p.watch = true →
    s.dev.watches = true → beaconBeat p s.dev.beat.count = true → (s.dev.radAt r.val).watchBeat ≠ some s.dev.beat.count →
    (f = none → (watchWindow p).2 ≤ (s.dev.atTime t).beat.sinceBase) → (s.dev.radAt r.val).claimed = false →
    s.dev.mediumTested r.val = false → bit (s.dev.get Reg.BST_UNIT0.radios) r.val = true → s.dev.rad.length = 4 →
    Completes (.watchInstance t r f) s fun d => (d.radAt r.val).watchBeat = some s.dev.beat.count ∧
      match f.bind ((s.dev.atTime t).beaconValid r.val p) with
      | some x => d.get (Reg.RAD_BEACON.consec r.val) = 0 ∧ (x.2 ≠ s.dev.beat.count % 2 ^ 32 → d.get (Reg.RAD_STATUS.beat_mismatch r.val) = 1)
      | none => d.get (Reg.RAD_BEACON.consec r.val) = min (s.dev.get (Reg.RAD_BEACON.consec r.val) + 1) 255) ∧
  (∀ (t : Nat) (p : Fin 8) (s : State) (c : PairCfg), s.dev.plcaRole p.val = 3 → s.dev.pair.cfg = some c → c.path2Trunk = true →
    c.path2 = p.val → s.dev.trk.length = 10 → (s.dev.atTime t).beat.sinceBase ≤ 100000 →
    Completes (.plcaBeaconRx t p) s fun d => d.pair.path2Heard = true ∧ d.get Reg.PAIR_LAG.path2_miss = 0 ∧ (d.trkAt p.val).heard = true) ∧
  (∀ (t : Nat) (s : State), s.dev.pairTalks = true →
    ((s.dev.atTime t).beat.sinceBase / 1000 = 50 → Completes (.heartbeatTx t) s fun d => d.pair = { s.dev.pair with
      sent := ((0x10, (s.dev.atTime t).heartbeatBytes) :: s.dev.pair.sent).take 16
      out := if (s.dev.findLink 13 0).any (fun x => !x.lost) then (s.dev.atTime t).heartbeatBytes :: s.dev.pair.out else s.dev.pair.out }) ∧
    ((s.dev.atTime t).beat.sinceBase / 1000 ≠ 50 → Completes (.heartbeatTx t) s fun d => d.pair = s.dev.pair)) ∧
  (∀ (t : Nat) (h : Heartbeat) (s : State), h.member ≠ s.dev.pair.member → s.dev.pairTalks = true →
    Completes (.heartbeatRx t h) s fun d => d.pair.peerUp = true ∧ d.pair.peerRole = Dev.roleOf h.role ∧ d.pair.peerBeat = h.beat ∧
      d.pair.peerCount = h.count ∧ d.pair.peerTest = h.inTest ∧
      d.get Reg.PAIR_LAG.tie_miss = (if h.beat = s.dev.beat.count then 0 else s.dev.get Reg.PAIR_LAG.tie_miss)) ∧
  (∀ (t : Nat) (s : State), s.dev.pairTalks = true → s.dev.pair.heard ≠ some (s.dev.atTime t).lastInstance →
    s.dev.pair.missed ≠ some (s.dev.atTime t).lastInstance →
    Completes (.heartbeatMissed t) s fun d => d.get Reg.PAIR_LAG.tie_miss = min (s.dev.get Reg.PAIR_LAG.tie_miss + 1) 255 ∧
      (s.dev.get Reg.PAIR_LAG.tie_miss = 2 → d.pair.peerUp = false ∧ d.get Reg.PAIR_IRQ_STATUS.tie_lost = 1)) ∧
  (∀ (t beat : Nat) (recs : List BundleRec) (s : State), s.dev.inPair = true → s.dev.sys.role = .standby →
    s.dev.pair.bundles.any (fun b => b.beat == beat) = false →
    Completes (.bundleRx t beat recs) s fun d =>
      d.pair.bundles = s.dev.pair.bundles ++ [recs.foldl Dev.bundleAdd ⟨beat, [], [], [], [], [], [], none⟩]) ∧
  (∀ (t beat outcome entries sample digest : Nat) (s : State), s.dev.inPair = true →
    (∀ r, s.dev.sys.role = .syncing → s.dev.pair.resync = some r → r.loaded = 0 →
      Completes (.bundleCloseRx t beat outcome entries sample digest) s fun d =>
        (∃ b ∈ d.pair.bundles, b.beat = beat) ∧ ∀ b ∈ d.pair.bundles, b.beat = beat → b.close = some ⟨outcome, entries, sample, digest⟩) ∧
    (s.dev.sys.role = .standby → s.dev.pair.bundles = [] → s.dev.pair.replayed ≠ 0 → beat ≠ s.dev.pair.replayed + 1 →
      Completes (.bundleCloseRx t beat outcome entries sample digest) s fun d => d.pair.gap = true ∧ d.sys.role = .standby)) ∧
  (∀ (t beat : Nat) (s : State), s.dev.inPair = true → s.dev.sys.role = .active → s.dev.pair.acked < beat →
    Completes (.bundleAcked t beat) s fun d => d.pair.acked = beat ∧
      d.pair.bundles = s.dev.pair.bundles.filter (fun b => beat < b.beat) ∧ d.get Reg.PAIR_ACKED_LO.word = beat % 2 ^ 32)

/-- Handshake, handover and resync. -/
def Obligations.HandshakeAndResyncComplete : Prop :=
  (∀ (t : Nat) (s : State), s.dev.inPair = true → s.dev.sys.mstate = .boot → s.dev.get Reg.BST_STATUS.step = 9 →
    (s.dev.pair.helloAt.all (fun a => a + 100000000 ≤ (s.dev.atTime t).now) = true → Completes (.helloTx t) s fun d =>
      d.pair.helloAt = some (s.dev.atTime t).now ∧
      d.pair.sent = ((0x14, (s.dev.atTime t).controlBytes ctlHello) :: s.dev.pair.sent).take 16) ∧
    (s.dev.pair.helloSeen = false → s.dev.bst.stepAt + 2000000000 ≤ (s.dev.atTime t).now → Completes (.handshakeTimeout t) s fun d => d.sys.role = .standby ∧ d.pair.handshake = true ∧
      d.pair.incomplete = true ∧ d.pair.peerUp = false)) ∧
  (∀ (t : Nat) (h : Heartbeat) (pairId unitId : Nat) (s : State), s.dev.inPair = true →
    (s.dev.pair.handshake = true → s.dev.sys.role ≠ .active → s.dev.helloFinding h pairId unitId ≤ 1 →
      Completes (.helloRx t h pairId unitId) s fun d => d.pair.count = max s.dev.pair.count h.count ∧ d.sys.role = s.dev.sys.role) ∧
    (s.dev.pair.handshake = false → s.dev.sys.role = .ineligible → s.dev.sys.mstate = .service →
      Completes (.helloRx t h pairId unitId) s fun d => d.pair.handshake = true ∧ d.pair.helloSeen = true ∧ d.pair.peerRole = Dev.roleOf h.role ∧
        (s.dev.helloFinding h pairId unitId = 1 → d.pair.nextRole = some (.standby, pairHandshake)))) ∧
  (∀ (t : Nat) (s : State), s.dev.inPair = true → s.dev.sys.role = .ineligible → s.dev.pair.handshake = false →
    s.dev.pair.helloAt.all (fun a => a + 10000000000 ≤ (s.dev.atTime t).now) = true →
    Completes (.handshakeRetry t) s fun d => d.pair.helloAt = some (s.dev.atTime t).now ∧
      d.pair.sent = ((0x14, (s.dev.atTime t).controlBytes ctlHello) :: s.dev.pair.sent).take 16) ∧
  (∀ (t : Nat) (h : Heartbeat) (pairId unitId : Nat) (s : State), s.dev.inPair = true → s.dev.helloFinding h pairId unitId ≤ 1 →
    s.dev.sys.role = .active → (s.dev.pair.peerRole = .standby → s.dev.pair.takeover = .none →
      Completes (.handoverRx t h pairId unitId) s fun d => d.pair.takeover = .asked ∧ d.sys.role = .active) ∧
    (Completes (.resyncReqRx t h pairId unitId) s fun d => d.pair.skipNext = true ∧ d.pair.peerRole = .syncing)) ∧
  (∀ (t : Nat) (ch : ResyncChunk) (s : State) (r : ResyncRun), s.dev.inPair = true → s.dev.pair.resync = some r → s.dev.sys.role = .syncing →
    ch.offset = r.image.length → r.loaded = 0 → ch.last = false →
    Completes (.resyncChunkRx t ch) s fun d => ∃ r', d.pair.resync = some r' ∧ r'.image = r.image ++ ch.data ∧
      r'.bytes = r.image.length + ch.data.length ∧ r'.loaded = 0) ∧
  (∀ (t : Nat) (s : State) (c : PairCfg) (r : ResyncRun), s.dev.pair.cfg = some c → s.dev.pair.resync = some r → s.dev.sys.role = .syncing →
    s.dev.pair.nextRole = none → r.started + c.catchup * nsPerSec ≤ (s.dev.atTime t).now →
    Completes (.catchupTimeout t) s fun d => d.pair.resync = none ∧ d.pair.failedAt = some (s.dev.atTime t).now ∧ d.pair.nextRole = some (.ineligible, pairCatchup)) ∧
  (∀ (t : Nat) (s : State), s.dev.inPair = true → s.dev.sys.role = .ineligible → s.dev.pair.resync = none →
    s.dev.pair.failedAt.any (fun a => a + 10 * nsPerSec ≤ (s.dev.atTime t).now) = true → s.dev.pair.haltResync = false → Completes (.resyncRetry t) s fun d => d.pair.resync.isSome = true ∧ d.pair.bundles = [])

/-- The lease and the resend. -/
def Obligations.LeaseCommandsComplete : Prop :=
  (∀ (t : Nat) (s : State), s.dev.inPair = true → (s.dev.sys.role = .active ∨ s.dev.sys.role = .standby) →
    s.dev.isState [.ready, .service, .hold] = true → s.dev.pair.reqAt.all (fun a => a + 250000000 ≤ (s.dev.atTime t).now) = true →
    Completes (.leaseRequest t) s fun d => d.pair.reqSeq = s.dev.pair.reqSeq + 1 ∧
      ∃ r, d.pair.asked = s.dev.pair.asked ++ [r] ∧ r.seq = s.dev.pair.reqSeq + 1 ∧ r.left = (s.dev.atTime t).now) ∧
  (∀ (t : Nat) (msg : LeaseMsg) (s : State), s.dev.inPair = true → s.dev.pair.bundles = [] →
    Completes (.leaseGrantRx t msg) s fun d =>
      match s.dev.leaseReply 2 msg with
      | none => d.get Reg.PAIR_CNT.bad_lease = min (s.dev.get Reg.PAIR_CNT.bad_lease + 1) 255 ∧ d.pair.leaseEnd = s.dev.pair.leaseEnd
      | some r => d.pair.noReply = 0 ∧ d.pair.unreachableAt = none ∧
          d.pair.leaseEnd = (if byteAt msg 3 = s.dev.pair.member then r.left + 1000000000 else s.dev.pair.leaseEnd) ∧
          (byteAt msg 3 = s.dev.pair.member → s.dev.sys.role = .standby → s.dev.notDeciding = true →
            ∃ whole, d.pair.takeover = .decided 3 whole pairLease)) ∧
  (∀ (t : Nat) (msg : LeaseMsg) (s : State), s.dev.inPair = true →
    Completes (.leaseDenyRx t msg) s fun d => d.pair.leaseEnd = s.dev.pair.leaseEnd ∧
      match s.dev.leaseReply 3 msg with
      | none => d.get Reg.PAIR_CNT.bad_lease = min (s.dev.get Reg.PAIR_CNT.bad_lease + 1) 255
      | some r => d.pair.noReply = 0 ∧ d.pair.unreachableAt = none ∧ d.pair.asked = s.dev.pair.asked.filter (fun x => x.seq != r.seq)) ∧
  (∀ (t : Nat) (s : State) (r : LeaseReq) (rest : List LeaseReq), s.dev.pair.asked = r :: rest →
    r.left + 250000000 ≤ (s.dev.atTime t).now → Completes (.leaseReplyTimeout t) s fun d => d.pair.asked = rest ∧ d.pair.noReply = s.dev.pair.noReply + 1 ∧
      (4 ≤ s.dev.pair.noReply + 1 → d.pair.unreachableAt.isSome = true)) ∧
  (∀ (t : Nat) (s : State), s.dev.inPair = true → s.dev.sys.role = .active → s.dev.pair.leaseEnd ≠ 0 → (s.dev.atTime t).leaseHeld = false →
    Completes (.leaseLost t) s fun d => d.pair.leaseEnd = 0 ∧ d.pair.nextRole = some (.standby, pairLease) ∧ d.sys.role = .active) ∧
  (∀ (t x : Nat) (m : Master) (s : State), s.dev.pair.resendAt = some x → s.dev.sys.role = .active →
    (Completes (.resendGo t m) s fun d => d.pair = { s.dev.pair with resendGo := true }) ∧
    (x ≤ (s.dev.atTime t).now → Completes (.resendTimeout t) s fun d => d.pair = { s.dev.pair with resendGo := true }) ∧
    ((s.dev.atTime t).now < x → Completes (.resendTimeout t) s fun d => d.pair = s.dev.pair)) ∧
  (∀ d : Dev, d.pair.resendGo = true → d.pair.resendAt.isSome = true → d.sys.role = .active →
    d.startResend.pair.resending = true ∧ d.startResend.pair.resendCursor = 0 ∧ d.startResend.pair.resendAt = none ∧
    d.startResend.get Reg.PAIR_RESEND.running = 1)

/-- What the Joist's commands leave unchanged. -/
def Obligations.JoistFrames : Prop :=
  (∀ (t : Nat) (m : Master) (v : W32), Frame (.jstPushOpen t m v) [.jst] (fun k => k ∈ Dev.keysOf [Reg.JST_PUSH_STATUS.word (bankOf m)] ∨ (∃ i < 16, k = (Reg.JST_PUSH_W.word (bankOf m) i).key))) ∧
  (∀ (t : Nat) (m : Master) (i : Fin 16) (v : W32), Frame (.jstPushWord t m i v) [.jst] (fun k => k ∈ Dev.keysOf [Reg.JST_PUSH_W.word (bankOf m) i.val, Reg.JST_PUSH_W.word (bankOf m) (i.val + 1)])) ∧
  (∀ (t : Nat) (m : Master), Frame (.jstPushCommit t m) [.jst] (fun k => k ∈ Dev.keysOf [Reg.JST_IRQ_STATUS.word, Reg.JST_PUSH_STATUS.word (bankOf m)] ∨ (∃ i < 64, k = (Reg.JST_QREFUSED.word i).key))) ∧
  (∀ (t : Nat) (m : Master), Frame (.jstPushAbandon t m) [.jst] (fun k => k ∈ Dev.keysOf [Reg.JST_PUSH_STATUS.word (bankOf m)])) ∧
  (∀ (t : Nat) (m : Master) (irq : Bool), Frame (.jstGet t m irq) [.jst] (fun k => k ∈ Dev.keysOf [Reg.JST_GET.word (bankOf m), Reg.JST_IRQ_STATUS.word, Reg.JST_ITEM_SEL.word (bankOf m)])) ∧
  (∀ (t : Nat), Frame (.jstGetDeliver t) [.jst] (fun k => (∃ b, k = (Reg.JST_GET.word b).key) ∨ (∃ b, k = (Reg.JST_ITEM_SEL.word b).key))) ∧
  (∀ (t : Nat) (core : Fin 8), Frame (.jstGetInterrupted t core) [.jst] (fun k => k ∈ Dev.keysOf [Reg.JST_GET.word core.val])) ∧
  (∀ (t : Nat) (m : Master) (v : W32), Frame (.jstDone t m v) [.jst] (fun k => k ∈ Dev.keysOf [Reg.JST_DONE_STATUS.word (bankOf m), Reg.JST_IRQ_STATUS.word, Reg.JST_ITEM_SEL.word (bankOf m)])) ∧
  (∀ (t : Nat) (m : Master) (queue : Fin 64), Frame (.jstFlush t m queue) [.rft, .jst] (fun k => k ∈ Dev.keysOf [Reg.JST_FLUSH_STATUS.word, Reg.RFT_CS_REFUSED.word, Reg.RFT_IRQ_STATUS.word])) ∧
  (∀ (t : Nat), Frame (.jstFlushDone t) [] (fun k => k ∈ Dev.keysOf [Reg.JST_FLUSH_STATUS.word, Reg.JST_IRQ_STATUS.word])) ∧
  (∀ (t : Nat) (m : Master), Frame (.jstTmrArm t m) [.jst] (fun k => k ∈ Dev.keysOf [Reg.JST_TMR_COUNT.word, Reg.JST_TMR_STATUS.word (bankOf m)])) ∧
  (∀ (t : Nat) (m : Master) (v : W32), Frame (.jstTmrCancel t m v) [.jst] (fun k => k ∈ Dev.keysOf [Reg.JST_TMR_COUNT.word, Reg.JST_TMR_STATUS.word (bankOf m)])) ∧
  (∀ (t : Nat), Frame (.jstTimerRelease t) [.jst] (fun k => k ∈ Dev.keysOf [Reg.JST_IRQ_STATUS.word, Reg.JST_TMR_COUNT.word, Reg.JST_TMR_DEFER.word] ∨ (∃ i < 64, k = (Reg.JST_QREFUSED.word i).key)))

/-- What the host link's commands leave unchanged. -/
def Obligations.HostLinkFrames : Prop :=
  (∀ (t : Nat) (items : List (BitVec 64)), Frame (.hlWrite t items) [.hlk] (fun k => k ∈ Dev.keysOf [Reg.HLK_CNT.word, Reg.HLK_FILL.word, Reg.HLK_IRQ_STATUS.word, Reg.HLK_STATUS.word])) ∧
  (∀ (t : Nat) (n : Nat), Frame (.hlRead t n) [.hlk] (fun k => k ∈ Dev.keysOf [Reg.HLK_FILL.word, Reg.HLK_STATUS.word])) ∧
  (∀ (t : Nat), Frame (.hlMark t) [.hlk] (fun _ => False)) ∧
  (∀ (t : Nat), Frame (.hlRewind t) [.hlk] (fun k => k ∈ Dev.keysOf [Reg.HLK_FILL.word, Reg.HLK_STATUS.word])) ∧
  (∀ (t : Nat) (n : Nat), Frame (.hlRelease t n) [.hlk] (fun k => k ∈ Dev.keysOf [Reg.HLK_FILL.word, Reg.HLK_IRQ_STATUS.word, Reg.HLK_STATUS.word])) ∧
  (∀ (t : Nat), Frame (.hlStatus t) [.hlk] (fun _ => False)) ∧
  (∀ (t : Nat) (command : Nat), Frame (.badCommand t command) [] (fun k => k ∈ Dev.keysOf [Reg.HLK_CNT.word, Reg.HLK_IRQ_STATUS.word])) ∧
  (∀ (t : Nat), Frame (.hlDownFrame t) [.jst, .hlk] (fun k => k ∈ Dev.keysOf [Reg.HLK_CNT.word, Reg.HLK_FILL.word, Reg.HLK_IRQ_STATUS.word, Reg.HLK_STATUS.word, Reg.JST_IRQ_STATUS.word] ∨ (∃ i < 64, k = (Reg.JST_QREFUSED.word i).key))) ∧
  (∀ (t : Nat) (m : Master) (v : W32), Frame (.hlUpData t m v) [.staged, .hlk] (fun _ => False)) ∧
  (∀ (t : Nat) (m : Master), Frame (.hlUpCommit t m) [.hlk] (fun k => k ∈ Dev.keysOf [Reg.HLK_FILL.word, Reg.HLK_STATUS.word, Reg.HLK_UP_CTRL.word (bankOf m)])) ∧
  (∀ (t : Nat) (m : Master), Frame (.hlUpAbandon t m) [.hlk] (fun _ => False)) ∧
  (∀ (t : Nat), Frame (.hlUpTimeout t) [.hlk] (fun k => k ∈ Dev.keysOf [Reg.HLK_FILL.word, Reg.HLK_STATUS.word])) ∧
  (∀ (t : Nat) (attached : Bool), Frame (.usbAttached t attached) [.hlk] (fun k => k ∈ Dev.keysOf [Reg.USB_IRQ_STATUS.word, Reg.USB_STATE.word])) ∧
  (∀ (t : Nat) (suspended : Bool), Frame (.usbSuspend t suspended) [] (fun k => k ∈ Dev.keysOf [Reg.USB_STATE.word]))

/-- What the command port's commands leave unchanged. -/
def Obligations.CommandPortFrames : Prop :=
  (∀ (t : Nat) (e : Envelope), Frame (.getStatus t e) [.sys, .sil, .key, .jst, .hlk] (fun k => k ∈ Dev.keysOf [Reg.HLK_FILL.word, Reg.HLK_STATUS.word, Reg.JST_IRQ_STATUS.word, Reg.KEY_CNT.word, Reg.KEY_IRQ_STATUS.word, Reg.KEY_STATUS.word, Reg.SYS_CMD_BAD.word, Reg.USB_STATE.word] ∨ (∃ i < 64, k = (Reg.JST_QREFUSED.word i).key))) ∧
  (∀ (t : Nat) (e : Envelope), Frame (.readEvents t e) [.sys, .sil, .key, .jst, .hlk] (fun k => k ∈ Dev.keysOf [Reg.HLK_FILL.word, Reg.HLK_STATUS.word, Reg.JST_IRQ_STATUS.word, Reg.KEY_CNT.word, Reg.KEY_IRQ_STATUS.word, Reg.KEY_STATUS.word, Reg.SYS_CMD_BAD.word, Reg.USB_STATE.word] ∨ (∃ i < 64, k = (Reg.JST_QREFUSED.word i).key))) ∧
  (∀ (t : Nat) (e : Envelope), Frame (.start t e) [.sys, .sil, .key, .jst, .hlk] (fun k => k ∈ Dev.keysOf [Reg.HLK_FILL.word, Reg.HLK_STATUS.word, Reg.JST_IRQ_STATUS.word, Reg.KEY_CNT.word, Reg.KEY_IRQ_STATUS.word, Reg.KEY_STATUS.word, Reg.SYS_CMD_BAD.word, Reg.USB_STATE.word] ∨ (∃ i < 64, k = (Reg.JST_QREFUSED.word i).key))) ∧
  (∀ (t : Nat) (e : Envelope), Frame (.stop t e) [.sys, .sil, .key, .jst, .hlk] (fun k => k ∈ Dev.keysOf [Reg.HLK_FILL.word, Reg.HLK_STATUS.word, Reg.JST_IRQ_STATUS.word, Reg.KEY_CNT.word, Reg.KEY_IRQ_STATUS.word, Reg.KEY_STATUS.word, Reg.SYS_CMD_BAD.word, Reg.USB_STATE.word] ∨ (∃ i < 64, k = (Reg.JST_QREFUSED.word i).key))) ∧
  (∀ (t : Nat) (e : Envelope), Frame (.shutdown t e) [.sys, .sil, .key, .jst, .hlk, .bst] (fun k => k ∈ Dev.keysOf [Reg.HLK_FILL.word, Reg.HLK_STATUS.word, Reg.JST_IRQ_STATUS.word, Reg.KEY_CNT.word, Reg.KEY_IRQ_STATUS.word, Reg.KEY_STATUS.word, Reg.SYS_CMD_BAD.word, Reg.USB_STATE.word] ∨ (∃ i < 64, k = (Reg.JST_QREFUSED.word i).key))) ∧
  (∀ (t : Nat) (e : Envelope), Frame (.cutStage t e) [.sys, .sil, .key, .cut, .jst, .hlk] (fun k => k ∈ Dev.keysOf [Reg.CUT_PATCH_FILL.word, Reg.CUT_STAGE_FILL.word, Reg.HLK_FILL.word, Reg.HLK_STATUS.word, Reg.JST_IRQ_STATUS.word, Reg.KEY_CNT.word, Reg.KEY_IRQ_STATUS.word, Reg.KEY_STATUS.word, Reg.SYS_CMD_BAD.word, Reg.USB_STATE.word] ∨ (∃ i < 64, k = (Reg.JST_QREFUSED.word i).key))) ∧
  (∀ (t : Nat) (e : Envelope), Frame (.cutLoad t e) [.sys, .sil, .key, .cut, .jst, .hlk] (fun k => k ∈ Dev.keysOf [Reg.CUT_ERR_OFFSET.word, Reg.CUT_ERR_SECTION.word, Reg.CUT_STATUS.word, Reg.HLK_FILL.word, Reg.HLK_STATUS.word, Reg.JST_IRQ_STATUS.word, Reg.KEY_CNT.word, Reg.KEY_IRQ_STATUS.word, Reg.KEY_STATUS.word, Reg.SYS_CMD_BAD.word, Reg.USB_STATE.word] ∨ (∃ i < 64, k = (Reg.JST_QREFUSED.word i).key))) ∧
  (∀ (t : Nat) (e : Envelope), Frame (.cutPatch t e) [.sys, .sil, .key, .cut, .jst, .hlk] (fun k => k ∈ Dev.keysOf [Reg.CUT_ERR_OFFSET.word, Reg.CUT_ERR_SECTION.word, Reg.CUT_STATUS.word, Reg.HLK_FILL.word, Reg.HLK_STATUS.word, Reg.JST_IRQ_STATUS.word, Reg.KEY_CNT.word, Reg.KEY_IRQ_STATUS.word, Reg.KEY_STATUS.word, Reg.SYS_CMD_BAD.word, Reg.USB_STATE.word] ∨ (∃ i < 64, k = (Reg.JST_QREFUSED.word i).key))) ∧
  (∀ (t : Nat) (e : Envelope), Frame (.setPasses t e) [.sys, .beat, .sil, .key, .jst, .hlk] (fun k => k ∈ Dev.keysOf [Reg.HLK_FILL.word, Reg.HLK_STATUS.word, Reg.JST_IRQ_STATUS.word, Reg.KEY_CNT.word, Reg.KEY_IRQ_STATUS.word, Reg.KEY_STATUS.word, Reg.SYS_CMD_BAD.word, Reg.USB_STATE.word] ∨ (∃ i < 64, k = (Reg.JST_QREFUSED.word i).key))) ∧
  (∀ (t : Nat) (e : Envelope), Frame (.overrideC1Set t e) [.sys, .sil, .key, .rft, .jst, .hlk] (fun k => k ∈ Dev.keysOf [Reg.HLK_FILL.word, Reg.HLK_STATUS.word, Reg.JST_IRQ_STATUS.word, Reg.KEY_CNT.word, Reg.KEY_IRQ_STATUS.word, Reg.KEY_STATUS.word, Reg.SYS_CMD_BAD.word, Reg.USB_STATE.word] ∨ (∃ i < 64, k = (Reg.JST_QREFUSED.word i).key))) ∧
  (∀ (t : Nat) (e : Envelope), Frame (.overrideC1Clear t e) [.sys, .sil, .key, .rft, .jst, .hlk] (fun k => k ∈ Dev.keysOf [Reg.HLK_FILL.word, Reg.HLK_STATUS.word, Reg.JST_IRQ_STATUS.word, Reg.KEY_CNT.word, Reg.KEY_IRQ_STATUS.word, Reg.KEY_STATUS.word, Reg.SYS_CMD_BAD.word, Reg.USB_STATE.word] ∨ (∃ i < 64, k = (Reg.JST_QREFUSED.word i).key))) ∧
  (∀ (t : Nat) (e : Envelope), Frame (.class0Activate t e) [.sys, .sil, .key, .rft, .lin, .jst, .hlk] (fun k => k ∈ Dev.keysOf [Reg.HLK_FILL.word, Reg.HLK_STATUS.word, Reg.JST_IRQ_STATUS.word, Reg.KEY_CNT.word, Reg.KEY_IRQ_STATUS.word, Reg.KEY_STATUS.word, Reg.SYS_CMD_BAD.word, Reg.USB_STATE.word] ∨ (∃ i < 64, k = (Reg.JST_QREFUSED.word i).key))) ∧
  (∀ (t : Nat) (e : Envelope), Frame (.class0Release t e) [.sys, .sil, .key, .rft, .lin, .jst, .hlk] (fun k => k ∈ Dev.keysOf [Reg.HLK_FILL.word, Reg.HLK_STATUS.word, Reg.JST_IRQ_STATUS.word, Reg.KEY_CNT.word, Reg.KEY_IRQ_STATUS.word, Reg.KEY_STATUS.word, Reg.SYS_CMD_BAD.word, Reg.USB_STATE.word] ∨ (∃ i < 64, k = (Reg.JST_QREFUSED.word i).key))) ∧
  (∀ (t : Nat) (e : Envelope), Frame (.timeSet t e) [.freeCtr, .sys, .beat, .sil, .key, .jst, .tim, .rtc, .hlk] (fun k => k ∈ Dev.keysOf [Reg.BEAT_STATUS.word, Reg.HLK_FILL.word, Reg.HLK_STATUS.word, Reg.JST_IRQ_STATUS.word, Reg.KEY_CNT.word, Reg.KEY_IRQ_STATUS.word, Reg.KEY_STATUS.word, Reg.SYS_CMD_BAD.word, Reg.TIME_IRQ_STATUS.word, Reg.TIME_SLEW.word, Reg.TIME_STATUS.word, Reg.TIME_UTC.word, Reg.USB_STATE.word] ∨ (∃ i < 64, k = (Reg.JST_QREFUSED.word i).key))) ∧
  (∀ (t : Nat) (e : Envelope), Frame (.forceTime t e) [.freeCtr, .sys, .beat, .sil, .key, .jst, .rtc, .hlk] (fun k => k ∈ Dev.keysOf [Reg.HLK_FILL.word, Reg.HLK_STATUS.word, Reg.JST_IRQ_STATUS.word, Reg.KEY_CNT.word, Reg.KEY_IRQ_STATUS.word, Reg.KEY_STATUS.word, Reg.SYS_CMD_BAD.word, Reg.TIME_STATUS.word, Reg.USB_STATE.word] ∨ (∃ i < 64, k = (Reg.JST_QREFUSED.word i).key))) ∧
  (∀ (t : Nat) (e : Envelope), Frame (.fwStageChunk t e) [.sys, .sil, .key, .jst, .hlk, .fwu] (fun k => k ∈ Dev.keysOf [Reg.FWU_FLOOR.word, Reg.FWU_STAGE_FILL.word, Reg.FWU_STATUS.word, Reg.FWU_VER_OTHER.word, Reg.FWU_VER_RUN.word, Reg.HLK_FILL.word, Reg.HLK_STATUS.word, Reg.JST_IRQ_STATUS.word, Reg.KEY_CNT.word, Reg.KEY_IRQ_STATUS.word, Reg.KEY_STATUS.word, Reg.SYS_CMD_BAD.word, Reg.USB_STATE.word] ∨ (∃ i < 64, k = (Reg.JST_QREFUSED.word i).key))) ∧
  (∀ (t : Nat) (e : Envelope), Frame (.fwStageCommit t e) [.sys, .sil, .key, .jst, .hlk, .fwu] (fun k => k ∈ Dev.keysOf [Reg.FWU_FLOOR.word, Reg.FWU_STAGE_FILL.word, Reg.FWU_STATUS.word, Reg.FWU_VER_OTHER.word, Reg.FWU_VER_RUN.word, Reg.HLK_FILL.word, Reg.HLK_STATUS.word, Reg.JST_IRQ_STATUS.word, Reg.KEY_CNT.word, Reg.KEY_IRQ_STATUS.word, Reg.KEY_STATUS.word, Reg.SYS_CMD_BAD.word, Reg.USB_STATE.word] ∨ (∃ i < 64, k = (Reg.JST_QREFUSED.word i).key))) ∧
  (∀ (t : Nat) (e : Envelope), Frame (.fwStageAbandon t e) [.sys, .sil, .key, .jst, .hlk, .fwu] (fun k => k ∈ Dev.keysOf [Reg.FWU_FLOOR.word, Reg.FWU_STAGE_FILL.word, Reg.FWU_STATUS.word, Reg.FWU_VER_OTHER.word, Reg.FWU_VER_RUN.word, Reg.HLK_FILL.word, Reg.HLK_STATUS.word, Reg.JST_IRQ_STATUS.word, Reg.KEY_CNT.word, Reg.KEY_IRQ_STATUS.word, Reg.KEY_STATUS.word, Reg.SYS_CMD_BAD.word, Reg.USB_STATE.word] ∨ (∃ i < 64, k = (Reg.JST_QREFUSED.word i).key))) ∧
  (∀ (t : Nat) (e : Envelope), Frame (.activate t e) [.sys, .sil, .key, .jst, .hlk, .fwu, .pair] (fun k => k ∈ Dev.keysOf [Reg.FWU_FLOOR.word, Reg.FWU_STAGE_FILL.word, Reg.FWU_STATUS.word, Reg.FWU_VER_OTHER.word, Reg.FWU_VER_RUN.word, Reg.HLK_FILL.word, Reg.HLK_STATUS.word, Reg.JST_IRQ_STATUS.word, Reg.KEY_CNT.word, Reg.KEY_IRQ_STATUS.word, Reg.KEY_STATUS.word, Reg.SYS_CMD_BAD.word, Reg.USB_STATE.word] ∨ (∃ i < 64, k = (Reg.JST_QREFUSED.word i).key))) ∧
  (∀ (t : Nat) (e : Envelope), Frame (.pairDemote t e) [.sys, .sil, .key, .jst, .hlk, .pair] (fun k => k ∈ Dev.keysOf [Reg.HLK_FILL.word, Reg.HLK_STATUS.word, Reg.JST_IRQ_STATUS.word, Reg.KEY_CNT.word, Reg.KEY_IRQ_STATUS.word, Reg.KEY_STATUS.word, Reg.PAIR_LAG.word, Reg.PAIR_LEASE.word, Reg.PAIR_STATUS.word, Reg.SYS_CMD_BAD.word, Reg.USB_STATE.word] ∨ (∃ i < 64, k = (Reg.JST_QREFUSED.word i).key))) ∧
  (∀ (t : Nat) (e : Envelope), Frame (.pairTakeover t e) [.sys, .sil, .key, .jst, .hlk, .bst, .pair, .lnd] (fun k => k ∈ Dev.keysOf [Reg.BST_IRQ_STATUS.word, Reg.BST_STATUS.word, Reg.HLK_FILL.word, Reg.HLK_STATUS.word, Reg.JST_IRQ_STATUS.word, Reg.JST_STATUS.word, Reg.KEY_CNT.word, Reg.KEY_IRQ_STATUS.word, Reg.KEY_STATUS.word, Reg.PAIR_LAG.word, Reg.PAIR_LEASE.word, Reg.PAIR_STATUS.word, Reg.SYS_CMD_BAD.word, Reg.SYS_STATUS.word, Reg.USB_STATE.word] ∨ (∃ b, k = (Reg.JST_GET.word b).key) ∨ (∃ i < 64, k = (Reg.JST_QREFUSED.word i).key))) ∧
  (∀ (t : Nat) (e : Envelope), Frame (.keyUpdateImport t e) [.sys, .sil, .key, .jst, .hlk] (fun k => k ∈ Dev.keysOf [Reg.HLK_FILL.word, Reg.HLK_STATUS.word, Reg.JST_IRQ_STATUS.word, Reg.KEY_CNT.word, Reg.KEY_IRQ_STATUS.word, Reg.KEY_STATUS.word, Reg.SIL_IRQ_STATUS.word, Reg.SYS_CMD_BAD.word, Reg.USB_STATE.word] ∨ (∃ i < 64, k = (Reg.JST_QREFUSED.word i).key))) ∧
  (∀ (t : Nat) (e : Envelope), Frame (.keyUpdateDerive t e) [.sys, .sil, .key, .jst, .hlk] (fun k => k ∈ Dev.keysOf [Reg.HLK_FILL.word, Reg.HLK_STATUS.word, Reg.JST_IRQ_STATUS.word, Reg.KEY_CNT.word, Reg.KEY_IRQ_STATUS.word, Reg.KEY_STATUS.word, Reg.SIL_IRQ_STATUS.word, Reg.SYS_CMD_BAD.word, Reg.USB_STATE.word] ∨ (∃ i < 64, k = (Reg.JST_QREFUSED.word i).key))) ∧
  (∀ (t : Nat) (e : Envelope), Frame (.keyUpdateLifecycle t e) [.sys, .sil, .key, .jst, .hlk] (fun k => k ∈ Dev.keysOf [Reg.HLK_FILL.word, Reg.HLK_STATUS.word, Reg.JST_IRQ_STATUS.word, Reg.KEY_CNT.word, Reg.KEY_IRQ_STATUS.word, Reg.KEY_STATUS.word, Reg.SIL_IRQ_STATUS.word, Reg.SYS_CMD_BAD.word, Reg.USB_STATE.word] ∨ (∃ i < 64, k = (Reg.JST_QREFUSED.word i).key))) ∧
  (∀ (t : Nat) (e : Envelope), Frame (.keyInvalidate t e) [.sys, .sil, .key, .jst, .hlk] (fun k => k ∈ Dev.keysOf [Reg.HLK_FILL.word, Reg.HLK_STATUS.word, Reg.JST_IRQ_STATUS.word, Reg.KEY_CNT.word, Reg.KEY_IRQ_STATUS.word, Reg.KEY_STATUS.word, Reg.SIL_IRQ_STATUS.word, Reg.SYS_CMD_BAD.word, Reg.USB_STATE.word] ∨ (∃ i < 64, k = (Reg.JST_QREFUSED.word i).key))) ∧
  (∀ (t : Nat) (e : Envelope), Frame (.meterSnapshot t e) [.sys, .sil, .key, .jst, .hlk] (fun k => k ∈ Dev.keysOf [Reg.HLK_FILL.word, Reg.HLK_STATUS.word, Reg.JST_IRQ_STATUS.word, Reg.KEY_CNT.word, Reg.KEY_IRQ_STATUS.word, Reg.KEY_STATUS.word, Reg.SYS_CMD_BAD.word, Reg.USB_STATE.word] ∨ (∃ i < 64, k = (Reg.JST_QREFUSED.word i).key))) ∧
  (∀ (t : Nat) (code : Nat) (e : Envelope), Frame (.codeNotDefined t code e) [.sys, .sil, .key, .jst, .hlk] (fun k => k ∈ Dev.keysOf [Reg.HLK_FILL.word, Reg.HLK_STATUS.word, Reg.JST_IRQ_STATUS.word, Reg.KEY_CNT.word, Reg.KEY_IRQ_STATUS.word, Reg.KEY_STATUS.word, Reg.SYS_CMD_BAD.word, Reg.USB_STATE.word] ∨ (∃ i < 64, k = (Reg.JST_QREFUSED.word i).key)))

/-- What the rafter engine's and the Cut List's commands leave unchanged. -/
def Obligations.EngineFrames : Prop :=
  (∀ (t : Nat) (m : Master) (v : W32), Frame (.rftIngestW0 t m v) [.rft] (fun _ => False)) ∧
  (∀ (t : Nat) (m : Master) (i : Fin 2) (v : W32), Frame (.rftIngestWord t m i v) [.rft] (fun _ => False)) ∧
  (∀ (t : Nat) (m : Master) (v : W32), Frame (.rftIngestCommit t m v) [.rft] (fun k => k ∈ Dev.keysOf [Reg.RFT_INGEST_BAD.word, Reg.RFT_INGEST_CNT.word, Reg.RFT_INGEST_DISCARD.word, Reg.RFT_INGEST_FILL.word, Reg.RFT_INGEST_REFUSED.word, Reg.RFT_INGEST_STATUS.word (bankOf m), Reg.RFT_IRQ_STATUS.word])) ∧
  (∀ (t : Nat) (m : Master) (v : W32), Frame (.rftBattenSel t m v) [] (fun k => k ∈ Dev.keysOf [Reg.RFT_BATTEN_BEAT.word, Reg.RFT_BATTEN_SEL.word, Reg.RFT_BATTEN_US.word])) ∧
  (∀ (t : Nat) (m : Master) (v : W32), Frame (.rftSpeedSel t m v) [] (fun k => k ∈ Dev.keysOf [Reg.RFT_SPEED.word, Reg.RFT_SPEED_SEL.word])) ∧
  (∀ (t : Nat) (scope : Nat) (id : Nat), Frame (.c1Expired t scope id) [.rft] (fun _ => False)) ∧
  (∀ (t : Nat) (eid : Nat), Frame (.refreshDue t eid) [.rft] (fun _ => False)) ∧
  (∀ (t : Nat) (eid : Nat), Frame (.waveHoldExpired t eid) [.rft] (fun _ => False)) ∧
  (∀ (t : Nat) (eid : Nat) (j : Nat), Frame (.edgeDelayElapsed t eid j) [.rft] (fun _ => False)) ∧
  (∀ (t : Nat) (eid : Nat), Frame (.daylightStale t eid) [] (fun _ => False)) ∧
  (∀ (t : Nat) (index : Nat), Frame (.c0Refresh t index) [.key, .lin, .rad, .trk] (fun k => k ∈ Dev.keysOf [Reg.KEY_CNT.word, Reg.KEY_IRQ_STATUS.word, Reg.KEY_STATUS.word])) ∧
  (∀ (t : Nat), Frame (.beatDeadline t) [.cut] (fun _ => False)) ∧
  (∀ (t : Nat) (good : Bool), Frame (.cutLoadStored t good) [.cut, .pair] (fun k => k ∈ Dev.keysOf [Reg.CUT_ERR_OFFSET.word, Reg.CUT_ERR_SECTION.word, Reg.CUT_STATUS.word, Reg.SYS_STATUS.word])) ∧
  (∀ (t : Nat) (good : Bool), Frame (.patchReady t good) [.sys, .sil, .cut, .jst, .hlk] (fun k => k ∈ Dev.keysOf [Reg.CUT_ERR_OFFSET.word, Reg.CUT_ERR_SECTION.word, Reg.CUT_STATUS.word, Reg.HLK_FILL.word, Reg.HLK_STATUS.word, Reg.JST_IRQ_STATUS.word] ∨ (∃ i < 64, k = (Reg.JST_QREFUSED.word i).key))) ∧
  (∀ (t : Nat) (channelB : Bool) (active : Bool), Frame (.emgEdge t channelB active) [.rft, .lin] (fun k => k ∈ Dev.keysOf [Reg.SYS_PIN_STATUS.word])) ∧
  (∀ (t : Nat) (ms : Nat), Frame (.emgDisagree t ms) [.lin] (fun k => k ∈ Dev.keysOf [Reg.SYS_PIN_STATUS.word]))

/-- What COMMIT, OVERRUN and an idle boundary leave unchanged. -/
def Obligations.BeatFrames : Prop :=
  (∀ (t : Nat), Frame (.commit t) [.beat, .sil, .cut, .rft, .lin, .jst, .pair, .lgt] (fun k => k ∈ Dev.keysOf [Reg.BEAT_IRQ_STATUS.word, Reg.BEAT_OVR_CNT.word, Reg.BEAT_OVR_STATE.word, Reg.BEAT_STATUS.word, Reg.BEAT_SWEEP_TIME.word, Reg.JST_IRQ_STATUS.word, Reg.PAIR_IRQ_STATUS.word, Reg.PAIR_RESEND.word, Reg.RFT_CS_CURSOR.word, Reg.RFT_CS_LAST.word, Reg.RFT_CS_LIMIT_CNT.word, Reg.RFT_CS_PENDING.word, Reg.RFT_CS_REFUSED.word, Reg.RFT_DIGEST_BEAT_HI.word, Reg.RFT_DIGEST_BEAT_LO.word, Reg.RFT_DIGEST_HI.word, Reg.RFT_DIGEST_LO.word, Reg.RFT_INGEST_FILL.word, Reg.RFT_IRQ_STATUS.word, Reg.RFT_STATUS.word] ∨ (∃ i < 64, k = (Reg.JST_QREFUSED.word i).key))) ∧
  (∀ (t : Nat) (pass : Nat), Frame (.overrun t pass) [.beat, .sil, .cut, .rft, .pair] (fun k => k ∈ Dev.keysOf [Reg.BEAT_IRQ_STATUS.word, Reg.BEAT_OVR_CNT.word, Reg.BEAT_OVR_STATE.word, Reg.BEAT_STATUS.word])) ∧
  (∀ (s : State), s.dev.beats = false → Completes .beatBoundary s fun d => (∀ p : Part, p.same s.dev d) ∧ KeepsRegs s.dev d eventKeys)

/-- What a load and a boot step leave unchanged. -/
def Obligations.LoadFrames : Prop :=
  (∀ (t : Nat), Frame (.cutCopyDone t) [.mem, .beat, .sil, .cut, .rft, .lin, .jst, .rad, .trk, .mtr, .pair, .lgt, .lnd] (fun k => k ∈ Dev.keysOf [Reg.BEAT_CFG.word, Reg.BEAT_PASSES.word, Reg.BEAT_SLEW_LIMIT.word, Reg.CUT_COPY.word, Reg.CUT_EDGES.word, Reg.CUT_FORMAT.word, Reg.CUT_GEN.word, Reg.CUT_ID_HI.word, Reg.CUT_ID_LO.word, Reg.CUT_NODES.word, Reg.CUT_PATCHES.word, Reg.CUT_STATUS.word, Reg.JST_IRQ_STATUS.word, Reg.LGT_STATUS.word, Reg.MTR_STATUS.word, Reg.RFT_CS_CURSOR.word, Reg.RFT_CS_REFUSED.word, Reg.RFT_IRQ_STATUS.word, Reg.SYS_GPIO_OUT_HI.word, Reg.SYS_GPIO_OUT_LO.word] ∨ (∃ i < 8, k = (Reg.CUT_HASH.word i).key) ∨ (∃ r < 4, k = (Reg.RAD_PLAN.word r).key) ∨ (∃ w < 8, k = (Reg.TRK_CYCLE.word w).key) ∨ (∃ w < 8, k = (Reg.TRK_PLCA.word w).key))) ∧
  (∀ (t : Nat) (quick : List (Nat × Nat)), Frame (.bootStepDone t quick) [.mem, .freeCtr, .sys, .beat, .sil, .key, .cut, .rft, .lin, .jst, .rtc, .rad, .trk, .pwr, .bst, .fwu, .mtr, .pair, .lgt, .lnd] (fun k => k ∈ Dev.keysOf [Reg.BEAT_CFG.word, Reg.BEAT_PASSES.word, Reg.BEAT_SLEW_LIMIT.word, Reg.BEAT_STATUS.word, Reg.BEAT_TIMING.word, Reg.BST_BOOT_MS.word, Reg.BST_EARLY.word, Reg.BST_IRQ_STATUS.word, Reg.BST_STATUS.word, Reg.BST_UNIT0.word, Reg.BST_UNIT1.word, Reg.BST_UNTESTED0.word, Reg.BST_UNTESTED1.word, Reg.CLK_STATUS.word, Reg.CLK_XTAL40.word, Reg.CUT_EDGES.word, Reg.CUT_FORMAT.word, Reg.CUT_GEN.word, Reg.CUT_ID_HI.word, Reg.CUT_ID_LO.word, Reg.CUT_NODES.word, Reg.CUT_PATCHES.word, Reg.CUT_STATUS.word, Reg.FWU_FLOOR.word, Reg.FWU_IRQ_STATUS.word, Reg.FWU_LIB_FREE.word, Reg.FWU_STAGE_FILL.word, Reg.FWU_STATUS.word, Reg.FWU_VER_OTHER.word, Reg.FWU_VER_RUN.word, Reg.JST_IRQ_STATUS.word, Reg.JST_STATUS.word, Reg.KEY_CNT.word, Reg.KEY_IRQ_STATUS.word, Reg.KEY_STATUS.word, Reg.LGT_STATUS.word, Reg.MTR_STATUS.word, Reg.PAIR_EPOCH.word, Reg.PAIR_IRQ_STATUS.word, Reg.PAIR_LAG.word, Reg.PAIR_LEASE.word, Reg.PAIR_STATUS.word, Reg.PWR_PF_CNT.word, Reg.PWR_STATUS.word, Reg.RFT_BUDGET.word, Reg.RFT_CAPACITY.word, Reg.RFT_COST.word, Reg.RFT_CS_CURSOR.word, Reg.RFT_CS_REFUSED.word, Reg.RFT_IRQ_STATUS.word, Reg.RFT_STATUS.word, Reg.SIL_EPOCH.word, Reg.SIL_STATUS.word, Reg.SYS_C0_SUSPEND.word, Reg.SYS_GPIO_OUT_HI.word, Reg.SYS_GPIO_OUT_LO.word, Reg.SYS_PIN_STATUS.word, Reg.SYS_STATUS.word, Reg.TIME_STATUS.word] ∨ (∃ i < 8, k = (Reg.CUT_HASH.word i).key) ∨ (∃ b, k = (Reg.JST_GET.word b).key) ∨ (∃ r < 4, k = (Reg.RAD_PLAN.word r).key) ∨ (∃ w < 8, k = (Reg.TRK_CYCLE.word w).key) ∨ (∃ w < 16, k = (Reg.TRK_NET.word w).key) ∨ (∃ w < 8, k = (Reg.TRK_PLCA.word w).key)))

/-- What the commands that replay mirrored beats leave unchanged. -/
def Obligations.ReplayFrames : Prop :=
  (∀ (t : Nat) (beat : Nat) (outcome : Nat) (entries : Nat) (sample : Nat) (digest : Nat), Frame (.bundleCloseRx t beat outcome entries sample digest) [.mem, .sys, .beat, .sil, .key, .cut, .rft, .lin, .jst, .rad, .trk, .mtr, .pair, .lgt, .lnd] (fun k => k ∈ Dev.keysOf [Reg.BEAT_CFG.word, Reg.BEAT_PASSES.word, Reg.BEAT_SLEW_LIMIT.word, Reg.BEAT_TIMING.word, Reg.CUT_COPY.word, Reg.CUT_EDGES.word, Reg.CUT_ERR_OFFSET.word, Reg.CUT_ERR_SECTION.word, Reg.CUT_FORMAT.word, Reg.CUT_GEN.word, Reg.CUT_ID_HI.word, Reg.CUT_ID_LO.word, Reg.CUT_NODES.word, Reg.CUT_PATCHES.word, Reg.CUT_STATUS.word, Reg.JST_IRQ_STATUS.word, Reg.JST_STATUS.word, Reg.KEY_CNT.word, Reg.KEY_IRQ_STATUS.word, Reg.KEY_STATUS.word, Reg.LGT_STATUS.word, Reg.MTR_STATUS.word, Reg.PAIR_ACKED_HI.word, Reg.PAIR_ACKED_LO.word, Reg.PAIR_CNT.word, Reg.PAIR_EPOCH.word, Reg.PAIR_IRQ_STATUS.word, Reg.PAIR_LAG.word, Reg.PAIR_LEASE.word, Reg.PAIR_STATUS.word, Reg.RFT_BUDGET.word, Reg.RFT_CAPACITY.word, Reg.RFT_COST.word, Reg.RFT_CS_CURSOR.word, Reg.RFT_CS_LAST.word, Reg.RFT_CS_LIMIT_CNT.word, Reg.RFT_CS_PENDING.word, Reg.RFT_CS_REFUSED.word, Reg.RFT_DIGEST_BEAT_HI.word, Reg.RFT_DIGEST_BEAT_LO.word, Reg.RFT_DIGEST_HI.word, Reg.RFT_DIGEST_LO.word, Reg.RFT_INGEST_BAD.word, Reg.RFT_INGEST_FILL.word, Reg.RFT_IRQ_STATUS.word, Reg.RFT_STATUS.word, Reg.SIL_EPOCH.word, Reg.SIL_SNAP.word, Reg.SIL_STATUS.word, Reg.SYS_C0_SUSPEND.word, Reg.SYS_GPIO_OUT_HI.word, Reg.SYS_GPIO_OUT_LO.word, Reg.SYS_STATUS.word] ∨ (∃ i < 8, k = (Reg.CUT_HASH.word i).key) ∨ (∃ b, k = (Reg.JST_GET.word b).key) ∨ (∃ r < 4, k = (Reg.RAD_PLAN.word r).key) ∨ (∃ w < 8, k = (Reg.TRK_CYCLE.word w).key) ∨ (∃ w < 16, k = (Reg.TRK_NET.word w).key) ∨ (∃ w < 8, k = (Reg.TRK_PLCA.word w).key))) ∧
  (∀ (t : Nat) (h : Heartbeat) (pairId : Nat) (unitId : Nat), Frame (.handoverRx t h pairId unitId) [.mem, .sys, .beat, .sil, .key, .cut, .rft, .lin, .jst, .rad, .trk, .mtr, .pair, .lgt, .lnd] (fun k => k ∈ Dev.keysOf [Reg.BEAT_CFG.word, Reg.BEAT_PASSES.word, Reg.BEAT_SLEW_LIMIT.word, Reg.BEAT_TIMING.word, Reg.CUT_COPY.word, Reg.CUT_EDGES.word, Reg.CUT_ERR_OFFSET.word, Reg.CUT_ERR_SECTION.word, Reg.CUT_FORMAT.word, Reg.CUT_GEN.word, Reg.CUT_ID_HI.word, Reg.CUT_ID_LO.word, Reg.CUT_NODES.word, Reg.CUT_PATCHES.word, Reg.CUT_STATUS.word, Reg.JST_IRQ_STATUS.word, Reg.JST_STATUS.word, Reg.KEY_CNT.word, Reg.KEY_IRQ_STATUS.word, Reg.KEY_STATUS.word, Reg.LGT_STATUS.word, Reg.MTR_STATUS.word, Reg.PAIR_ACKED_HI.word, Reg.PAIR_ACKED_LO.word, Reg.PAIR_CNT.word, Reg.PAIR_EPOCH.word, Reg.PAIR_IRQ_STATUS.word, Reg.PAIR_LAG.word, Reg.PAIR_LEASE.word, Reg.PAIR_STATUS.word, Reg.RFT_BUDGET.word, Reg.RFT_CAPACITY.word, Reg.RFT_COST.word, Reg.RFT_CS_CURSOR.word, Reg.RFT_CS_LAST.word, Reg.RFT_CS_LIMIT_CNT.word, Reg.RFT_CS_PENDING.word, Reg.RFT_CS_REFUSED.word, Reg.RFT_DIGEST_BEAT_HI.word, Reg.RFT_DIGEST_BEAT_LO.word, Reg.RFT_DIGEST_HI.word, Reg.RFT_DIGEST_LO.word, Reg.RFT_INGEST_BAD.word, Reg.RFT_INGEST_FILL.word, Reg.RFT_IRQ_STATUS.word, Reg.RFT_STATUS.word, Reg.SIL_EPOCH.word, Reg.SIL_SNAP.word, Reg.SIL_STATUS.word, Reg.SYS_C0_SUSPEND.word, Reg.SYS_GPIO_OUT_HI.word, Reg.SYS_GPIO_OUT_LO.word, Reg.SYS_STATUS.word] ∨ (∃ i < 8, k = (Reg.CUT_HASH.word i).key) ∨ (∃ b, k = (Reg.JST_GET.word b).key) ∨ (∃ r < 4, k = (Reg.RAD_PLAN.word r).key) ∨ (∃ w < 8, k = (Reg.TRK_CYCLE.word w).key) ∨ (∃ w < 16, k = (Reg.TRK_NET.word w).key) ∨ (∃ w < 8, k = (Reg.TRK_PLCA.word w).key))) ∧
  (∀ (t : Nat) (msg : LeaseMsg), Frame (.leaseGrantRx t msg) [.mem, .sys, .beat, .sil, .key, .cut, .rft, .lin, .jst, .rad, .trk, .mtr, .pair, .lgt, .lnd] (fun k => k ∈ Dev.keysOf [Reg.BEAT_CFG.word, Reg.BEAT_PASSES.word, Reg.BEAT_SLEW_LIMIT.word, Reg.BEAT_TIMING.word, Reg.CUT_COPY.word, Reg.CUT_EDGES.word, Reg.CUT_ERR_OFFSET.word, Reg.CUT_ERR_SECTION.word, Reg.CUT_FORMAT.word, Reg.CUT_GEN.word, Reg.CUT_ID_HI.word, Reg.CUT_ID_LO.word, Reg.CUT_NODES.word, Reg.CUT_PATCHES.word, Reg.CUT_STATUS.word, Reg.JST_IRQ_STATUS.word, Reg.JST_STATUS.word, Reg.KEY_CNT.word, Reg.KEY_IRQ_STATUS.word, Reg.KEY_STATUS.word, Reg.LGT_STATUS.word, Reg.MTR_STATUS.word, Reg.PAIR_ACKED_HI.word, Reg.PAIR_ACKED_LO.word, Reg.PAIR_CNT.word, Reg.PAIR_EPOCH.word, Reg.PAIR_IRQ_STATUS.word, Reg.PAIR_LAG.word, Reg.PAIR_LEASE.word, Reg.PAIR_STATUS.word, Reg.RFT_BUDGET.word, Reg.RFT_CAPACITY.word, Reg.RFT_COST.word, Reg.RFT_CS_CURSOR.word, Reg.RFT_CS_LAST.word, Reg.RFT_CS_LIMIT_CNT.word, Reg.RFT_CS_PENDING.word, Reg.RFT_CS_REFUSED.word, Reg.RFT_DIGEST_BEAT_HI.word, Reg.RFT_DIGEST_BEAT_LO.word, Reg.RFT_DIGEST_HI.word, Reg.RFT_DIGEST_LO.word, Reg.RFT_INGEST_BAD.word, Reg.RFT_INGEST_FILL.word, Reg.RFT_IRQ_STATUS.word, Reg.RFT_STATUS.word, Reg.SIL_EPOCH.word, Reg.SIL_SNAP.word, Reg.SIL_STATUS.word, Reg.SYS_C0_SUSPEND.word, Reg.SYS_GPIO_OUT_HI.word, Reg.SYS_GPIO_OUT_LO.word, Reg.SYS_STATUS.word] ∨ (∃ i < 8, k = (Reg.CUT_HASH.word i).key) ∨ (∃ b, k = (Reg.JST_GET.word b).key) ∨ (∃ r < 4, k = (Reg.RAD_PLAN.word r).key) ∨ (∃ w < 8, k = (Reg.TRK_CYCLE.word w).key) ∨ (∃ w < 16, k = (Reg.TRK_NET.word w).key) ∨ (∃ w < 8, k = (Reg.TRK_PLCA.word w).key))) ∧
  (∀ (t : Nat) (ch : ResyncChunk), Frame (.resyncChunkRx t ch) [.mem, .sys, .beat, .sil, .key, .cut, .rft, .lin, .jst, .rad, .trk, .mtr, .pair, .lgt, .lnd] (fun k => k ∈ Dev.keysOf [Reg.BEAT_CFG.word, Reg.BEAT_PASSES.word, Reg.BEAT_SLEW_LIMIT.word, Reg.BEAT_TIMING.word, Reg.CUT_COPY.word, Reg.CUT_EDGES.word, Reg.CUT_ERR_OFFSET.word, Reg.CUT_ERR_SECTION.word, Reg.CUT_FORMAT.word, Reg.CUT_GEN.word, Reg.CUT_ID_HI.word, Reg.CUT_ID_LO.word, Reg.CUT_NODES.word, Reg.CUT_PATCHES.word, Reg.CUT_STATUS.word, Reg.JST_IRQ_STATUS.word, Reg.JST_STATUS.word, Reg.KEY_CNT.word, Reg.KEY_IRQ_STATUS.word, Reg.KEY_STATUS.word, Reg.LGT_STATUS.word, Reg.MTR_STATUS.word, Reg.PAIR_ACKED_HI.word, Reg.PAIR_ACKED_LO.word, Reg.PAIR_CNT.word, Reg.PAIR_EPOCH.word, Reg.PAIR_IRQ_STATUS.word, Reg.PAIR_LAG.word, Reg.PAIR_LEASE.word, Reg.PAIR_STATUS.word, Reg.RFT_BUDGET.word, Reg.RFT_CAPACITY.word, Reg.RFT_COST.word, Reg.RFT_CS_CURSOR.word, Reg.RFT_CS_LAST.word, Reg.RFT_CS_LIMIT_CNT.word, Reg.RFT_CS_PENDING.word, Reg.RFT_CS_REFUSED.word, Reg.RFT_DIGEST_BEAT_HI.word, Reg.RFT_DIGEST_BEAT_LO.word, Reg.RFT_DIGEST_HI.word, Reg.RFT_DIGEST_LO.word, Reg.RFT_INGEST_BAD.word, Reg.RFT_INGEST_FILL.word, Reg.RFT_IRQ_STATUS.word, Reg.RFT_STATUS.word, Reg.SIL_EPOCH.word, Reg.SIL_SNAP.word, Reg.SIL_STATUS.word, Reg.SYS_C0_SUSPEND.word, Reg.SYS_GPIO_OUT_HI.word, Reg.SYS_GPIO_OUT_LO.word, Reg.SYS_STATUS.word] ∨ (∃ i < 8, k = (Reg.CUT_HASH.word i).key) ∨ (∃ b, k = (Reg.JST_GET.word b).key) ∨ (∃ r < 4, k = (Reg.RAD_PLAN.word r).key) ∨ (∃ w < 8, k = (Reg.TRK_CYCLE.word w).key) ∨ (∃ w < 16, k = (Reg.TRK_NET.word w).key) ∨ (∃ w < 8, k = (Reg.TRK_PLCA.word w).key)))

/-- What the radios' commands leave unchanged. -/
def Obligations.RadioFrames : Prop :=
  (∀ (t : Nat) (r : Fin 4) (m : Master), Frame (.radLinkOpen t r m) [.key, .rad] (fun k => k ∈ Dev.keysOf [Reg.KEY_CNT.word, Reg.KEY_IRQ_STATUS.word, Reg.KEY_STATUS.word, Reg.RAD_LINK_STATUS.word r.val (bankOf m), Reg.RAD_STATUS.word r.val])) ∧
  (∀ (t : Nat) (r : Fin 4) (m : Master) (report : Bool), Frame (.radLinkClose t r m report) [.rft, .rad] (fun k => k ∈ Dev.keysOf [Reg.RAD_LINK_STATUS.word r.val (bankOf m), Reg.RAD_RING.word r.val, Reg.RAD_STATUS.word r.val])) ∧
  (∀ (t : Nat) (r : Fin 4) (m : Master), Frame (.radLinkResume t r m) [.key, .rad] (fun k => k ∈ Dev.keysOf [Reg.KEY_CNT.word, Reg.KEY_IRQ_STATUS.word, Reg.KEY_STATUS.word, Reg.RAD_LINK_STATUS.word r.val (bankOf m), Reg.RAD_STATUS.word r.val])) ∧
  (∀ (t : Nat) (r : Fin 4) (link : Nat), Frame (.linkEvent t r link) [.rad] (fun k => k ∈ Dev.keysOf [Reg.RAD_IRQ_STATUS.word r.val] ∨ (∃ i < 16, k = (Reg.RAD_CNT.word r.val i).key))) ∧
  (∀ (t : Nat) (r : Fin 4) (link : Nat), Frame (.linkEventEnd t r link) [.rad] (fun _ => False)) ∧
  (∀ (t : Nat) (r : Fin 4) (link : Nat), Frame (.linkAnswerTimeout t r link) [.rad] (fun _ => False)) ∧
  (∀ (t : Nat) (r : Fin 4) (kind : Nat) (index : Nat), Frame (.dwellBinAdvance t r kind index) [.rad] (fun _ => False)) ∧
  (∀ (t : Nat) (medium : Fin 14) (link : Nat), Frame (.linkSupervisionTimeout t medium link) [.rad, .trk] (fun k => k ∈ Dev.keysOf [Reg.RAD_IRQ_STATUS.word medium.val, Reg.TRK_IRQ_STATUS.word (trkWindow (medium.val - 4))])) ∧
  (∀ (t : Nat) (medium : Fin 14), Frame (.txItemTake t medium) [.freeCtr, .key, .rft, .jst, .tim, .rad, .trk] (fun k => k ∈ Dev.keysOf [Reg.KEY_CNT.word, Reg.KEY_IRQ_STATUS.word, Reg.KEY_STATUS.word, Reg.RAD_IRQ_STATUS.word medium.val, Reg.RAD_RING.word medium.val, Reg.TIME_IRQ_STATUS.word, Reg.TIME_TSQ_STATUS.word, Reg.TRK_IRQ_STATUS.word (trkWindow (medium.val - 4)), Reg.TRK_RING.word (trkWindow (medium.val - 4))] ∨ (∃ i < 16, k = (Reg.RAD_CNT.word medium.val i).key) ∨ (∃ i < 16, k = (Reg.TRK_CNT.word (trkWindow (medium.val - 4)) i).key))) ∧
  (∀ (t : Nat) (r : Fin 4) (f : RadioRx), Frame (.radioFrameRx t r f) [.jst, .rad] (fun k => k ∈ Dev.keysOf [Reg.JST_IRQ_STATUS.word, Reg.RAD_IRQ_STATUS.word r.val, Reg.RAD_RING.word r.val] ∨ (∃ i < 64, k = (Reg.JST_QREFUSED.word i).key) ∨ (∃ i < 16, k = (Reg.RAD_CNT.word r.val i).key))) ∧
  (∀ (t : Nat) (r : Fin 4), Frame (.beaconTx t r) [.key, .rad] (fun k => k ∈ Dev.keysOf [Reg.KEY_CNT.word, Reg.KEY_IRQ_STATUS.word, Reg.KEY_STATUS.word, Reg.RAD_IRQ_STATUS.word r.val] ∨ (∃ i < 16, k = (Reg.RAD_CNT.word r.val i).key))) ∧
  (∀ (t : Nat) (r : Fin 4) (addr : Nat) (rssi : Nat), Frame (.wake t r addr rssi) [.jst, .rad] (fun k => k ∈ Dev.keysOf [Reg.JST_IRQ_STATUS.word, Reg.RAD_IRQ_STATUS.word r.val] ∨ (∃ i < 64, k = (Reg.JST_QREFUSED.word i).key) ∨ (∃ i < 16, k = (Reg.RAD_CNT.word r.val i).key))) ∧
  (∀ (t : Nat) (r : Fin 4), Frame (.wakeHoldExpired t r) [.rad] (fun _ => False)) ∧
  (∀ (t : Nat) (r : Fin 4) (f : Option RadioRx), Frame (.watchInstance t r f) [.sys, .jst, .rad, .bst, .pair, .lnd] (fun k => k ∈ Dev.keysOf [Reg.BST_IRQ_STATUS.word, Reg.BST_STATUS.word, Reg.JST_STATUS.word, Reg.PAIR_LAG.word, Reg.PAIR_LEASE.word, Reg.PAIR_STATUS.word, Reg.RAD_BEACON.word r.val, Reg.RAD_IRQ_STATUS.word r.val, Reg.RAD_STATUS.word r.val, Reg.SYS_STATUS.word] ∨ (∃ b, k = (Reg.JST_GET.word b).key)))

/-- What the trunks' and ports' commands leave unchanged. -/
def Obligations.WiredFrames : Prop :=
  (∀ (t : Nat) (p : Fin 10) (m : Master), Frame (.trkLinkOpen t p m) [.key, .trk] (fun k => k ∈ Dev.keysOf [Reg.KEY_CNT.word, Reg.KEY_IRQ_STATUS.word, Reg.KEY_STATUS.word, Reg.TRK_LINK_STATUS.word (trkWindow p.val) (bankOf m)])) ∧
  (∀ (t : Nat) (p : Fin 10) (m : Master) (report : Bool), Frame (.trkLinkClose t p m report) [.rft, .trk] (fun k => k ∈ Dev.keysOf [Reg.TRK_LINK_STATUS.word (trkWindow p.val) (bankOf m), Reg.TRK_RING.word (trkWindow p.val)])) ∧
  (∀ (t : Nat) (p : Fin 10) (m : Master), Frame (.trkLinkResume t p m) [.key, .trk] (fun k => k ∈ Dev.keysOf [Reg.KEY_CNT.word, Reg.KEY_IRQ_STATUS.word, Reg.KEY_STATUS.word, Reg.TRK_LINK_STATUS.word (trkWindow p.val) (bankOf m)])) ∧
  (∀ (t : Nat) (p : Fin 10) (f : WiredRx), Frame (.wiredFrameRx t p f) [.mem, .jst, .trk, .pair] (fun k => k ∈ Dev.keysOf [Reg.JST_IRQ_STATUS.word, Reg.SYS_C0_SUSPEND.word, Reg.SYS_STATUS.word, Reg.TRK_IRQ_STATUS.word (trkWindow p.val), Reg.TRK_RAW_CFG.word (trkWindow p.val), Reg.TRK_RING.word (trkWindow p.val), Reg.TRK_STATUS.word (trkWindow p.val), Reg.TRK_WAKE_CTRL.word (trkWindow p.val)] ∨ (∃ i < 64, k = (Reg.JST_QREFUSED.word i).key) ∨ (∃ i < 16, k = (Reg.TRK_CNT.word (trkWindow p.val) i).key))) ∧
  (∀ (t : Nat) (p : Fin 8) (us : Nat), Frame (.plcaCycleEnd t p us) [.trk] (fun k => k ∈ Dev.keysOf [Reg.TRK_CYCLE.word p.val])) ∧
  (∀ (t : Nat) (p : Fin 10), Frame (.txOpportunity t p) [.freeCtr, .tim, .trk, .pair] (fun k => k ∈ Dev.keysOf [Reg.TIME_IRQ_STATUS.word, Reg.TIME_TSQ_STATUS.word, Reg.TRK_GATE.word (trkWindow p.val), Reg.TRK_IRQ_STATUS.word (trkWindow p.val), Reg.TRK_RING.word (trkWindow p.val)] ∨ (∃ i < 16, k = (Reg.TRK_CNT.word (trkWindow p.val) i).key))) ∧
  (∀ (t : Nat) (p : Fin 8) (src : Nat), Frame (.plcaConflict t p src) [] (fun k => k ∈ Dev.keysOf [Reg.TRK_IRQ_STATUS.word p.val, Reg.TRK_STATUS.word p.val])) ∧
  (∀ (t : Nat) (p : Fin 8), Frame (.plcaStandin t p) [.trk] (fun k => k ∈ Dev.keysOf [Reg.TRK_GATE.word p.val] ∨ (∃ i < 16, k = (Reg.TRK_CNT.word p.val i).key))) ∧
  (∀ (t : Nat) (p : Fin 8), Frame (.plcaBeaconRx t p) [.trk, .pair] (fun k => k ∈ Dev.keysOf [Reg.PAIR_LAG.word, Reg.PAIR_LEASE.word, Reg.PAIR_STATUS.word])) ∧
  (∀ (t : Nat) (p : Fin 10) (link : Nat), Frame (.wiredAckTimeout t p link) [.trk] (fun k => k ∈ Dev.keysOf [Reg.TRK_IRQ_STATUS.word (trkWindow p.val)])) ∧
  (∀ (t : Nat) (p : Fin 10) (link : Nat), Frame (.keepalive t p link) [.trk] (fun _ => False)) ∧
  (∀ (t : Nat) (p : Fin 10) (entry : Nat), Frame (.gateEntry t p entry) [] (fun k => k ∈ Dev.keysOf [Reg.TRK_GATE.word (trkWindow p.val)])) ∧
  (∀ (t : Nat) (p : Fin 2) (up : Bool) (speed : Nat), Frame (.portLink t p up speed) [] (fun k => k ∈ Dev.keysOf [Reg.TRK_IRQ_STATUS.word (14 + p.val), Reg.TRK_STATUS.word (14 + p.val)])) ∧
  (∀ (t : Nat) (p : Fin 10) (quanta : Nat), Frame (.pauseRx t p quanta) [.trk] (fun k => k ∈ Dev.keysOf [Reg.SYS_C0_SUSPEND.word, Reg.SYS_STATUS.word, Reg.TRK_IRQ_STATUS.word (trkWindow p.val), Reg.TRK_STATUS.word (trkWindow p.val)] ∨ (∃ i < 16, k = (Reg.TRK_CNT.word (trkWindow p.val) i).key))) ∧
  (∀ (t : Nat) (p : Fin 10), Frame (.pauseExpired t p) [.trk] (fun k => k ∈ Dev.keysOf [Reg.SYS_C0_SUSPEND.word, Reg.SYS_STATUS.word, Reg.TRK_STATUS.word (trkWindow p.val)])) ∧
  (∀ (t : Nat) (p : Fin 10) (enabled : Nat) (quanta : List Nat), Frame (.pfcRx t p enabled quanta) [.trk] (fun k => ∃ i < 16, k = (Reg.TRK_CNT.word (trkWindow p.val) i).key)) ∧
  (∀ (t : Nat) (p : Fin 2) (v : W32), Frame (.rawSlotFree t p v) [.trk] (fun k => k ∈ Dev.keysOf [Reg.TRK_RAW_CFG.word (14 + p.val)])) ∧
  (∀ (t : Nat) (p : Fin 2) (v : W32), Frame (.rawCfgWrite t p v) [.trk] (fun k => k ∈ Dev.keysOf [Reg.TRK_RAW_CFG.word (14 + p.val)])) ∧
  (∀ (t : Nat) (v : W32), Frame (.mdioCmd t v) [.trk] (fun k => k ∈ Dev.keysOf [Reg.TRK_MDIO_CMD.word 14])) ∧
  (∀ (t : Nat) (data : Nat), Frame (.mdioDone t data) [] (fun k => k ∈ Dev.keysOf [Reg.TRK_MDIO_CMD.word 14, Reg.TRK_MDIO_DATA.word 14])) ∧
  (∀ (t : Nat) (p : Fin 10), Frame (.lastByteSent t p) [.jst, .trk] (fun k => k ∈ Dev.keysOf [Reg.SYS_C0_SUSPEND.word, Reg.SYS_STATUS.word, Reg.TRK_IRQ_STATUS.word (trkWindow p.val), Reg.TRK_STATUS.word (trkWindow p.val)])) ∧
  (∀ (t : Nat) (port : Fin 10), Frame (.timedLaunch t port) [.freeCtr, .tim, .trk] (fun k => k ∈ Dev.keysOf [Reg.TIME_IRQ_STATUS.word, Reg.TIME_TSQ_STATUS.word] ∨ (∃ i < 16, k = (Reg.TRK_CNT.word (trkWindow port.val) i).key))) ∧
  (∀ (t : Nat) (port : Fin 10) (kind : PtpKind), Frame (.ptpMessageTx t port kind) [.trk] (fun _ => False))

/-- What time's and the real-time clock's commands leave unchanged. -/
def Obligations.TimeFrames : Prop :=
  (∀ (t : Nat), Frame (.ppsEdge t) [.freeCtr, .beat, .sil, .rtc] (fun k => k ∈ Dev.keysOf [Reg.BEAT_IRQ_STATUS.word, Reg.BEAT_PHASE_ERR.word, Reg.BEAT_PPS_CNT.word, Reg.BEAT_STATUS.word, Reg.TIME_FREQ.word, Reg.TIME_IRQ_STATUS.word, Reg.TIME_SLEW.word, Reg.TIME_STATUS.word])) ∧
  (∀ (t : Nat) (port : Fin 10) (msg : PtpMsg), Frame (.ptpMessageRx t port msg) [.freeCtr, .beat, .sil, .tim, .rtc] (fun k => k ∈ Dev.keysOf [Reg.BEAT_PHASE_ERR.word, Reg.BEAT_STATUS.word, Reg.TIME_FREQ.word, Reg.TIME_IRQ_STATUS.word, Reg.TIME_PTP_GM_HI.word, Reg.TIME_PTP_GM_LO.word, Reg.TIME_PTP_OFFSET.word, Reg.TIME_PTP_STATE.word, Reg.TIME_SLEW.word, Reg.TIME_STATUS.word, Reg.TIME_UTC.word])) ∧
  (∀ (t : Nat) (port : Fin 10), Frame (.ptpAnnounceTimeout t port) [.freeCtr, .beat, .sil, .tim, .rtc] (fun k => k ∈ Dev.keysOf [Reg.TIME_IRQ_STATUS.word, Reg.TIME_PTP_GM_HI.word, Reg.TIME_PTP_GM_LO.word, Reg.TIME_PTP_STATE.word, Reg.TIME_STATUS.word])) ∧
  (∀ (t : Nat) (port : Fin 10), Frame (.ptpSyncTimeout t port) [.freeCtr, .beat, .sil, .tim, .rtc] (fun k => k ∈ Dev.keysOf [Reg.TIME_IRQ_STATUS.word, Reg.TIME_STATUS.word])) ∧
  (∀ (t : Nat), Frame (.leapSecond t) [.tim] (fun k => k ∈ Dev.keysOf [Reg.TIME_STATUS.word, Reg.TIME_UTC.word])) ∧
  (∀ (t : Nat) (m : Master), Frame (.tsqLatch t m) [.tim] (fun _ => False)) ∧
  (∀ (t : Nat) (m : Master), Frame (.tsqPop t m) [.tim] (fun _ => False)) ∧
  (∀ (t : Nat), Frame (.ppsOut t) [.tim] (fun _ => False)) ∧
  (∀ (t : Nat), Frame (.ppsOutEnd t) [.tim] (fun _ => False)) ∧
  (∀ (t : Nat) (m : Master), Frame (.tpoArm t m) [.tim] (fun _ => False)) ∧
  (∀ (t : Nat) (m : Master), Frame (.tpoDisarm t m) [.tim] (fun _ => False)) ∧
  (∀ (t : Nat) (k : Fin 4), Frame (.tpoPulse t k) [.tim] (fun _ => False)) ∧
  (∀ (t : Nat) (k : Fin 4), Frame (.tpoPulseEnd t k) [.tim] (fun _ => False)) ∧
  (∀ (t : Nat) (temp : Int), Frame (.rtcCompTick t temp) [.rtc] (fun k => k ∈ Dev.keysOf [Reg.RTC_COMP_STATE.word, Reg.RTC_IRQ_STATUS.word, Reg.RTC_STATUS.word, Reg.RTC_TALM_HI.word])) ∧
  (∀ (t : Nat), Frame (.calSecond t) [.rtc] (fun k => k ∈ Dev.keysOf [Reg.RTC_ALM0_DATE.word, Reg.RTC_ALM0_TIME.word, Reg.RTC_ALM1_DATE.word, Reg.RTC_ALM1_TIME.word, Reg.RTC_CAL_DATE.word, Reg.RTC_CAL_TIME.word, Reg.RTC_IRQ_STATUS.word, Reg.RTC_TALM_HI.word])) ∧
  (∀ (t : Nat) (m : Master), Frame (.calLoad t m) [] (fun k => k ∈ Dev.keysOf [Reg.RTC_ALM0_DATE.word, Reg.RTC_ALM0_TIME.word, Reg.RTC_ALM1_DATE.word, Reg.RTC_ALM1_TIME.word, Reg.RTC_CAL_DATE.word, Reg.RTC_CAL_TIME.word, Reg.RTC_IRQ_STATUS.word])) ∧
  (∀ (t : Nat) (m : Master) (v : W32), Frame (.tickAlarmArm t m v) [.staged, .rtc] (fun k => k ∈ Dev.keysOf [Reg.RTC_IRQ_STATUS.word, Reg.RTC_TALM_HI.word, Reg.RTC_TALM_LO.word])) ∧
  (∀ (t : Nat), Frame (.tickAlarm t) [.rtc] (fun k => k ∈ Dev.keysOf [Reg.RTC_IRQ_STATUS.word, Reg.RTC_TALM_HI.word])) ∧
  (∀ (t : Nat), Frame (.backupToMain t) [] (fun k => k ∈ Dev.keysOf [Reg.RTC_STATUS.word])) ∧
  (∀ (t : Nat), Frame (.backupToVbat t) [] (fun k => k ∈ Dev.keysOf [Reg.RTC_STATUS.word])) ∧
  (∀ (t : Nat), Frame (.rtcLost t) [.rtc] (fun k => k / 65536 = 8 ∨ k = Reg.BST_EARLY.word.key)) ∧
  (∀ (t key : Nat), key / 65536 = 8 → Frame (.postedWriteCrossed t key) [.rtc] (fun k => k = key ∨ k = Reg.SYS_STATUS.lock_viol.key)) ∧
  (∀ (t : Nat), Frame (.xtal32Fail t) [.rtc] (fun k => k ∈ Dev.keysOf [Reg.CLK_FAIL.word, Reg.CLK_STATUS.word, Reg.RTC_VALID.word])) ∧
  (∀ (t : Nat), Frame (.xtal32Returned t) [.rtc] (fun k => k ∈ Dev.keysOf [Reg.CLK_STATUS.word]))

/-- What the clock and supply monitors leave unchanged. -/
def Obligations.PowerFrames : Prop :=
  (∀ (t : Nat) (err : Int), Frame (.rcFail t err) [.pwr] (fun k => k ∈ Dev.keysOf [Reg.CLK_FAIL.word, Reg.CLK_STATUS.word, Reg.USB_IRQ_STATUS.word, Reg.USB_STATE.word])) ∧
  (∀ (t : Nat) (reference : Fin 3) (cycles : Nat), Frame (.rcTrimCount t reference cycles) [] (fun k => k ∈ Dev.keysOf [Reg.CLK_RC_TRIM.word, Reg.CLK_STATUS.word, Reg.USB_IRQ_STATUS.word, Reg.USB_STATE.word])) ∧
  (∀ (t : Nat) (mux : Nat) (source : Fin 2), Frame (.muxSwitchRequest t mux source) [.pwr] (fun k => k ∈ Dev.keysOf [Reg.CLK_FAIL.word])) ∧
  (∀ (t : Nat) (mux : Nat) (source : Fin 2), Frame (.swForced t mux source) [.pwr] (fun k => k ∈ Dev.keysOf [Reg.CLK_FAIL.word, Reg.CLK_FAIL_CNT.word])) ∧
  (∀ (t : Nat), Frame (.vinDip t) [] (fun k => k ∈ Dev.keysOf [Reg.PWR_IRQ_STATUS.word, Reg.PWR_VIN.word])) ∧
  (∀ (t : Nat) (mv : Nat), Frame (.vinRange t mv) [] (fun k => k ∈ Dev.keysOf [Reg.PWR_IRQ_STATUS.word, Reg.PWR_VIN.word])) ∧
  (∀ (t : Nat) (mv : Nat), Frame (.vholdWaitTimeout t mv) [.pwr] (fun k => k ∈ Dev.keysOf [Reg.PWR_IRQ_STATUS.word, Reg.PWR_STATUS.word, Reg.PWR_VHOLD.word])) ∧
  (∀ (t : Nat) (mv : Nat), Frame (.vholdOk t mv) [] (fun k => k ∈ Dev.keysOf [Reg.PWR_STATUS.word, Reg.PWR_VHOLD.word, Reg.SYS_STATUS.word])) ∧
  (∀ (t : Nat) (cap : Nat) (esr : Nat), Frame (.holdupMeasured t cap esr) [.pwr] (fun k => k ∈ Dev.keysOf [Reg.PWR_HOLDUP.word, Reg.PWR_IRQ_STATUS.word, Reg.PWR_STATUS.word, Reg.SYS_STATUS.word])) ∧
  (∀ (t : Nat) (pll : Bool), Frame (.mainClockFail t pll) [.sys, .beat, .sil, .cut, .jst, .tim, .pwr, .bst, .fwu, .lgt, .lnd] (fun k => k ∈ Dev.keysOf [Reg.BST_STATUS.word, Reg.CLK_FAIL.word, Reg.CLK_FAIL_CNT.word, Reg.CLK_STATUS.word, Reg.HLK_STATUS.word, Reg.JST_STATUS.word, Reg.LGT_STATUS.word, Reg.MTR_STATUS.word, Reg.SIL_IRQ_STATUS.word, Reg.SYS_C0_SUSPEND.word, Reg.SYS_STATUS.word] ∨ (∃ b, k = (Reg.JST_GET.word b).key) ∨ (∃ b, k = (Reg.SIL_JW_STATUS.word b).key))) ∧
  (∀ (t : Nat), Frame (.rstNAssert t) [.sys, .beat, .sil, .rft, .tim, .pwr, .bst, .lgt, .lnd] (fun k => k ∈ Dev.keysOf [Reg.BST_IRQ_STATUS.word, Reg.BST_STATUS.word, Reg.HLK_STATUS.word, Reg.LGT_STATUS.word, Reg.MTR_STATUS.word, Reg.SIL_IRQ_STATUS.word, Reg.SYS_STATUS.word] ∨ (∃ b, k = (Reg.SIL_JW_STATUS.word b).key))) ∧
  (∀ (t : Nat) (vin : Nat) (vhold : Nat), Frame (.powerFail t vin vhold) [.mem, .latches, .staged, .sys, .beat, .sil, .key, .cut, .rft, .lin, .jst, .tim, .hlk, .rad, .trk, .pwr, .bst, .fwu, .mtr, .pair, .lgt, .lnd] (fun k => Dev.keptReg false k = false ∨ k ∈ Dev.keysOf [Reg.BST_EARLY.word, Reg.BST_IRQ_STATUS.word, Reg.BST_STATUS.word, Reg.CLK_STATUS.word, Reg.HLK_FILL.word, Reg.HLK_STATUS.word, Reg.JST_STATUS.word, Reg.LGT_STATUS.word, Reg.MTR_STATUS.word, Reg.PWR_PF_CNT.word, Reg.PWR_PF_LAST.word, Reg.PWR_STATUS.word, Reg.PWR_VHOLD.word, Reg.PWR_VIN.word, Reg.RFT_STATUS.word, Reg.SYS_C0_SUSPEND.word, Reg.SYS_PIN_STATUS.word, Reg.SYS_STATUS.word] ∨ (∃ b, k = (Reg.JST_GET.word b).key) ∨ (∃ r < 4, k = (Reg.RAD_STATUS.word r).key) ∨ (∃ w < 16, k = (Reg.TRK_NET.word w).key) ∨ (∃ w < 16, k = (Reg.TRK_STATUS.word w).key))) ∧
  (∀ (t : Nat), Frame (.vholdLow t) [.mem, .latches, .staged, .sys, .beat, .sil, .key, .cut, .rft, .lin, .jst, .tim, .hlk, .rad, .trk, .pwr, .bst, .fwu, .mtr, .pair, .lgt, .lnd] (fun k => Dev.keptReg false k = false ∨ k ∈ Dev.keysOf [Reg.BST_EARLY.word, Reg.BST_IRQ_STATUS.word, Reg.BST_STATUS.word, Reg.CLK_STATUS.word, Reg.HLK_FILL.word, Reg.HLK_STATUS.word, Reg.JST_STATUS.word, Reg.LGT_STATUS.word, Reg.MTR_STATUS.word, Reg.PWR_PF_CNT.word, Reg.PWR_PF_LAST.word, Reg.PWR_STATUS.word, Reg.PWR_VIN.word, Reg.RFT_STATUS.word, Reg.SYS_C0_SUSPEND.word, Reg.SYS_PIN_STATUS.word, Reg.SYS_STATUS.word] ∨ (∃ b, k = (Reg.JST_GET.word b).key) ∨ (∃ r < 4, k = (Reg.RAD_STATUS.word r).key) ∨ (∃ w < 16, k = (Reg.TRK_NET.word w).key) ∨ (∃ w < 16, k = (Reg.TRK_STATUS.word w).key)))

/-- What an entry into BOOT and a boot step leave unchanged. -/
def Obligations.BootFrames : Prop :=
  (∀ (t : Nat) (straps : Fin 8) (vin : Nat), Frame (.powerOn t straps vin) [.latches, .staged, .sys, .beat, .sil, .key, .cut, .rft, .lin, .jst, .tim, .hlk, .rad, .trk, .pwr, .bst, .fwu, .mtr, .pair, .lgt, .lnd] (fun k => Dev.keptReg false k = false ∨ k ∈ Dev.keysOf [Reg.BST_EARLY.word, Reg.BST_IRQ_STATUS.word, Reg.BST_STATUS.word, Reg.CLK_STATUS.word, Reg.HLK_FILL.word, Reg.HLK_STATUS.word, Reg.MTR_STATUS.word, Reg.PWR_STATUS.word, Reg.PWR_VIN.word, Reg.RFT_STATUS.word, Reg.SYS_C0_SUSPEND.word, Reg.SYS_PIN_STATUS.word, Reg.SYS_STATUS.word] ∨ (∃ r < 4, k = (Reg.RAD_STATUS.word r).key) ∨ (∃ w < 16, k = (Reg.TRK_NET.word w).key) ∨ (∃ w < 16, k = (Reg.TRK_STATUS.word w).key))) ∧
  (∀ (t : Nat) (straps : Fin 8), Frame (.mainClockReturned t straps) [.latches, .staged, .sys, .beat, .sil, .key, .cut, .rft, .lin, .jst, .tim, .hlk, .rad, .trk, .pwr, .bst, .fwu, .mtr, .pair, .lgt, .lnd] (fun k => Dev.keptReg false k = false ∨ k ∈ Dev.keysOf [Reg.BST_EARLY.word, Reg.BST_IRQ_STATUS.word, Reg.BST_STATUS.word, Reg.CLK_STATUS.word, Reg.HLK_FILL.word, Reg.HLK_STATUS.word, Reg.MTR_STATUS.word, Reg.PWR_STATUS.word, Reg.PWR_VIN.word, Reg.RFT_STATUS.word, Reg.SYS_C0_SUSPEND.word, Reg.SYS_PIN_STATUS.word, Reg.SYS_STATUS.word] ∨ (∃ r < 4, k = (Reg.RAD_STATUS.word r).key) ∨ (∃ w < 16, k = (Reg.TRK_NET.word w).key) ∨ (∃ w < 16, k = (Reg.TRK_STATUS.word w).key))) ∧
  (∀ (t : Nat) (straps : Fin 8), Frame (.rstNRelease t straps) [.latches, .staged, .sys, .beat, .sil, .key, .cut, .rft, .lin, .jst, .tim, .hlk, .rad, .trk, .pwr, .bst, .fwu, .mtr, .pair, .lgt, .lnd] (fun k => Dev.keptReg false k = false ∨ k ∈ Dev.keysOf [Reg.BST_EARLY.word, Reg.BST_IRQ_STATUS.word, Reg.BST_STATUS.word, Reg.HLK_FILL.word, Reg.HLK_STATUS.word, Reg.MTR_STATUS.word, Reg.PWR_STATUS.word, Reg.PWR_VIN.word, Reg.RFT_STATUS.word, Reg.SYS_C0_SUSPEND.word, Reg.SYS_PIN_STATUS.word, Reg.SYS_STATUS.word] ∨ (∃ r < 4, k = (Reg.RAD_STATUS.word r).key) ∨ (∃ w < 16, k = (Reg.TRK_NET.word w).key) ∨ (∃ w < 16, k = (Reg.TRK_STATUS.word w).key))) ∧
  (∀ (t : Nat) (straps : Fin 8), Frame (.watchdogExpiry t straps) [.latches, .staged, .sys, .beat, .sil, .key, .cut, .rft, .lin, .jst, .tim, .hlk, .rad, .trk, .pwr, .bst, .fwu, .mtr, .pair, .lgt, .lnd] (fun k => Dev.keptReg false k = false ∨ k ∈ Dev.keysOf [Reg.BST_EARLY.word, Reg.BST_IRQ_STATUS.word, Reg.BST_STATUS.word, Reg.HLK_FILL.word, Reg.HLK_STATUS.word, Reg.JST_IRQ_STATUS.word, Reg.MTR_STATUS.word, Reg.PWR_STATUS.word, Reg.PWR_VIN.word, Reg.RFT_STATUS.word, Reg.SIL_IRQ_STATUS.word, Reg.SYS_C0_SUSPEND.word, Reg.SYS_PIN_STATUS.word, Reg.SYS_STATUS.word] ∨ (∃ b, k = (Reg.JST_ITEM_SEL.word b).key) ∨ (∃ r < 4, k = (Reg.RAD_STATUS.word r).key) ∨ (∃ b, k = (Reg.SIL_JW_STATUS.word b).key) ∨ (∃ w < 16, k = (Reg.TRK_NET.word w).key) ∨ (∃ w < 16, k = (Reg.TRK_STATUS.word w).key))) ∧
  (∀ (t : Nat) (e : Envelope) (straps : Fin 8), Frame (.reset t e straps) [.latches, .staged, .sys, .beat, .sil, .key, .cut, .rft, .lin, .jst, .tim, .hlk, .rad, .trk, .pwr, .bst, .fwu, .mtr, .pair, .lgt, .lnd] (fun k => Dev.keptReg false k = false ∨ k ∈ Dev.keysOf [Reg.BST_EARLY.word, Reg.BST_IRQ_STATUS.word, Reg.BST_STATUS.word, Reg.HLK_FILL.word, Reg.HLK_STATUS.word, Reg.JST_IRQ_STATUS.word, Reg.KEY_CNT.word, Reg.KEY_IRQ_STATUS.word, Reg.KEY_STATUS.word, Reg.MTR_STATUS.word, Reg.PWR_STATUS.word, Reg.PWR_VIN.word, Reg.RFT_STATUS.word, Reg.SIL_IRQ_STATUS.word, Reg.SYS_C0_SUSPEND.word, Reg.SYS_CMD_BAD.word, Reg.SYS_PIN_STATUS.word, Reg.SYS_STATUS.word, Reg.USB_STATE.word] ∨ (∃ i < 64, k = (Reg.JST_QREFUSED.word i).key) ∨ (∃ r < 4, k = (Reg.RAD_STATUS.word r).key) ∨ (∃ b, k = (Reg.SIL_JW_STATUS.word b).key) ∨ (∃ w < 16, k = (Reg.TRK_NET.word w).key) ∨ (∃ w < 16, k = (Reg.TRK_STATUS.word w).key))) ∧
  (∀ (t : Nat) (straps : Fin 8), Frame (.stopWritesDone t straps) [.mem, .latches, .staged, .sys, .beat, .sil, .key, .cut, .rft, .lin, .jst, .tim, .hlk, .rad, .trk, .pwr, .bst, .fwu, .mtr, .pair, .lgt, .lnd] (fun k => Dev.keptReg false k = false ∨ k ∈ Dev.keysOf [Reg.BST_EARLY.word, Reg.BST_IRQ_STATUS.word, Reg.BST_STATUS.word, Reg.BST_UNIT0.word, Reg.BST_UNIT1.word, Reg.HLK_FILL.word, Reg.HLK_STATUS.word, Reg.JST_STATUS.word, Reg.LGT_STATUS.word, Reg.MTR_STATUS.word, Reg.PWR_STATUS.word, Reg.PWR_VIN.word, Reg.RFT_STATUS.word, Reg.SIL_IRQ_STATUS.word, Reg.SYS_C0_SUSPEND.word, Reg.SYS_PIN_STATUS.word, Reg.SYS_STATUS.word] ∨ (∃ b, k = (Reg.JST_GET.word b).key) ∨ (∃ r < 4, k = (Reg.RAD_STATUS.word r).key) ∨ (∃ b, k = (Reg.SIL_JW_STATUS.word b).key) ∨ (∃ w < 16, k = (Reg.TRK_NET.word w).key) ∨ (∃ w < 16, k = (Reg.TRK_STATUS.word w).key))) ∧
  (∀ (t : Nat) (test : Fin 15) (failed : List Nat) (code : Nat) (straps : Fin 8), Frame (.testFinished t test failed code straps) [.mem, .latches, .staged, .sys, .beat, .sil, .key, .cut, .rft, .lin, .jst, .tim, .hlk, .rad, .trk, .pwr, .bst, .fwu, .mtr, .pair, .lgt, .lnd] (fun k => Dev.keptReg false k = false ∨ k ∈ Dev.keysOf [Reg.BST_EARLY.word, Reg.BST_IRQ_STATUS.word, Reg.BST_STATUS.word, Reg.BST_TEST_PEAK.word, Reg.BST_UNIT0.word, Reg.BST_UNIT1.word, Reg.HLK_FILL.word, Reg.HLK_STATUS.word, Reg.JST_STATUS.word, Reg.LGT_STATUS.word, Reg.MTR_STATUS.word, Reg.PWR_STATUS.word, Reg.PWR_VIN.word, Reg.RFT_STATUS.word, Reg.SYS_C0_SUSPEND.word, Reg.SYS_PIN_STATUS.word, Reg.SYS_STATUS.word] ∨ (∃ b, k = (Reg.JST_GET.word b).key) ∨ (∃ r < 4, k = (Reg.RAD_STATUS.word r).key) ∨ (∃ w < 16, k = (Reg.TRK_NET.word w).key) ∨ (∃ w < 16, k = (Reg.TRK_STATUS.word w).key))) ∧
  (∀ (t : Nat) (cause : Nat), Frame (.bootStepFailed t cause) [.sys, .sil, .key, .rft, .lin, .jst, .rad, .trk, .bst, .fwu, .lgt, .lnd] (fun k => k ∈ Dev.keysOf [Reg.BST_EARLY.word, Reg.BST_IRQ_STATUS.word, Reg.BST_STATUS.word, Reg.JST_STATUS.word, Reg.KEY_CNT.word, Reg.KEY_IRQ_STATUS.word, Reg.KEY_STATUS.word, Reg.RFT_CS_CURSOR.word, Reg.SYS_C0_SUSPEND.word, Reg.SYS_GPIO_OUT_HI.word, Reg.SYS_GPIO_OUT_LO.word, Reg.SYS_PIN_STATUS.word, Reg.SYS_STATUS.word] ∨ (∃ b, k = (Reg.JST_GET.word b).key) ∨ (∃ r < 4, k = (Reg.RAD_PLAN.word r).key) ∨ (∃ w < 8, k = (Reg.TRK_CYCLE.word w).key) ∨ (∃ w < 16, k = (Reg.TRK_NET.word w).key) ∨ (∃ w < 8, k = (Reg.TRK_PLCA.word w).key))) ∧
  (∀ (t : Nat), Frame (.bootStepTimeout t) [.sys, .sil, .key, .rft, .lin, .jst, .rad, .trk, .bst, .fwu, .lgt, .lnd] (fun k => k ∈ Dev.keysOf [Reg.BST_EARLY.word, Reg.BST_IRQ_STATUS.word, Reg.BST_STATUS.word, Reg.JST_STATUS.word, Reg.KEY_CNT.word, Reg.KEY_IRQ_STATUS.word, Reg.KEY_STATUS.word, Reg.RFT_CS_CURSOR.word, Reg.SYS_C0_SUSPEND.word, Reg.SYS_GPIO_OUT_HI.word, Reg.SYS_GPIO_OUT_LO.word, Reg.SYS_PIN_STATUS.word, Reg.SYS_STATUS.word] ∨ (∃ b, k = (Reg.JST_GET.word b).key) ∨ (∃ r < 4, k = (Reg.RAD_PLAN.word r).key) ∨ (∃ w < 8, k = (Reg.TRK_CYCLE.word w).key) ∨ (∃ w < 16, k = (Reg.TRK_NET.word w).key) ∨ (∃ w < 8, k = (Reg.TRK_PLCA.word w).key))) ∧
  (∀ (t : Nat), Frame (.xtalStartTimeout t) [.sys, .sil, .key, .rft, .lin, .jst, .rad, .trk, .bst, .fwu, .lgt, .lnd] (fun k => k ∈ Dev.keysOf [Reg.BST_EARLY.word, Reg.BST_IRQ_STATUS.word, Reg.BST_STATUS.word, Reg.JST_STATUS.word, Reg.KEY_CNT.word, Reg.KEY_IRQ_STATUS.word, Reg.KEY_STATUS.word, Reg.RFT_CS_CURSOR.word, Reg.SYS_C0_SUSPEND.word, Reg.SYS_GPIO_OUT_HI.word, Reg.SYS_GPIO_OUT_LO.word, Reg.SYS_PIN_STATUS.word, Reg.SYS_STATUS.word] ∨ (∃ b, k = (Reg.JST_GET.word b).key) ∨ (∃ r < 4, k = (Reg.RAD_PLAN.word r).key) ∨ (∃ w < 8, k = (Reg.TRK_CYCLE.word w).key) ∨ (∃ w < 16, k = (Reg.TRK_NET.word w).key) ∨ (∃ w < 8, k = (Reg.TRK_PLCA.word w).key)))

/-- What the Sill's, the meters' and the recorder's commands leave unchanged. -/
def Obligations.SillAndMeterFrames : Prop :=
  (∀ (t : Nat) (m : Master) (v : W32), Frame (.silJwWrite t m v) [.sil] (fun k => k ∈ Dev.keysOf [Reg.SIL_JW_STATUS.word (bankOf m)])) ∧
  (∀ (t : Nat) (m : Master), Frame (.addEnergy t m) [.mem, .mtr, .pair] (fun k => k ∈ Dev.keysOf [Reg.SIL_LPOST_STATUS.word (bankOf m)])) ∧
  (∀ (t : Nat) (m : Master), Frame (.addRun t m) [.mem, .mtr, .pair] (fun k => k ∈ Dev.keysOf [Reg.SIL_LPOST_STATUS.word (bankOf m)])) ∧
  (∀ (t : Nat) (m : Master), Frame (.setCredit t m) [.mem, .mtr, .pair] (fun k => k ∈ Dev.keysOf [Reg.SIL_LPOST_STATUS.word (bankOf m)])) ∧
  (∀ (t : Nat) (corrected : List Nat) (bad : List Nat), Frame (.scrubBlock t corrected bad) [.sil] (fun k => k ∈ Dev.keysOf [Reg.SIL_ECC.word, Reg.SIL_IRQ_STATUS.word, Reg.SIL_REMAP.word, Reg.SIL_SCRUB.word, Reg.SIL_STATUS.word])) ∧
  (∀ (t : Nat) (part : Nat) (block : Nat) (retired : Bool), Frame (.nandRefresh t part block retired) [] (fun k => k ∈ Dev.keysOf [Reg.SIL_IRQ_STATUS.word, Reg.SIL_NAND.word])) ∧
  (∀ (t : Nat) (c : Fin 4) (x : MeterCycle), Frame (.meterCycleEnd t c x) [.mtr] (fun k => k ∈ Dev.keysOf [Reg.MTR_CLIP.word c.val, Reg.MTR_CYCLE.word c.val, Reg.MTR_IRMS.word c.val, Reg.MTR_IRQ_STATUS.word, Reg.MTR_P.word c.val, Reg.MTR_POUT0.word, Reg.MTR_POUT1.word, Reg.MTR_STATUS.word, Reg.MTR_VRMS.word c.val])) ∧
  (∀ (t : Nat) (c : Fin 4), Frame (.noZc t c) [] (fun k => k ∈ Dev.keysOf [Reg.MTR_STATUS.word])) ∧
  (∀ (t : Nat) (n : Fin 2), Frame (.pulseEmit t n) [.mtr] (fun k => k ∈ Dev.keysOf [Reg.MTR_POUT0.word, Reg.MTR_POUT1.word, Reg.MTR_STATUS.word])) ∧
  (∀ (t : Nat) (n : Fin 2), Frame (.pulseEnd t n) [] (fun k => k ∈ Dev.keysOf [Reg.MTR_STATUS.word])) ∧
  (∀ (t : Nat) (c : Fin 4), Frame (.s0Pulse t c) [.mtr] (fun _ => False)) ∧
  (∀ (t : Nat) (c : Fin 4), Frame (.reconIntervalEnd t c) [.sil, .jst, .mtr] (fun k => k ∈ Dev.keysOf [Reg.JST_IRQ_STATUS.word, Reg.MTR_ARC_STATUS.word, Reg.MTR_IRQ_STATUS.word, Reg.MTR_REC_HI.word, Reg.MTR_REC_LO.word] ∨ (∃ i < 64, k = (Reg.JST_QREFUSED.word i).key))) ∧
  (∀ (t : Nat), Frame (.accSave t) [.sil, .mtr] (fun _ => False)) ∧
  (∀ (t : Nat) (m : Master) (c : Fin 4), Frame (.mtrFastRead t m c) [.mtr] (fun k => k ∈ Dev.keysOf [Reg.MTR_FAST_OVF.word (bankOf m)])) ∧
  (∀ (t : Nat), Frame (.arcFetchDone t) [] (fun k => k ∈ Dev.keysOf [Reg.MTR_ARC_STATUS.word, Reg.MTR_IRQ_STATUS.word] ∨ (∃ i < 16, k = (Reg.MTR_ARC_W.word i).key))) ∧
  (∀ (t : Nat), Frame (.rateTokenTick t) [] (fun _ => False)) ∧
  (∀ (t : Nat) (code : Nat), Frame (.suppressed t code) [] (fun _ => False)) ∧
  (∀ (t : Nat), Frame (.evrFlushTimer t) [] (fun _ => False)) ∧
  (∀ (t : Nat) (m : Master), Frame (.evrFlush t m) [] (fun _ => False)) ∧
  (∀ (t : Nat) (m : Master) (v : W32), Frame (.evrRdSeq t m v) [] (fun k => k ∈ Dev.keysOf [Reg.EVR_RD_SEQ.word, Reg.EVR_RD_STATUS.word] ∨ (∃ i < 8, k = (Reg.EVR_RD_W.word i).key))) ∧
  (∀ (t : Nat) (m : Master) (v : W32), Frame (.arcFetch t m v) [.staged] (fun k => k ∈ Dev.keysOf [Reg.MTR_ARC_SEL_HI.word, Reg.MTR_ARC_SEL_LO.word, Reg.MTR_ARC_STATUS.word])) ∧
  (∀ (t : Nat), Frame (.journalRecordDone t) [.mem, .latches, .staged, .sys, .beat, .sil, .key, .cut, .rft, .lin, .jst, .tim, .hlk, .rad, .trk, .pwr, .bst, .fwu, .mtr, .pair, .lgt, .lnd] (fun k => Dev.keptReg false k = false ∨ k ∈ Dev.keysOf [Reg.BST_EARLY.word, Reg.BST_IRQ_STATUS.word, Reg.BST_STATUS.word, Reg.CLK_STATUS.word, Reg.HLK_FILL.word, Reg.HLK_STATUS.word, Reg.JST_STATUS.word, Reg.LGT_STATUS.word, Reg.MTR_STATUS.word, Reg.PWR_PF_CNT.word, Reg.PWR_PF_LAST.word, Reg.PWR_STATUS.word, Reg.PWR_VIN.word, Reg.RFT_STATUS.word, Reg.SIL_IRQ_STATUS.word, Reg.SYS_C0_SUSPEND.word, Reg.SYS_PIN_STATUS.word, Reg.SYS_STATUS.word] ∨ (∃ b, k = (Reg.JST_GET.word b).key) ∨ (∃ r < 4, k = (Reg.RAD_STATUS.word r).key) ∨ (∃ b, k = (Reg.SIL_JW_STATUS.word b).key) ∨ (∃ w < 16, k = (Reg.TRK_NET.word w).key) ∨ (∃ w < 16, k = (Reg.TRK_STATUS.word w).key))) ∧
  (∀ (t : Nat), Frame (.evrSlotWritten t) [.mem, .latches, .staged, .sys, .beat, .sil, .key, .cut, .rft, .lin, .jst, .tim, .hlk, .rad, .trk, .pwr, .bst, .fwu, .mtr, .pair, .lgt, .lnd] (fun k => Dev.keptReg false k = false ∨ k ∈ Dev.keysOf [Reg.BST_EARLY.word, Reg.BST_IRQ_STATUS.word, Reg.BST_STATUS.word, Reg.CLK_STATUS.word, Reg.HLK_FILL.word, Reg.HLK_STATUS.word, Reg.JST_STATUS.word, Reg.LGT_STATUS.word, Reg.MTR_STATUS.word, Reg.PWR_PF_CNT.word, Reg.PWR_PF_LAST.word, Reg.PWR_STATUS.word, Reg.PWR_VIN.word, Reg.RFT_STATUS.word, Reg.SYS_C0_SUSPEND.word, Reg.SYS_PIN_STATUS.word, Reg.SYS_STATUS.word] ∨ (∃ b, k = (Reg.JST_GET.word b).key) ∨ (∃ r < 4, k = (Reg.RAD_STATUS.word r).key) ∨ (∃ w < 16, k = (Reg.TRK_NET.word w).key) ∨ (∃ w < 16, k = (Reg.TRK_STATUS.word w).key)))

/-- What the pair's commands leave unchanged. -/
def Obligations.PairFrames : Prop :=
  (∀ (t : Nat), Frame (.heartbeatTx t) [.pair] (fun _ => False)) ∧
  (∀ (t : Nat) (h : Heartbeat), Frame (.heartbeatRx t h) [.sys, .beat, .sil, .rft, .lin, .jst, .rad, .trk, .bst, .pair, .lnd] (fun k => k ∈ Dev.keysOf [Reg.BEAT_STATUS.word, Reg.BST_IRQ_STATUS.word, Reg.BST_STATUS.word, Reg.JST_STATUS.word, Reg.PAIR_EPOCH.word, Reg.PAIR_LAG.word, Reg.PAIR_LEASE.word, Reg.PAIR_STATUS.word, Reg.PAIR_TIME_OFS.word, Reg.SIL_EPOCH.word, Reg.SYS_STATUS.word, Reg.TIME_SLEW.word, Reg.TIME_STATUS.word] ∨ (∃ b, k = (Reg.JST_GET.word b).key))) ∧
  (∀ (t : Nat), Frame (.heartbeatMissed t) [.sys, .jst, .bst, .pair, .lnd] (fun k => k ∈ Dev.keysOf [Reg.BST_IRQ_STATUS.word, Reg.BST_STATUS.word, Reg.JST_STATUS.word, Reg.PAIR_IRQ_STATUS.word, Reg.PAIR_LAG.word, Reg.PAIR_LEASE.word, Reg.PAIR_STATUS.word, Reg.SYS_STATUS.word] ∨ (∃ b, k = (Reg.JST_GET.word b).key))) ∧
  (∀ (t : Nat) (beat : Nat) (recs : List BundleRec), Frame (.bundleRx t beat recs) [.lin, .pair] (fun _ => False)) ∧
  (∀ (t : Nat) (beat : Nat), Frame (.bundleAcked t beat) [.pair] (fun k => k ∈ Dev.keysOf [Reg.PAIR_ACKED_HI.word, Reg.PAIR_ACKED_LO.word])) ∧
  (∀ (t : Nat), Frame (.helloTx t) [.pair] (fun _ => False)) ∧
  (∀ (t : Nat) (h : Heartbeat) (pairId : Nat) (unitId : Nat), Frame (.helloRx t h pairId unitId) [.sys, .beat, .sil, .rft, .rad, .trk, .pair, .lnd] (fun k => k ∈ Dev.keysOf [Reg.MTR_STATUS.word, Reg.PAIR_EPOCH.word, Reg.PAIR_IRQ_STATUS.word, Reg.PAIR_LAG.word, Reg.PAIR_LEASE.word, Reg.PAIR_STATUS.word, Reg.SIL_EPOCH.word, Reg.SYS_STATUS.word])) ∧
  (∀ (t : Nat), Frame (.handshakeTimeout t) [.sys, .sil, .pair, .lnd] (fun k => k ∈ Dev.keysOf [Reg.MTR_STATUS.word, Reg.PAIR_IRQ_STATUS.word, Reg.PAIR_LAG.word, Reg.PAIR_LEASE.word, Reg.PAIR_STATUS.word, Reg.SYS_STATUS.word])) ∧
  (∀ (t : Nat), Frame (.handshakeRetry t) [.pair] (fun _ => False)) ∧
  (∀ (t : Nat) (h : Heartbeat) (pairId : Nat) (unitId : Nat), Frame (.resyncReqRx t h pairId unitId) [.pair] (fun k => k ∈ Dev.keysOf [Reg.PAIR_LAG.word, Reg.PAIR_LEASE.word, Reg.PAIR_STATUS.word, Reg.SYS_STATUS.word])) ∧
  (∀ (t : Nat), Frame (.catchupTimeout t) [.pair] (fun k => k ∈ Dev.keysOf [Reg.PAIR_LAG.word, Reg.PAIR_LEASE.word, Reg.PAIR_STATUS.word])) ∧
  (∀ (t : Nat), Frame (.resyncRetry t) [.pair] (fun k => k ∈ Dev.keysOf [Reg.PAIR_LAG.word, Reg.PAIR_LEASE.word, Reg.PAIR_STATUS.word])) ∧
  (∀ (t : Nat), Frame (.leaseRequest t) [.pair] (fun k => k ∈ Dev.keysOf [Reg.PAIR_LAG.word, Reg.PAIR_LEASE.word, Reg.PAIR_STATUS.word])) ∧
  (∀ (t : Nat) (msg : LeaseMsg), Frame (.leaseDenyRx t msg) [.pair] (fun k => k ∈ Dev.keysOf [Reg.PAIR_CNT.word, Reg.PAIR_LAG.word, Reg.PAIR_LEASE.word, Reg.PAIR_STATUS.word])) ∧
  (∀ (t : Nat), Frame (.leaseReplyTimeout t) [.sys, .jst, .bst, .pair, .lnd] (fun k => k ∈ Dev.keysOf [Reg.BST_IRQ_STATUS.word, Reg.BST_STATUS.word, Reg.JST_STATUS.word, Reg.PAIR_IRQ_STATUS.word, Reg.PAIR_LAG.word, Reg.PAIR_LEASE.word, Reg.PAIR_STATUS.word, Reg.SYS_STATUS.word] ∨ (∃ b, k = (Reg.JST_GET.word b).key))) ∧
  (∀ (t : Nat), Frame (.leaseLost t) [.pair] (fun k => k ∈ Dev.keysOf [Reg.PAIR_LAG.word, Reg.PAIR_LEASE.word, Reg.PAIR_STATUS.word])) ∧
  (∀ (t : Nat) (m : Master), Frame (.resendGo t m) [.pair] (fun _ => False)) ∧
  (∀ (t : Nat), Frame (.resendTimeout t) [.pair] (fun _ => False))

/-- What the vault's, the library's and the firmware's commands leave unchanged. -/
def Obligations.VaultAndFirmwareFrames : Prop :=
  (∀ (t : Nat) (m : Master) (secure : Bool) (lo : W32), Frame (.keyOpGcmEncrypt t m secure lo) [.staged, .freeCtr, .key] (fun k => k ∈ Dev.keysOf [Reg.KEY_CNT.word, Reg.KEY_IRQ_STATUS.word, Reg.KEY_OP_DESC_HI.word (bankOf m), Reg.KEY_OP_DESC_LO.word (bankOf m), Reg.KEY_OP_STATUS.word (bankOf m), Reg.KEY_STATUS.word])) ∧
  (∀ (t : Nat) (m : Master) (secure : Bool) (lo : W32), Frame (.keyOpGcmDecrypt t m secure lo) [.staged, .freeCtr, .key] (fun k => k ∈ Dev.keysOf [Reg.KEY_CNT.word, Reg.KEY_IRQ_STATUS.word, Reg.KEY_OP_DESC_HI.word (bankOf m), Reg.KEY_OP_DESC_LO.word (bankOf m), Reg.KEY_OP_STATUS.word (bankOf m), Reg.KEY_STATUS.word])) ∧
  (∀ (t : Nat) (m : Master) (secure : Bool) (lo : W32), Frame (.keyOpHmac t m secure lo) [.staged, .freeCtr, .key] (fun k => k ∈ Dev.keysOf [Reg.KEY_CNT.word, Reg.KEY_IRQ_STATUS.word, Reg.KEY_OP_DESC_HI.word (bankOf m), Reg.KEY_OP_DESC_LO.word (bankOf m), Reg.KEY_OP_STATUS.word (bankOf m), Reg.KEY_STATUS.word])) ∧
  (∀ (t : Nat) (m : Master) (secure : Bool) (lo : W32), Frame (.keyOpEcdsaSign t m secure lo) [.staged, .freeCtr, .key] (fun k => k ∈ Dev.keysOf [Reg.KEY_CNT.word, Reg.KEY_IRQ_STATUS.word, Reg.KEY_OP_DESC_HI.word (bankOf m), Reg.KEY_OP_DESC_LO.word (bankOf m), Reg.KEY_OP_STATUS.word (bankOf m), Reg.KEY_STATUS.word])) ∧
  (∀ (t : Nat) (m : Master) (secure : Bool) (lo : W32), Frame (.keyOpEcdsaVerify t m secure lo) [.staged, .freeCtr, .key] (fun k => k ∈ Dev.keysOf [Reg.KEY_CNT.word, Reg.KEY_IRQ_STATUS.word, Reg.KEY_OP_DESC_HI.word (bankOf m), Reg.KEY_OP_DESC_LO.word (bankOf m), Reg.KEY_OP_STATUS.word (bankOf m), Reg.KEY_STATUS.word])) ∧
  (∀ (t : Nat) (m : Master) (secure : Bool) (lo : W32), Frame (.keyOpSha256 t m secure lo) [.staged, .freeCtr, .key] (fun k => k ∈ Dev.keysOf [Reg.KEY_CNT.word, Reg.KEY_IRQ_STATUS.word, Reg.KEY_OP_DESC_HI.word (bankOf m), Reg.KEY_OP_DESC_LO.word (bankOf m), Reg.KEY_OP_STATUS.word (bankOf m), Reg.KEY_STATUS.word])) ∧
  (∀ (t : Nat) (bank : Nat), Frame (.keyOpDone t bank) [.mem, .key] (fun k => k ∈ Dev.keysOf [Reg.KEY_CNT.word, Reg.KEY_IRQ_STATUS.word, Reg.KEY_OP_STATUS.word bank, Reg.KEY_STATUS.word])) ∧
  (∀ (t : Nat), Frame (.keyUpdateDone t) [.sil, .key] (fun k => k ∈ Dev.keysOf [Reg.SIL_IRQ_STATUS.word])) ∧
  (∀ (t : Nat), Frame (.fwCommitDone t) [.sil, .key, .fwu] (fun k => k ∈ Dev.keysOf [Reg.FWU_ERR.word, Reg.FWU_FLOOR.word, Reg.FWU_IRQ_STATUS.word, Reg.FWU_STAGE_FILL.word, Reg.FWU_STATUS.word, Reg.FWU_VER_OTHER.word, Reg.FWU_VER_RUN.word, Reg.KEY_CNT.word, Reg.KEY_IRQ_STATUS.word, Reg.KEY_STATUS.word])) ∧
  (∀ (t : Nat), Frame (.slotCheckDone t) [.fwu] (fun k => k ∈ Dev.keysOf [Reg.FWU_FLOOR.word, Reg.FWU_STAGE_FILL.word, Reg.FWU_STATUS.word, Reg.FWU_VER_OTHER.word, Reg.FWU_VER_RUN.word])) ∧
  (∀ (t : Nat) (m : Master) (libId : Nat), Frame (.libWrite t m libId) [.fwu] (fun k => k ∈ Dev.keysOf [Reg.FWU_LIB_STATUS.word (bankOf m)])) ∧
  (∀ (t : Nat) (m : Master) (libId : Nat), Frame (.libRead t m libId) [.fwu] (fun k => k ∈ Dev.keysOf [Reg.FWU_LIB_STATUS.word (bankOf m)])) ∧
  (∀ (t : Nat) (m : Master) (libId : Nat), Frame (.libDelete t m libId) [.fwu] (fun k => k ∈ Dev.keysOf [Reg.FWU_LIB_STATUS.word (bankOf m)])) ∧
  (∀ (t : Nat) (bank : Nat), Frame (.libDone t bank) [.mem, .fwu] (fun k => k ∈ Dev.keysOf [Reg.FWU_IRQ_STATUS.word, Reg.FWU_LIB_FREE.word, Reg.FWU_LIB_STATUS.word bank]))

/-- What the light outputs' and the register commands leave unchanged. -/
def Obligations.LightAndRegisterFrames : Prop :=
  (∀ (t : Nat) (mv : List (List Nat)), Frame (.stringFrame t mv) [.sil, .lgt] (fun k => k ∈ Dev.keysOf [Reg.LGT_IRQ_STATUS.word])) ∧
  (∀ (t : Nat), Frame (.matrixFrame t) [.lgt] (fun k => k ∈ Dev.keysOf [Reg.LGT_SGA_CTRL.word, Reg.LGT_SGB_CTRL.word])) ∧
  (∀ (t : Nat) (n : Fin 4) (temp : Int), Frame (.ntcRead t n temp) [.lgt] (fun k => k ∈ Dev.keysOf [Reg.LGT_IRQ_STATUS.word, Reg.LGT_NTC.word n.val])) ∧
  (∀ (t : Nat) (k : Fin 2) (pairs : List (Nat × Nat)), Frame (.neighbourShort t k pairs) [.lgt] (fun k => k ∈ Dev.keysOf [Reg.LGT_IRQ_STATUS.word, Reg.LGT_SGA_HELD.word, Reg.LGT_SGB_HELD.word, Reg.LGT_SG_HELD_LINES.word])) ∧
  (∀ (t : Nat) (m : Master) (v : W32), Frame (.lampReturned t m v) [.sil, .lgt] (fun _ => False)) ∧
  (∀ (t : Nat) (m : Master) (v : W32), Frame (.strLevelWrite t m v) [.lgt] (fun _ => False)) ∧
  (∀ (t : Nat) (m : Master) (k : Fin 2) (i : Fin 128) (v : W32), Frame (.signPixWrite t m k i v) [.lgt] (fun _ => False)) ∧
  (∀ (t : Nat) (m : Master) (k : Fin 2), Frame (.signFlip t m k) [.lgt] (fun _ => False)) ∧
  (∀ (t : Nat) (m : Master) (key : Nat), Frame (.readLoLatch t m key) [.latches, .freeCtr] (fun _ => False)) ∧
  (∀ (t : Nat) (m : Master) (addr : Nat) (f : AccessForm), Frame (.accessFault t m addr f) [.mem, .sys] (fun _ => False)) ∧
  (∀ (t : Nat) (m : Master) (lo : W32), Frame (.serialTransfer t m lo) [.staged, .lnd] (fun k => k ∈ Dev.keysOf [Reg.SYS_SER_DESC_HI.word (bankOf m), Reg.SYS_SER_DESC_LO.word (bankOf m), Reg.SYS_SER_STATUS.word (bankOf m)])) ∧
  (∀ (t : Nat) (timeout : Bool) (data : Bytes), Frame (.serialDone t timeout data) [.mem, .lnd] (fun k => ∃ b, k = (Reg.SYS_SER_STATUS.word b).key)) ∧
  (∀ (t key : Nat) (m : Master) (v : W32), key ∈ [0x010034, 0x010038, 0x040144, 0x0700B4, 0x090014, 0x0A001C, 0x0B0054, 0x0D002C] →
    Frame (.registerWrite t m (regBase + key) v) [] (fun k => k = key))

/-- What each command stores. -/
def Obligations.MemoryStores : Prop :=
  (∀ (t : Nat) (m : Master) (s : State), ∀ a,
    (a < s.dev.liveAddr (s.dev.get (Reg.SIL_LPOST_EID.eid (bankOf m))) ∨ s.dev.liveAddr (s.dev.get (Reg.SIL_LPOST_EID.eid (bankOf m))) + 16 ≤ a) →
    (Completes (.addEnergy t m) s fun d => d.mem.read a = s.dev.mem.read a) ∧
    (Completes (.addRun t m) s fun d => d.mem.read a = s.dev.mem.read a) ∧
    (Completes (.setCredit t m) s fun d => d.mem.read a = s.dev.mem.read a)) ∧
  (∀ (t bank : Nat) (s : State) (r : KeyOpRun), s.dev.key.ops.find? (fun r => r.bank == bank) = some r → r.waits = false →
    Completes (.keyOpDone t bank) s fun d => (∀ i, i < r.out.length → d.mem.read (r.dest + i) = r.out.getD i 0) ∧
      ∀ a, a < r.dest ∨ r.dest + r.out.length ≤ a → d.mem.read a = s.dev.mem.read a) ∧
  (∀ (t bank : Nat) (s : State) (r : LibRun), s.dev.fwu.libRuns.find? (fun r => r.bank == bank) = some r → r.op = 2 →
    Completes (.libDone t bank) s fun d => (∀ i, i < r.bytes.length → d.mem.read (r.addr + i) = r.bytes.getD i 0) ∧
      ∀ a, a < r.addr ∨ r.addr + r.bytes.length ≤ a → d.mem.read a = s.dev.mem.read a) ∧
  (∀ (t : Nat) (p : Fin 10) (f : WiredRx) (s : State), p.val < 8 → Completes (.wiredFrameRx t p f) s fun d => d.mem = s.dev.mem) ∧
  (∀ (t i : Nat) (p : Fin 10) (f : WiredRx) (s : State), 8 ≤ p.val →
    (List.range (min 1024 (s.dev.get (Reg.TRK_RAW_CFG.slots (trkWindow p.val))))).find?
      (fun i => !(s.dev.trkAt p.val).usedSlots.contains i) = some i →
    Completes (.wiredFrameRx t p f) s fun d => ∀ a,
      (a < s.dev.get (Reg.TRK_RAW_BASE.base (trkWindow p.val)) * 2048 + i * 2048 ∨
       s.dev.get (Reg.TRK_RAW_BASE.base (trkWindow p.val)) * 2048 + i * 2048 + f.frame.length ≤ a) → d.mem.read a = s.dev.mem.read a)
end

