-- ==== Sys2Proof/Laws/State.lean ====
section
/-! SUPPORT. What each update of the machine leaves alone, field by field. -/

namespace Sys2Proof.Machine.Dev

@[simp] theorem put_mem (d : Dev) (f : Fld) (v : Nat) : (d.put f v).mem = d.mem := by unfold put; rfl
@[simp] theorem put_latches (d : Dev) (f : Fld) (v : Nat) : (d.put f v).latches = d.latches := by unfold put; rfl
@[simp] theorem put_staged (d : Dev) (f : Fld) (v : Nat) : (d.put f v).staged = d.staged := by unfold put; rfl
@[simp] theorem put_freeCtr (d : Dev) (f : Fld) (v : Nat) : (d.put f v).freeCtr = d.freeCtr := by unfold put; rfl
@[simp] theorem put_cyc (d : Dev) (f : Fld) (v : Nat) : (d.put f v).cyc = d.cyc := by unfold put; rfl
@[simp] theorem put_sys (d : Dev) (f : Fld) (v : Nat) : (d.put f v).sys = d.sys := by unfold put; rfl
@[simp] theorem put_beat (d : Dev) (f : Fld) (v : Nat) : (d.put f v).beat = d.beat := by unfold put; rfl
@[simp] theorem put_evr (d : Dev) (f : Fld) (v : Nat) : (d.put f v).evr = d.evr := by unfold put; rfl
@[simp] theorem put_sil (d : Dev) (f : Fld) (v : Nat) : (d.put f v).sil = d.sil := by unfold put; rfl
@[simp] theorem put_key (d : Dev) (f : Fld) (v : Nat) : (d.put f v).key = d.key := by unfold put; rfl
@[simp] theorem put_cut (d : Dev) (f : Fld) (v : Nat) : (d.put f v).cut = d.cut := by unfold put; rfl
@[simp] theorem put_rft (d : Dev) (f : Fld) (v : Nat) : (d.put f v).rft = d.rft := by unfold put; rfl
@[simp] theorem put_lin (d : Dev) (f : Fld) (v : Nat) : (d.put f v).lin = d.lin := by unfold put; rfl
@[simp] theorem put_jst (d : Dev) (f : Fld) (v : Nat) : (d.put f v).jst = d.jst := by unfold put; rfl
@[simp] theorem put_tim (d : Dev) (f : Fld) (v : Nat) : (d.put f v).tim = d.tim := by unfold put; rfl
@[simp] theorem put_rtc (d : Dev) (f : Fld) (v : Nat) : (d.put f v).rtc = d.rtc := by unfold put; rfl
@[simp] theorem put_hlk (d : Dev) (f : Fld) (v : Nat) : (d.put f v).hlk = d.hlk := by unfold put; rfl
@[simp] theorem put_rad (d : Dev) (f : Fld) (v : Nat) : (d.put f v).rad = d.rad := by unfold put; rfl
@[simp] theorem put_trk (d : Dev) (f : Fld) (v : Nat) : (d.put f v).trk = d.trk := by unfold put; rfl
@[simp] theorem put_pwr (d : Dev) (f : Fld) (v : Nat) : (d.put f v).pwr = d.pwr := by unfold put; rfl
@[simp] theorem put_bst (d : Dev) (f : Fld) (v : Nat) : (d.put f v).bst = d.bst := by unfold put; rfl
@[simp] theorem put_fwu (d : Dev) (f : Fld) (v : Nat) : (d.put f v).fwu = d.fwu := by unfold put; rfl
@[simp] theorem put_mtr (d : Dev) (f : Fld) (v : Nat) : (d.put f v).mtr = d.mtr := by unfold put; rfl
@[simp] theorem put_pair (d : Dev) (f : Fld) (v : Nat) : (d.put f v).pair = d.pair := by unfold put; rfl
@[simp] theorem put_lgt (d : Dev) (f : Fld) (v : Nat) : (d.put f v).lgt = d.lgt := by unfold put; rfl
@[simp] theorem put_lnd (d : Dev) (f : Fld) (v : Nat) : (d.put f v).lnd = d.lnd := by unfold put; rfl

@[simp] theorem putB_mem (d : Dev) (f : Fld) (b : Bool) : (d.putB f b).mem = d.mem := by simp only [putB, put_mem]
@[simp] theorem putB_latches (d : Dev) (f : Fld) (b : Bool) : (d.putB f b).latches = d.latches := by simp only [putB, put_latches]
@[simp] theorem putB_staged (d : Dev) (f : Fld) (b : Bool) : (d.putB f b).staged = d.staged := by simp only [putB, put_staged]
@[simp] theorem putB_freeCtr (d : Dev) (f : Fld) (b : Bool) : (d.putB f b).freeCtr = d.freeCtr := by simp only [putB, put_freeCtr]
@[simp] theorem putB_cyc (d : Dev) (f : Fld) (b : Bool) : (d.putB f b).cyc = d.cyc := by simp only [putB, put_cyc]
@[simp] theorem putB_sys (d : Dev) (f : Fld) (b : Bool) : (d.putB f b).sys = d.sys := by simp only [putB, put_sys]
@[simp] theorem putB_beat (d : Dev) (f : Fld) (b : Bool) : (d.putB f b).beat = d.beat := by simp only [putB, put_beat]
@[simp] theorem putB_evr (d : Dev) (f : Fld) (b : Bool) : (d.putB f b).evr = d.evr := by simp only [putB, put_evr]
@[simp] theorem putB_sil (d : Dev) (f : Fld) (b : Bool) : (d.putB f b).sil = d.sil := by simp only [putB, put_sil]
@[simp] theorem putB_key (d : Dev) (f : Fld) (b : Bool) : (d.putB f b).key = d.key := by simp only [putB, put_key]
@[simp] theorem putB_cut (d : Dev) (f : Fld) (b : Bool) : (d.putB f b).cut = d.cut := by simp only [putB, put_cut]
@[simp] theorem putB_rft (d : Dev) (f : Fld) (b : Bool) : (d.putB f b).rft = d.rft := by simp only [putB, put_rft]
@[simp] theorem putB_lin (d : Dev) (f : Fld) (b : Bool) : (d.putB f b).lin = d.lin := by simp only [putB, put_lin]
@[simp] theorem putB_jst (d : Dev) (f : Fld) (b : Bool) : (d.putB f b).jst = d.jst := by simp only [putB, put_jst]
@[simp] theorem putB_tim (d : Dev) (f : Fld) (b : Bool) : (d.putB f b).tim = d.tim := by simp only [putB, put_tim]
@[simp] theorem putB_rtc (d : Dev) (f : Fld) (b : Bool) : (d.putB f b).rtc = d.rtc := by simp only [putB, put_rtc]
@[simp] theorem putB_hlk (d : Dev) (f : Fld) (b : Bool) : (d.putB f b).hlk = d.hlk := by simp only [putB, put_hlk]
@[simp] theorem putB_rad (d : Dev) (f : Fld) (b : Bool) : (d.putB f b).rad = d.rad := by simp only [putB, put_rad]
@[simp] theorem putB_trk (d : Dev) (f : Fld) (b : Bool) : (d.putB f b).trk = d.trk := by simp only [putB, put_trk]
@[simp] theorem putB_pwr (d : Dev) (f : Fld) (b : Bool) : (d.putB f b).pwr = d.pwr := by simp only [putB, put_pwr]
@[simp] theorem putB_bst (d : Dev) (f : Fld) (b : Bool) : (d.putB f b).bst = d.bst := by simp only [putB, put_bst]
@[simp] theorem putB_fwu (d : Dev) (f : Fld) (b : Bool) : (d.putB f b).fwu = d.fwu := by simp only [putB, put_fwu]
@[simp] theorem putB_mtr (d : Dev) (f : Fld) (b : Bool) : (d.putB f b).mtr = d.mtr := by simp only [putB, put_mtr]
@[simp] theorem putB_pair (d : Dev) (f : Fld) (b : Bool) : (d.putB f b).pair = d.pair := by simp only [putB, put_pair]
@[simp] theorem putB_lgt (d : Dev) (f : Fld) (b : Bool) : (d.putB f b).lgt = d.lgt := by simp only [putB, put_lgt]
@[simp] theorem putB_lnd (d : Dev) (f : Fld) (b : Bool) : (d.putB f b).lnd = d.lnd := by simp only [putB, put_lnd]

@[simp] theorem bump_mem (d : Dev) (f : Fld) (k : Nat) : (d.bump f k).mem = d.mem := by simp only [bump, put_mem]
@[simp] theorem bump_latches (d : Dev) (f : Fld) (k : Nat) : (d.bump f k).latches = d.latches := by simp only [bump, put_latches]
@[simp] theorem bump_staged (d : Dev) (f : Fld) (k : Nat) : (d.bump f k).staged = d.staged := by simp only [bump, put_staged]
@[simp] theorem bump_freeCtr (d : Dev) (f : Fld) (k : Nat) : (d.bump f k).freeCtr = d.freeCtr := by simp only [bump, put_freeCtr]
@[simp] theorem bump_cyc (d : Dev) (f : Fld) (k : Nat) : (d.bump f k).cyc = d.cyc := by simp only [bump, put_cyc]
@[simp] theorem bump_sys (d : Dev) (f : Fld) (k : Nat) : (d.bump f k).sys = d.sys := by simp only [bump, put_sys]
@[simp] theorem bump_beat (d : Dev) (f : Fld) (k : Nat) : (d.bump f k).beat = d.beat := by simp only [bump, put_beat]
@[simp] theorem bump_evr (d : Dev) (f : Fld) (k : Nat) : (d.bump f k).evr = d.evr := by simp only [bump, put_evr]
@[simp] theorem bump_sil (d : Dev) (f : Fld) (k : Nat) : (d.bump f k).sil = d.sil := by simp only [bump, put_sil]
@[simp] theorem bump_key (d : Dev) (f : Fld) (k : Nat) : (d.bump f k).key = d.key := by simp only [bump, put_key]
@[simp] theorem bump_cut (d : Dev) (f : Fld) (k : Nat) : (d.bump f k).cut = d.cut := by simp only [bump, put_cut]
@[simp] theorem bump_rft (d : Dev) (f : Fld) (k : Nat) : (d.bump f k).rft = d.rft := by simp only [bump, put_rft]
@[simp] theorem bump_lin (d : Dev) (f : Fld) (k : Nat) : (d.bump f k).lin = d.lin := by simp only [bump, put_lin]
@[simp] theorem bump_jst (d : Dev) (f : Fld) (k : Nat) : (d.bump f k).jst = d.jst := by simp only [bump, put_jst]
@[simp] theorem bump_tim (d : Dev) (f : Fld) (k : Nat) : (d.bump f k).tim = d.tim := by simp only [bump, put_tim]
@[simp] theorem bump_rtc (d : Dev) (f : Fld) (k : Nat) : (d.bump f k).rtc = d.rtc := by simp only [bump, put_rtc]
@[simp] theorem bump_hlk (d : Dev) (f : Fld) (k : Nat) : (d.bump f k).hlk = d.hlk := by simp only [bump, put_hlk]
@[simp] theorem bump_rad (d : Dev) (f : Fld) (k : Nat) : (d.bump f k).rad = d.rad := by simp only [bump, put_rad]
@[simp] theorem bump_trk (d : Dev) (f : Fld) (k : Nat) : (d.bump f k).trk = d.trk := by simp only [bump, put_trk]
@[simp] theorem bump_pwr (d : Dev) (f : Fld) (k : Nat) : (d.bump f k).pwr = d.pwr := by simp only [bump, put_pwr]
@[simp] theorem bump_bst (d : Dev) (f : Fld) (k : Nat) : (d.bump f k).bst = d.bst := by simp only [bump, put_bst]
@[simp] theorem bump_fwu (d : Dev) (f : Fld) (k : Nat) : (d.bump f k).fwu = d.fwu := by simp only [bump, put_fwu]
@[simp] theorem bump_mtr (d : Dev) (f : Fld) (k : Nat) : (d.bump f k).mtr = d.mtr := by simp only [bump, put_mtr]
@[simp] theorem bump_pair (d : Dev) (f : Fld) (k : Nat) : (d.bump f k).pair = d.pair := by simp only [bump, put_pair]
@[simp] theorem bump_lgt (d : Dev) (f : Fld) (k : Nat) : (d.bump f k).lgt = d.lgt := by simp only [bump, put_lgt]
@[simp] theorem bump_lnd (d : Dev) (f : Fld) (k : Nat) : (d.bump f k).lnd = d.lnd := by simp only [bump, put_lnd]

@[simp] theorem raiseBits_mem (d : Dev) (f : Fld) (v : Nat) : (d.raiseBits f v).mem = d.mem := by simp only [raiseBits, put_mem]
@[simp] theorem raiseBits_latches (d : Dev) (f : Fld) (v : Nat) : (d.raiseBits f v).latches = d.latches := by simp only [raiseBits, put_latches]
@[simp] theorem raiseBits_staged (d : Dev) (f : Fld) (v : Nat) : (d.raiseBits f v).staged = d.staged := by simp only [raiseBits, put_staged]
@[simp] theorem raiseBits_freeCtr (d : Dev) (f : Fld) (v : Nat) : (d.raiseBits f v).freeCtr = d.freeCtr := by simp only [raiseBits, put_freeCtr]
@[simp] theorem raiseBits_sys (d : Dev) (f : Fld) (v : Nat) : (d.raiseBits f v).sys = d.sys := by simp only [raiseBits, put_sys]
@[simp] theorem raiseBits_beat (d : Dev) (f : Fld) (v : Nat) : (d.raiseBits f v).beat = d.beat := by simp only [raiseBits, put_beat]
@[simp] theorem raiseBits_evr (d : Dev) (f : Fld) (v : Nat) : (d.raiseBits f v).evr = d.evr := by simp only [raiseBits, put_evr]
@[simp] theorem raiseBits_sil (d : Dev) (f : Fld) (v : Nat) : (d.raiseBits f v).sil = d.sil := by simp only [raiseBits, put_sil]
@[simp] theorem raiseBits_key (d : Dev) (f : Fld) (v : Nat) : (d.raiseBits f v).key = d.key := by simp only [raiseBits, put_key]
@[simp] theorem raiseBits_cut (d : Dev) (f : Fld) (v : Nat) : (d.raiseBits f v).cut = d.cut := by simp only [raiseBits, put_cut]
@[simp] theorem raiseBits_rft (d : Dev) (f : Fld) (v : Nat) : (d.raiseBits f v).rft = d.rft := by simp only [raiseBits, put_rft]
@[simp] theorem raiseBits_lin (d : Dev) (f : Fld) (v : Nat) : (d.raiseBits f v).lin = d.lin := by simp only [raiseBits, put_lin]
@[simp] theorem raiseBits_jst (d : Dev) (f : Fld) (v : Nat) : (d.raiseBits f v).jst = d.jst := by simp only [raiseBits, put_jst]
@[simp] theorem raiseBits_tim (d : Dev) (f : Fld) (v : Nat) : (d.raiseBits f v).tim = d.tim := by simp only [raiseBits, put_tim]
@[simp] theorem raiseBits_rtc (d : Dev) (f : Fld) (v : Nat) : (d.raiseBits f v).rtc = d.rtc := by simp only [raiseBits, put_rtc]
@[simp] theorem raiseBits_hlk (d : Dev) (f : Fld) (v : Nat) : (d.raiseBits f v).hlk = d.hlk := by simp only [raiseBits, put_hlk]
@[simp] theorem raiseBits_rad (d : Dev) (f : Fld) (v : Nat) : (d.raiseBits f v).rad = d.rad := by simp only [raiseBits, put_rad]
@[simp] theorem raiseBits_trk (d : Dev) (f : Fld) (v : Nat) : (d.raiseBits f v).trk = d.trk := by simp only [raiseBits, put_trk]
@[simp] theorem raiseBits_pwr (d : Dev) (f : Fld) (v : Nat) : (d.raiseBits f v).pwr = d.pwr := by simp only [raiseBits, put_pwr]
@[simp] theorem raiseBits_bst (d : Dev) (f : Fld) (v : Nat) : (d.raiseBits f v).bst = d.bst := by simp only [raiseBits, put_bst]
@[simp] theorem raiseBits_fwu (d : Dev) (f : Fld) (v : Nat) : (d.raiseBits f v).fwu = d.fwu := by simp only [raiseBits, put_fwu]
@[simp] theorem raiseBits_mtr (d : Dev) (f : Fld) (v : Nat) : (d.raiseBits f v).mtr = d.mtr := by simp only [raiseBits, put_mtr]
@[simp] theorem raiseBits_pair (d : Dev) (f : Fld) (v : Nat) : (d.raiseBits f v).pair = d.pair := by simp only [raiseBits, put_pair]
@[simp] theorem raiseBits_lgt (d : Dev) (f : Fld) (v : Nat) : (d.raiseBits f v).lgt = d.lgt := by simp only [raiseBits, put_lgt]
@[simp] theorem raiseBits_lnd (d : Dev) (f : Fld) (v : Nat) : (d.raiseBits f v).lnd = d.lnd := by simp only [raiseBits, put_lnd]

@[simp] theorem raise_mem (d : Dev) (f : Fld) : (d.raise f).mem = d.mem := by simp only [raise, raiseBits_mem]
@[simp] theorem raise_latches (d : Dev) (f : Fld) : (d.raise f).latches = d.latches := by simp only [raise, raiseBits_latches]
@[simp] theorem raise_staged (d : Dev) (f : Fld) : (d.raise f).staged = d.staged := by simp only [raise, raiseBits_staged]
@[simp] theorem raise_freeCtr (d : Dev) (f : Fld) : (d.raise f).freeCtr = d.freeCtr := by simp only [raise, raiseBits_freeCtr]
@[simp] theorem raise_sys (d : Dev) (f : Fld) : (d.raise f).sys = d.sys := by simp only [raise, raiseBits_sys]
@[simp] theorem raise_beat (d : Dev) (f : Fld) : (d.raise f).beat = d.beat := by simp only [raise, raiseBits_beat]
@[simp] theorem raise_evr (d : Dev) (f : Fld) : (d.raise f).evr = d.evr := by simp only [raise, raiseBits_evr]
@[simp] theorem raise_sil (d : Dev) (f : Fld) : (d.raise f).sil = d.sil := by simp only [raise, raiseBits_sil]
@[simp] theorem raise_key (d : Dev) (f : Fld) : (d.raise f).key = d.key := by simp only [raise, raiseBits_key]
@[simp] theorem raise_cut (d : Dev) (f : Fld) : (d.raise f).cut = d.cut := by simp only [raise, raiseBits_cut]
@[simp] theorem raise_rft (d : Dev) (f : Fld) : (d.raise f).rft = d.rft := by simp only [raise, raiseBits_rft]
@[simp] theorem raise_lin (d : Dev) (f : Fld) : (d.raise f).lin = d.lin := by simp only [raise, raiseBits_lin]
@[simp] theorem raise_jst (d : Dev) (f : Fld) : (d.raise f).jst = d.jst := by simp only [raise, raiseBits_jst]
@[simp] theorem raise_tim (d : Dev) (f : Fld) : (d.raise f).tim = d.tim := by simp only [raise, raiseBits_tim]
@[simp] theorem raise_rtc (d : Dev) (f : Fld) : (d.raise f).rtc = d.rtc := by simp only [raise, raiseBits_rtc]
@[simp] theorem raise_hlk (d : Dev) (f : Fld) : (d.raise f).hlk = d.hlk := by simp only [raise, raiseBits_hlk]
@[simp] theorem raise_rad (d : Dev) (f : Fld) : (d.raise f).rad = d.rad := by simp only [raise, raiseBits_rad]
@[simp] theorem raise_trk (d : Dev) (f : Fld) : (d.raise f).trk = d.trk := by simp only [raise, raiseBits_trk]
@[simp] theorem raise_pwr (d : Dev) (f : Fld) : (d.raise f).pwr = d.pwr := by simp only [raise, raiseBits_pwr]
@[simp] theorem raise_bst (d : Dev) (f : Fld) : (d.raise f).bst = d.bst := by simp only [raise, raiseBits_bst]
@[simp] theorem raise_fwu (d : Dev) (f : Fld) : (d.raise f).fwu = d.fwu := by simp only [raise, raiseBits_fwu]
@[simp] theorem raise_mtr (d : Dev) (f : Fld) : (d.raise f).mtr = d.mtr := by simp only [raise, raiseBits_mtr]
@[simp] theorem raise_pair (d : Dev) (f : Fld) : (d.raise f).pair = d.pair := by simp only [raise, raiseBits_pair]
@[simp] theorem raise_lgt (d : Dev) (f : Fld) : (d.raise f).lgt = d.lgt := by simp only [raise, raiseBits_lgt]
@[simp] theorem raise_lnd (d : Dev) (f : Fld) : (d.raise f).lnd = d.lnd := by simp only [raise, raiseBits_lnd]

@[simp] theorem offer_regs (d : Dev) (e : EvCode) (args : List Nat) : (d.offer e args).regs = d.regs := by unfold offer; rfl
@[simp] theorem offer_mem (d : Dev) (e : EvCode) (args : List Nat) : (d.offer e args).mem = d.mem := by unfold offer; rfl
@[simp] theorem offer_latches (d : Dev) (e : EvCode) (args : List Nat) : (d.offer e args).latches = d.latches := by unfold offer; rfl
@[simp] theorem offer_staged (d : Dev) (e : EvCode) (args : List Nat) : (d.offer e args).staged = d.staged := by unfold offer; rfl
@[simp] theorem offer_freeCtr (d : Dev) (e : EvCode) (args : List Nat) : (d.offer e args).freeCtr = d.freeCtr := by unfold offer; rfl
@[simp] theorem offer_cyc (d : Dev) (e : EvCode) (args : List Nat) : (d.offer e args).cyc = d.cyc := by unfold offer; rfl
@[simp] theorem offer_sys (d : Dev) (e : EvCode) (args : List Nat) : (d.offer e args).sys = d.sys := by unfold offer; rfl
@[simp] theorem offer_beat (d : Dev) (e : EvCode) (args : List Nat) : (d.offer e args).beat = d.beat := by unfold offer; rfl
@[simp] theorem offer_sil (d : Dev) (e : EvCode) (args : List Nat) : (d.offer e args).sil = d.sil := by unfold offer; rfl
@[simp] theorem offer_key (d : Dev) (e : EvCode) (args : List Nat) : (d.offer e args).key = d.key := by unfold offer; rfl
@[simp] theorem offer_cut (d : Dev) (e : EvCode) (args : List Nat) : (d.offer e args).cut = d.cut := by unfold offer; rfl
@[simp] theorem offer_rft (d : Dev) (e : EvCode) (args : List Nat) : (d.offer e args).rft = d.rft := by unfold offer; rfl
@[simp] theorem offer_lin (d : Dev) (e : EvCode) (args : List Nat) : (d.offer e args).lin = d.lin := by unfold offer; rfl
@[simp] theorem offer_jst (d : Dev) (e : EvCode) (args : List Nat) : (d.offer e args).jst = d.jst := by unfold offer; rfl
@[simp] theorem offer_tim (d : Dev) (e : EvCode) (args : List Nat) : (d.offer e args).tim = d.tim := by unfold offer; rfl
@[simp] theorem offer_rtc (d : Dev) (e : EvCode) (args : List Nat) : (d.offer e args).rtc = d.rtc := by unfold offer; rfl
@[simp] theorem offer_hlk (d : Dev) (e : EvCode) (args : List Nat) : (d.offer e args).hlk = d.hlk := by unfold offer; rfl
@[simp] theorem offer_rad (d : Dev) (e : EvCode) (args : List Nat) : (d.offer e args).rad = d.rad := by unfold offer; rfl
@[simp] theorem offer_trk (d : Dev) (e : EvCode) (args : List Nat) : (d.offer e args).trk = d.trk := by unfold offer; rfl
@[simp] theorem offer_pwr (d : Dev) (e : EvCode) (args : List Nat) : (d.offer e args).pwr = d.pwr := by unfold offer; rfl
@[simp] theorem offer_bst (d : Dev) (e : EvCode) (args : List Nat) : (d.offer e args).bst = d.bst := by unfold offer; rfl
@[simp] theorem offer_fwu (d : Dev) (e : EvCode) (args : List Nat) : (d.offer e args).fwu = d.fwu := by unfold offer; rfl
@[simp] theorem offer_mtr (d : Dev) (e : EvCode) (args : List Nat) : (d.offer e args).mtr = d.mtr := by unfold offer; rfl
@[simp] theorem offer_pair (d : Dev) (e : EvCode) (args : List Nat) : (d.offer e args).pair = d.pair := by unfold offer; rfl
@[simp] theorem offer_lgt (d : Dev) (e : EvCode) (args : List Nat) : (d.offer e args).lgt = d.lgt := by unfold offer; rfl
@[simp] theorem offer_lnd (d : Dev) (e : EvCode) (args : List Nat) : (d.offer e args).lnd = d.lnd := by unfold offer; rfl

@[simp] theorem atTime_regs (d : Dev) (t : Nat) : (d.atTime t).regs = d.regs := by unfold atTime; rfl
@[simp] theorem atTime_mem (d : Dev) (t : Nat) : (d.atTime t).mem = d.mem := by unfold atTime; rfl
@[simp] theorem atTime_latches (d : Dev) (t : Nat) : (d.atTime t).latches = d.latches := by unfold atTime; rfl
@[simp] theorem atTime_staged (d : Dev) (t : Nat) : (d.atTime t).staged = d.staged := by unfold atTime; rfl
@[simp] theorem atTime_freeCtr (d : Dev) (t : Nat) : (d.atTime t).freeCtr = d.freeCtr := by unfold atTime; rfl
@[simp] theorem atTime_sys (d : Dev) (t : Nat) : (d.atTime t).sys = d.sys := by unfold atTime; rfl
@[simp] theorem atTime_evr (d : Dev) (t : Nat) : (d.atTime t).evr = d.evr := by unfold atTime; rfl
@[simp] theorem atTime_sil (d : Dev) (t : Nat) : (d.atTime t).sil = d.sil := by unfold atTime; rfl
@[simp] theorem atTime_key (d : Dev) (t : Nat) : (d.atTime t).key = d.key := by unfold atTime; rfl
@[simp] theorem atTime_cut (d : Dev) (t : Nat) : (d.atTime t).cut = d.cut := by unfold atTime; rfl
@[simp] theorem atTime_rft (d : Dev) (t : Nat) : (d.atTime t).rft = d.rft := by unfold atTime; rfl
@[simp] theorem atTime_lin (d : Dev) (t : Nat) : (d.atTime t).lin = d.lin := by unfold atTime; rfl
@[simp] theorem atTime_jst (d : Dev) (t : Nat) : (d.atTime t).jst = d.jst := by unfold atTime; rfl
@[simp] theorem atTime_tim (d : Dev) (t : Nat) : (d.atTime t).tim = d.tim := by unfold atTime; rfl
@[simp] theorem atTime_rtc (d : Dev) (t : Nat) : (d.atTime t).rtc = d.rtc := by unfold atTime; rfl
@[simp] theorem atTime_hlk (d : Dev) (t : Nat) : (d.atTime t).hlk = d.hlk := by unfold atTime; rfl
@[simp] theorem atTime_rad (d : Dev) (t : Nat) : (d.atTime t).rad = d.rad := by unfold atTime; rfl
@[simp] theorem atTime_trk (d : Dev) (t : Nat) : (d.atTime t).trk = d.trk := by unfold atTime; rfl
@[simp] theorem atTime_pwr (d : Dev) (t : Nat) : (d.atTime t).pwr = d.pwr := by unfold atTime; rfl
@[simp] theorem atTime_bst (d : Dev) (t : Nat) : (d.atTime t).bst = d.bst := by unfold atTime; rfl
@[simp] theorem atTime_fwu (d : Dev) (t : Nat) : (d.atTime t).fwu = d.fwu := by unfold atTime; rfl
@[simp] theorem atTime_mtr (d : Dev) (t : Nat) : (d.atTime t).mtr = d.mtr := by unfold atTime; rfl
@[simp] theorem atTime_pair (d : Dev) (t : Nat) : (d.atTime t).pair = d.pair := by unfold atTime; rfl
@[simp] theorem atTime_lgt (d : Dev) (t : Nat) : (d.atTime t).lgt = d.lgt := by unfold atTime; rfl
@[simp] theorem atTime_lnd (d : Dev) (t : Nat) : (d.atTime t).lnd = d.lnd := by unfold atTime; rfl

@[simp] theorem stageHi_regs (d : Dev) (bank : Nat) (hi : Fld) (v : Nat) : (d.stageHi bank hi v).regs = d.regs := by unfold stageHi; rfl
@[simp] theorem stageHi_mem (d : Dev) (bank : Nat) (hi : Fld) (v : Nat) : (d.stageHi bank hi v).mem = d.mem := by unfold stageHi; rfl
@[simp] theorem stageHi_latches (d : Dev) (bank : Nat) (hi : Fld) (v : Nat) : (d.stageHi bank hi v).latches = d.latches := by unfold stageHi; rfl
@[simp] theorem stageHi_freeCtr (d : Dev) (bank : Nat) (hi : Fld) (v : Nat) : (d.stageHi bank hi v).freeCtr = d.freeCtr := by unfold stageHi; rfl
@[simp] theorem stageHi_cyc (d : Dev) (bank : Nat) (hi : Fld) (v : Nat) : (d.stageHi bank hi v).cyc = d.cyc := by unfold stageHi; rfl
@[simp] theorem stageHi_sys (d : Dev) (bank : Nat) (hi : Fld) (v : Nat) : (d.stageHi bank hi v).sys = d.sys := by unfold stageHi; rfl
@[simp] theorem stageHi_beat (d : Dev) (bank : Nat) (hi : Fld) (v : Nat) : (d.stageHi bank hi v).beat = d.beat := by unfold stageHi; rfl
@[simp] theorem stageHi_evr (d : Dev) (bank : Nat) (hi : Fld) (v : Nat) : (d.stageHi bank hi v).evr = d.evr := by unfold stageHi; rfl
@[simp] theorem stageHi_sil (d : Dev) (bank : Nat) (hi : Fld) (v : Nat) : (d.stageHi bank hi v).sil = d.sil := by unfold stageHi; rfl
@[simp] theorem stageHi_key (d : Dev) (bank : Nat) (hi : Fld) (v : Nat) : (d.stageHi bank hi v).key = d.key := by unfold stageHi; rfl
@[simp] theorem stageHi_cut (d : Dev) (bank : Nat) (hi : Fld) (v : Nat) : (d.stageHi bank hi v).cut = d.cut := by unfold stageHi; rfl
@[simp] theorem stageHi_rft (d : Dev) (bank : Nat) (hi : Fld) (v : Nat) : (d.stageHi bank hi v).rft = d.rft := by unfold stageHi; rfl
@[simp] theorem stageHi_lin (d : Dev) (bank : Nat) (hi : Fld) (v : Nat) : (d.stageHi bank hi v).lin = d.lin := by unfold stageHi; rfl
@[simp] theorem stageHi_jst (d : Dev) (bank : Nat) (hi : Fld) (v : Nat) : (d.stageHi bank hi v).jst = d.jst := by unfold stageHi; rfl
@[simp] theorem stageHi_tim (d : Dev) (bank : Nat) (hi : Fld) (v : Nat) : (d.stageHi bank hi v).tim = d.tim := by unfold stageHi; rfl
@[simp] theorem stageHi_rtc (d : Dev) (bank : Nat) (hi : Fld) (v : Nat) : (d.stageHi bank hi v).rtc = d.rtc := by unfold stageHi; rfl
@[simp] theorem stageHi_hlk (d : Dev) (bank : Nat) (hi : Fld) (v : Nat) : (d.stageHi bank hi v).hlk = d.hlk := by unfold stageHi; rfl
@[simp] theorem stageHi_rad (d : Dev) (bank : Nat) (hi : Fld) (v : Nat) : (d.stageHi bank hi v).rad = d.rad := by unfold stageHi; rfl
@[simp] theorem stageHi_trk (d : Dev) (bank : Nat) (hi : Fld) (v : Nat) : (d.stageHi bank hi v).trk = d.trk := by unfold stageHi; rfl
@[simp] theorem stageHi_pwr (d : Dev) (bank : Nat) (hi : Fld) (v : Nat) : (d.stageHi bank hi v).pwr = d.pwr := by unfold stageHi; rfl
@[simp] theorem stageHi_bst (d : Dev) (bank : Nat) (hi : Fld) (v : Nat) : (d.stageHi bank hi v).bst = d.bst := by unfold stageHi; rfl
@[simp] theorem stageHi_fwu (d : Dev) (bank : Nat) (hi : Fld) (v : Nat) : (d.stageHi bank hi v).fwu = d.fwu := by unfold stageHi; rfl
@[simp] theorem stageHi_mtr (d : Dev) (bank : Nat) (hi : Fld) (v : Nat) : (d.stageHi bank hi v).mtr = d.mtr := by unfold stageHi; rfl
@[simp] theorem stageHi_pair (d : Dev) (bank : Nat) (hi : Fld) (v : Nat) : (d.stageHi bank hi v).pair = d.pair := by unfold stageHi; rfl
@[simp] theorem stageHi_lgt (d : Dev) (bank : Nat) (hi : Fld) (v : Nat) : (d.stageHi bank hi v).lgt = d.lgt := by unfold stageHi; rfl
@[simp] theorem stageHi_lnd (d : Dev) (bank : Nat) (hi : Fld) (v : Nat) : (d.stageHi bank hi v).lnd = d.lnd := by unfold stageHi; rfl

@[simp] theorem setSuspended_mem (d : Dev) (media : Nat) : (d.setSuspended media).mem = d.mem := by simp only [setSuspended, put_mem, putB_mem]
@[simp] theorem setSuspended_latches (d : Dev) (media : Nat) : (d.setSuspended media).latches = d.latches := by simp only [setSuspended, put_latches, putB_latches]
@[simp] theorem setSuspended_staged (d : Dev) (media : Nat) : (d.setSuspended media).staged = d.staged := by simp only [setSuspended, put_staged, putB_staged]
@[simp] theorem setSuspended_freeCtr (d : Dev) (media : Nat) : (d.setSuspended media).freeCtr = d.freeCtr := by simp only [setSuspended, put_freeCtr, putB_freeCtr]
@[simp] theorem setSuspended_cyc (d : Dev) (media : Nat) : (d.setSuspended media).cyc = d.cyc := by simp only [setSuspended, put_cyc, putB_cyc]
@[simp] theorem setSuspended_sys (d : Dev) (media : Nat) : (d.setSuspended media).sys = d.sys := by simp only [setSuspended, put_sys, putB_sys]
@[simp] theorem setSuspended_beat (d : Dev) (media : Nat) : (d.setSuspended media).beat = d.beat := by simp only [setSuspended, put_beat, putB_beat]
@[simp] theorem setSuspended_evr (d : Dev) (media : Nat) : (d.setSuspended media).evr = d.evr := by simp only [setSuspended, put_evr, putB_evr]
@[simp] theorem setSuspended_sil (d : Dev) (media : Nat) : (d.setSuspended media).sil = d.sil := by simp only [setSuspended, put_sil, putB_sil]
@[simp] theorem setSuspended_key (d : Dev) (media : Nat) : (d.setSuspended media).key = d.key := by simp only [setSuspended, put_key, putB_key]
@[simp] theorem setSuspended_cut (d : Dev) (media : Nat) : (d.setSuspended media).cut = d.cut := by simp only [setSuspended, put_cut, putB_cut]
@[simp] theorem setSuspended_rft (d : Dev) (media : Nat) : (d.setSuspended media).rft = d.rft := by simp only [setSuspended, put_rft, putB_rft]
@[simp] theorem setSuspended_lin (d : Dev) (media : Nat) : (d.setSuspended media).lin = d.lin := by simp only [setSuspended, put_lin, putB_lin]
@[simp] theorem setSuspended_jst (d : Dev) (media : Nat) : (d.setSuspended media).jst = d.jst := by simp only [setSuspended, put_jst, putB_jst]
@[simp] theorem setSuspended_tim (d : Dev) (media : Nat) : (d.setSuspended media).tim = d.tim := by simp only [setSuspended, put_tim, putB_tim]
@[simp] theorem setSuspended_rtc (d : Dev) (media : Nat) : (d.setSuspended media).rtc = d.rtc := by simp only [setSuspended, put_rtc, putB_rtc]
@[simp] theorem setSuspended_hlk (d : Dev) (media : Nat) : (d.setSuspended media).hlk = d.hlk := by simp only [setSuspended, put_hlk, putB_hlk]
@[simp] theorem setSuspended_rad (d : Dev) (media : Nat) : (d.setSuspended media).rad = d.rad := by simp only [setSuspended, put_rad, putB_rad]
@[simp] theorem setSuspended_trk (d : Dev) (media : Nat) : (d.setSuspended media).trk = d.trk := by simp only [setSuspended, put_trk, putB_trk]
@[simp] theorem setSuspended_pwr (d : Dev) (media : Nat) : (d.setSuspended media).pwr = d.pwr := by simp only [setSuspended, put_pwr, putB_pwr]
@[simp] theorem setSuspended_bst (d : Dev) (media : Nat) : (d.setSuspended media).bst = d.bst := by simp only [setSuspended, put_bst, putB_bst]
@[simp] theorem setSuspended_fwu (d : Dev) (media : Nat) : (d.setSuspended media).fwu = d.fwu := by simp only [setSuspended, put_fwu, putB_fwu]
@[simp] theorem setSuspended_mtr (d : Dev) (media : Nat) : (d.setSuspended media).mtr = d.mtr := by simp only [setSuspended, put_mtr, putB_mtr]
@[simp] theorem setSuspended_pair (d : Dev) (media : Nat) : (d.setSuspended media).pair = d.pair := by simp only [setSuspended, put_pair, putB_pair]
@[simp] theorem setSuspended_lgt (d : Dev) (media : Nat) : (d.setSuspended media).lgt = d.lgt := by simp only [setSuspended, put_lgt, putB_lgt]
@[simp] theorem setSuspended_lnd (d : Dev) (media : Nat) : (d.setSuspended media).lnd = d.lnd := by simp only [setSuspended, put_lnd, putB_lnd]

@[simp] theorem showLands_regs (d : Dev) : d.showLands.regs = d.regs := by unfold showLands; rfl
@[simp] theorem showLands_mem (d : Dev) : d.showLands.mem = d.mem := by unfold showLands; rfl
@[simp] theorem showLands_latches (d : Dev) : d.showLands.latches = d.latches := by unfold showLands; rfl
@[simp] theorem showLands_staged (d : Dev) : d.showLands.staged = d.staged := by unfold showLands; rfl
@[simp] theorem showLands_freeCtr (d : Dev) : d.showLands.freeCtr = d.freeCtr := by unfold showLands; rfl
@[simp] theorem showLands_cyc (d : Dev) : d.showLands.cyc = d.cyc := by unfold showLands; rfl
@[simp] theorem showLands_sys (d : Dev) : d.showLands.sys = d.sys := by unfold showLands; rfl
@[simp] theorem showLands_beat (d : Dev) : d.showLands.beat = d.beat := by unfold showLands; rfl
@[simp] theorem showLands_evr (d : Dev) : d.showLands.evr = d.evr := by unfold showLands; rfl
@[simp] theorem showLands_sil (d : Dev) : d.showLands.sil = d.sil := by unfold showLands; rfl
@[simp] theorem showLands_key (d : Dev) : d.showLands.key = d.key := by unfold showLands; rfl
@[simp] theorem showLands_cut (d : Dev) : d.showLands.cut = d.cut := by unfold showLands; rfl
@[simp] theorem showLands_rft (d : Dev) : d.showLands.rft = d.rft := by unfold showLands; rfl
@[simp] theorem showLands_lin (d : Dev) : d.showLands.lin = d.lin := by unfold showLands; rfl
@[simp] theorem showLands_jst (d : Dev) : d.showLands.jst = d.jst := by unfold showLands; rfl
@[simp] theorem showLands_tim (d : Dev) : d.showLands.tim = d.tim := by unfold showLands; rfl
@[simp] theorem showLands_rtc (d : Dev) : d.showLands.rtc = d.rtc := by unfold showLands; rfl
@[simp] theorem showLands_hlk (d : Dev) : d.showLands.hlk = d.hlk := by unfold showLands; rfl
@[simp] theorem showLands_rad (d : Dev) : d.showLands.rad = d.rad := by unfold showLands; rfl
@[simp] theorem showLands_trk (d : Dev) : d.showLands.trk = d.trk := by unfold showLands; rfl
@[simp] theorem showLands_pwr (d : Dev) : d.showLands.pwr = d.pwr := by unfold showLands; rfl
@[simp] theorem showLands_bst (d : Dev) : d.showLands.bst = d.bst := by unfold showLands; rfl
@[simp] theorem showLands_fwu (d : Dev) : d.showLands.fwu = d.fwu := by unfold showLands; rfl
@[simp] theorem showLands_mtr (d : Dev) : d.showLands.mtr = d.mtr := by unfold showLands; rfl
@[simp] theorem showLands_pair (d : Dev) : d.showLands.pair = d.pair := by unfold showLands; rfl
@[simp] theorem showLands_lgt (d : Dev) : d.showLands.lgt = d.lgt := by unfold showLands; rfl

@[simp] theorem setRole_mem (d : Dev) (r : Role) : (d.setRole r).mem = d.mem := by simp only [setRole, Dev.when, showLands_mem]; split <;> simp only [put_mem]
@[simp] theorem setRole_latches (d : Dev) (r : Role) : (d.setRole r).latches = d.latches := by simp only [setRole, Dev.when, showLands_latches]; split <;> simp only [put_latches]
@[simp] theorem setRole_staged (d : Dev) (r : Role) : (d.setRole r).staged = d.staged := by simp only [setRole, Dev.when, showLands_staged]; split <;> simp only [put_staged]
@[simp] theorem setRole_freeCtr (d : Dev) (r : Role) : (d.setRole r).freeCtr = d.freeCtr := by simp only [setRole, Dev.when, showLands_freeCtr]; split <;> simp only [put_freeCtr]
@[simp] theorem setRole_cyc (d : Dev) (r : Role) : (d.setRole r).cyc = d.cyc := by simp only [setRole, Dev.when, showLands_cyc]; split <;> simp only [put_cyc]
@[simp] theorem setRole_beat (d : Dev) (r : Role) : (d.setRole r).beat = d.beat := by simp only [setRole, Dev.when, showLands_beat]; split <;> simp only [put_beat]
@[simp] theorem setRole_evr (d : Dev) (r : Role) : (d.setRole r).evr = d.evr := by simp only [setRole, Dev.when, showLands_evr]; split <;> simp only [put_evr]
@[simp] theorem setRole_sil (d : Dev) (r : Role) : (d.setRole r).sil = d.sil := by simp only [setRole, Dev.when, showLands_sil]; split <;> simp only [put_sil]
@[simp] theorem setRole_key (d : Dev) (r : Role) : (d.setRole r).key = d.key := by simp only [setRole, Dev.when, showLands_key]; split <;> simp only [put_key]
@[simp] theorem setRole_cut (d : Dev) (r : Role) : (d.setRole r).cut = d.cut := by simp only [setRole, Dev.when, showLands_cut]; split <;> simp only [put_cut]
@[simp] theorem setRole_rft (d : Dev) (r : Role) : (d.setRole r).rft = d.rft := by simp only [setRole, Dev.when, showLands_rft]; split <;> simp only [put_rft]
@[simp] theorem setRole_lin (d : Dev) (r : Role) : (d.setRole r).lin = d.lin := by simp only [setRole, Dev.when, showLands_lin]; split <;> simp only [put_lin]
@[simp] theorem setRole_jst (d : Dev) (r : Role) : (d.setRole r).jst = d.jst := by simp only [setRole, Dev.when, showLands_jst]; split <;> simp only [put_jst]
@[simp] theorem setRole_tim (d : Dev) (r : Role) : (d.setRole r).tim = d.tim := by simp only [setRole, Dev.when, showLands_tim]; split <;> simp only [put_tim]
@[simp] theorem setRole_rtc (d : Dev) (r : Role) : (d.setRole r).rtc = d.rtc := by simp only [setRole, Dev.when, showLands_rtc]; split <;> simp only [put_rtc]
@[simp] theorem setRole_hlk (d : Dev) (r : Role) : (d.setRole r).hlk = d.hlk := by simp only [setRole, Dev.when, showLands_hlk]; split <;> simp only [put_hlk]
@[simp] theorem setRole_rad (d : Dev) (r : Role) : (d.setRole r).rad = d.rad := by simp only [setRole, Dev.when, showLands_rad]; split <;> simp only [put_rad]
@[simp] theorem setRole_trk (d : Dev) (r : Role) : (d.setRole r).trk = d.trk := by simp only [setRole, Dev.when, showLands_trk]; split <;> simp only [put_trk]
@[simp] theorem setRole_pwr (d : Dev) (r : Role) : (d.setRole r).pwr = d.pwr := by simp only [setRole, Dev.when, showLands_pwr]; split <;> simp only [put_pwr]
@[simp] theorem setRole_bst (d : Dev) (r : Role) : (d.setRole r).bst = d.bst := by simp only [setRole, Dev.when, showLands_bst]; split <;> simp only [put_bst]
@[simp] theorem setRole_fwu (d : Dev) (r : Role) : (d.setRole r).fwu = d.fwu := by simp only [setRole, Dev.when, showLands_fwu]; split <;> simp only [put_fwu]
@[simp] theorem setRole_mtr (d : Dev) (r : Role) : (d.setRole r).mtr = d.mtr := by simp only [setRole, Dev.when, showLands_mtr]; split <;> simp only [put_mtr]
@[simp] theorem setRole_pair (d : Dev) (r : Role) : (d.setRole r).pair = d.pair := by simp only [setRole, Dev.when, showLands_pair]; split <;> simp only [put_pair]
@[simp] theorem setRole_lgt (d : Dev) (r : Role) : (d.setRole r).lgt = d.lgt := by simp only [setRole, Dev.when, showLands_lgt]; split <;> simp only [put_lgt]

@[simp] theorem answerIdle_mem (d : Dev) (bank : Nat) : (d.answerIdle bank).mem = d.mem := by simp only [answerIdle, put_mem]
@[simp] theorem answerIdle_latches (d : Dev) (bank : Nat) : (d.answerIdle bank).latches = d.latches := by simp only [answerIdle, put_latches]
@[simp] theorem answerIdle_staged (d : Dev) (bank : Nat) : (d.answerIdle bank).staged = d.staged := by simp only [answerIdle, put_staged]
@[simp] theorem answerIdle_freeCtr (d : Dev) (bank : Nat) : (d.answerIdle bank).freeCtr = d.freeCtr := by simp only [answerIdle, put_freeCtr]
@[simp] theorem answerIdle_cyc (d : Dev) (bank : Nat) : (d.answerIdle bank).cyc = d.cyc := by simp only [answerIdle, put_cyc]
@[simp] theorem answerIdle_sys (d : Dev) (bank : Nat) : (d.answerIdle bank).sys = d.sys := by simp only [answerIdle, put_sys]
@[simp] theorem answerIdle_beat (d : Dev) (bank : Nat) : (d.answerIdle bank).beat = d.beat := by simp only [answerIdle, put_beat]
@[simp] theorem answerIdle_evr (d : Dev) (bank : Nat) : (d.answerIdle bank).evr = d.evr := by simp only [answerIdle, put_evr]
@[simp] theorem answerIdle_sil (d : Dev) (bank : Nat) : (d.answerIdle bank).sil = d.sil := by simp only [answerIdle, put_sil]
@[simp] theorem answerIdle_key (d : Dev) (bank : Nat) : (d.answerIdle bank).key = d.key := by simp only [answerIdle, put_key]
@[simp] theorem answerIdle_cut (d : Dev) (bank : Nat) : (d.answerIdle bank).cut = d.cut := by simp only [answerIdle, put_cut]
@[simp] theorem answerIdle_rft (d : Dev) (bank : Nat) : (d.answerIdle bank).rft = d.rft := by simp only [answerIdle, put_rft]
@[simp] theorem answerIdle_lin (d : Dev) (bank : Nat) : (d.answerIdle bank).lin = d.lin := by simp only [answerIdle, put_lin]
@[simp] theorem answerIdle_jst (d : Dev) (bank : Nat) : (d.answerIdle bank).jst = d.jst := by simp only [answerIdle, put_jst]
@[simp] theorem answerIdle_tim (d : Dev) (bank : Nat) : (d.answerIdle bank).tim = d.tim := by simp only [answerIdle, put_tim]
@[simp] theorem answerIdle_rtc (d : Dev) (bank : Nat) : (d.answerIdle bank).rtc = d.rtc := by simp only [answerIdle, put_rtc]
@[simp] theorem answerIdle_hlk (d : Dev) (bank : Nat) : (d.answerIdle bank).hlk = d.hlk := by simp only [answerIdle, put_hlk]
@[simp] theorem answerIdle_rad (d : Dev) (bank : Nat) : (d.answerIdle bank).rad = d.rad := by simp only [answerIdle, put_rad]
@[simp] theorem answerIdle_trk (d : Dev) (bank : Nat) : (d.answerIdle bank).trk = d.trk := by simp only [answerIdle, put_trk]
@[simp] theorem answerIdle_pwr (d : Dev) (bank : Nat) : (d.answerIdle bank).pwr = d.pwr := by simp only [answerIdle, put_pwr]
@[simp] theorem answerIdle_bst (d : Dev) (bank : Nat) : (d.answerIdle bank).bst = d.bst := by simp only [answerIdle, put_bst]
@[simp] theorem answerIdle_fwu (d : Dev) (bank : Nat) : (d.answerIdle bank).fwu = d.fwu := by simp only [answerIdle, put_fwu]
@[simp] theorem answerIdle_mtr (d : Dev) (bank : Nat) : (d.answerIdle bank).mtr = d.mtr := by simp only [answerIdle, put_mtr]
@[simp] theorem answerIdle_pair (d : Dev) (bank : Nat) : (d.answerIdle bank).pair = d.pair := by simp only [answerIdle, put_pair]
@[simp] theorem answerIdle_lgt (d : Dev) (bank : Nat) : (d.answerIdle bank).lgt = d.lgt := by simp only [answerIdle, put_lgt]
@[simp] theorem answerIdle_lnd (d : Dev) (bank : Nat) : (d.answerIdle bank).lnd = d.lnd := by simp only [answerIdle, put_lnd]

@[simp] theorem dropStage_regs (d : Dev) (bank : Nat) : (d.dropStage bank).regs = d.regs := by unfold dropStage; rfl
@[simp] theorem dropStage_mem (d : Dev) (bank : Nat) : (d.dropStage bank).mem = d.mem := by unfold dropStage; rfl
@[simp] theorem dropStage_latches (d : Dev) (bank : Nat) : (d.dropStage bank).latches = d.latches := by unfold dropStage; rfl
@[simp] theorem dropStage_staged (d : Dev) (bank : Nat) : (d.dropStage bank).staged = d.staged := by unfold dropStage; rfl
@[simp] theorem dropStage_freeCtr (d : Dev) (bank : Nat) : (d.dropStage bank).freeCtr = d.freeCtr := by unfold dropStage; rfl
@[simp] theorem dropStage_cyc (d : Dev) (bank : Nat) : (d.dropStage bank).cyc = d.cyc := by unfold dropStage; rfl
@[simp] theorem dropStage_sys (d : Dev) (bank : Nat) : (d.dropStage bank).sys = d.sys := by unfold dropStage; rfl
@[simp] theorem dropStage_beat (d : Dev) (bank : Nat) : (d.dropStage bank).beat = d.beat := by unfold dropStage; rfl
@[simp] theorem dropStage_evr (d : Dev) (bank : Nat) : (d.dropStage bank).evr = d.evr := by unfold dropStage; rfl
@[simp] theorem dropStage_sil (d : Dev) (bank : Nat) : (d.dropStage bank).sil = d.sil := by unfold dropStage; rfl
@[simp] theorem dropStage_key (d : Dev) (bank : Nat) : (d.dropStage bank).key = d.key := by unfold dropStage; rfl
@[simp] theorem dropStage_cut (d : Dev) (bank : Nat) : (d.dropStage bank).cut = d.cut := by unfold dropStage; rfl
@[simp] theorem dropStage_rft (d : Dev) (bank : Nat) : (d.dropStage bank).rft = d.rft := by unfold dropStage; rfl
@[simp] theorem dropStage_lin (d : Dev) (bank : Nat) : (d.dropStage bank).lin = d.lin := by unfold dropStage; rfl
@[simp] theorem dropStage_tim (d : Dev) (bank : Nat) : (d.dropStage bank).tim = d.tim := by unfold dropStage; rfl
@[simp] theorem dropStage_rtc (d : Dev) (bank : Nat) : (d.dropStage bank).rtc = d.rtc := by unfold dropStage; rfl
@[simp] theorem dropStage_hlk (d : Dev) (bank : Nat) : (d.dropStage bank).hlk = d.hlk := by unfold dropStage; rfl
@[simp] theorem dropStage_rad (d : Dev) (bank : Nat) : (d.dropStage bank).rad = d.rad := by unfold dropStage; rfl
@[simp] theorem dropStage_trk (d : Dev) (bank : Nat) : (d.dropStage bank).trk = d.trk := by unfold dropStage; rfl
@[simp] theorem dropStage_pwr (d : Dev) (bank : Nat) : (d.dropStage bank).pwr = d.pwr := by unfold dropStage; rfl
@[simp] theorem dropStage_bst (d : Dev) (bank : Nat) : (d.dropStage bank).bst = d.bst := by unfold dropStage; rfl
@[simp] theorem dropStage_fwu (d : Dev) (bank : Nat) : (d.dropStage bank).fwu = d.fwu := by unfold dropStage; rfl
@[simp] theorem dropStage_mtr (d : Dev) (bank : Nat) : (d.dropStage bank).mtr = d.mtr := by unfold dropStage; rfl
@[simp] theorem dropStage_pair (d : Dev) (bank : Nat) : (d.dropStage bank).pair = d.pair := by unfold dropStage; rfl
@[simp] theorem dropStage_lgt (d : Dev) (bank : Nat) : (d.dropStage bank).lgt = d.lgt := by unfold dropStage; rfl
@[simp] theorem dropStage_lnd (d : Dev) (bank : Nat) : (d.dropStage bank).lnd = d.lnd := by unfold dropStage; rfl

@[simp] theorem pushStatus_mem (d : Dev) (bank st : Nat) (pool : Bool) : (d.pushStatus bank st pool).mem = d.mem := by simp only [pushStatus, put_mem, putB_mem]
@[simp] theorem pushStatus_latches (d : Dev) (bank st : Nat) (pool : Bool) : (d.pushStatus bank st pool).latches = d.latches := by simp only [pushStatus, put_latches, putB_latches]
@[simp] theorem pushStatus_staged (d : Dev) (bank st : Nat) (pool : Bool) : (d.pushStatus bank st pool).staged = d.staged := by simp only [pushStatus, put_staged, putB_staged]
@[simp] theorem pushStatus_freeCtr (d : Dev) (bank st : Nat) (pool : Bool) : (d.pushStatus bank st pool).freeCtr = d.freeCtr := by simp only [pushStatus, put_freeCtr, putB_freeCtr]
@[simp] theorem pushStatus_cyc (d : Dev) (bank st : Nat) (pool : Bool) : (d.pushStatus bank st pool).cyc = d.cyc := by simp only [pushStatus, put_cyc, putB_cyc]
@[simp] theorem pushStatus_sys (d : Dev) (bank st : Nat) (pool : Bool) : (d.pushStatus bank st pool).sys = d.sys := by simp only [pushStatus, put_sys, putB_sys]
@[simp] theorem pushStatus_beat (d : Dev) (bank st : Nat) (pool : Bool) : (d.pushStatus bank st pool).beat = d.beat := by simp only [pushStatus, put_beat, putB_beat]
@[simp] theorem pushStatus_evr (d : Dev) (bank st : Nat) (pool : Bool) : (d.pushStatus bank st pool).evr = d.evr := by simp only [pushStatus, put_evr, putB_evr]
@[simp] theorem pushStatus_sil (d : Dev) (bank st : Nat) (pool : Bool) : (d.pushStatus bank st pool).sil = d.sil := by simp only [pushStatus, put_sil, putB_sil]
@[simp] theorem pushStatus_key (d : Dev) (bank st : Nat) (pool : Bool) : (d.pushStatus bank st pool).key = d.key := by simp only [pushStatus, put_key, putB_key]
@[simp] theorem pushStatus_cut (d : Dev) (bank st : Nat) (pool : Bool) : (d.pushStatus bank st pool).cut = d.cut := by simp only [pushStatus, put_cut, putB_cut]
@[simp] theorem pushStatus_rft (d : Dev) (bank st : Nat) (pool : Bool) : (d.pushStatus bank st pool).rft = d.rft := by simp only [pushStatus, put_rft, putB_rft]
@[simp] theorem pushStatus_lin (d : Dev) (bank st : Nat) (pool : Bool) : (d.pushStatus bank st pool).lin = d.lin := by simp only [pushStatus, put_lin, putB_lin]
@[simp] theorem pushStatus_jst (d : Dev) (bank st : Nat) (pool : Bool) : (d.pushStatus bank st pool).jst = d.jst := by simp only [pushStatus, put_jst, putB_jst]
@[simp] theorem pushStatus_tim (d : Dev) (bank st : Nat) (pool : Bool) : (d.pushStatus bank st pool).tim = d.tim := by simp only [pushStatus, put_tim, putB_tim]
@[simp] theorem pushStatus_rtc (d : Dev) (bank st : Nat) (pool : Bool) : (d.pushStatus bank st pool).rtc = d.rtc := by simp only [pushStatus, put_rtc, putB_rtc]
@[simp] theorem pushStatus_hlk (d : Dev) (bank st : Nat) (pool : Bool) : (d.pushStatus bank st pool).hlk = d.hlk := by simp only [pushStatus, put_hlk, putB_hlk]
@[simp] theorem pushStatus_rad (d : Dev) (bank st : Nat) (pool : Bool) : (d.pushStatus bank st pool).rad = d.rad := by simp only [pushStatus, put_rad, putB_rad]
@[simp] theorem pushStatus_trk (d : Dev) (bank st : Nat) (pool : Bool) : (d.pushStatus bank st pool).trk = d.trk := by simp only [pushStatus, put_trk, putB_trk]
@[simp] theorem pushStatus_pwr (d : Dev) (bank st : Nat) (pool : Bool) : (d.pushStatus bank st pool).pwr = d.pwr := by simp only [pushStatus, put_pwr, putB_pwr]
@[simp] theorem pushStatus_bst (d : Dev) (bank st : Nat) (pool : Bool) : (d.pushStatus bank st pool).bst = d.bst := by simp only [pushStatus, put_bst, putB_bst]
@[simp] theorem pushStatus_fwu (d : Dev) (bank st : Nat) (pool : Bool) : (d.pushStatus bank st pool).fwu = d.fwu := by simp only [pushStatus, put_fwu, putB_fwu]
@[simp] theorem pushStatus_mtr (d : Dev) (bank st : Nat) (pool : Bool) : (d.pushStatus bank st pool).mtr = d.mtr := by simp only [pushStatus, put_mtr, putB_mtr]
@[simp] theorem pushStatus_pair (d : Dev) (bank st : Nat) (pool : Bool) : (d.pushStatus bank st pool).pair = d.pair := by simp only [pushStatus, put_pair, putB_pair]
@[simp] theorem pushStatus_lgt (d : Dev) (bank st : Nat) (pool : Bool) : (d.pushStatus bank st pool).lgt = d.lgt := by simp only [pushStatus, put_lgt, putB_lgt]
@[simp] theorem pushStatus_lnd (d : Dev) (bank st : Nat) (pool : Bool) : (d.pushStatus bank st pool).lnd = d.lnd := by simp only [pushStatus, put_lnd, putB_lnd]

@[simp] theorem pushRefused_mem (d : Dev) (q producer : Nat) (pool : Bool) : (d.pushRefused q producer pool).mem = d.mem := by simp only [pushRefused, bump_mem, raise_mem, offer_mem]
@[simp] theorem pushRefused_latches (d : Dev) (q producer : Nat) (pool : Bool) : (d.pushRefused q producer pool).latches = d.latches := by simp only [pushRefused, bump_latches, raise_latches, offer_latches]
@[simp] theorem pushRefused_staged (d : Dev) (q producer : Nat) (pool : Bool) : (d.pushRefused q producer pool).staged = d.staged := by simp only [pushRefused, bump_staged, raise_staged, offer_staged]
@[simp] theorem pushRefused_freeCtr (d : Dev) (q producer : Nat) (pool : Bool) : (d.pushRefused q producer pool).freeCtr = d.freeCtr := by simp only [pushRefused, bump_freeCtr, raise_freeCtr, offer_freeCtr]
@[simp] theorem pushRefused_sys (d : Dev) (q producer : Nat) (pool : Bool) : (d.pushRefused q producer pool).sys = d.sys := by simp only [pushRefused, bump_sys, raise_sys, offer_sys]
@[simp] theorem pushRefused_beat (d : Dev) (q producer : Nat) (pool : Bool) : (d.pushRefused q producer pool).beat = d.beat := by simp only [pushRefused, bump_beat, raise_beat, offer_beat]
@[simp] theorem pushRefused_sil (d : Dev) (q producer : Nat) (pool : Bool) : (d.pushRefused q producer pool).sil = d.sil := by simp only [pushRefused, bump_sil, raise_sil, offer_sil]
@[simp] theorem pushRefused_key (d : Dev) (q producer : Nat) (pool : Bool) : (d.pushRefused q producer pool).key = d.key := by simp only [pushRefused, bump_key, raise_key, offer_key]
@[simp] theorem pushRefused_cut (d : Dev) (q producer : Nat) (pool : Bool) : (d.pushRefused q producer pool).cut = d.cut := by simp only [pushRefused, bump_cut, raise_cut, offer_cut]
@[simp] theorem pushRefused_rft (d : Dev) (q producer : Nat) (pool : Bool) : (d.pushRefused q producer pool).rft = d.rft := by simp only [pushRefused, bump_rft, raise_rft, offer_rft]
@[simp] theorem pushRefused_lin (d : Dev) (q producer : Nat) (pool : Bool) : (d.pushRefused q producer pool).lin = d.lin := by simp only [pushRefused, bump_lin, raise_lin, offer_lin]
@[simp] theorem pushRefused_jst (d : Dev) (q producer : Nat) (pool : Bool) : (d.pushRefused q producer pool).jst = d.jst := by simp only [pushRefused, bump_jst, raise_jst, offer_jst]
@[simp] theorem pushRefused_tim (d : Dev) (q producer : Nat) (pool : Bool) : (d.pushRefused q producer pool).tim = d.tim := by simp only [pushRefused, bump_tim, raise_tim, offer_tim]
@[simp] theorem pushRefused_rtc (d : Dev) (q producer : Nat) (pool : Bool) : (d.pushRefused q producer pool).rtc = d.rtc := by simp only [pushRefused, bump_rtc, raise_rtc, offer_rtc]
@[simp] theorem pushRefused_hlk (d : Dev) (q producer : Nat) (pool : Bool) : (d.pushRefused q producer pool).hlk = d.hlk := by simp only [pushRefused, bump_hlk, raise_hlk, offer_hlk]
@[simp] theorem pushRefused_rad (d : Dev) (q producer : Nat) (pool : Bool) : (d.pushRefused q producer pool).rad = d.rad := by simp only [pushRefused, bump_rad, raise_rad, offer_rad]
@[simp] theorem pushRefused_trk (d : Dev) (q producer : Nat) (pool : Bool) : (d.pushRefused q producer pool).trk = d.trk := by simp only [pushRefused, bump_trk, raise_trk, offer_trk]
@[simp] theorem pushRefused_pwr (d : Dev) (q producer : Nat) (pool : Bool) : (d.pushRefused q producer pool).pwr = d.pwr := by simp only [pushRefused, bump_pwr, raise_pwr, offer_pwr]
@[simp] theorem pushRefused_bst (d : Dev) (q producer : Nat) (pool : Bool) : (d.pushRefused q producer pool).bst = d.bst := by simp only [pushRefused, bump_bst, raise_bst, offer_bst]
@[simp] theorem pushRefused_fwu (d : Dev) (q producer : Nat) (pool : Bool) : (d.pushRefused q producer pool).fwu = d.fwu := by simp only [pushRefused, bump_fwu, raise_fwu, offer_fwu]
@[simp] theorem pushRefused_mtr (d : Dev) (q producer : Nat) (pool : Bool) : (d.pushRefused q producer pool).mtr = d.mtr := by simp only [pushRefused, bump_mtr, raise_mtr, offer_mtr]
@[simp] theorem pushRefused_pair (d : Dev) (q producer : Nat) (pool : Bool) : (d.pushRefused q producer pool).pair = d.pair := by simp only [pushRefused, bump_pair, raise_pair, offer_pair]
@[simp] theorem pushRefused_lgt (d : Dev) (q producer : Nat) (pool : Bool) : (d.pushRefused q producer pool).lgt = d.lgt := by simp only [pushRefused, bump_lgt, raise_lgt, offer_lgt]
@[simp] theorem pushRefused_lnd (d : Dev) (q producer : Nat) (pool : Bool) : (d.pushRefused q producer pool).lnd = d.lnd := by simp only [pushRefused, bump_lnd, raise_lnd, offer_lnd]

@[simp] theorem enqueue_regs (d : Dev) (q flow producer : Nat) (words eids : List Nat) : (d.enqueue q flow producer words eids).regs = d.regs := by unfold enqueue; rfl
@[simp] theorem enqueue_mem (d : Dev) (q flow producer : Nat) (words eids : List Nat) : (d.enqueue q flow producer words eids).mem = d.mem := by unfold enqueue; rfl
@[simp] theorem enqueue_latches (d : Dev) (q flow producer : Nat) (words eids : List Nat) : (d.enqueue q flow producer words eids).latches = d.latches := by unfold enqueue; rfl
@[simp] theorem enqueue_staged (d : Dev) (q flow producer : Nat) (words eids : List Nat) : (d.enqueue q flow producer words eids).staged = d.staged := by unfold enqueue; rfl
@[simp] theorem enqueue_freeCtr (d : Dev) (q flow producer : Nat) (words eids : List Nat) : (d.enqueue q flow producer words eids).freeCtr = d.freeCtr := by unfold enqueue; rfl
@[simp] theorem enqueue_sys (d : Dev) (q flow producer : Nat) (words eids : List Nat) : (d.enqueue q flow producer words eids).sys = d.sys := by unfold enqueue; rfl
@[simp] theorem enqueue_beat (d : Dev) (q flow producer : Nat) (words eids : List Nat) : (d.enqueue q flow producer words eids).beat = d.beat := by unfold enqueue; rfl
@[simp] theorem enqueue_evr (d : Dev) (q flow producer : Nat) (words eids : List Nat) : (d.enqueue q flow producer words eids).evr = d.evr := by unfold enqueue; rfl
@[simp] theorem enqueue_sil (d : Dev) (q flow producer : Nat) (words eids : List Nat) : (d.enqueue q flow producer words eids).sil = d.sil := by unfold enqueue; rfl
@[simp] theorem enqueue_key (d : Dev) (q flow producer : Nat) (words eids : List Nat) : (d.enqueue q flow producer words eids).key = d.key := by unfold enqueue; rfl
@[simp] theorem enqueue_cut (d : Dev) (q flow producer : Nat) (words eids : List Nat) : (d.enqueue q flow producer words eids).cut = d.cut := by unfold enqueue; rfl
@[simp] theorem enqueue_rft (d : Dev) (q flow producer : Nat) (words eids : List Nat) : (d.enqueue q flow producer words eids).rft = d.rft := by unfold enqueue; rfl
@[simp] theorem enqueue_lin (d : Dev) (q flow producer : Nat) (words eids : List Nat) : (d.enqueue q flow producer words eids).lin = d.lin := by unfold enqueue; rfl
@[simp] theorem enqueue_tim (d : Dev) (q flow producer : Nat) (words eids : List Nat) : (d.enqueue q flow producer words eids).tim = d.tim := by unfold enqueue; rfl
@[simp] theorem enqueue_rtc (d : Dev) (q flow producer : Nat) (words eids : List Nat) : (d.enqueue q flow producer words eids).rtc = d.rtc := by unfold enqueue; rfl
@[simp] theorem enqueue_hlk (d : Dev) (q flow producer : Nat) (words eids : List Nat) : (d.enqueue q flow producer words eids).hlk = d.hlk := by unfold enqueue; rfl
@[simp] theorem enqueue_rad (d : Dev) (q flow producer : Nat) (words eids : List Nat) : (d.enqueue q flow producer words eids).rad = d.rad := by unfold enqueue; rfl
@[simp] theorem enqueue_trk (d : Dev) (q flow producer : Nat) (words eids : List Nat) : (d.enqueue q flow producer words eids).trk = d.trk := by unfold enqueue; rfl
@[simp] theorem enqueue_pwr (d : Dev) (q flow producer : Nat) (words eids : List Nat) : (d.enqueue q flow producer words eids).pwr = d.pwr := by unfold enqueue; rfl
@[simp] theorem enqueue_bst (d : Dev) (q flow producer : Nat) (words eids : List Nat) : (d.enqueue q flow producer words eids).bst = d.bst := by unfold enqueue; rfl
@[simp] theorem enqueue_fwu (d : Dev) (q flow producer : Nat) (words eids : List Nat) : (d.enqueue q flow producer words eids).fwu = d.fwu := by unfold enqueue; rfl
@[simp] theorem enqueue_mtr (d : Dev) (q flow producer : Nat) (words eids : List Nat) : (d.enqueue q flow producer words eids).mtr = d.mtr := by unfold enqueue; rfl
@[simp] theorem enqueue_pair (d : Dev) (q flow producer : Nat) (words eids : List Nat) : (d.enqueue q flow producer words eids).pair = d.pair := by unfold enqueue; rfl
@[simp] theorem enqueue_lgt (d : Dev) (q flow producer : Nat) (words eids : List Nat) : (d.enqueue q flow producer words eids).lgt = d.lgt := by unfold enqueue; rfl
@[simp] theorem enqueue_lnd (d : Dev) (q flow producer : Nat) (words eids : List Nat) : (d.enqueue q flow producer words eids).lnd = d.lnd := by unfold enqueue; rfl

@[simp] theorem unqueue_regs (d : Dev) (i : JItem) : (d.unqueue i).regs = d.regs := by unfold unqueue; rfl
@[simp] theorem unqueue_mem (d : Dev) (i : JItem) : (d.unqueue i).mem = d.mem := by unfold unqueue; rfl
@[simp] theorem unqueue_latches (d : Dev) (i : JItem) : (d.unqueue i).latches = d.latches := by unfold unqueue; rfl
@[simp] theorem unqueue_staged (d : Dev) (i : JItem) : (d.unqueue i).staged = d.staged := by unfold unqueue; rfl
@[simp] theorem unqueue_freeCtr (d : Dev) (i : JItem) : (d.unqueue i).freeCtr = d.freeCtr := by unfold unqueue; rfl
@[simp] theorem unqueue_cyc (d : Dev) (i : JItem) : (d.unqueue i).cyc = d.cyc := by unfold unqueue; rfl
@[simp] theorem unqueue_sys (d : Dev) (i : JItem) : (d.unqueue i).sys = d.sys := by unfold unqueue; rfl
@[simp] theorem unqueue_beat (d : Dev) (i : JItem) : (d.unqueue i).beat = d.beat := by unfold unqueue; rfl
@[simp] theorem unqueue_evr (d : Dev) (i : JItem) : (d.unqueue i).evr = d.evr := by unfold unqueue; rfl
@[simp] theorem unqueue_sil (d : Dev) (i : JItem) : (d.unqueue i).sil = d.sil := by unfold unqueue; rfl
@[simp] theorem unqueue_key (d : Dev) (i : JItem) : (d.unqueue i).key = d.key := by unfold unqueue; rfl
@[simp] theorem unqueue_cut (d : Dev) (i : JItem) : (d.unqueue i).cut = d.cut := by unfold unqueue; rfl
@[simp] theorem unqueue_rft (d : Dev) (i : JItem) : (d.unqueue i).rft = d.rft := by unfold unqueue; rfl
@[simp] theorem unqueue_lin (d : Dev) (i : JItem) : (d.unqueue i).lin = d.lin := by unfold unqueue; rfl
@[simp] theorem unqueue_tim (d : Dev) (i : JItem) : (d.unqueue i).tim = d.tim := by unfold unqueue; rfl
@[simp] theorem unqueue_rtc (d : Dev) (i : JItem) : (d.unqueue i).rtc = d.rtc := by unfold unqueue; rfl
@[simp] theorem unqueue_hlk (d : Dev) (i : JItem) : (d.unqueue i).hlk = d.hlk := by unfold unqueue; rfl
@[simp] theorem unqueue_rad (d : Dev) (i : JItem) : (d.unqueue i).rad = d.rad := by unfold unqueue; rfl
@[simp] theorem unqueue_trk (d : Dev) (i : JItem) : (d.unqueue i).trk = d.trk := by unfold unqueue; rfl
@[simp] theorem unqueue_pwr (d : Dev) (i : JItem) : (d.unqueue i).pwr = d.pwr := by unfold unqueue; rfl
@[simp] theorem unqueue_bst (d : Dev) (i : JItem) : (d.unqueue i).bst = d.bst := by unfold unqueue; rfl
@[simp] theorem unqueue_fwu (d : Dev) (i : JItem) : (d.unqueue i).fwu = d.fwu := by unfold unqueue; rfl
@[simp] theorem unqueue_mtr (d : Dev) (i : JItem) : (d.unqueue i).mtr = d.mtr := by unfold unqueue; rfl
@[simp] theorem unqueue_pair (d : Dev) (i : JItem) : (d.unqueue i).pair = d.pair := by unfold unqueue; rfl
@[simp] theorem unqueue_lgt (d : Dev) (i : JItem) : (d.unqueue i).lgt = d.lgt := by unfold unqueue; rfl
@[simp] theorem unqueue_lnd (d : Dev) (i : JItem) : (d.unqueue i).lnd = d.lnd := by unfold unqueue; rfl

@[simp] theorem noteTake_regs (d : Dev) (cls q : Nat) : (d.noteTake cls q).regs = d.regs := by unfold noteTake; rfl
@[simp] theorem noteTake_mem (d : Dev) (cls q : Nat) : (d.noteTake cls q).mem = d.mem := by unfold noteTake; rfl
@[simp] theorem noteTake_latches (d : Dev) (cls q : Nat) : (d.noteTake cls q).latches = d.latches := by unfold noteTake; rfl
@[simp] theorem noteTake_staged (d : Dev) (cls q : Nat) : (d.noteTake cls q).staged = d.staged := by unfold noteTake; rfl
@[simp] theorem noteTake_freeCtr (d : Dev) (cls q : Nat) : (d.noteTake cls q).freeCtr = d.freeCtr := by unfold noteTake; rfl
@[simp] theorem noteTake_cyc (d : Dev) (cls q : Nat) : (d.noteTake cls q).cyc = d.cyc := by unfold noteTake; rfl
@[simp] theorem noteTake_sys (d : Dev) (cls q : Nat) : (d.noteTake cls q).sys = d.sys := by unfold noteTake; rfl
@[simp] theorem noteTake_beat (d : Dev) (cls q : Nat) : (d.noteTake cls q).beat = d.beat := by unfold noteTake; rfl
@[simp] theorem noteTake_evr (d : Dev) (cls q : Nat) : (d.noteTake cls q).evr = d.evr := by unfold noteTake; rfl
@[simp] theorem noteTake_sil (d : Dev) (cls q : Nat) : (d.noteTake cls q).sil = d.sil := by unfold noteTake; rfl
@[simp] theorem noteTake_key (d : Dev) (cls q : Nat) : (d.noteTake cls q).key = d.key := by unfold noteTake; rfl
@[simp] theorem noteTake_cut (d : Dev) (cls q : Nat) : (d.noteTake cls q).cut = d.cut := by unfold noteTake; rfl
@[simp] theorem noteTake_rft (d : Dev) (cls q : Nat) : (d.noteTake cls q).rft = d.rft := by unfold noteTake; rfl
@[simp] theorem noteTake_lin (d : Dev) (cls q : Nat) : (d.noteTake cls q).lin = d.lin := by unfold noteTake; rfl
@[simp] theorem noteTake_tim (d : Dev) (cls q : Nat) : (d.noteTake cls q).tim = d.tim := by unfold noteTake; rfl
@[simp] theorem noteTake_rtc (d : Dev) (cls q : Nat) : (d.noteTake cls q).rtc = d.rtc := by unfold noteTake; rfl
@[simp] theorem noteTake_hlk (d : Dev) (cls q : Nat) : (d.noteTake cls q).hlk = d.hlk := by unfold noteTake; rfl
@[simp] theorem noteTake_rad (d : Dev) (cls q : Nat) : (d.noteTake cls q).rad = d.rad := by unfold noteTake; rfl
@[simp] theorem noteTake_trk (d : Dev) (cls q : Nat) : (d.noteTake cls q).trk = d.trk := by unfold noteTake; rfl
@[simp] theorem noteTake_pwr (d : Dev) (cls q : Nat) : (d.noteTake cls q).pwr = d.pwr := by unfold noteTake; rfl
@[simp] theorem noteTake_bst (d : Dev) (cls q : Nat) : (d.noteTake cls q).bst = d.bst := by unfold noteTake; rfl
@[simp] theorem noteTake_fwu (d : Dev) (cls q : Nat) : (d.noteTake cls q).fwu = d.fwu := by unfold noteTake; rfl
@[simp] theorem noteTake_mtr (d : Dev) (cls q : Nat) : (d.noteTake cls q).mtr = d.mtr := by unfold noteTake; rfl
@[simp] theorem noteTake_pair (d : Dev) (cls q : Nat) : (d.noteTake cls q).pair = d.pair := by unfold noteTake; rfl
@[simp] theorem noteTake_lgt (d : Dev) (cls q : Nat) : (d.noteTake cls q).lgt = d.lgt := by unfold noteTake; rfl
@[simp] theorem noteTake_lnd (d : Dev) (cls q : Nat) : (d.noteTake cls q).lnd = d.lnd := by unfold noteTake; rfl

@[simp] theorem reloadCredit_regs (d : Dev) (cls : Nat) : (d.reloadCredit cls).regs = d.regs := by unfold reloadCredit; rfl
@[simp] theorem reloadCredit_mem (d : Dev) (cls : Nat) : (d.reloadCredit cls).mem = d.mem := by unfold reloadCredit; rfl
@[simp] theorem reloadCredit_latches (d : Dev) (cls : Nat) : (d.reloadCredit cls).latches = d.latches := by unfold reloadCredit; rfl
@[simp] theorem reloadCredit_staged (d : Dev) (cls : Nat) : (d.reloadCredit cls).staged = d.staged := by unfold reloadCredit; rfl
@[simp] theorem reloadCredit_freeCtr (d : Dev) (cls : Nat) : (d.reloadCredit cls).freeCtr = d.freeCtr := by unfold reloadCredit; rfl
@[simp] theorem reloadCredit_cyc (d : Dev) (cls : Nat) : (d.reloadCredit cls).cyc = d.cyc := by unfold reloadCredit; rfl
@[simp] theorem reloadCredit_sys (d : Dev) (cls : Nat) : (d.reloadCredit cls).sys = d.sys := by unfold reloadCredit; rfl
@[simp] theorem reloadCredit_beat (d : Dev) (cls : Nat) : (d.reloadCredit cls).beat = d.beat := by unfold reloadCredit; rfl
@[simp] theorem reloadCredit_evr (d : Dev) (cls : Nat) : (d.reloadCredit cls).evr = d.evr := by unfold reloadCredit; rfl
@[simp] theorem reloadCredit_sil (d : Dev) (cls : Nat) : (d.reloadCredit cls).sil = d.sil := by unfold reloadCredit; rfl
@[simp] theorem reloadCredit_key (d : Dev) (cls : Nat) : (d.reloadCredit cls).key = d.key := by unfold reloadCredit; rfl
@[simp] theorem reloadCredit_cut (d : Dev) (cls : Nat) : (d.reloadCredit cls).cut = d.cut := by unfold reloadCredit; rfl
@[simp] theorem reloadCredit_rft (d : Dev) (cls : Nat) : (d.reloadCredit cls).rft = d.rft := by unfold reloadCredit; rfl
@[simp] theorem reloadCredit_lin (d : Dev) (cls : Nat) : (d.reloadCredit cls).lin = d.lin := by unfold reloadCredit; rfl
@[simp] theorem reloadCredit_tim (d : Dev) (cls : Nat) : (d.reloadCredit cls).tim = d.tim := by unfold reloadCredit; rfl
@[simp] theorem reloadCredit_rtc (d : Dev) (cls : Nat) : (d.reloadCredit cls).rtc = d.rtc := by unfold reloadCredit; rfl
@[simp] theorem reloadCredit_hlk (d : Dev) (cls : Nat) : (d.reloadCredit cls).hlk = d.hlk := by unfold reloadCredit; rfl
@[simp] theorem reloadCredit_rad (d : Dev) (cls : Nat) : (d.reloadCredit cls).rad = d.rad := by unfold reloadCredit; rfl
@[simp] theorem reloadCredit_trk (d : Dev) (cls : Nat) : (d.reloadCredit cls).trk = d.trk := by unfold reloadCredit; rfl
@[simp] theorem reloadCredit_pwr (d : Dev) (cls : Nat) : (d.reloadCredit cls).pwr = d.pwr := by unfold reloadCredit; rfl
@[simp] theorem reloadCredit_bst (d : Dev) (cls : Nat) : (d.reloadCredit cls).bst = d.bst := by unfold reloadCredit; rfl
@[simp] theorem reloadCredit_fwu (d : Dev) (cls : Nat) : (d.reloadCredit cls).fwu = d.fwu := by unfold reloadCredit; rfl
@[simp] theorem reloadCredit_mtr (d : Dev) (cls : Nat) : (d.reloadCredit cls).mtr = d.mtr := by unfold reloadCredit; rfl
@[simp] theorem reloadCredit_pair (d : Dev) (cls : Nat) : (d.reloadCredit cls).pair = d.pair := by unfold reloadCredit; rfl
@[simp] theorem reloadCredit_lgt (d : Dev) (cls : Nat) : (d.reloadCredit cls).lgt = d.lgt := by unfold reloadCredit; rfl
@[simp] theorem reloadCredit_lnd (d : Dev) (cls : Nat) : (d.reloadCredit cls).lnd = d.lnd := by unfold reloadCredit; rfl

@[simp] theorem deliver_mem (d : Dev) (core buf : Nat) (i : JItem) : (d.deliver core buf i).mem = d.mem := by simp only [deliver, put_mem, unqueue_mem]
@[simp] theorem deliver_latches (d : Dev) (core buf : Nat) (i : JItem) : (d.deliver core buf i).latches = d.latches := by simp only [deliver, put_latches, unqueue_latches]
@[simp] theorem deliver_staged (d : Dev) (core buf : Nat) (i : JItem) : (d.deliver core buf i).staged = d.staged := by simp only [deliver, put_staged, unqueue_staged]
@[simp] theorem deliver_freeCtr (d : Dev) (core buf : Nat) (i : JItem) : (d.deliver core buf i).freeCtr = d.freeCtr := by simp only [deliver, put_freeCtr, unqueue_freeCtr]
@[simp] theorem deliver_cyc (d : Dev) (core buf : Nat) (i : JItem) : (d.deliver core buf i).cyc = d.cyc := by simp only [deliver, put_cyc, unqueue_cyc]
@[simp] theorem deliver_sys (d : Dev) (core buf : Nat) (i : JItem) : (d.deliver core buf i).sys = d.sys := by simp only [deliver, put_sys, unqueue_sys]
@[simp] theorem deliver_beat (d : Dev) (core buf : Nat) (i : JItem) : (d.deliver core buf i).beat = d.beat := by simp only [deliver, put_beat, unqueue_beat]
@[simp] theorem deliver_evr (d : Dev) (core buf : Nat) (i : JItem) : (d.deliver core buf i).evr = d.evr := by simp only [deliver, put_evr, unqueue_evr]
@[simp] theorem deliver_sil (d : Dev) (core buf : Nat) (i : JItem) : (d.deliver core buf i).sil = d.sil := by simp only [deliver, put_sil, unqueue_sil]
@[simp] theorem deliver_key (d : Dev) (core buf : Nat) (i : JItem) : (d.deliver core buf i).key = d.key := by simp only [deliver, put_key, unqueue_key]
@[simp] theorem deliver_cut (d : Dev) (core buf : Nat) (i : JItem) : (d.deliver core buf i).cut = d.cut := by simp only [deliver, put_cut, unqueue_cut]
@[simp] theorem deliver_rft (d : Dev) (core buf : Nat) (i : JItem) : (d.deliver core buf i).rft = d.rft := by simp only [deliver, put_rft, unqueue_rft]
@[simp] theorem deliver_lin (d : Dev) (core buf : Nat) (i : JItem) : (d.deliver core buf i).lin = d.lin := by simp only [deliver, put_lin, unqueue_lin]
@[simp] theorem deliver_tim (d : Dev) (core buf : Nat) (i : JItem) : (d.deliver core buf i).tim = d.tim := by simp only [deliver, put_tim, unqueue_tim]
@[simp] theorem deliver_rtc (d : Dev) (core buf : Nat) (i : JItem) : (d.deliver core buf i).rtc = d.rtc := by simp only [deliver, put_rtc, unqueue_rtc]
@[simp] theorem deliver_hlk (d : Dev) (core buf : Nat) (i : JItem) : (d.deliver core buf i).hlk = d.hlk := by simp only [deliver, put_hlk, unqueue_hlk]
@[simp] theorem deliver_rad (d : Dev) (core buf : Nat) (i : JItem) : (d.deliver core buf i).rad = d.rad := by simp only [deliver, put_rad, unqueue_rad]
@[simp] theorem deliver_trk (d : Dev) (core buf : Nat) (i : JItem) : (d.deliver core buf i).trk = d.trk := by simp only [deliver, put_trk, unqueue_trk]
@[simp] theorem deliver_pwr (d : Dev) (core buf : Nat) (i : JItem) : (d.deliver core buf i).pwr = d.pwr := by simp only [deliver, put_pwr, unqueue_pwr]
@[simp] theorem deliver_bst (d : Dev) (core buf : Nat) (i : JItem) : (d.deliver core buf i).bst = d.bst := by simp only [deliver, put_bst, unqueue_bst]
@[simp] theorem deliver_fwu (d : Dev) (core buf : Nat) (i : JItem) : (d.deliver core buf i).fwu = d.fwu := by simp only [deliver, put_fwu, unqueue_fwu]
@[simp] theorem deliver_mtr (d : Dev) (core buf : Nat) (i : JItem) : (d.deliver core buf i).mtr = d.mtr := by simp only [deliver, put_mtr, unqueue_mtr]
@[simp] theorem deliver_pair (d : Dev) (core buf : Nat) (i : JItem) : (d.deliver core buf i).pair = d.pair := by simp only [deliver, put_pair, unqueue_pair]
@[simp] theorem deliver_lgt (d : Dev) (core buf : Nat) (i : JItem) : (d.deliver core buf i).lgt = d.lgt := by simp only [deliver, put_lgt, unqueue_lgt]
@[simp] theorem deliver_lnd (d : Dev) (core buf : Nat) (i : JItem) : (d.deliver core buf i).lnd = d.lnd := by simp only [deliver, put_lnd, unqueue_lnd]

@[simp] theorem armRefused_mem (d : Dev) (bank st : Nat) : (d.armRefused bank st).mem = d.mem := by simp only [armRefused, put_mem]
@[simp] theorem armRefused_latches (d : Dev) (bank st : Nat) : (d.armRefused bank st).latches = d.latches := by simp only [armRefused, put_latches]
@[simp] theorem armRefused_staged (d : Dev) (bank st : Nat) : (d.armRefused bank st).staged = d.staged := by simp only [armRefused, put_staged]
@[simp] theorem armRefused_freeCtr (d : Dev) (bank st : Nat) : (d.armRefused bank st).freeCtr = d.freeCtr := by simp only [armRefused, put_freeCtr]
@[simp] theorem armRefused_cyc (d : Dev) (bank st : Nat) : (d.armRefused bank st).cyc = d.cyc := by simp only [armRefused, put_cyc]
@[simp] theorem armRefused_sys (d : Dev) (bank st : Nat) : (d.armRefused bank st).sys = d.sys := by simp only [armRefused, put_sys]
@[simp] theorem armRefused_beat (d : Dev) (bank st : Nat) : (d.armRefused bank st).beat = d.beat := by simp only [armRefused, put_beat]
@[simp] theorem armRefused_evr (d : Dev) (bank st : Nat) : (d.armRefused bank st).evr = d.evr := by simp only [armRefused, put_evr]
@[simp] theorem armRefused_sil (d : Dev) (bank st : Nat) : (d.armRefused bank st).sil = d.sil := by simp only [armRefused, put_sil]
@[simp] theorem armRefused_key (d : Dev) (bank st : Nat) : (d.armRefused bank st).key = d.key := by simp only [armRefused, put_key]
@[simp] theorem armRefused_cut (d : Dev) (bank st : Nat) : (d.armRefused bank st).cut = d.cut := by simp only [armRefused, put_cut]
@[simp] theorem armRefused_rft (d : Dev) (bank st : Nat) : (d.armRefused bank st).rft = d.rft := by simp only [armRefused, put_rft]
@[simp] theorem armRefused_lin (d : Dev) (bank st : Nat) : (d.armRefused bank st).lin = d.lin := by simp only [armRefused, put_lin]
@[simp] theorem armRefused_jst (d : Dev) (bank st : Nat) : (d.armRefused bank st).jst = d.jst := by simp only [armRefused, put_jst]
@[simp] theorem armRefused_tim (d : Dev) (bank st : Nat) : (d.armRefused bank st).tim = d.tim := by simp only [armRefused, put_tim]
@[simp] theorem armRefused_rtc (d : Dev) (bank st : Nat) : (d.armRefused bank st).rtc = d.rtc := by simp only [armRefused, put_rtc]
@[simp] theorem armRefused_hlk (d : Dev) (bank st : Nat) : (d.armRefused bank st).hlk = d.hlk := by simp only [armRefused, put_hlk]
@[simp] theorem armRefused_rad (d : Dev) (bank st : Nat) : (d.armRefused bank st).rad = d.rad := by simp only [armRefused, put_rad]
@[simp] theorem armRefused_trk (d : Dev) (bank st : Nat) : (d.armRefused bank st).trk = d.trk := by simp only [armRefused, put_trk]
@[simp] theorem armRefused_pwr (d : Dev) (bank st : Nat) : (d.armRefused bank st).pwr = d.pwr := by simp only [armRefused, put_pwr]
@[simp] theorem armRefused_bst (d : Dev) (bank st : Nat) : (d.armRefused bank st).bst = d.bst := by simp only [armRefused, put_bst]
@[simp] theorem armRefused_fwu (d : Dev) (bank st : Nat) : (d.armRefused bank st).fwu = d.fwu := by simp only [armRefused, put_fwu]
@[simp] theorem armRefused_mtr (d : Dev) (bank st : Nat) : (d.armRefused bank st).mtr = d.mtr := by simp only [armRefused, put_mtr]
@[simp] theorem armRefused_pair (d : Dev) (bank st : Nat) : (d.armRefused bank st).pair = d.pair := by simp only [armRefused, put_pair]
@[simp] theorem armRefused_lgt (d : Dev) (bank st : Nat) : (d.armRefused bank st).lgt = d.lgt := by simp only [armRefused, put_lgt]
@[simp] theorem armRefused_lnd (d : Dev) (bank st : Nat) : (d.armRefused bank st).lnd = d.lnd := by simp only [armRefused, put_lnd]

@[simp] theorem dropTimer_mem (d : Dev) (t : Timer) : (d.dropTimer t).mem = d.mem := by simp only [dropTimer, put_mem]
@[simp] theorem dropTimer_latches (d : Dev) (t : Timer) : (d.dropTimer t).latches = d.latches := by simp only [dropTimer, put_latches]
@[simp] theorem dropTimer_staged (d : Dev) (t : Timer) : (d.dropTimer t).staged = d.staged := by simp only [dropTimer, put_staged]
@[simp] theorem dropTimer_freeCtr (d : Dev) (t : Timer) : (d.dropTimer t).freeCtr = d.freeCtr := by simp only [dropTimer, put_freeCtr]
@[simp] theorem dropTimer_cyc (d : Dev) (t : Timer) : (d.dropTimer t).cyc = d.cyc := by simp only [dropTimer, put_cyc]
@[simp] theorem dropTimer_sys (d : Dev) (t : Timer) : (d.dropTimer t).sys = d.sys := by simp only [dropTimer, put_sys]
@[simp] theorem dropTimer_beat (d : Dev) (t : Timer) : (d.dropTimer t).beat = d.beat := by simp only [dropTimer, put_beat]
@[simp] theorem dropTimer_evr (d : Dev) (t : Timer) : (d.dropTimer t).evr = d.evr := by simp only [dropTimer, put_evr]
@[simp] theorem dropTimer_sil (d : Dev) (t : Timer) : (d.dropTimer t).sil = d.sil := by simp only [dropTimer, put_sil]
@[simp] theorem dropTimer_key (d : Dev) (t : Timer) : (d.dropTimer t).key = d.key := by simp only [dropTimer, put_key]
@[simp] theorem dropTimer_cut (d : Dev) (t : Timer) : (d.dropTimer t).cut = d.cut := by simp only [dropTimer, put_cut]
@[simp] theorem dropTimer_rft (d : Dev) (t : Timer) : (d.dropTimer t).rft = d.rft := by simp only [dropTimer, put_rft]
@[simp] theorem dropTimer_lin (d : Dev) (t : Timer) : (d.dropTimer t).lin = d.lin := by simp only [dropTimer, put_lin]
@[simp] theorem dropTimer_tim (d : Dev) (t : Timer) : (d.dropTimer t).tim = d.tim := by simp only [dropTimer, put_tim]
@[simp] theorem dropTimer_rtc (d : Dev) (t : Timer) : (d.dropTimer t).rtc = d.rtc := by simp only [dropTimer, put_rtc]
@[simp] theorem dropTimer_hlk (d : Dev) (t : Timer) : (d.dropTimer t).hlk = d.hlk := by simp only [dropTimer, put_hlk]
@[simp] theorem dropTimer_rad (d : Dev) (t : Timer) : (d.dropTimer t).rad = d.rad := by simp only [dropTimer, put_rad]
@[simp] theorem dropTimer_trk (d : Dev) (t : Timer) : (d.dropTimer t).trk = d.trk := by simp only [dropTimer, put_trk]
@[simp] theorem dropTimer_pwr (d : Dev) (t : Timer) : (d.dropTimer t).pwr = d.pwr := by simp only [dropTimer, put_pwr]
@[simp] theorem dropTimer_bst (d : Dev) (t : Timer) : (d.dropTimer t).bst = d.bst := by simp only [dropTimer, put_bst]
@[simp] theorem dropTimer_fwu (d : Dev) (t : Timer) : (d.dropTimer t).fwu = d.fwu := by simp only [dropTimer, put_fwu]
@[simp] theorem dropTimer_mtr (d : Dev) (t : Timer) : (d.dropTimer t).mtr = d.mtr := by simp only [dropTimer, put_mtr]
@[simp] theorem dropTimer_pair (d : Dev) (t : Timer) : (d.dropTimer t).pair = d.pair := by simp only [dropTimer, put_pair]
@[simp] theorem dropTimer_lgt (d : Dev) (t : Timer) : (d.dropTimer t).lgt = d.lgt := by simp only [dropTimer, put_lgt]
@[simp] theorem dropTimer_lnd (d : Dev) (t : Timer) : (d.dropTimer t).lnd = d.lnd := by simp only [dropTimer, put_lnd]

@[simp] theorem hlSignals_mem (d : Dev) : d.hlSignals.mem = d.mem := by simp only [hlSignals, put_mem, putB_mem]
@[simp] theorem hlSignals_latches (d : Dev) : d.hlSignals.latches = d.latches := by simp only [hlSignals, put_latches, putB_latches]
@[simp] theorem hlSignals_staged (d : Dev) : d.hlSignals.staged = d.staged := by simp only [hlSignals, put_staged, putB_staged]
@[simp] theorem hlSignals_freeCtr (d : Dev) : d.hlSignals.freeCtr = d.freeCtr := by simp only [hlSignals, put_freeCtr, putB_freeCtr]
@[simp] theorem hlSignals_cyc (d : Dev) : d.hlSignals.cyc = d.cyc := by simp only [hlSignals, put_cyc, putB_cyc]
@[simp] theorem hlSignals_sys (d : Dev) : d.hlSignals.sys = d.sys := by simp only [hlSignals, put_sys, putB_sys]
@[simp] theorem hlSignals_beat (d : Dev) : d.hlSignals.beat = d.beat := by simp only [hlSignals, put_beat, putB_beat]
@[simp] theorem hlSignals_evr (d : Dev) : d.hlSignals.evr = d.evr := by simp only [hlSignals, put_evr, putB_evr]
@[simp] theorem hlSignals_sil (d : Dev) : d.hlSignals.sil = d.sil := by simp only [hlSignals, put_sil, putB_sil]
@[simp] theorem hlSignals_key (d : Dev) : d.hlSignals.key = d.key := by simp only [hlSignals, put_key, putB_key]
@[simp] theorem hlSignals_cut (d : Dev) : d.hlSignals.cut = d.cut := by simp only [hlSignals, put_cut, putB_cut]
@[simp] theorem hlSignals_rft (d : Dev) : d.hlSignals.rft = d.rft := by simp only [hlSignals, put_rft, putB_rft]
@[simp] theorem hlSignals_lin (d : Dev) : d.hlSignals.lin = d.lin := by simp only [hlSignals, put_lin, putB_lin]
@[simp] theorem hlSignals_jst (d : Dev) : d.hlSignals.jst = d.jst := by simp only [hlSignals, put_jst, putB_jst]
@[simp] theorem hlSignals_tim (d : Dev) : d.hlSignals.tim = d.tim := by simp only [hlSignals, put_tim, putB_tim]
@[simp] theorem hlSignals_rtc (d : Dev) : d.hlSignals.rtc = d.rtc := by simp only [hlSignals, put_rtc, putB_rtc]
@[simp] theorem hlSignals_rad (d : Dev) : d.hlSignals.rad = d.rad := by simp only [hlSignals, put_rad, putB_rad]
@[simp] theorem hlSignals_trk (d : Dev) : d.hlSignals.trk = d.trk := by simp only [hlSignals, put_trk, putB_trk]
@[simp] theorem hlSignals_pwr (d : Dev) : d.hlSignals.pwr = d.pwr := by simp only [hlSignals, put_pwr, putB_pwr]
@[simp] theorem hlSignals_bst (d : Dev) : d.hlSignals.bst = d.bst := by simp only [hlSignals, put_bst, putB_bst]
@[simp] theorem hlSignals_fwu (d : Dev) : d.hlSignals.fwu = d.fwu := by simp only [hlSignals, put_fwu, putB_fwu]
@[simp] theorem hlSignals_mtr (d : Dev) : d.hlSignals.mtr = d.mtr := by simp only [hlSignals, put_mtr, putB_mtr]
@[simp] theorem hlSignals_pair (d : Dev) : d.hlSignals.pair = d.pair := by simp only [hlSignals, put_pair, putB_pair]
@[simp] theorem hlSignals_lgt (d : Dev) : d.hlSignals.lgt = d.lgt := by simp only [hlSignals, put_lgt, putB_lgt]
@[simp] theorem hlSignals_lnd (d : Dev) : d.hlSignals.lnd = d.lnd := by simp only [hlSignals, put_lnd, putB_lnd]

@[simp] theorem hlDrop_mem (d : Dev) (n cause : Nat) : (d.hlDrop n cause).mem = d.mem := by simp only [hlDrop, bump_mem, raise_mem, offer_mem]
@[simp] theorem hlDrop_latches (d : Dev) (n cause : Nat) : (d.hlDrop n cause).latches = d.latches := by simp only [hlDrop, bump_latches, raise_latches, offer_latches]
@[simp] theorem hlDrop_staged (d : Dev) (n cause : Nat) : (d.hlDrop n cause).staged = d.staged := by simp only [hlDrop, bump_staged, raise_staged, offer_staged]
@[simp] theorem hlDrop_freeCtr (d : Dev) (n cause : Nat) : (d.hlDrop n cause).freeCtr = d.freeCtr := by simp only [hlDrop, bump_freeCtr, raise_freeCtr, offer_freeCtr]
@[simp] theorem hlDrop_sys (d : Dev) (n cause : Nat) : (d.hlDrop n cause).sys = d.sys := by simp only [hlDrop, bump_sys, raise_sys, offer_sys]
@[simp] theorem hlDrop_beat (d : Dev) (n cause : Nat) : (d.hlDrop n cause).beat = d.beat := by simp only [hlDrop, bump_beat, raise_beat, offer_beat]
@[simp] theorem hlDrop_sil (d : Dev) (n cause : Nat) : (d.hlDrop n cause).sil = d.sil := by simp only [hlDrop, bump_sil, raise_sil, offer_sil]
@[simp] theorem hlDrop_key (d : Dev) (n cause : Nat) : (d.hlDrop n cause).key = d.key := by simp only [hlDrop, bump_key, raise_key, offer_key]
@[simp] theorem hlDrop_cut (d : Dev) (n cause : Nat) : (d.hlDrop n cause).cut = d.cut := by simp only [hlDrop, bump_cut, raise_cut, offer_cut]
@[simp] theorem hlDrop_rft (d : Dev) (n cause : Nat) : (d.hlDrop n cause).rft = d.rft := by simp only [hlDrop, bump_rft, raise_rft, offer_rft]
@[simp] theorem hlDrop_lin (d : Dev) (n cause : Nat) : (d.hlDrop n cause).lin = d.lin := by simp only [hlDrop, bump_lin, raise_lin, offer_lin]
@[simp] theorem hlDrop_jst (d : Dev) (n cause : Nat) : (d.hlDrop n cause).jst = d.jst := by simp only [hlDrop, bump_jst, raise_jst, offer_jst]
@[simp] theorem hlDrop_tim (d : Dev) (n cause : Nat) : (d.hlDrop n cause).tim = d.tim := by simp only [hlDrop, bump_tim, raise_tim, offer_tim]
@[simp] theorem hlDrop_rtc (d : Dev) (n cause : Nat) : (d.hlDrop n cause).rtc = d.rtc := by simp only [hlDrop, bump_rtc, raise_rtc, offer_rtc]
@[simp] theorem hlDrop_rad (d : Dev) (n cause : Nat) : (d.hlDrop n cause).rad = d.rad := by simp only [hlDrop, bump_rad, raise_rad, offer_rad]
@[simp] theorem hlDrop_trk (d : Dev) (n cause : Nat) : (d.hlDrop n cause).trk = d.trk := by simp only [hlDrop, bump_trk, raise_trk, offer_trk]
@[simp] theorem hlDrop_pwr (d : Dev) (n cause : Nat) : (d.hlDrop n cause).pwr = d.pwr := by simp only [hlDrop, bump_pwr, raise_pwr, offer_pwr]
@[simp] theorem hlDrop_bst (d : Dev) (n cause : Nat) : (d.hlDrop n cause).bst = d.bst := by simp only [hlDrop, bump_bst, raise_bst, offer_bst]
@[simp] theorem hlDrop_fwu (d : Dev) (n cause : Nat) : (d.hlDrop n cause).fwu = d.fwu := by simp only [hlDrop, bump_fwu, raise_fwu, offer_fwu]
@[simp] theorem hlDrop_mtr (d : Dev) (n cause : Nat) : (d.hlDrop n cause).mtr = d.mtr := by simp only [hlDrop, bump_mtr, raise_mtr, offer_mtr]
@[simp] theorem hlDrop_pair (d : Dev) (n cause : Nat) : (d.hlDrop n cause).pair = d.pair := by simp only [hlDrop, bump_pair, raise_pair, offer_pair]
@[simp] theorem hlDrop_lgt (d : Dev) (n cause : Nat) : (d.hlDrop n cause).lgt = d.lgt := by simp only [hlDrop, bump_lgt, raise_lgt, offer_lgt]
@[simp] theorem hlDrop_lnd (d : Dev) (n cause : Nat) : (d.hlDrop n cause).lnd = d.lnd := by simp only [hlDrop, bump_lnd, raise_lnd, offer_lnd]

@[simp] theorem offer_offers (d : Dev) (e : EvCode) (args : List Nat) :
    (d.offer e args).evr.offers = d.evr.offers ++ [⟨e, args⟩] := rfl
@[simp] theorem atTime_base (d : Dev) (t : Nat) : (d.atTime t).beat.base = d.beat.base := rfl
@[simp] theorem atTime_count (d : Dev) (t : Nat) : (d.atTime t).beat.count = d.beat.count := rfl
@[simp] theorem atTime_period (d : Dev) (t : Nat) : (d.atTime t).beat.period = d.beat.period := rfl
@[simp] theorem get_atTime (d : Dev) (t : Nat) (f : Fld) : (d.atTime t).get f = d.get f := rfl
@[simp] theorem get_offer (d : Dev) (e : EvCode) (args : List Nat) (f : Fld) : (d.offer e args).get f = d.get f := rfl

end Sys2Proof.Machine.Dev
end

