-- ==== Sys2Proof/Laws/Regs.lean ====
section
/-! SUPPORT. The register file: reading back a field, leaving the others, and the canonical form. -/

namespace Sys2Proof.Machine

/-! ### Bit fields -/

theorem bits_lt (w hi lo : Nat) : bits w hi lo < 2 ^ (hi + 1 - lo) := Nat.mod_lt _ (Nat.two_pow_pos _)

/-- The low part, the field and the high part of a word do not meet. -/
theorem putBits_lt {w v hi lo n : Nat} (hw : w < 2 ^ n) (h : lo ≤ hi) (hn : hi < n) : putBits w v hi lo < 2 ^ n := by
  unfold putBits
  have e1 : 2 ^ (hi + 1) = 2 ^ (hi + 1 - lo) * 2 ^ lo := by rw [← pow_add]; congr 1; omega
  have e2 : 2 ^ n = 2 ^ (n - (hi + 1)) * 2 ^ (hi + 1) := by rw [← pow_add]; congr 1; omega
  have h1 : w / 2 ^ (hi + 1) < 2 ^ (n - (hi + 1)) := Nat.div_lt_of_lt_mul (by rw [mul_comm, ← e2]; exact hw)
  have h2 := Nat.mod_lt v (Nat.two_pow_pos (hi + 1 - lo))
  have h3 := Nat.mod_lt w (Nat.two_pow_pos lo)
  have a : w / 2 ^ (hi + 1) * 2 ^ (hi + 1) + 2 ^ (hi + 1) ≤ 2 ^ n := by
    rw [e2, ← Nat.succ_mul]; exact Nat.mul_le_mul_right _ h1
  have b : v % 2 ^ (hi + 1 - lo) * 2 ^ lo + 2 ^ lo ≤ 2 ^ (hi + 1) := by
    rw [e1, ← Nat.succ_mul]; exact Nat.mul_le_mul_right _ h2
  omega

/-- A field reads back what was put into it. -/
theorem bits_putBits {w v hi lo : Nat} (h : lo ≤ hi) : bits (putBits w v hi lo) hi lo = v % 2 ^ (hi + 1 - lo) := by
  unfold bits putBits
  have e1 : 2 ^ (hi + 1) = 2 ^ (hi + 1 - lo) * 2 ^ lo := by rw [← pow_add]; congr 1; omega
  rw [e1, ← mul_assoc, ← Nat.add_mul, Nat.add_comm, Nat.add_mul_div_right _ _ (Nat.two_pow_pos lo),
    Nat.div_eq_of_lt (Nat.mod_lt w (Nat.two_pow_pos lo)), Nat.zero_add, Nat.add_comm, Nat.add_mul_mod_self_right, Nat.mod_mod]

/-- A field above or below the one written keeps its value. -/
theorem bits_putBits_of_disjoint {w v hi lo hi' lo' : Nat} (h : lo ≤ hi) (h' : lo' ≤ hi') (hd : hi < lo' ∨ hi' < lo) :
    bits (putBits w v hi lo) hi' lo' = bits w hi' lo' := by
  unfold bits putBits
  have e1 : 2 ^ (hi + 1) = 2 ^ (hi + 1 - lo) * 2 ^ lo := by rw [← pow_add]; congr 1; omega
  rcases hd with hd | hd
  · have e2 : 2 ^ lo' = 2 ^ (hi + 1) * 2 ^ (lo' - (hi + 1)) := by rw [← pow_add]; congr 1; omega
    congr 1
    rw [e2, ← Nat.div_div_eq_div_mul, ← Nat.div_div_eq_div_mul]
    congr 1
    have h2 := Nat.mod_lt v (Nat.two_pow_pos (hi + 1 - lo))
    have h3 := Nat.mod_lt w (Nat.two_pow_pos lo)
    have b : v % 2 ^ (hi + 1 - lo) * 2 ^ lo + 2 ^ lo ≤ 2 ^ (hi + 1) := by
      rw [e1, ← Nat.succ_mul]; exact Nat.mul_le_mul_right _ h2
    rw [Nat.add_assoc, Nat.add_comm, Nat.add_mul_div_right _ _ (Nat.two_pow_pos _), Nat.div_eq_of_lt (by omega), Nat.zero_add]
  · have e3 : 2 ^ lo = 2 ^ lo' * 2 ^ (lo - lo') := by rw [← pow_add]; congr 1; omega
    have e4 : 2 ^ (lo - lo') = 2 ^ (hi' + 1 - lo') * 2 ^ (lo - (hi' + 1)) := by rw [← pow_add]; congr 1; omega
    have key : ∀ a b : Nat, (a * 2 ^ lo + b) / 2 ^ lo' % 2 ^ (hi' + 1 - lo') = b / 2 ^ lo' % 2 ^ (hi' + 1 - lo') := by
      intro a b
      rw [e3, Nat.add_comm, show a * (2 ^ lo' * 2 ^ (lo - lo')) = 2 ^ lo' * (a * 2 ^ (lo - lo')) by ring,
        Nat.add_mul_div_left _ _ (Nat.two_pow_pos _), e4,
        show a * (2 ^ (hi' + 1 - lo') * 2 ^ (lo - (hi' + 1))) = 2 ^ (hi' + 1 - lo') * (a * 2 ^ (lo - (hi' + 1))) by ring,
        Nat.add_mul_mod_self_left]
    have e5 : w = w / 2 ^ lo * 2 ^ lo + w % 2 ^ lo := by rw [mul_comm]; exact (Nat.div_add_mod w _).symm
    rw [e1, ← mul_assoc, ← Nat.add_mul, key]
    conv_rhs => rw [e5, key]

/-! ### The file -/

theorem RegFile.get_insert (f : RegFile) (k : Nat) (v : W32) (key : Nat) (h : k ∉ f.map (·.1)) :
    (RegFile.insert k v f).get key = if k = key then v else f.get key := by
  induction f with
  | nil => simp [RegFile.insert, RegFile.get]
  | cons e r ih =>
    obtain ⟨a, w⟩ := e
    simp only [List.map_cons, List.mem_cons, not_or] at h
    unfold RegFile.insert
    split
    · simp [RegFile.get]
    · simp only [RegFile.get, ih h.2]
      by_cases h1 : a = key
      · rw [if_pos h1, if_pos h1, if_neg (fun h2 => h.1 (h2.trans h1.symm))]
      · rw [if_neg h1, if_neg h1]

theorem RegFile.get_erase (f : RegFile) (k key : Nat) : (f.erase k).get key = if k = key then 0 else f.get key := by
  induction f with
  | nil => simp [RegFile.erase, RegFile.get]
  | cons e r ih =>
    obtain ⟨a, w⟩ := e
    simp only [RegFile.erase] at ih
    by_cases h : a = k
    · subst h; simp only [RegFile.erase, List.filter_cons, bne_self_eq_false, Bool.false_eq_true, if_false, ih, RegFile.get]
      split <;> rfl
    · simp only [RegFile.erase, List.filter_cons, bne_iff_ne, ne_eq, h, not_false_eq_true, if_true, RegFile.get, ih]
      by_cases h1 : a = key
      · rw [if_pos h1, if_pos h1, if_neg (fun h2 => h (h1.trans h2.symm))]
      · rw [if_neg h1, if_neg h1]

theorem RegFile.not_mem_erase (f : RegFile) (k : Nat) : k ∉ (f.erase k).map (·.1) := by
  simp only [RegFile.erase, List.mem_map, List.mem_filter, not_exists, not_and]
  rintro e ⟨_, he⟩ rfl
  simp at he

theorem RegFile.get_set (f : RegFile) (k : Nat) (v : W32) (key : Nat) : (f.set k v).get key = if k = key then v else f.get key := by
  unfold RegFile.set
  split
  · rename_i h; rw [RegFile.get_erase, h]
  · rw [RegFile.get_insert _ _ _ _ (f.not_mem_erase k), RegFile.get_erase]; split
    all_goals simp_all

theorem rising_cons (a : Nat) (l : List Nat) : rising (a :: l) = true ↔ (∀ b ∈ l, a < b) ∧ rising l = true := by
  induction l generalizing a with
  | nil => simp [rising]
  | cons b r ih =>
    simp only [rising, Bool.and_eq_true, decide_eq_true_eq, ih b, List.mem_cons, forall_eq_or_imp]
    exact ⟨fun ⟨h, h1, h2⟩ => ⟨⟨h, fun c hc => h.trans (h1 c hc)⟩, h1, h2⟩, fun ⟨⟨h, _⟩, h1, h2⟩ => ⟨h, h1, h2⟩⟩

theorem rising_filter (p : Nat → Bool) (l : List Nat) (h : rising l = true) : rising (l.filter p) = true := by
  induction l with
  | nil => rfl
  | cons a r ih =>
    rw [rising_cons] at h
    rw [List.filter_cons]
    split
    · exact (rising_cons _ _).2 ⟨fun b hb => h.1 b (List.mem_filter.1 hb).1, ih h.2⟩
    · exact ih h.2

theorem RegFile.erase_wf (f : RegFile) (k : Nat) (h : f.wf = true) : (f.erase k).wf = true := by
  simp only [RegFile.wf, RegFile.erase, Bool.and_eq_true] at *
  refine ⟨?_, List.all_eq_true.2 fun e he => List.all_eq_true.1 h.2 e (List.mem_filter.1 he).1⟩
  have e : (f.filter (fun e => e.1 != k)).map (·.1) = (f.map (·.1)).filter (· != k) := by
    rw [List.filter_map]; rfl
  rw [e]; exact rising_filter _ _ h.1

theorem RegFile.insert_keys (f : RegFile) (k : Nat) (v : W32) : ∀ b ∈ (RegFile.insert k v f).map (·.1), b = k ∨ b ∈ f.map (·.1) := by
  induction f with
  | nil => simp [RegFile.insert]
  | cons e r ih =>
    obtain ⟨a, w⟩ := e
    unfold RegFile.insert
    split
    · simp
    · intro b hb
      simp only [List.map_cons, List.mem_cons] at hb ⊢
      rcases hb with h | h
      · exact .inr (.inl h)
      · rcases ih b h with h | h
        · exact .inl h
        · exact .inr (.inr h)

theorem RegFile.insert_wf (f : RegFile) (k : Nat) (v : W32) (hv : v ≠ 0) (hk : k ∉ f.map (·.1)) (h : f.wf = true) :
    (RegFile.insert k v f).wf = true := by
  induction f with
  | nil => simpa [RegFile.insert, RegFile.wf, rising] using hv
  | cons e r ih =>
    obtain ⟨a, w⟩ := e
    simp only [RegFile.wf, Bool.and_eq_true, List.map_cons, rising_cons, List.all_cons] at h
    simp only [List.map_cons, List.mem_cons, not_or] at hk
    unfold RegFile.insert
    split
    · rename_i hlt
      simp only [RegFile.wf, Bool.and_eq_true, List.map_cons, rising_cons, List.all_cons, List.mem_cons, forall_eq_or_imp]
      exact ⟨⟨⟨hlt, fun b hb => hlt.trans (h.1.1 b hb)⟩, h.1.1, h.1.2⟩, by simpa using hv, h.2.1, h.2.2⟩
    · have hr := ih hk.2 (by simp only [RegFile.wf, Bool.and_eq_true]; exact ⟨h.1.2, h.2.2⟩)
      simp only [RegFile.wf, Bool.and_eq_true, List.map_cons, rising_cons, List.all_cons] at hr ⊢
      refine ⟨⟨fun b hb => ?_, hr.1⟩, h.2.1, hr.2⟩
      rcases RegFile.insert_keys r k v b hb with h1 | h1
      · omega
      · exact h.1.1 b h1

/-- Setting a register keeps the canonical form. -/
theorem RegFile.set_wf (f : RegFile) (k : Nat) (v : W32) (h : f.wf = true) : (f.set k v).wf = true := by
  unfold RegFile.set
  split
  · exact f.erase_wf k h
  · rename_i hv
    exact RegFile.insert_wf _ _ _ hv (f.not_mem_erase k) (f.erase_wf k h)

namespace Dev

/-- A field reads back what was put into it (R30). -/
theorem get_put (d : Dev) (f : Fld) (v : Nat) (h : f.lo ≤ f.hi) (h' : f.hi < 32) : (d.put f v).get f = v % 2 ^ (f.hi + 1 - f.lo) := by
  simp only [put, get, RegFile.get_set, if_true, BitVec.toNat_ofNat]
  rw [Nat.mod_eq_of_lt (putBits_lt (d.regs.get f.key).isLt h h'), bits_putBits h]

/-- A field of another register, or other bits of the same one, keep their value. -/
theorem get_put_of_ne (d : Dev) (f g : Fld) (v : Nat) (hg : g.lo ≤ g.hi) (hf : f.lo ≤ f.hi) (h' : f.hi < 32)
    (h : f.key ≠ g.key ∨ f.hi < g.lo ∨ g.hi < f.lo) : (d.put f v).get g = d.get g := by
  simp only [put, get, RegFile.get_set]
  split
  · rename_i e
    rw [BitVec.toNat_ofNat, Nat.mod_eq_of_lt (putBits_lt (d.regs.get f.key).isLt hf h'), ← e]
    exact bits_putBits_of_disjoint hf hg (by rcases h with h | h; · exact absurd e h
                                             · exact h)
  · rfl

/-- A register of another key keeps its word. -/
theorem put_regs_get (d : Dev) (f : Fld) (v k : Nat) (h : f.key ≠ k) : (d.put f v).regs.get k = d.regs.get k := by
  simp only [put, RegFile.get_set, if_neg h]

theorem get_putB (d : Dev) (f : Fld) (b : Bool) (h : f.lo ≤ f.hi) (h' : f.hi < 32) : (d.putB f b).get f = b2n b := by
  rw [putB, get_put d f _ h h']
  refine Nat.mod_eq_of_lt ?_
  have : 2 ^ 1 ≤ 2 ^ (f.hi + 1 - f.lo) := Nat.pow_le_pow_right (by omega) (by omega)
  cases b <;> simp [b2n] <;> omega

/-- A W1C or W1S field of one bit that is set reads 1 (R35). -/
theorem get_raise (d : Dev) (f : Fld) (h : f.lo = f.hi) (h' : f.hi < 32) : (d.raise f).get f = 1 := by
  have e : (d.raise f).get f = (d.put f (d.get f ||| 1)).get f := rfl
  rw [e, get_put d f _ h.le h', h, show f.hi + 1 - f.hi = 1 by omega, show (2 : Nat) ^ 1 = 2 by rfl, Nat.or_mod_two_eq_one]
  exact .inr rfl

/-- Setting bits of one field leaves the others. -/
theorem get_raise_of_ne (d : Dev) (f g : Fld) (hg : g.lo ≤ g.hi) (hf : f.lo ≤ f.hi) (h' : f.hi < 32)
    (h : f.key ≠ g.key ∨ f.hi < g.lo ∨ g.hi < f.lo) : (d.raise f).get g = d.get g := d.get_put_of_ne f g _ hg hf h' h

theorem raise_wf (d : Dev) (f : Fld) (h : d.regs.wf = true) : (d.raise f).regs.wf = true := RegFile.set_wf _ _ _ h

theorem put_wf (d : Dev) (f : Fld) (v : Nat) (h : d.regs.wf = true) : (d.put f v).regs.wf = true := RegFile.set_wf _ _ _ h

end Dev

end Sys2Proof.Machine
end

