-- ==== Sys2Proof/Laws/Memory.lean ====
section
/-! SUPPORT. Memory: a byte read back after a write, the bytes a write leaves alone, and the canonical form. -/

namespace Sys2Proof.Machine

theorem Memory.read_insert (m : Memory) (k : Nat) (v : Byte) (a : Nat) (h : k ∉ m.map (·.1)) :
    (Memory.insert k v m).read a = if k = a then v else m.read a := by
  induction m with
  | nil => rfl
  | cons e r ih =>
    obtain ⟨b, w⟩ := e
    rw [List.map_cons, List.mem_cons, not_or] at h
    rw [Memory.insert]
    by_cases hb : k < b
    · rw [if_pos hb, Memory.read]
    · rw [if_neg hb, Memory.read, Memory.read, ih h.2]
      by_cases h1 : b = a
      · rw [if_pos h1, if_pos h1, if_neg (fun h2 => h.1 (h2.trans h1.symm))]
      · rw [if_neg h1, if_neg h1]

/-- The memory without the byte at `k`. -/
def Memory.without (m : Memory) (k : Nat) : Memory := m.filter (fun x => x.1 != k)

theorem Memory.read_without (m : Memory) (k a : Nat) : (m.without k).read a = if k = a then 0 else m.read a := by
  induction m with
  | nil => simp [Memory.without, Memory.read]
  | cons e r ih =>
    obtain ⟨b, w⟩ := e
    rw [Memory.without] at ih ⊢
    by_cases h : b = k
    · subst h
      rw [List.filter_cons_of_neg (by simp), ih, Memory.read]
      by_cases h1 : b = a
      · rw [if_pos h1, if_pos h1]
      · rw [if_neg h1, if_neg h1, if_neg h1]
    · rw [List.filter_cons_of_pos (by simpa using h), Memory.read, Memory.read, ih]
      by_cases h1 : b = a
      · rw [if_pos h1, if_pos h1, if_neg (fun h2 => h (h1.trans h2.symm))]
      · rw [if_neg h1, if_neg h1]

theorem Memory.not_mem_without (m : Memory) (k : Nat) : k ∉ (m.without k).map (·.1) := by
  intro h
  obtain ⟨e, he, rfl⟩ := List.mem_map.1 h
  simpa using (List.mem_filter.1 he).2

/-- A byte reads back what was written; every other byte is as before. -/
theorem Memory.read_write (m : Memory) (k : Nat) (v : Byte) (a : Nat) : (m.write k v).read a = if k = a then v else m.read a := by
  rw [Memory.write]
  by_cases hv : v = 0
  · rw [if_pos hv, hv]; exact m.read_without k a
  · rw [if_neg hv]
    refine (Memory.read_insert _ _ _ _ (m.not_mem_without k)).trans ?_
    by_cases h : k = a
    · rw [if_pos h, if_pos h]
    · rw [if_neg h, if_neg h]; exact (m.read_without k a).trans (if_neg h)

/-- Bytes outside a written stretch are as before. -/
theorem Memory.read_writeN_of_outside (b : Bytes) (m : Memory) (k a : Nat) (h : a < k ∨ k + b.length ≤ a) :
    (m.writeN k b).read a = m.read a := by
  induction b generalizing m k with
  | nil => rfl
  | cons x r ih =>
    rw [Memory.writeN, ih _ _ (by rw [List.length_cons] at h; omega), Memory.read_write, if_neg]
    rw [List.length_cons] at h; omega

/-- A byte of a written stretch reads back what was written. -/
theorem Memory.read_writeN (b : Bytes) (m : Memory) (k i : Nat) (h : i < b.length) : (m.writeN k b).read (k + i) = b.getD i 0 := by
  induction b generalizing m k i with
  | nil => simp at h
  | cons x r ih =>
    rw [Memory.writeN]
    cases i with
    | zero => rw [Memory.read_writeN_of_outside _ _ _ _ (by omega), Memory.read_write]; simp
    | succ j =>
      rw [show k + (j + 1) = k + 1 + j by omega, ih _ _ _ (by simpa using h)]; rfl

theorem Memory.wf_iff (m : Memory) : m.wf = true ↔ rising (m.map (·.1)) = true ∧ ∀ e ∈ m, e.2 ≠ 0 := by
  simp [Memory.wf, List.all_eq_true]

theorem Memory.without_wf (m : Memory) (k : Nat) (h : m.wf = true) : (m.without k).wf = true := by
  rw [Memory.wf_iff] at *
  refine ⟨?_, fun e he => h.2 e (List.mem_filter.1 he).1⟩
  have e : (m.without k).map (·.1) = (m.map (·.1)).filter (· != k) := by rw [Memory.without, List.filter_map]; rfl
  rw [e]; exact rising_filter _ _ h.1

theorem Memory.insert_addresses (m : Memory) (k : Nat) (v : Byte) (e : Nat × Byte) (h : e ∈ Memory.insert k v m) :
    e = (k, v) ∨ e ∈ m := by
  induction m with
  | nil => simpa [Memory.insert] using h
  | cons x r ih =>
    obtain ⟨a, w⟩ := x
    rw [Memory.insert] at h
    split at h
    · rcases List.mem_cons.1 h with h | h
      · exact .inl h
      · exact .inr h
    · rcases List.mem_cons.1 h with h | h
      · exact .inr (h ▸ List.mem_cons_self)
      · exact (ih h).imp_right (List.mem_cons_of_mem _)

theorem Memory.insert_rising (m : Memory) (k : Nat) (v : Byte) (hk : k ∉ m.map (·.1)) (h : rising (m.map (·.1)) = true) :
    rising ((Memory.insert k v m).map (·.1)) = true := by
  induction m with
  | nil => rfl
  | cons x r ih =>
    obtain ⟨a, w⟩ := x
    rw [List.map_cons, rising_cons] at h
    rw [List.map_cons, List.mem_cons, not_or] at hk
    rw [Memory.insert]
    split
    · rename_i hlt
      rw [List.map_cons, rising_cons, List.map_cons, rising_cons]
      refine ⟨fun b hb => ?_, h⟩
      rcases List.mem_cons.1 hb with rfl | hb
      · exact hlt
      · exact hlt.trans (h.1 b hb)
    · rw [List.map_cons, rising_cons]
      refine ⟨fun b hb => ?_, ih hk.2 h.2⟩
      obtain ⟨e, he, rfl⟩ := List.mem_map.1 hb
      rcases Memory.insert_addresses _ _ _ _ he with rfl | he
      · have : k ≠ a := hk.1
        show a < k
        omega
      · exact h.1 _ (List.mem_map.2 ⟨e, he, rfl⟩)

/-- A write keeps the canonical form. -/
theorem Memory.write_wf (m : Memory) (k : Nat) (v : Byte) (h : m.wf = true) : (m.write k v).wf = true := by
  rw [Memory.write]
  split
  · exact m.without_wf k h
  · rename_i hv
    have hw := (Memory.wf_iff _).1 (m.without_wf k h)
    refine (Memory.wf_iff _).2 ⟨Memory.insert_rising _ _ _ (m.not_mem_without k) hw.1, fun e he => ?_⟩
    rcases Memory.insert_addresses _ _ _ _ he with rfl | he
    · exact hv
    · exact hw.2 e he

/-- A write of a stretch keeps the canonical form. -/
theorem Memory.writeN_wf (b : Bytes) (m : Memory) (k : Nat) (h : m.wf = true) : (m.writeN k b).wf = true := by
  induction b generalizing m k with
  | nil => exact h
  | cons x r ih => exact ih _ _ (m.write_wf k x h)

end Sys2Proof.Machine
end

