-- ==== Sys2Proof/Laws/Ops.lean ====
section
/-! SUPPORT. What recording events does (R375-R379): only the event recorder and its own status words change. -/

namespace Sys2Proof.Machine

/-- Only the recorder, its status words and the notes of the cycle changed, and no offer was added or taken. -/
structure EventOnly (d d' : Dev) : Prop where
  rest : d' = { d with regs := d'.regs, evr := d'.evr, cyc := d'.cyc }
  regs : ∀ k, k ∉ eventKeys → d'.regs.get k = d.regs.get k
  wf : d.regs.wf = true → d'.regs.wf = true
  offers : d'.evr.offers = d.evr.offers

namespace EventOnly

theorem refl (d : Dev) : EventOnly d d := ⟨rfl, fun _ _ => rfl, id, rfl⟩

theorem trans {a b c : Dev} (h : EventOnly a b) (h' : EventOnly b c) : EventOnly a c :=
  ⟨by rw [h'.rest, h.rest], fun k hk => (h'.regs k hk).trans (h.regs k hk), fun w => h'.wf (h.wf w), h'.offers.trans h.offers⟩

theorem put {f : Fld} (hf : f.key ∈ eventKeys) (d : Dev) (v : Nat) : EventOnly d (d.put f v) :=
  ⟨by unfold Dev.put; rfl, fun k hk => d.put_regs_get f v k (fun h => hk (h ▸ hf)), d.put_wf f v, by rw [Dev.put_evr]⟩

/-- Any change of the notes of the cycle. -/
theorem cyc (d : Dev) (x : CycleSt) : EventOnly d { d with cyc := x } := ⟨rfl, fun _ _ => rfl, id, rfl⟩

theorem raise {f : Fld} (hf : f.key ∈ eventKeys) (d : Dev) : EventOnly d (d.raise f) := (put hf d _).trans (cyc _ _)

theorem raise_after {d d' : Dev} {f : Fld} (hf : f.key ∈ eventKeys) (h : EventOnly d d') : EventOnly d (d'.raise f) :=
  h.trans (raise hf d')

theorem bump {f : Fld} (hf : f.key ∈ eventKeys) (d : Dev) (k : Nat) : EventOnly d (d.bump f k) := put hf d _

/-- A change of the recorder's own state that leaves the offers. -/
theorem evr (d : Dev) (x : EvrSt) (h : x.offers = d.evr.offers) : EventOnly d { d with evr := x } := ⟨rfl, fun _ _ => rfl, id, h⟩

theorem put_after {d d' : Dev} {f : Fld} (hf : f.key ∈ eventKeys) (v : Nat) (h : EventOnly d d') : EventOnly d (d'.put f v) :=
  h.trans (put hf d' v)

theorem bump_after {d d' : Dev} {f : Fld} (hf : f.key ∈ eventKeys) (k : Nat) (h : EventOnly d d') : EventOnly d (d'.bump f k) :=
  h.trans (bump hf d' k)

theorem evr_after {d d' : Dev} (x : EvrSt) (hx : x.offers = d'.evr.offers) (h : EventOnly d d') :
    EventOnly d { d' with evr := x } := h.trans (evr d' x hx)

theorem startFlush (d : Dev) : EventOnly d d.startFlush := by
  rw [Dev.startFlush]
  by_cases h : d.evr.flushLeft > 0
  · rw [if_pos h]; exact evr d _ rfl
  · rw [if_neg h]
    extract_lets x0 d1
    have h1 : EventOnly d d1 := evr d _ rfl
    split
    · exact raise_after (by decide) h1
    · exact h1

theorem acceptEvent (d : Dev) (e : EvCode) (args : List Nat) : EventOnly d (d.acceptEvent e args) := by
  rw [Dev.acceptEvent]
  by_cases h : d.evr.buf.length ≥ 4096
  · rw [if_pos h]
    exact raise_after (by decide) (bump_after (by decide) _ (evr d _ rfl))
  · rw [if_neg h]
    extract_lets r x0 x1 d1 d2
    have h1 : EventOnly d d1 := ⟨rfl, fun _ _ => rfl, id, rfl⟩
    have h2 : EventOnly d d2 := by
      simp only [d2]
      by_cases h5 : e.sev ≥ 5
      · rw [if_pos h5]; exact raise_after (by decide) h1
      · rw [if_neg h5]; exact h1
    generalize d2 = x at *
    split
    · exact h2.trans (startFlush _)
    · exact h2

theorem suppressEvent (d : Dev) (code : Nat) : EventOnly d (d.suppressEvent code) := by
  rw [Dev.suppressEvent]
  exact bump_after (by decide) _ (evr d _ rfl)

theorem offerNow (d : Dev) (e : EvCode) (args : List Nat) : EventOnly d (d.offerNow e args) := by
  rw [Dev.offerNow]
  split
  · exact evr d _ rfl
  · split
    · exact acceptEvent d e args
    · split
      · exact acceptEvent d e args
      · split
        · refine EventOnly.trans (evr d _ ?_) (acceptEvent _ e args)
          rfl
        · exact suppressEvent d _

theorem offerAll (l : List EvOffer) (d : Dev) : EventOnly d (l.foldl (fun d o => d.offerNow o.ev o.args) d) := by
  induction l generalizing d with
  | nil => exact refl d
  | cons o r ih => exact (offerNow d o.ev o.args).trans (ih _)

end EventOnly

namespace Dev

/-- Settling the offers changes the recorder and its status words only, and leaves no offer. -/
theorem settleOffers_only (d : Dev) :
    EventOnly { d with evr := { d.evr with offers := [] } } d.settleOffers := EventOnly.offerAll _ _

/-- Every record offered in a command is settled by its end (R375). -/
theorem settleOffers_offers (d : Dev) : d.settleOffers.evr.offers = [] := (settleOffers_only d).offers

theorem settleOffers_wf (d : Dev) (h : d.regs.wf = true) : d.settleOffers.regs.wf = true := (settleOffers_only d).wf h

theorem settleOffers_regs (d : Dev) (k : Nat) (h : k ∉ eventKeys) : d.settleOffers.regs.get k = d.regs.get k :=
  (settleOffers_only d).regs k h

theorem settleOffers_get (d : Dev) (f : Fld) (h : f.key ∉ eventKeys) : d.settleOffers.get f = d.get f := by
  rw [get, get, settleOffers_regs d _ h]

@[simp] theorem settleOffers_mem (d : Dev) : d.settleOffers.mem = d.mem := by rw [(settleOffers_only d).rest]
@[simp] theorem settleOffers_latches (d : Dev) : d.settleOffers.latches = d.latches := by rw [(settleOffers_only d).rest]
@[simp] theorem settleOffers_staged (d : Dev) : d.settleOffers.staged = d.staged := by rw [(settleOffers_only d).rest]
@[simp] theorem settleOffers_freeCtr (d : Dev) : d.settleOffers.freeCtr = d.freeCtr := by rw [(settleOffers_only d).rest]
@[simp] theorem settleOffers_sys (d : Dev) : d.settleOffers.sys = d.sys := by rw [(settleOffers_only d).rest]
@[simp] theorem settleOffers_beat (d : Dev) : d.settleOffers.beat = d.beat := by rw [(settleOffers_only d).rest]
@[simp] theorem settleOffers_sil (d : Dev) : d.settleOffers.sil = d.sil := by rw [(settleOffers_only d).rest]
@[simp] theorem settleOffers_key (d : Dev) : d.settleOffers.key = d.key := by rw [(settleOffers_only d).rest]
@[simp] theorem settleOffers_cut (d : Dev) : d.settleOffers.cut = d.cut := by rw [(settleOffers_only d).rest]
@[simp] theorem settleOffers_rft (d : Dev) : d.settleOffers.rft = d.rft := by rw [(settleOffers_only d).rest]
@[simp] theorem settleOffers_lin (d : Dev) : d.settleOffers.lin = d.lin := by rw [(settleOffers_only d).rest]
@[simp] theorem settleOffers_jst (d : Dev) : d.settleOffers.jst = d.jst := by rw [(settleOffers_only d).rest]
@[simp] theorem settleOffers_tim (d : Dev) : d.settleOffers.tim = d.tim := by rw [(settleOffers_only d).rest]
@[simp] theorem settleOffers_rtc (d : Dev) : d.settleOffers.rtc = d.rtc := by rw [(settleOffers_only d).rest]
@[simp] theorem settleOffers_hlk (d : Dev) : d.settleOffers.hlk = d.hlk := by rw [(settleOffers_only d).rest]
@[simp] theorem settleOffers_rad (d : Dev) : d.settleOffers.rad = d.rad := by rw [(settleOffers_only d).rest]
@[simp] theorem settleOffers_trk (d : Dev) : d.settleOffers.trk = d.trk := by rw [(settleOffers_only d).rest]
@[simp] theorem settleOffers_pwr (d : Dev) : d.settleOffers.pwr = d.pwr := by rw [(settleOffers_only d).rest]
@[simp] theorem settleOffers_bst (d : Dev) : d.settleOffers.bst = d.bst := by rw [(settleOffers_only d).rest]
@[simp] theorem settleOffers_fwu (d : Dev) : d.settleOffers.fwu = d.fwu := by rw [(settleOffers_only d).rest]
@[simp] theorem settleOffers_mtr (d : Dev) : d.settleOffers.mtr = d.mtr := by rw [(settleOffers_only d).rest]
@[simp] theorem settleOffers_pair (d : Dev) : d.settleOffers.pair = d.pair := by rw [(settleOffers_only d).rest]
@[simp] theorem settleOffers_lgt (d : Dev) : d.settleOffers.lgt = d.lgt := by rw [(settleOffers_only d).rest]
@[simp] theorem settleOffers_lnd (d : Dev) : d.settleOffers.lnd = d.lnd := by rw [(settleOffers_only d).rest]

end Dev

/-! ### What a step lifts -/

theorem completes_of_run {c : Instr} {s : State} {P : Dev → Prop} {f : Dev → Dev} (h : exec c s = s.run f)
    (hp : P (f s.dev).settleOffers) : Completes c s P := ⟨_, h, rfl, hp⟩

theorem completes_of_runAt {c : Instr} {s : State} {P : Dev → Prop} {t : Nat} {f : Dev → Dev} (h : exec c s = s.runAt t f)
    (hp : P (f (s.dev.atTime t)).settleOffers) : Completes c s P := ⟨_, h, rfl, hp⟩

end Sys2Proof.Machine
end

