-- ==== Sys2Proof/Machine/Windows.lean ====
section
/-! DEFINITION. What a load sees of the memories of R26: the node table (R104-R109), the edge store (R111), SRAM, LPDDR and the
flush plate, the Sill window (R326-R328, R333) and the registers. -/

namespace Sys2Proof.Machine

/-- An edge word (R111). -/
def Edge.word (e : Edge) : Nat := e.src + e.d * 2 ^ 17 + e.a * 2 ^ 25 + e.mask * 2 ^ 33 + e.speedZone * 2 ^ 41

/-- The registers that show what the reading master latched: the _HI halves of the pairs (R34), and nanoseconds and fraction (R278). -/
def latchedRegs : List Nat := loRegs.map (· + 4) ++ [0x07000C, 0x070010]

/-- The byte of a register that a load of a master sees. -/
def Dev.regByte (d : Dev) (bank key i : Nat) : Byte :=
  (toLE 4 (if latchedRegs.contains key && !d.blockTested (regPlace key) then d.readHi bank key else d.readReg bank key)).getD i 0

/-- A byte of the Sill at an offset (R326): the rings, the settings images, the blob slots, the snapshot slots and the event ring.
What nothing has written reads 0 (notes/assumptions/4). A line with an uncorrectable error reads 0 (R327). -/
def Dev.sillByte (d : Dev) (o : Nat) : Byte :=
  let settings (s : Option Settings) (i : Nat) : Byte := match s with | some x => x.bytes.getD i 0 | none => 0
  let snap (parity i : Nat) : Byte :=
    match d.sil.snaps.find? (fun c => c.number % 2 == parity && c.chunk == i / 8192) with | some c => c.records.getD (i % 8192) 0 | none => 0
  if d.sillBad o then 0
  else if 0x020000 ≤ o ∧ o < 0x040000 then settings d.sil.settingsA (o - 0x020000)
  else if 0x040000 ≤ o ∧ o < 0x060000 then settings d.sil.settingsB (o - 0x040000)
  else if 0x080000 ≤ o ∧ o < 0x178000 then
    match d.blobAt ((o - 0x080000) / 512) with | some b => b.bytes.getD ((o - 0x080000) % 512) 0 | none => 0
  else if 0x380000 ≤ o ∧ o < 0x580000 then snap 0 (o - 0x380000)
  else if 0x580000 ≤ o ∧ o < 0x780000 then snap 1 (o - 0x580000)
  else if 0x780000 ≤ o ∧ o < 0xB80000 then
    match d.evr.ring[(o - 0x780000) / 32]? with | some r => r.bytes.getD ((o - 0x780000) % 32) 0 | none => 0
  else d.sil.image.read o

/-- The byte that a load of a master finds at an address (R26-R28): 0 where the load faults. A node beyond node_count and a slot
beyond the edges loaded read 0, and so do both windows in UNFRAMED (R28). -/
def Dev.loadByte (d : Dev) (bank a : Nat) : Byte :=
  let empty := d.sys.mstate = .unframed
  if a < 0x20000 then Config.bootRom a
  else if 0x0020000000 ≤ a ∧ a < 0x0021000000 then
    let o := a - 0x0020000000
    if empty then 0 else match d.nodeAt (o / 128) with | some n => n.bytes.getD (o % 128) 0 | none => 0
  else if 0x0030000000 ≤ a ∧ a < 0x0030800000 then
    let o := a - 0x0030000000
    if empty then 0 else match d.rft.edges[o / 8]? with | some e => (toLE 8 e.word).getD (o % 8) 0 | none => 0
  else if sillBase ≤ a ∧ a < sillBase + 0x2000000 then d.sillByte (a - sillBase)
  else if (0x0010000000 ≤ a ∧ a < 0x0010800000) ∨ (0x0040000000 ≤ a ∧ a < 0x0040080000) ∨ (0x0800000000 ≤ a ∧ a < 0x0880000000) then
    d.mem.read a
  else if regBase ≤ a ∧ a < regBase + 0x150000 then d.regByte bank ((a - regBase) / 4 * 4) (a % 4)
  else 0

/-- What a load returns (R26, R27, R30): 0 where it faults. -/
def Dev.load (d : Dev) (bank : Nat) (a : Access) : Nat :=
  if d.accessOk a then fieldLE ((List.range a.size).map (fun i => d.loadByte bank (a.addr + i))) 0 a.size else 0

end Sys2Proof.Machine
end

