-- ==== Sys2Proof/Tests/Slice0.lean ====
section
/-! SUPPORT. Tests of the model on small states: what the check of well-formedness refuses, a few steps of each block, and for
every statement with hypotheses a state and operands that meet them together. -/

set_option Elab.async false

namespace Sys2Proof.Tests

open Sys2Proof Sys2Proof.Machine

/-! ### Small states -/

/-- The machine after reset with an empty register file. -/
def base : Dev := { Dev.reset with regs := [] }

/-- A state with no command waiting. -/
def st (d : Dev) : State := ⟨[], d⟩

/-- A machine in a module state. -/
def inState (m : ModState) (d : Dev := base) : Dev := { d with sys := { d.sys with mstate := m } }

/-- An item of queue 3 and flow 5, pushed by core 0. -/
def item : JItem := ⟨3, 5, 0, 1, [7], [], 0⟩

/-- A queue open to every core. -/
def coreQueue : QCfg := ⟨4, 1, 0, 0xFF, 0xFF, 1, false, false⟩

/-- READY with queues 0-3 of depth 4. -/
def joist : Dev := { inState .ready with jst := { base.jst with qcfg := List.replicate 4 coreQueue } }

/-- An open item of core 0, for queue 3. -/
def stage : PushStage := ⟨0, 3, 5, 1, [7, 0, 0, 0, 0, 0, 0, 0], false⟩

def staged (d : Dev) (p : PushStage) : Dev := { d with jst := { d.jst with staging := [p] } }

/-- The machine with items queued. -/
def queued (l : List JItem) : Dev := { joist with jst := { joist.jst with items := l } }

/-- The machine with core 0 holding items. -/
def holding (l : List HoldBuf) : Dev := { joist with jst := { joist.jst with holds := l } }

/-- A timer that falls due at beat 0. -/
def timer : Timer := ⟨0, 1, 0, 0, 3, 5, 9, false⟩

def event (n : Nat) : EvRec := ⟨n, 0, 0, 0x0405, 3, 0, 0, []⟩

def recorder (b : List EvRec) : Dev := { base with evr := { base.evr with started := true, held := [], buf := b } }

/-- Core 0 holds four items, in buffers 0-3. -/
theorem holdsOk_holding : (holding [⟨0,0,item⟩, ⟨0,1,item⟩, ⟨0,2,item⟩, ⟨0,3,item⟩]).holdsOk := by
  intro core
  by_cases h : core = 0
  · subst h; decide
  · have : (holding [⟨0,0,item⟩, ⟨0,1,item⟩, ⟨0,2,item⟩, ⟨0,3,item⟩]).heldBy core = [] := by
      simp [Dev.heldBy, holding, Ne.symm h]
    rw [this]; decide

/-- The main clock has failed and the RC oscillator runs; mux 2 is on it. -/
def onRc : Dev := { base with regs := [(Reg.CLK_STATUS.word.key, 4#32)], pwr := { base.pwr with failedAt := some 0, muxes := [(2, 1)] } }

/-- A luminaire with ramp limits 10 and 3 and wave bounds 200 and 1,023. -/
def lamp : NodeStat := ⟨1, 4, 0, 0, 0, 0, 0, 0xFFFF, 0xFFFF, [0xFFFF, 0xFFFF, 0xFFFF, 0xFFFF], 0x21000FFF, 1023, 100, 0, 200, 1023, 0, 1, 0,
  65535, 10, 3, 1, 4, 0xFF, []⟩

def page (i l : Nat) : Page := ⟨i, 0, 0, false, l, 0, 0, false, 0⟩

def lampRun : NodeRun := ⟨0, 0, 4, false, false, false, false, false, 0, 0⟩

/-- A node with a lamp at a wave intensity and a level. -/
def node (i l : Nat) : Node := ⟨lamp, lampRun, page i l, page i l⟩

/-- The blob of the key 5, with every usage and master. -/
def macBlob : Blob := ⟨5, 0, 1, 3, 127, 32767, 7, [1], true⟩

/-- The machine in the OPERATIONAL life-cycle state with the key 5 in force. -/
def keyed (d : Dev) : Dev :=
  { d with key := { d.key with lcs := 1, blobs := [(0, macBlob)] }, sil := { d.sil with mounted := true, recs := [⟨1, .keyPointer 5 0 1 0 0, 0⟩] } }

/-- A command under key 5 on UPLINK, its MAC left 0. -/
def plain (body : Bytes) : Envelope := ⟨.uplink, envelopeMagic, 1, 1, body.length, 5, 0, body, 0⟩

/-- The command with its MAC. -/
def macd (d : Dev) (code : Nat) (body : Bytes) : Envelope :=
  { plain body with mac := Dev.mac4 (d.useKey 5 masterSC useCommandMac).2.1 ((plain body).macInput code) }

/-- The machine that has used key 5. -/
def used (d : Dev) : Dev := (d.useKey 5 masterSC useCommandMac).2.2

/-- What the port checks beside the MAC. -/
def portPasses (d : Dev) (c : CmdSpec) (body : Bytes) : Bool :=
  d.sys.mstate != .off && !d.pwr.stopped && d.pwr.pf.isNone && d.carried (plain body) && (plain body).lengthOk && (d.useKey 5 masterSC useCommandMac).1 == ST_OK &&
    ((used d).lastSeq 5).isNone && (used d).keyPermits (plain body) c.code && (used d).legal c.code body && c.argsOk (used d) body &&
    !c.underTest (used d)

/-- The MAC check passes for the command. -/
theorem macCheck_macd (d : Dev) (code : Nat) (body : Bytes) (h : (d.useKey 5 masterSC useCommandMac).1 = ST_OK) :
    (d.releaseCarrier (macd d code body)).macCheck (macd d code body) code = (true, used d) := by
  show ((d.useKey 5 masterSC useCommandMac).1 == ST_OK && (Dev.mac4 (d.useKey 5 masterSC useCommandMac).2.1 ((plain body).macInput code) ==
    Dev.mac4 (d.useKey 5 masterSC useCommandMac).2.1 ((plain body).macInput code)), (d.useKey 5 masterSC useCommandMac).2.2) = (true, used d)
  rw [h]; simp [used]

/-- A command under key 5 that passes the other checks passes them all. -/
theorem accepts (d : Dev) (c : CmdSpec) (body : Bytes) (h : portPasses d c body = true) :
    d.Accepts (used d) c (macd d c.code body) := by
  have hb : (macd d c.code body).body = body := List.take_length
  simp only [portPasses, Bool.and_eq_true, bne_iff_ne, Bool.not_eq_true', Option.isNone_iff_eq_none, beq_iff_eq] at h
  obtain ⟨⟨⟨⟨⟨⟨⟨⟨⟨⟨h1, h2⟩, h3⟩, hc⟩, h4⟩, h5⟩, h6⟩, h7⟩, h8⟩, h9⟩, h10⟩ := h
  refine ⟨h1, h2, h3, hc, rfl, rfl, h4, ?_, .inr (.inl h6), ?_, by rw [hb]; exact h8, by rw [hb]; exact h9, h10⟩
  · exact macCheck_macd d c.code body h5
  · rw [← h7]; rfl

/-- READY, with the key. -/
def cmdReady : Dev := keyed (inState .ready)

/-- SERVICE as SOLO, with the key. -/
def cmdService : Dev := keyed (inState .service)

/-- SERVICE as SOLO, with a zone, a node and a class-0 frame that commands may activate. -/
def frame0 : SafetyFrame := ⟨0, true, true, 512, 0, 0, 0, 0xFFFF, [], [], 0, 0⟩

def cmdLight : Dev :=
  { cmdService with rft := { cmdService.rft with nodes := [node 0 0] }, lin := { cmdService.lin with safety := some ⟨0, 0, 0, [frame0]⟩ } }

/-- An image with nothing in it. -/
def emptyImage : CutImage :=
  ⟨⟨0, 0, 0, 0, 0, 0, 0, false, 0, []⟩, [], ⟨0, 0, 0, 0, 0, 0, 0, 0, 0, 0, 0, 0, 0⟩, ⟨4000000, 1, 500, []⟩, [], [], [], [], [], [], [],
    ⟨0, []⟩, [], ⟨0, 0, 0, []⟩, none, [], [], [], [], [], none, none, [], none⟩

def loadRun (p : LoadPhase) : LoadRun := ⟨p, emptyImage, [1], 0, 0, 1, none, [], .ready, 0⟩

def loading (p : LoadPhase) : Dev := { base with cut := { base.cut with load := some (loadRun p) } }

def patchRun (p : PatchPhase) : PatchRun :=
  ⟨p, ⟨emptyImage.header, [], []⟩, [], ⟨.uplink, 0x12, 1, 5, 0, [], 0, 0⟩, true, 0, false⟩

def patching (p : PatchPhase) : Dev :=
  { inState .ready with cut := { base.cut with patch := some (patchRun p) }, beat := { base.beat with running := true } }

/-- A radio with a plan that refreshes class 0 every 4 beats. -/
def plan : RadPlan := ⟨0, 0, 0, 1, 4, 0, true, true, 0, 0x77, 4, 0, 4, 1, 1, 0, 0, 0, 0x123, 2, 0, 0, [0]⟩

def radio : RadSt := { RadSt.reset with plan := some plan }

def radios (d : Dev) (r : RadSt) : Dev := { d with rad := [r, r, r, r], regs := [(Reg.BST_UNIT0.radios.key, BitVec.ofNat 32 (15 * 2 ^ Reg.BST_UNIT0.radios.lo))] }

def frameR : SafetyFrame := { frame0 with media := 1 }

/-- A class-0 frame stands active since beat 4, in beat 8. -/
def lit : Dev :=
  { radios (inState .service) radio with
    beat := { base.beat with count := 8 }
    lin := { base.lin with safety := some ⟨1, 0, 0, [frameR]⟩, active := [⟨frameR, 0, 4, true, 4⟩] } }

/-- READY with a verified image of version 7 in the other slot. -/
def cmdFw : Dev :=
  { cmdReady with
    fwu := { cmdReady.fwu with other := .verified }
    sil := { cmdReady.sil with recs := cmdReady.sil.recs ++ [⟨2, .fwPointer 0 0 0 1 7 0 [] [], 40⟩] } }

def libRun : LibRun := ⟨0, 2, 1, 0, 0x0010000000, [5, 6]⟩

theorem leNat_toLE (k n : Nat) : leNat (toLE k n) = n % 256 ^ k := by
  induction k generalizing n with
  | zero => simp [toLE, leNat, Nat.mod_one]
  | succ k ih =>
    simp only [toLE, leNat, ih, BitVec.toNat_ofNat]
    rw [show 256 ^ (k + 1) = 256 * 256 ^ k from Nat.pow_succ', Nat.mod_mul]

/-- The payload of a KEY_UPDATE that moves the life cycle to state 2. -/
def lcBody : Bytes := [3, 0, 2, 0] ++ List.replicate 12 0 ++ toLE 8 Config.unitId.toNat ++ List.replicate 130 0

theorem lcBody_ok : Dev.keyUpdArgsOk lcBody = true := by
  have h : fieldLE lcBody 16 8 = Config.unitId.toNat := by
    show leNat (toLE 8 Config.unitId.toNat) = _
    rw [leNat_toLE]
    exact Nat.mod_eq_of_lt Config.unitId.isLt
  have h3 : (keyUpdArgs lcBody).op = 3 := by decide
  simp only [Dev.keyUpdArgsOk, h, h3, beq_self_eq_true]
  decide +kernel

/-- The payload of a KEY_UPDATE that derives the key 6 from the key 5. -/
def deriveBody : Bytes := [2, 0, 6, 0, 5, 0, 3, 127, 1, 0, 7, 0, 1, 0, 0, 0] ++ List.replicate 138 0

/-- Key 5 with a key 6 beside it. -/
def cmdKeys : Dev :=
  { cmdReady with
    key := { cmdReady.key with blobs := [(0, macBlob), (1, { macBlob with keyId := 6 })] }
    sil := { cmdReady.sil with recs := [⟨1, .keyPointer 5 0 1 0 0, 0⟩, ⟨2, .keyPointer 6 0 1 1 0, 40⟩] } }

/-- A machine with a KEY_OP descriptor at the start of SRAM and the key 5 selected by core 0. -/
def opDev : Dev :=
  { cmdReady with
    regs := [((Reg.KEY_OP_CFG.key_id 0).key, BitVec.ofNat 32 (5 * 2 ^ (Reg.KEY_OP_CFG.key_id 0).lo))]
    mem := [(0x0010000001, 1), (0x0010000003, 0x10), (0x0010000009, 2), (0x001000000B, 0x10), (0x0010000010, 4), (0x0010000019, 3), (0x001000001B, 0x10)] }

def opDev0 : Dev := (opDev.atTime 5).commitPair 0 (Reg.KEY_OP_DESC_LO.word 0) (Reg.KEY_OP_DESC_HI.word 0) 0x10000000

def keyOpRun : KeyOpRun := ⟨0, none, false, 5, 0, 0, 0x0010000200, [7]⟩

/-- Puts a list of register fields. -/
def puts (d : Dev) (l : List (Fld × Nat)) : Dev := l.foldl (fun d x => d.put x.1 x.2) d

/-- SERVICE as SOLO with the beat running. -/
def running : Dev := { inState .service with beat := { base.beat with running := true, period := 4000000 } }

def sweepingDev : Dev := { running with rft := { base.rft with sweeping := true, nodes := [node 0 0] } }

/-- Two overruns stand behind it; two passes run. -/
def thirdOverrun : Dev := puts sweepingDev [(Reg.BEAT_OVR_STATE.consec, 2), (Reg.BEAT_PASSES.passes_now, 2)]

/-- A daylight sensor. -/
def sensor : Node := { node 0 0 with stat := { lamp with flags := 2 } }

/-- A node whose class-1 override has expired. -/
def stale1 : Node := { node 0 0 with run := { lampRun with c1Eid := true } }

def ingest : Dev := { inState .service with rft := { base.rft with nodes := [sensor], staging := [⟨0, [0, BitVec.ofNat 32 (5 * 65536 + 3), 0]⟩] } }

def nodes (l : List Node) : Dev := { running with rft := { base.rft with nodes := l, sweeping := true } }

def ov : Override := ⟨5, false, 0⟩

def overrides : Dev := { running with rft := { base.rft with sweeping := true, ovGroup := [(1, ov)], ovZone := [(2, ov)], ovSite := some ov } }

/-- A PTP port that follows its parent. -/
def ptpPort : PtpPort := ⟨4, none, some (100, 120), none, 0, 0, 0⟩

/-- SERVICE with PTP enabled on UPLINK, peer-to-peer, and that port following. -/
def ptpDev : Dev :=
  { running with
    regs := [(Reg.TIME_PTP_CFG.word.key, BitVec.ofNat 32 (2 ^ Reg.TIME_PTP_CFG.enable.lo + 2 ^ Reg.TIME_PTP_CFG.p2p.lo + 2 ^ Reg.TIME_PTP_CFG.boundary.lo)), (Reg.TIME_PTP_PORTS.word.key, 0x3FF#32), (Reg.BST_UNIT1.ports.key, BitVec.ofNat 32 (3 * 2 ^ Reg.BST_UNIT1.ports.lo))]
    tim := { base.tim with ptp := List.replicate 10 ptpPort, lockedPort := some 8 }
    cut := { base.cut with image := some emptyImage } }

def tpo : Tpo := ⟨0, 0, 100, 40, false, true, false, false, true, 0⟩

/-- The RTC counts; a posted write of a curve point waits. -/
def rtcDev : Dev := { base with rtc := { base.rtc with counting := true, posted := [⟨0x080054, 9⟩] } }

/-- A channel profile without limits of its own. -/
def profile : RadProfile := ⟨0, 3600, 3600, 0, []⟩

/-- A radio with 4 channels. -/
def radio4 : RadSt := { radio with plan := some { plan with nCh := 4 }, profile := some profile }

/-- SERVICE as SOLO with radio 0 and the parameters of link 0 staged by core 0. -/
def radDev : Dev :=
  puts (keyed { radios (inState .service) radio4 with beat := { base.beat with running := true, period := 4000000 } })
    [(Reg.RAD_LINK_TIMING.interval 0 0, 2), (Reg.RAD_LINK_EVENT.event_len 0 0, 1000), (Reg.RAD_LINK_EVENT.supervision 0 0, 8),
     (Reg.RAD_LINK_HOP.hop_inc 0 0, 1), (Reg.RAD_LINK_HOP.max_retries 0 0, 3), (Reg.RAD_LINK_HOP.window 0 0, 4),
     (Reg.RAD_LINK_MAP.word 0 0 0, 15), (Reg.RAD_LINK_KEY.key_id 0 0, 5)]

def linkCfg : LinkCfg := ⟨2, 0, 0, 1000, 0, 1, 15, 8, 3, 4, 5, false, 0, 2, 3⟩

/-- A link with one frame in its ring. -/
def link : Link := ⟨0, false, 0, linkCfg, [1], 1, none, 1, 0, 4, 4, 0, [⟨1, [9], [0], 4⟩], 1, 0, 0, false, true, 0⟩

def lostLink : Link := { link with lost := true, cause := 1 }

def radLinks (l : List Link) : Dev := { radDev with rad := radDev.rad.map (fun r => { r with links := l, event := some ⟨0, 0, 9⟩ }) }

/-- A trunk with two branch units. -/
def trunk : TrunkCfg := ⟨3, 32, 0, 2, 1500, 1, 0, 0x88, 0, 0, false, []⟩

/-- SERVICE as SOLO with every trunk and port present, and the parameters of link 0 of every port staged by core 0. -/
def wiredBase : Dev :=
  puts (keyed { inState .service with
      trk := List.replicate 10 { TrkSt.reset with cfg := some trunk }
      cut := { base.cut with image := some emptyImage }
      lin := { base.lin with safety := some ⟨1, 0x99, 0, [frameR]⟩ }
      beat := { base.beat with running := true, period := 4000000, count := 9 } })
    [(Reg.BST_UNIT0.trunks, 255), (Reg.BST_UNIT1.ports, 3), (Reg.TRK_STATUS.link_up 14, 1), (Reg.TRK_STATUS.link_up 15, 1)]

def wiredDev : Dev :=
  puts wiredBase
    [(Reg.TRK_LINK_SUP.supervision 0 0, 8), (Reg.TRK_LINK_SUP.keepalive 0 0, 3), (Reg.TRK_LINK_CFG.ack_timeout 0 0, 2),
     (Reg.TRK_LINK_CFG.max_retries 0 0, 3), (Reg.TRK_LINK_CFG.window 0 0, 4), (Reg.TRK_LINK_KEY.key_id 0 0, 5)]

/-- The same radio with no event open. -/
def idleLinks (l : List Link) : Dev := { radDev with rad := radDev.rad.map (fun r => { r with links := l }) }

/-- A link whose far end is woken first. -/
def wakeLink : Link := { link with cfg := { linkCfg with wake := true } }

def wiredLinks (l : List Link) : Dev := { wiredDev with trk := wiredDev.trk.map (fun s => { s with links := l }) }

/-- A frame of type 5, version 1, network 0x77, radio 0. -/
def rx5Body : Bytes := [5, 1, 0x77, 0, 0, 0, 0, 0, 0, 0, 0, 0, 0, 0, 0, 0, 9, 8]

def rx5 : RadioRx := ⟨[0x10, 22], rx5Body ++ fcs rx5Body, 200, 0, 0⟩

/-- Radio 0 hears on its main receiver, its wake-up receiver unused. -/
def listening : Dev := { radDev with rad := radDev.rad.map (fun r => { r with plan := some { plan with nCh := 4, wakeRx := false } }) }

/-- An engine item waits for radio 0. -/
def csItem : JItem := ⟨0, 5, producerEngine, 1, [7], [0], 0⟩

def toRadio : Dev :=
  { radDev with jst := { base.jst with qcfg := [{ coreQueue with consumer := 0 }], items := [csItem] }, beat := { radDev.beat with count := 1 } }

/-- An item for the wire as it stands waits for UPLINK, 60 bytes. -/
def rawItem : JItem := ⟨0, 5, 0, 1, [0xFFFF + 60 * 65536, 0], [], 0⟩

def toUplink : Dev := { wiredBase with jst := { base.jst with qcfg := [{ coreQueue with consumer := 12 }], items := [rawItem] } }

/-- Radio 0 sends a beacon under key 5 in every fourth beat, 9 us after the boundary. -/
def beaconPlan : RadPlan := { plan with mode := 2, nCh := 1, wakeRx := false, beaconOffset := 9, bcastKey := 5, beaconMap := 1 }

def beaconing : Dev := { radDev with rad := radDev.rad.map (fun r => { r with plan := some beaconPlan }) }

def beaconKey : Nat × Bytes × Dev :=
  ((beaconing.atTime 9999).setRad 0 (fun x => { x with beaconBeat := some 0 })).useKey 5 masterRadio useBroadcast

/-- A frame of an EtherType on UPLINK. -/
def ethBody (hi lo op : Byte) : Bytes := List.replicate 12 0 ++ [hi, lo, 0, op, 0, 9] ++ List.replicate 60 0

def eth (hi lo op : Byte) : WiredRx := ⟨ethBody hi lo op ++ fcs (ethBody hi lo op), 0⟩

/-- The frame with a byte changed after its check sequence was made. -/
def ethBad : WiredRx := ⟨ethBody 8 1 0 ++ fcs (ethBody 8 0 0), 0⟩

def c0Frame : C0Send := ⟨0, [1, 2], 1, true, 4, 0⟩

def onPort (f : TrkSt → TrkSt) : Dev := { wiredBase with trk := wiredBase.trk.map f }

/-- SERVICE as STANDBY on peer trunks: the module stands in on PLCA. -/
def standIn : Dev :=
  { onPort (fun s => { s with cfg := some { trunk with peer := true }, c0 := [c0Frame] }) with sys := { wiredBase.sys with role := .standby } }

def rawTx : RawTx := ⟨item, 0, 60, 0, false, true, 3, false⟩

/-- A host-link JOIST frame of one word for flow 5. -/
def hlHead : Nat := 2 ^ 60 + 5

/-- A host-link ENVELOPE frame of 16 bytes. -/
def hlEnv : Nat := 2 * 2 ^ 60 + 16

def hl (f : HlkSt → HlkSt) : Dev :=
  { joist with jst := { joist.jst with qcfg := [{ coreQueue with hostDown := true }] }, hlk := f base.hlk }

/-- A metering channel that counts S0 and reconciles every minute; its import owes a pulse of output 0. -/
def meterCfg : MeterCfg := ⟨true, false, false, false, 0, 1, 0, 1, 1, 1, 1, [], [], [], 0, 1, 1, 1⟩

def meterCh : MeterCh := { MeterCh.reset with imp := 65536, flags := 8 }

def meters : Dev :=
  puts { inState .ready with
    mtr := { base.mtr with cfg := some ⟨List.replicate 4 meterCfg, []⟩, ch := List.replicate 4 meterCh }
    beat := { base.beat with base := 60000000000 } } [(Reg.MTR_STATUS.measured, 15)]

def withNodes : Dev :=
  { inState .ready with cut := { base.cut with image := some { emptyImage with units := { emptyImage.units with nodeCount := 4 } } } }

def jreq : JReq := ⟨.app, .application 0x8001 [1], 0⟩

def sill (f : SilSt → SilSt) : Dev := { inState .ready with sil := f base.sil }

def pfRun : PfRun := ⟨0, 2, none, false, []⟩

/-- Both clocks run. -/
def clocks : Dev := puts (inState .ready) [(Reg.CLK_STATUS.xtal40_ok, 1), (Reg.CLK_STATUS.pll_lock, 1), (Reg.CLK_STATUS.rc_ok, 1)]

/-- BOOT at a step. -/
def atStep (n : Nat) : Dev := puts base [(Reg.BST_STATUS.step, n)]

/-- BOOT at step 1 with two failures behind it. -/
def failing : Dev := puts (atStep 1) [(Reg.BST_EARLY.consec1, 3)]

def testRun (l : List Nat) (restart : Bool) : TestRun := ⟨[], l, 0, 0, 0, restart, 0, false, 0, 0⟩

def testing (l : List Nat) (restart : Bool) : Dev := { inState .test with bst := { base.bst with test := some (testRun l restart) } }

def shutting (test : Bool) : Dev := { inState .ready with bst := { base.bst with shut := some ⟨test, false, 0, 1⟩ } }

def strCfg : StringCfg := ⟨true, 15, 0, 20000, 100, 0, 0⟩

def matCfg : MatrixCfg := ⟨true, false, 1, 16, 0, 0, 0, List.replicate 512 9⟩

def ntcCfg : NtcCfg := ⟨true, 3950, 10000, 700, 1000⟩

def light : Dev :=
  { running with lgt := { base.lgt with cfg := some ⟨List.replicate 8 strCfg, List.replicate 2 matCfg, List.replicate 4 ntcCfg⟩ } }

/-- No driver configuration is in force. -/
def dark : Dev := { running with sys := { base.sys with mstate := .unframed } }

/-- String 0 belongs to the engine and shows level 600. -/
def engineStr : Dev :=
  { light with lgt := { light.lgt with strings := { StringSt.reset with engine := true, level := 600 } :: light.lgt.strings.drop 1 } }

def flipping : Dev := { light with lgt := { light.lgt with matrices := light.lgt.matrices.map (fun m => { m with flip := true, flipAt := 1 }) } }

/-- Memory holds an SPI descriptor at the start of SRAM: 1 byte out, 2 in, buffer 0x10000100. -/
def serDev : Dev :=
  { inState .ready with
    mem := [(0x0010000000, 2), (0x0010000004, 1), (0x0010000006, 2), (0x0010000009, 1), (0x001000000B, 0x10)]
    cut := { base.cut with image := some emptyImage } }

def serRun : SerRun := ⟨0, ST_PENDING, 0x0010000101, 2, 2⟩

def serBusy : Dev := { serDev with lnd := { base.lnd with serial := some serRun } }

/-- A pair whose other path is radio 0, with lease key 5. -/
def pairCfg : PairCfg := ⟨false, 0, 0, 5, 0, 5, 10, 1, Config.unitId.toNat, 7⟩

/-- A module of the pair in a role, in SERVICE, in beat 9. -/
def pairDev (r : Role) : Dev :=
  { inState .service with
    sys := { (inState .service).sys with role := r }
    pair := { base.pair with cfg := some pairCfg }
    beat := { base.beat with running := true, period := 4000000, count := 9 } }

def withPair (r : Role) (f : PairSt → PairSt) : Dev := { pairDev r with pair := f (pairDev r).pair }

/-- The standby, with radio 0 present and watching. -/
def watcher : Dev :=
  { pairDev .standby with beat := { (pairDev .standby).beat with count := 12 }, rad := List.replicate 4 radio, regs := [(Reg.BST_UNIT0.radios.key, BitVec.ofNat 32 (15 * 2 ^ Reg.BST_UNIT0.radios.lo))] }

/-- A standby whose other path is trunk 0. -/
def pathTrunk : Dev :=
  { wiredBase with
    sys := { wiredBase.sys with role := .standby }
    trk := List.replicate 10 { TrkSt.reset with cfg := some { trunk with peer := true } }
    pair := { base.pair with cfg := some { pairCfg with path2Trunk := true } } }

/-- A HEARTBEAT of the other member in a role and a beat. -/
def hb (role beat : Nat) : Heartbeat := ⟨role, 1, false, false, false, beat, 0, 0, 4, 0, 0, 0, 0, 0, 0⟩

/-- The module at boot step 9. -/
def atNine : Dev := puts { base with pair := { base.pair with cfg := some pairCfg } } [(Reg.BST_STATUS.step, 9)]

def resyncRun : ResyncRun := ⟨[1, 2], 0, 0, 2, 0⟩

def catching : Dev := withPair .syncing (fun p => { p with resync := some resyncRun })

/-- A pair module that holds the lease key and has asked for the lease twice. -/
def leasing (r : Role) : Dev :=
  keyed (withPair r (fun p => { p with asked := [⟨3, 100, false⟩, ⟨4, 200, false⟩], noReply := 3, reqSeq := 4 }))

/-- A lease message of a kind that grants to a member, with its MAC. -/
def leaseHead (kind member seq : Byte) : Bytes :=
  [0x4C, 0x57, kind, member, 1, 0, 0, 0, 0, 0, 0, 0, 8, 0, 0, 0, seq, 0, 0, 0, 0, 0, 0, 0]

def leaseMsg (kind member seq : Byte) : Bytes :=
  leaseHead kind member seq ++ (Config.hmac [1] (leaseHead kind member seq)).take 8

/-- The GRANT with the MAC is a valid reply to REQUEST 3. -/
theorem grantReply : (leasing .standby).leaseReply 2 (leaseMsg 2 0 3) = some ⟨3, 100, false⟩ := by
  have h1 : (leasing .standby).keyStanding 5 = .inForce macBlob := by decide
  have h2 : (leasing .standby).keyBytes macBlob = [1] := by decide
  have hm : slice (leaseMsg 2 0 3) 24 8 = (Config.hmac [1] ((leaseMsg 2 0 3).take 24)).take 8 := rfl
  simp only [Dev.leaseReply, show (leasing .standby).pair.cfg = some pairCfg from rfl, show pairCfg.leaseKey = 5 from rfl, h1, h2, hm,
    show (leaseMsg 2 0 3).length = 32 from rfl, show fieldLE (leaseMsg 2 0 3) 0 2 = 0x574C from rfl,
    show byteAt (leaseMsg 2 0 3) 2 = 2 from rfl, show fieldLE (leaseMsg 2 0 3) 4 8 = pairCfg.pairId from rfl,
    show fieldLE (leaseMsg 2 0 3) 16 4 = 3 from rfl, decide_true, Bool.and_self, if_true]
  decide

def keyRun : KeyOpRun := ⟨0, none, false, 5, 0, 0, 0x10000000, [7, 8]⟩

/-! ### What the check of well-formedness refuses -/

def env0 : Envelope := ⟨.uplink, 0, 1, 1, 0, 5, 0, [], 0⟩

def rx0 : RadioRx := ⟨[0x08, 0x00], [], 0, 0, 0⟩

def hb0 : Heartbeat := ⟨2, 1, false, false, false, 9, 0, 0, 4, 0, 0, 0, 0, 0, 0⟩

theorem test_wf_accepts : (Instr.getStatus 0 env0).wf = true ∧ (Instr.radioFrameRx 0 0 rx0).wf = true ∧ (Instr.heartbeatRx 0 hb0).wf = true ∧
    Instr.wf .beatBoundary = true ∧ (Instr.pfcRx 0 0 255 (List.replicate 8 65535)).wf = true := by decide

theorem test_wf_envelope : (({ env0 with magic := 65536 } : Envelope)).wf = false ∧
    (({ env0 with version := 256 } : Envelope)).wf = false ∧
    (({ env0 with seq := 4294967296 } : Envelope)).wf = false ∧
    (({ env0 with length := 65536 } : Envelope)).wf = false ∧
    (({ env0 with keyId := 65536 } : Envelope)).wf = false ∧
    (({ env0 with mac := 4294967296 } : Envelope)).wf = false ∧
    (({ env0 with route := 64 } : Envelope)).wf = false := by decide

theorem test_wf_env_commands : (Instr.getStatus 0 { env0 with version := 256 }).wf = false ∧
    (Instr.readEvents 0 { env0 with version := 256 }).wf = false ∧
    (Instr.start 0 { env0 with version := 256 }).wf = false ∧
    (Instr.stop 0 { env0 with version := 256 }).wf = false ∧
    (Instr.shutdown 0 { env0 with version := 256 }).wf = false ∧
    (Instr.cutStage 0 { env0 with version := 256 }).wf = false ∧
    (Instr.cutLoad 0 { env0 with version := 256 }).wf = false ∧
    (Instr.cutPatch 0 { env0 with version := 256 }).wf = false ∧
    (Instr.setPasses 0 { env0 with version := 256 }).wf = false ∧
    (Instr.overrideC1Set 0 { env0 with version := 256 }).wf = false ∧
    (Instr.overrideC1Clear 0 { env0 with version := 256 }).wf = false ∧
    (Instr.class0Activate 0 { env0 with version := 256 }).wf = false ∧
    (Instr.class0Release 0 { env0 with version := 256 }).wf = false ∧
    (Instr.timeSet 0 { env0 with version := 256 }).wf = false ∧
    (Instr.forceTime 0 { env0 with version := 256 }).wf = false ∧
    (Instr.fwStageChunk 0 { env0 with version := 256 }).wf = false ∧
    (Instr.fwStageCommit 0 { env0 with version := 256 }).wf = false ∧
    (Instr.fwStageAbandon 0 { env0 with version := 256 }).wf = false ∧
    (Instr.activate 0 { env0 with version := 256 }).wf = false ∧
    (Instr.pairTakeover 0 { env0 with version := 256 }).wf = false ∧
    (Instr.pairDemote 0 { env0 with version := 256 }).wf = false ∧
    (Instr.keyUpdateImport 0 { env0 with version := 256 }).wf = false ∧
    (Instr.keyUpdateDerive 0 { env0 with version := 256 }).wf = false ∧
    (Instr.keyUpdateLifecycle 0 { env0 with version := 256 }).wf = false ∧
    (Instr.keyInvalidate 0 { env0 with version := 256 }).wf = false ∧
    (Instr.meterSnapshot 0 { env0 with version := 256 }).wf = false ∧
    (Instr.reset 0 { env0 with version := 256 } 0).wf = false ∧
    (Instr.codeNotDefined 0 256 env0).wf = false ∧
    (Instr.codeNotDefined 0 9 { env0 with version := 256 }).wf = false := by decide

theorem test_wf_radio_rx : (({ rx0 with mpdu := List.replicate 2048 0 } : RadioRx)).wf = false ∧
    (({ rx0 with phr := [0] } : RadioRx)).wf = false ∧
    (({ rx0 with rssi := 256 } : RadioRx)).wf = false ∧
    (({ rx0 with channel := 256 } : RadioRx)).wf = false ∧
    (Instr.radioFrameRx 0 0 { rx0 with rssi := 256 }).wf = false ∧
    (Instr.watchInstance 0 0 (some { rx0 with rssi := 256 })).wf = false := by decide +kernel

theorem test_wf_heartbeat : (({ hb0 with role := 256 } : Heartbeat)).wf = false ∧
    (({ hb0 with member := 256 } : Heartbeat)).wf = false ∧
    (({ hb0 with beat := 2 ^ 64 } : Heartbeat)).wf = false ∧
    (({ hb0 with seconds := 2 ^ 64 } : Heartbeat)).wf = false ∧
    (({ hb0 with ns := 2 ^ 32 } : Heartbeat)).wf = false ∧
    (({ hb0 with count := 2 ^ 32 } : Heartbeat)).wf = false ∧
    (({ hb0 with c0Seq := 65536 } : Heartbeat)).wf = false ∧
    (({ hb0 with major := 256 } : Heartbeat)).wf = false ∧
    (({ hb0 with minor := 256 } : Heartbeat)).wf = false ∧
    (({ hb0 with cutHash := 2 ^ 64 } : Heartbeat)).wf = false ∧
    (({ hb0 with generation := 2 ^ 32 } : Heartbeat)).wf = false ∧
    (Instr.heartbeatRx 0 { hb0 with role := 256 }).wf = false := by decide

theorem test_wf_engine : (Instr.overrun 0 16).wf = false ∧
    (Instr.c0Refresh 0 256).wf = false ∧
    (Instr.c1Expired 0 4 0).wf = false ∧
    (Instr.c1Expired 0 0 131072).wf = false ∧
    (Instr.refreshDue 0 131072).wf = false ∧
    (Instr.waveHoldExpired 0 131072).wf = false ∧
    (Instr.edgeDelayElapsed 0 131072 0).wf = false ∧
    (Instr.edgeDelayElapsed 0 0 16).wf = false ∧
    (Instr.daylightStale 0 131072).wf = false := by decide

theorem test_wf_links : (Instr.linkEvent 0 0 65536).wf = false ∧
    (Instr.linkEventEnd 0 0 65536).wf = false ∧
    (Instr.linkAnswerTimeout 0 0 65536).wf = false ∧
    (Instr.linkSupervisionTimeout 0 0 65536).wf = false ∧
    (Instr.wiredAckTimeout 0 0 65536).wf = false ∧
    (Instr.keepalive 0 0 65536).wf = false ∧
    (Instr.dwellBinAdvance 0 0 256 0).wf = false ∧
    (Instr.dwellBinAdvance 0 0 0 256).wf = false ∧
    (Instr.wake 0 0 65536 0).wf = false ∧
    (Instr.wake 0 0 0 256).wf = false := by decide

theorem test_wf_ports : (Instr.plcaCycleEnd 0 0 4294967296).wf = false ∧
    (Instr.plcaConflict 0 0 (2 ^ 48)).wf = false ∧
    (Instr.gateEntry 0 0 64).wf = false ∧
    (Instr.portLink 0 0 true 4).wf = false ∧
    (Instr.pauseRx 0 0 65536).wf = false ∧
    (Instr.pfcRx 0 0 256 (List.replicate 8 0)).wf = false ∧
    (Instr.pfcRx 0 0 1 [0]).wf = false ∧
    (Instr.pfcRx 0 0 1 (List.replicate 8 65536)).wf = false ∧
    (Instr.mdioDone 0 65536).wf = false := by decide

theorem test_wf_supply : (Instr.muxSwitchRequest 0 256 0).wf = false ∧
    (Instr.swForced 0 256 0).wf = false ∧
    (Instr.nandRefresh 0 256 0 false).wf = false ∧
    (Instr.nandRefresh 0 0 4294967296 false).wf = false ∧
    (Instr.suppressed 0 65536).wf = false := by decide

theorem test_wf_pair : (Instr.bundleRx 0 (2 ^ 64) []).wf = false ∧
    (Instr.bundleCloseRx 0 (2 ^ 64) 0 0 0 0).wf = false ∧
    (Instr.bundleCloseRx 0 0 256 0 0 0).wf = false ∧
    (Instr.bundleCloseRx 0 0 0 4294967296 0 0).wf = false ∧
    (Instr.bundleCloseRx 0 0 0 0 65536 0).wf = false ∧
    (Instr.bundleCloseRx 0 0 0 0 0 (2 ^ 64)).wf = false ∧
    (Instr.bundleAcked 0 (2 ^ 64)).wf = false ∧
    (Instr.helloRx 0 { hb0 with role := 256 } 0 0).wf = false ∧
    (Instr.helloRx 0 hb0 (2 ^ 64) 0).wf = false ∧
    (Instr.helloRx 0 hb0 0 (2 ^ 64)).wf = false ∧
    (Instr.handoverRx 0 { hb0 with role := 256 } 0 0).wf = false ∧
    (Instr.handoverRx 0 hb0 (2 ^ 64) 0).wf = false ∧
    (Instr.handoverRx 0 hb0 0 (2 ^ 64)).wf = false ∧
    (Instr.resyncReqRx 0 { hb0 with role := 256 } 0 0).wf = false ∧
    (Instr.resyncReqRx 0 hb0 (2 ^ 64) 0).wf = false ∧
    (Instr.resyncReqRx 0 hb0 0 (2 ^ 64)).wf = false ∧
    (Instr.leaseGrantRx 0 []).wf = false ∧
    (Instr.leaseDenyRx 0 []).wf = false := by decide

theorem test_wf_rest : (Instr.libWrite 0 (.core 0) 256).wf = false ∧
    (Instr.libRead 0 (.core 0) 256).wf = false ∧
    (Instr.libDelete 0 (.core 0) 256).wf = false ∧
    (Instr.badCommand 0 256).wf = false ∧
    (Instr.accessFault 0 (.core 0) (2 ^ 40) ⟨.load, 4, 0⟩).wf = false ∧
    (Instr.accessFault 0 (.core 0) 0 ⟨.load, 3, 0⟩).wf = false ∧
    (({ samples := [], ahead := (0, 0), crossings := none } : MeterCycle)).wf = false ∧
    (({ samples := [(8388608, 0)], ahead := (0, 0), crossings := none } : MeterCycle)).wf = false ∧
    (Instr.registerWrite 0 (.core 0) (2 ^ 40) 0#32).wf = false := by decide

/-! ### The lands -/

/-- The lands of the grid of 22 by 22 with an assignment. -/
def lands (u : LandUse) : Nat :=
  ((List.range 22).map (fun r => (List.range 22).countP (fun c => landAt (r + 1) (c + 1) == u))).sum

/-- 130 lands are GND and 45 are not to be connected (R516). -/
theorem test_land_counts : lands .gnd = 130 ∧ lands .dnc = 45 := by decide +kernel

/-- Each of the 42 multiplexed lands stands at one place (R516, R518). -/
theorem test_land_mux : ((List.range 42).all (fun i => lands (.mux i) == 1)) = true := by decide +kernel

/-- JTAG reaches the cores in PROVISIONED and RMA, the boundary scan always, the root never (R534). -/
theorem test_jtag : ((List.range 5).map (fun n => ({ base with key := { base.key with lcs := n } } : Dev).jtagReaches .cores)) =
    [false, true, false, true, false] ∧ base.jtagReaches .boundaryScan = true ∧ base.jtagReaches .root = false := by decide

/-! ### Single steps: the expected values are the spec's -/

/-- The command gives a next state of which the check holds. -/
def chk (c : Instr) (s : State) (P : Dev → Bool) : Bool := match exec c s with | .next u => P u.dev | _ => false

theorem test_jst_get_with_four_held : (chk (.jstGet 0 (.core 0) false) (st (holding [⟨0,0,item⟩, ⟨0,1,item⟩, ⟨0,2,item⟩, ⟨0,3,item⟩])) fun d => d.get (Reg.JST_GET.word 0) == 0 && d.get Reg.JST_IRQ_STATUS.held_full == 1 && d.jst == (holding [⟨0,0,item⟩, ⟨0,1,item⟩, ⟨0,2,item⟩, ⟨0,3,item⟩]).jst) = true := by decide +kernel

theorem test_mux_switch_refused : (chk (.muxSwitchRequest 5 2 0) (st onRc) fun d => d.muxAt 2 == 1 && d.get Reg.CLK_FAIL.sw_refused == 1) = true := by decide +kernel

theorem test_jst_push_commit : (chk (.jstPushCommit 0 (.core 0)) (st (staged joist stage)) fun d => d.jst.items == [JItem.mk 3 5 0 1 [7] [] 0] && d.get (Reg.JST_PUSH_STATUS.status 0) == 0 && d.jst.staging == []) = true := by decide +kernel

theorem test_jst_push_after_flush : (chk (.jstPushCommit 0 (.core 0)) (st (staged joist { stage with flushed := true })) fun d => d.get (Reg.JST_PUSH_STATUS.status 0) == ST_FLUSHED) = true := by decide +kernel

theorem test_jst_get_takes_oldest : (chk (.jstGet 5 (.core 0) false) (st (queued [item])) fun d => d.jst.holds == [⟨0,0,item⟩] && d.jst.items == [] && d.get (Reg.JST_GET.word 0) == descriptor item 0 % 2^32) = true := by decide +kernel

theorem test_jst_done_releases : (chk (.jstDone 5 (.core 0) (BitVec.ofNat 32 (descriptor item 2))) (st (holding [⟨0,0,item⟩, ⟨0,1,item⟩, ⟨0,2,item⟩, ⟨0,3,item⟩])) fun d => d.jst.holds.length == 3 && d.get (Reg.JST_DONE_STATUS.status 0) == 0) = true := by decide +kernel

theorem test_jst_flush_drops : (chk (.jstFlush 5 (.core 0) 3) (st (queued [item])) fun d => d.jst.items == [] && d.get Reg.JST_FLUSH_STATUS.queue == 3) = true := by decide +kernel

theorem test_evr_slot_written : (chk (.evrSlotWritten 5) (st { recorder [event 1] with evr := { (recorder [event 1]).evr with flushLeft := 1 } }) fun d => d.evr.ring == [event 1] && d.evr.buf == []) = true := by decide +kernel

theorem test_bad_magic_counted : (chk (.codeNotDefined 5 9 { plain [] with magic := 0 }) (st base) fun d => d.get Reg.SYS_CMD_BAD.word == 1 && d.sys == base.sys) = true := by decide +kernel

theorem test_cut_load_stored : (chk (.cutLoadStored 5 true) (st (loading .storing)) (fun d => d.cut.load == some (loadRun .waiting) && d.cut.slot0 == some ⟨[1], []⟩) && chk (.cutLoadStored 5 false) (st (loading .storing)) (fun d => d.cut.load == none && d.get Reg.CUT_STATUS.last_status == ST_INTEGRITY)) = true := by decide +kernel

theorem test_emg_edge_asks_class0 : (chk (.emgEdge 5 false true) (st cmdLight) fun d => d.lin.emgA && d.lin.waiting == [C0Req.emg]) = true := by decide +kernel

theorem test_beat_boundary_counts : (chk .beatBoundary (st running) fun d => d.beat.count == 1 && d.beat.base == 4000000 && d.get Reg.BEAT_IRQ_STATUS.boundary == 1) = true := by decide +kernel

theorem test_step_at_boundary : (chk .beatBoundary (st { running with beat := { running.beat with step := some ⟨false, 7, none, true, true⟩ } }) fun d => d.beat.base == 4000007 && d.beat.step.isNone) = true := by decide +kernel

theorem test_commit_by_deadline : (chk (.commit 3600000) (st sweepingDev) (fun d => d.get Reg.BEAT_STATUS.phase == 3 && d.get Reg.BEAT_IRQ_STATUS.commit_done == 1) && chk (.commit 3600001) (st sweepingDev) (fun d => d.get Reg.BEAT_IRQ_STATUS.overrun == 1 && d.get Reg.BEAT_IRQ_STATUS.commit_done == 0)) = true := by decide +kernel

theorem test_third_overrun_lowers : (chk (.overrun 3600000 1) (st thirdOverrun) (fun d => d.get Reg.BEAT_OVR_STATE.consec == 0 && d.beat.nextPasses == some 1)) = true := by decide +kernel

theorem test_refresh_pends : (chk (.refreshDue 5 0) (st (nodes [{ node 0 0 with run := { lampRun with refreshTmr := 0 } }])) fun d => (d.nodeAt 0).any (fun n => n.run.pending)) = true := by decide +kernel

theorem test_leap_second_61 : (chk (.leapSecond 5) (st { base with regs := [(Reg.TIME_UTC.leap61.key, BitVec.ofNat 32 (2 ^ Reg.TIME_UTC.leap61.lo))] }) fun d => d.tim.utcOffset == base.tim.utcOffset + 1) = true := by decide +kernel

theorem test_leap_second_59 : (chk (.leapSecond 5) (st { base with regs := [(Reg.TIME_UTC.leap59.key, BitVec.ofNat 32 (2 ^ Reg.TIME_UTC.leap59.lo))] }) fun d => d.tim.utcOffset == base.tim.utcOffset - 1) = true := by decide +kernel

theorem test_tick_alarm : (chk (.tickAlarm 5) (st { rtcDev with rtc := { rtcDev.rtc with talmArmed := true } }) fun d => !d.rtc.talmArmed && d.get Reg.RTC_IRQ_STATUS.talm == 1) = true := by decide +kernel

theorem test_hl_read_advances : (chk (.hlRead 5 2) (st (hl (fun h => { h with up := [4, 5, 6], read := 1 }))) fun d => d.hlk.sent == [5, 6] && d.hlk.read == 3) = true := by decide +kernel

theorem test_hl_down_frame_pushes : (chk (.hlDownFrame 5) (st (hl (fun h => { h with down := [hlHead, 7] }))) fun d => d.jst.items.map (·.words) == [[7]] && d.hlk.down == []) = true := by decide +kernel

theorem test_pulse_emit : (chk (.pulseEmit 5 0) (st meters) fun d => d.mtr.emitted == [1, 0] && d.mtr.lastEdge == [60000000005, 0]) = true := by decide +kernel

theorem test_pulse_end : (chk (.pulseEnd 30000007 0) (st (puts { base with mtr := { base.mtr with lastEdge := [7, 0] } } [(Reg.MTR_STATUS.pout_active, 1)])) (fun d => !bit (d.get Reg.MTR_STATUS.pout_active) 0)) = true := by decide +kernel

theorem test_main_clock_fail : (chk (.mainClockFail 5 false) (st clocks) fun d => d.sys.mstate == .failsafe && d.get Reg.CLK_STATUS.sys_src == 1 && d.get Reg.SYS_C0_SUSPEND.media == 0x3FFF) = true := by decide +kernel

theorem test_power_on : (chk (.powerOn 5 3 9000) (st (inState .off)) fun d => d.sys.mstate == .boot && d.get Reg.PWR_VIN.mv == 9000) = true := by decide +kernel

theorem test_vhold_low : (chk (.vholdLow 5) (st { inState .ready with pwr := { base.pwr with pf := some pfRun } }) fun d => d.sys.mstate == .off && d.pwr.pf == none && d.get Reg.PWR_PF_LAST.step == 2 && d.get Reg.PWR_PF_CNT.count == 1) = true := by decide +kernel

theorem test_vhold_low_boots : (chk (.vholdLow 5) (st { inState .ready with pwr := { base.pwr with pf := some { pfRun with vinReturned := some 3 } } }) fun d => d.sys.mstate == .boot && d.pwr.pf == none && d.get Reg.SYS_PIN_STATUS.straps == 3) = true := by decide +kernel

theorem test_rst_n_release : (chk (.rstNRelease 5 3) (st { inState .off with pwr := { base.pwr with rstLow := true } }) fun d => d.sys.mstate == .boot && d.get Reg.SYS_PIN_STATUS.straps == 3) = true := by decide +kernel

theorem test_boot_step_7_unframed : (chk (.bootStepDone 5 []) (st (atStep 7)) fun d => d.get Reg.BST_STATUS.step == 8 && d.sys.mstate == .unframed) = true := by decide +kernel

theorem test_boot_step_fails_safe : (chk (.bootStepFailed 5 9) (st failing) (fun d => d.sys.mstate == .failsafe && d.bst.failStep == 1) && chk (.bootStepTimeout 100000000000) (st failing) (fun d => d.sys.mstate == .failsafe) && chk (.xtalStartTimeout 500000000) (st failing) (fun d => d.sys.mstate == .failsafe)) = true := by decide +kernel

theorem test_test_finished_holds_off : (chk (.testFinished 5 1 [] 0 3) (st (testing [1] false)) fun d => d.sys.mstate == .off && d.pwr.heldOff) = true := by decide +kernel

theorem test_ntc_out_of_range : (chk (.ntcRead 5 0 1501) (st light) fun d => d.get (Reg.LGT_NTC.fault 0) == 1 && d.get (Reg.LGT_NTC.f 0) == 128) = true := by decide +kernel

theorem test_read_lo_latches_hi : (chk (.readLoLatch 5 (.core 0) 0x080008) (st { base with rtc := { base.rtc with ticks := 5 * 2 ^ 32 + 9 } }) fun d => d.readHi 0 0x08000C == 5) = true := by decide +kernel

theorem test_access_by_size : (chk (.accessFault 5 (.core 3) 0x10000000 ⟨.store, 2, 0x0102⟩) (st (inState .ready)) (fun d => d.mem == [(0x10000000, 2), (0x10000001, 1)] && d.sys.coreFaults == []) && chk (.accessFault 5 (.core 3) 0 ⟨.store, 4, 1⟩) (st (inState .ready)) (fun d => d.mem == [] && d.sys.coreFaults == [⟨3, .store, 0, 0⟩])) = true := by decide +kernel

theorem test_serial_busy_refused : (chk (.serialTransfer 5 (.core 0) 0x10000000#32) (st serBusy) fun d => d.get (Reg.SYS_SER_STATUS.status 0) == ST_REFUSED_FULL) = true := by decide +kernel

theorem test_third_heartbeat_missed : (chk (.heartbeatMissed 5) (st (puts (pairDev .standby) [(Reg.PAIR_LAG.tie_miss, 2)])) fun d => d.get Reg.PAIR_LAG.tie_miss == 3 && !d.pair.peerUp && d.get Reg.PAIR_IRQ_STATUS.tie_lost == 1) = true := by decide +kernel

theorem test_fourth_reply_missed : (chk (.leaseReplyTimeout 250000100) (st (leasing .active)) fun d => d.pair.asked == [⟨4, 200, false⟩] && d.pair.noReply == 4 && d.pair.unreachableAt.isSome) = true := by decide +kernel

theorem test_key_op_done_stores : (chk (.keyOpDone 5 0) (st { base with key := { base.key with ops := [keyRun] } }) fun d => d.mem == [(0x10000000, 7), (0x10000001, 8)]) = true := by decide +kernel

/-! ### The hypotheses of the statements are met -/

theorem witness_StepTakesFront : (∃ s : State, s.pending = .hlMark 0 :: []) ∧ (st base).pending = [] := ⟨⟨⟨[.hlMark 0], base⟩, rfl⟩, rfl⟩

theorem witness_CanonicalKept : (st joist).dev.canonical ∧ step ⟨[.hlMark 0], joist⟩ = exec (.hlMark 0) (st joist) := ⟨⟨by decide, by decide⟩, rfl⟩

theorem witness_OffersSettled : (st joist).dev.evr.offers = [] ∧ ∃ u, step (st joist) = .next u := ⟨rfl, _, rfl⟩

theorem witness_HoldsBounded : (holding [⟨0,0,item⟩, ⟨0,1,item⟩, ⟨0,2,item⟩, ⟨0,3,item⟩]).holdsOk ∧ ∃ u, step ⟨[.jstGet 0 (.core 0) false], holding [⟨0,0,item⟩, ⟨0,1,item⟩, ⟨0,2,item⟩, ⟨0,3,item⟩]⟩ = .next u := ⟨holdsOk_holding, _, rfl⟩

theorem witness_HeldFull : ((holding [⟨0,0,item⟩, ⟨0,1,item⟩, ⟨0,2,item⟩, ⟨0,3,item⟩]).heldBy 0).length = 4 ∧ (holding [⟨0,0,item⟩, ⟨0,1,item⟩, ⟨0,2,item⟩, ⟨0,3,item⟩]).holdsOk := ⟨by decide, holdsOk_holding⟩

theorem witness_MuxRequests_1 : (onRc.atTime 5).sourceRuns 0 = false ∧ onRc.muxAt 2 = 1 := by decide

theorem witness_MuxRequests_2 : (onRc.atTime 5).sourceRuns 1 = true ∧ (onRc.atTime 5).sourceRuns (onRc.muxAt 2) = true := by decide

theorem witness_RampLimited : (node 1023 100).stat.drives = true ∧ base.class0Level (node 1023 100).stat = none ∧ (base.curPage (node 1023 100)).l ≤ base.target (node 1023 100) (base.class1Level (node 1023 100)) * 64 ∧ (node 1023 100).stat.rampUp ≠ 0 ∧ base.target (node 0 100) (base.class1Level (node 0 100)) * 64 ≤ (base.curPage (node 0 100)).l ∧ (node 0 100).stat.rampDown ≠ 0 := by decide

theorem witness_PushingCompletes : (staged joist stage).stageOf 0 = some stage ∧ stage.flushed = false ∧ joist.joistRuns = true ∧ joist.flushing 3 = false ∧ flowReserved 5 = false ∧ joist.qcfgOf 3 = some coreQueue ∧ joist.fill 3 < coreQueue.depth ∧ joist.slotFree 3 coreQueue = true := by decide

theorem witness_PushRefusals_1 : (staged (inState .test) stage).stageOf 0 = some stage ∧ (staged (inState .test) stage).joistRuns = false := by decide

theorem witness_PushRefusals_2 : (staged joist { stage with flushed := true }).stageOf 0 = some { stage with flushed := true } ∧ joist.joistRuns = true := by decide

theorem witness_PushRefusals_3 : joist.joistRuns = true ∧ (stage.flushed || joist.flushing stage.queue) = false ∧ flowReserved 0x21000 = true := by decide

theorem witness_PushRefusals_4 : let d : Dev := { queued (List.replicate 4 item) with jst := { (queued (List.replicate 4 item)).jst with staging := [stage] } }; d.stageOf 0 = some stage ∧ d.joistRuns = true ∧ d.flushing 3 = false ∧ d.qcfgOf 3 = some coreQueue ∧ coreQueue.depth ≤ d.fill 3 := by decide

theorem witness_TakingCompletes_1 : (queued [item]).joistRuns = true ∧ ((queued [item]).heldBy 0).length < 4 ∧ (((queued [item]).atTime 5).select 0xFF (some 0)).map (·.1) = some item ∧ (queued [item]).freeHold 0 = some 0 := by decide

theorem witness_TakingCompletes_2 : isCore (.other 0) = false ∧ base.joistRuns = false ∧ 4 ≤ ((holding [⟨0,0,item⟩, ⟨0,1,item⟩, ⟨0,2,item⟩, ⟨0,3,item⟩]).heldBy 0).length := by decide

theorem witness_TakingCompletes_3 : let d : Dev := { queued [item] with jst := { (queued [item]).jst with waiting := [0] } }; (d.jst.waiting.findSome? (fun c => ((d.atTime 5).takeFor c).map (fun d' => (c, d')))).map (·.1) = some 0 := by decide

theorem witness_TakingCompletes_4 : let d : Dev := { queued [item] with jst := { (queued [item]).jst with waiting := [0] } }; d.jst.waiting.contains 0 = true := by decide

theorem witness_TakingCompletes_5 : BitVec.ofNat 32 (descriptor item 2) ≠ 0 ∧ (holding [⟨0,0,item⟩, ⟨0,1,item⟩, ⟨0,2,item⟩, ⟨0,3,item⟩]).jst.holds.find? (fun h => h.core == 0 && h.buf == bits (BitVec.ofNat 32 (descriptor item 2)).toNat 21 20 && h.item.tag == bits (BitVec.ofNat 32 (descriptor item 2)).toNat 15 0) = some ⟨0,2,item⟩ := by decide

theorem witness_FlushAndTimersComplete_1 : (queued [item]).get Reg.JST_FLUSH_STATUS.busy = 0 := by decide

theorem witness_FlushAndTimersComplete_2 : let d : Dev := { base with regs := [(Reg.JST_FLUSH_STATUS.busy.key, BitVec.ofNat 32 (2 ^ Reg.JST_FLUSH_STATUS.busy.lo))] }; d.get Reg.JST_FLUSH_STATUS.busy = 1 := by decide

theorem witness_FlushAndTimersComplete_3 : let d : Dev := { joist with regs := [((Reg.JST_TMR_FLOW.flow 0).key, 5#32), ((Reg.JST_TMR_CFG.delay 0).key, BitVec.ofNat 32 (putBits (putBits 0 3 (Reg.JST_TMR_CFG.queue 0).hi (Reg.JST_TMR_CFG.queue 0).lo) 2 (Reg.JST_TMR_CFG.delay 0).hi (Reg.JST_TMR_CFG.delay 0).lo))] }; d.joistRuns = true ∧ d.get (Reg.JST_TMR_CFG.delay 0) ≠ 0 ∧ flowReserved (d.get (Reg.JST_TMR_FLOW.flow 0)) = false ∧ d.jst.timers.length < 65536 := by decide

theorem witness_FlushAndTimersComplete_4 : let d : Dev := { joist with jst := { joist.jst with timers := [timer] } }; d.jst.released < 4096 ∧ d.joistRuns = true ∧ d.dueTimers.find? (fun y => !d.jst.stopped.contains y.queue) = some timer ∧ ((d.atTime 5).push timer.queue timer.flow producerTimers [timer.word]).2.1 = ST_OK := by decide

theorem witness_RecorderCommandsComplete_1 : let d : Dev := { recorder [] with evr := { (recorder []).evr with pend := [⟨0x0405, 3, 0⟩] } }; d.evr.pend.find? (fun p => p.code == 0x0405) = some ⟨0x0405, 3, 0⟩ ∧ d.evr.started = true ∧ d.evr.buf.length < 4096 ∧ d.evr.offers = [] ∧ 0 + 60 * 1000000000 ≤ (d.atTime 60000000000).now := by decide

theorem witness_RecorderCommandsComplete_2 : (recorder [event 1]).evr.started = true ∧ (recorder [event 1]).evr.offers = [] ∧ (recorder [event 1]).evr.flushLeft = 0 ∧ (recorder [event 1]).evr.buf ≠ [] ∧ (recorder [event 1]).evr.flushAt + 1000000000 ≤ ((recorder [event 1]).atTime 1000000000).now := by decide

theorem witness_RecorderCommandsComplete_3 : let d : Dev := { recorder [event 1] with evr := { (recorder [event 1]).evr with flushLeft := 1 } }; d.pwr.pf = none ∧ d.evr.offers = [] ∧ d.evr.flushLeft = 0 + 1 ∧ d.evr.buf = event 1 :: [] ∧ d.evr.ring.length < ringSlots ∧ d.evr.dropNow = 0 ∧ (event 1).lost ≤ 65535 ∧ d.evr.flushAgain = false := by decide

theorem witness_RecorderCommandsComplete_4 : let d : Dev := { recorder [event 1] with evr := { (recorder [event 1]).evr with nextSeq := 2 } }; (1#32) ≠ 0 ∧ d.seqBehind 1 ≠ 0 ∧ d.seqBehind 1 < 2 ^ 31 ∧ d.heldRecords.find? (fun r => r.seq == 1 && !(d.atTime 5).cyc.records.contains r.seq) = some (event 1) := by decide

theorem witness_StatusCommandsComplete_1 : ∃ d' e, (Dev.atTime (cmdReady) 5).Accepts d' (specGetStatus) e ∧ e.body = [] ∧ True := ⟨_, _, accepts (Dev.atTime (cmdReady) 5) (specGetStatus) [] (by decide +kernel), List.take_length, trivial⟩

theorem witness_StatusCommandsComplete_2 : ∃ d' e, (Dev.atTime (cmdReady) 5).Accepts d' (specReadEvents) e ∧ e.body = [1,0,0,0,10,0,0,0] ∧ True := ⟨_, _, accepts (Dev.atTime (cmdReady) 5) (specReadEvents) [1,0,0,0,10,0,0,0] (by decide +kernel), List.take_length, trivial⟩

theorem witness_StatusCommandsComplete_3 : ∃ d' e, (Dev.atTime (cmdReady) 5).Accepts d' (specMeterSnapshot) e ∧ e.body = [] ∧ True := ⟨_, _, accepts (Dev.atTime (cmdReady) 5) (specMeterSnapshot) [] (by decide +kernel), List.take_length, trivial⟩

theorem witness_StatusCommandsComplete_4 : base.sys.mstate ≠ .off ∧ base.pwr.stopped = false ∧ base.pwr.pf = none ∧ base.carried { plain [] with magic := 0 } = true ∧ ({ plain [] with magic := 0 } : Envelope).magic ≠ envelopeMagic := by decide

theorem witness_StatusCommandsComplete_5 : ∃ d' e, matrixRow 0x7F = none ∧ e.magic = envelopeMagic ∧ e.version = 1 ∧ e.lengthOk = true ∧ ((Dev.atTime cmdReady 5).releaseCarrier e).macCheck e 0x7F = (true, d') ∧ d'.lastSeq e.keyId = none ∧ e.keyId ≠ 0 ∧ 0x7F ≠ cmdKeyUpdate := ⟨used (Dev.atTime cmdReady 5), macd (Dev.atTime cmdReady 5) 0x7F [], by decide, rfl, rfl, by decide, macCheck_macd _ _ _ (by decide), by decide, by decide, by decide⟩

theorem witness_ControlCommandsComplete_1 : ∃ d' e, (Dev.atTime (cmdReady) 5).Accepts d' (specStart) e ∧ e.body = [] ∧ True := ⟨_, _, accepts (Dev.atTime (cmdReady) 5) (specStart) [] (by decide +kernel), List.take_length, trivial⟩

theorem witness_ControlCommandsComplete_2 : ∃ d' e, (Dev.atTime (cmdService) 5).Accepts d' (specStop) e ∧ e.body = [] ∧ True := ⟨_, _, accepts (Dev.atTime (cmdService) 5) (specStop) [] (by decide +kernel), List.take_length, trivial⟩

theorem witness_ControlCommandsComplete_3 : ∃ d' e, (Dev.atTime (cmdReady) 5).Accepts d' (specShutdown) e ∧ e.body = [3,0,0,0,2,0,0,0] ∧ True := ⟨_, _, accepts (Dev.atTime (cmdReady) 5) (specShutdown) [3,0,0,0,2,0,0,0] (by decide +kernel), List.take_length, trivial⟩

theorem witness_ControlCommandsComplete_4 : ∃ d' e, (Dev.atTime ({ cmdReady with regs := [(0x010014, 0x400#32)] }) 5).Accepts d' (specSetPasses) e ∧ e.body = [0,4] ∧ True := ⟨_, _, accepts (Dev.atTime ({ cmdReady with regs := [(0x010014, 0x400#32)] }) 5) (specSetPasses) [0,4] (by decide +kernel), List.take_length, trivial⟩

theorem witness_ControlCommandsComplete_5 : ∃ d' e, (Dev.atTime (cmdReady) 5).Accepts d' (specReset 5) e ∧ e.body = [0,0,0,0] ∧ True := ⟨_, _, accepts (Dev.atTime (cmdReady) 5) (specReset 5) [0,0,0,0] (by decide +kernel), List.take_length, trivial⟩

theorem witness_CutCommandsComplete_1 : ∃ d' e, (Dev.atTime (cmdReady) 5).Accepts d' (specCutStage) e ∧ e.body = [0,0,0,0,4,0,0,0,9,8] ∧ True := ⟨_, _, accepts (Dev.atTime (cmdReady) 5) (specCutStage) [0,0,0,0,4,0,0,0,9,8] (by decide +kernel), List.take_length, trivial⟩

theorem witness_CutCommandsComplete_2 : ∃ d' e, (Dev.atTime (cmdReady) 5).Accepts d' (specCutStage) e ∧ e.body = [1,0,0,0,4,0,0,0,9,8] ∧ True := ⟨_, _, accepts (Dev.atTime (cmdReady) 5) (specCutStage) [1,0,0,0,4,0,0,0,9,8] (by decide +kernel), List.take_length, trivial⟩

theorem witness_CutCommandsComplete_3 : ∃ d' e, (Dev.atTime (cmdReady) 5).Accepts d' (specCutLoad) e ∧ e.body = [] ∧ True := ⟨_, _, accepts (Dev.atTime (cmdReady) 5) (specCutLoad) [] (by decide +kernel), List.take_length, trivial⟩

theorem witness_CutCommandsComplete_4 : ∃ d' e, (Dev.atTime (cmdReady) 5).Accepts d' (specCutPatch) e ∧ e.body = [] ∧ True := ⟨_, _, accepts (Dev.atTime (cmdReady) 5) (specCutPatch) [] (by decide +kernel), List.take_length, trivial⟩

theorem witness_CutCommandsComplete_5 : (loading .storing).cut.load = some (loadRun .storing) ∧ (loadRun .storing).phase = .storing := by decide

theorem witness_CutCommandsComplete_6 : (loading .copying).cut.load = some (loadRun .copying) ∧ (loadRun .copying).phase = .copying := by decide

theorem witness_CutCommandsComplete_7 : (patching .logging).cut.patch = some (patchRun .logging) ∧ (patchRun .logging).phase = .logging := by decide

theorem witness_CutCommandsComplete_8 : (patching .ready).rft.sweeping = false ∧ (patching .ready).beats = true ∧ (patching .ready).cut.patch = some (patchRun .ready) ∧ (patchRun .ready).phase = .ready ∧ (patchRun .ready).thisBeat = true := by decide

theorem witness_LightCommandsComplete_1 : ∃ d' e, (Dev.atTime (cmdLight) 5).Accepts d' (specOverrideC1) e ∧ e.body = [1,0,0,0,0,0,0,0,7,0,0,0,9,0,0,0] ∧ d'.cmdPathFull = false ∧ d'.cmdPathOpen = true := ⟨_, _, accepts (Dev.atTime (cmdLight) 5) (specOverrideC1) [1,0,0,0,0,0,0,0,7,0,0,0,9,0,0,0] (by decide +kernel), List.take_length, by decide +kernel⟩

theorem witness_LightCommandsComplete_2 : ∃ d' e, (Dev.atTime (cmdLight) 5).Accepts d' (specOverrideC1) e ∧ e.body = [2,0,0,0,0,0,0,0,0,0,0,0,0,0,0,0] ∧ d'.cmdPathFull = false ∧ d'.cmdPathOpen = true := ⟨_, _, accepts (Dev.atTime (cmdLight) 5) (specOverrideC1) [2,0,0,0,0,0,0,0,0,0,0,0,0,0,0,0] (by decide +kernel), List.take_length, by decide +kernel⟩

theorem witness_LightCommandsComplete_3 : ∃ d' e, (Dev.atTime (cmdLight) 5).Accepts d' (specClass0) e ∧ e.body = [1,0,0,0] ∧ byteAt e.body 0 = 1 ∧ d'.c0Wanted (byteAt e.body 1) = false ∧ (d'.cmdPathOpen && d'.cmdPathFull) = false := ⟨_, _, accepts (Dev.atTime (cmdLight) 5) (specClass0) [1,0,0,0] (by decide +kernel), List.take_length, by decide +kernel⟩

theorem witness_LightCommandsComplete_4 : ∃ d' e, (Dev.atTime ({ cmdLight with lin := { cmdLight.lin with active := [⟨frame0, 0, 0, true, 0⟩] } }) 5).Accepts d' (specClass0) e ∧ e.body = [2,0,0,0] ∧ byteAt e.body 0 = 2 ∧ d'.c0Wanted (byteAt e.body 1) = true ∧ d'.emgActive = false ∧ (d'.cmdPathOpen && d'.cmdPathFull) = false := ⟨_, _, accepts (Dev.atTime ({ cmdLight with lin := { cmdLight.lin with active := [⟨frame0, 0, 0, true, 0⟩] } }) 5) (specClass0) [2,0,0,0] (by decide +kernel), List.take_length, by decide +kernel⟩

theorem witness_LightCommandsComplete_5 : cmdLight.sys.mstate ≠ .off ∧ cmdLight.lin.safety.isSome = true ∧ cmdLight.lin.emgA = false := by decide

theorem witness_LightCommandsComplete_6 : let d : Dev := { base with lin := { base.lin with emgA := true } }; 100 < 101 ∧ d.lin.emgA ≠ d.lin.emgB ∧ d.lin.disagree = false ∧ d.sys.mstate ≠ .off := by decide

theorem witness_LightCommandsComplete_7 : lit.lintelActs = true ∧ lit.lin.active.find? (fun a => a.frame.index == 0) = some ⟨frameR, 0, 4, true, 4⟩ ∧ (List.range 4).any (fun r => match ((lit.atTime 5).radAt r).plan with | some p => p.c0Refresh != 0 && bit frameR.media r && 4 < lit.beat.count && (lit.beat.count - 4) % p.c0Refresh == 0 | none => false) = true := by decide

theorem witness_TimeCommandsComplete_1 : ∃ d' e, (Dev.atTime (cmdReady) 5).Accepts d' (specForceTime) e ∧ e.body = [1,1,37,0,5,0,0,0,0,0,0,0,0,0,0,0] ∧ d'.beat.source ≠ .ptp := ⟨_, _, accepts (Dev.atTime (cmdReady) 5) (specForceTime) [1,1,37,0,5,0,0,0,0,0,0,0,0,0,0,0] (by decide +kernel), List.take_length, by decide +kernel⟩

theorem witness_TimeCommandsComplete_2 : ∃ d' e, (Dev.atTime (cmdReady) 5).Accepts d' (specTimeSet) e ∧ e.body = [2,0,0,0,1,0,0,0,0,0,0,0,0,0,0,0] ∧ d'.beat.source ≠ .ptp ∧ d'.quality ≤ 1 := ⟨_, _, accepts (Dev.atTime (cmdReady) 5) (specTimeSet) [2,0,0,0,1,0,0,0,0,0,0,0,0,0,0,0] (by decide +kernel), List.take_length, by decide +kernel⟩

theorem witness_TimeCommandsComplete_3 : ∃ d' e, (Dev.atTime ({ cmdReady with regs := [(Reg.TIME_STATUS.quality.key, BitVec.ofNat 32 (2 * 2 ^ Reg.TIME_STATUS.quality.lo))] }) 5).Accepts d' (specTimeSet) e ∧ e.body = [2,0,0,0,1,0,0,0,0,0,0,0,0,0,0,0] ∧ d'.beat.source ≠ .ptp ∧ 1 < d'.quality := ⟨_, _, accepts (Dev.atTime ({ cmdReady with regs := [(Reg.TIME_STATUS.quality.key, BitVec.ofNat 32 (2 * 2 ^ Reg.TIME_STATUS.quality.lo))] }) 5) (specTimeSet) [2,0,0,0,1,0,0,0,0,0,0,0,0,0,0,0] (by decide +kernel), List.take_length, by decide +kernel⟩

theorem witness_FirmwareCommandsComplete_1 : ∃ d' e, (Dev.atTime (cmdReady) 5).Accepts d' (specFwStage) e ∧ e.body = [1,1,0,0,0,0,0,0,9] ∧ byteAt e.body 0 = 1 := ⟨_, _, accepts (Dev.atTime (cmdReady) 5) (specFwStage) [1,1,0,0,0,0,0,0,9] (by decide +kernel), List.take_length, by decide +kernel⟩

theorem witness_FirmwareCommandsComplete_2 : ∃ d' e, (Dev.atTime (cmdReady) 5).Accepts d' (specFwStage) e ∧ e.body = [2,0,0,0,0,0,0,0] ∧ byteAt e.body 0 = 2 := ⟨_, _, accepts (Dev.atTime (cmdReady) 5) (specFwStage) [2,0,0,0,0,0,0,0] (by decide +kernel), List.take_length, by decide +kernel⟩

theorem witness_FirmwareCommandsComplete_3 : ∃ d' e, (Dev.atTime (cmdReady) 5).Accepts d' (specFwStage) e ∧ e.body = [3,0,0,0,0,0,0,0] ∧ byteAt e.body 0 = 3 := ⟨_, _, accepts (Dev.atTime (cmdReady) 5) (specFwStage) [3,0,0,0,0,0,0,0] (by decide +kernel), List.take_length, by decide +kernel⟩

theorem witness_FirmwareCommandsComplete_4 : ∃ d' e, (Dev.atTime (cmdFw) 5).Accepts d' (specActivate) e ∧ e.body = [0,0,0,0,7,0,0,0] ∧ fieldLE e.body 4 4 = d'.fwPtr.otherVersion ∧ d'.inPair = false := ⟨_, _, accepts (Dev.atTime (cmdFw) 5) (specActivate) [0,0,0,0,7,0,0,0] (by decide +kernel), List.take_length, by decide +kernel⟩

theorem witness_FirmwareCommandsComplete_5 : let d : Dev := { base with fwu := { base.fwu with committing := some (1, 5) } }; d.fwu.committing = some (1, 5) := by decide

theorem witness_FirmwareCommandsComplete_6 : (inState .ready).sys.mstate ≠ .boot ∧ (inState .ready).sys.mstate ≠ .off ∧ (inState .ready).fwu.committing = none ∧ (inState .ready).slotBytes (inState .ready).otherSlot = [] := by decide

theorem witness_FirmwareCommandsComplete_7 : (inState .ready).isState [.ready, .hold, .service] = true ∧ (inState .ready).fwu.libRuns.any (fun r => r.bank == 0) = false := by decide

theorem witness_FirmwareCommandsComplete_8 : let d : Dev := { base with fwu := { base.fwu with libRuns := [libRun] } }; d.fwu.libRuns.find? (fun r => r.bank == 0) = some libRun ∧ libRun.op = 2 := by decide

theorem witness_VaultCommandsComplete_1 : ∃ d' e, (cmdReady.atTime 5).Accepts d' specKeyUpdate e ∧ byteAt e.body 0 = 3 ∧ d'.key.lcs < (keyUpdArgs e.body).keyId ∧ (keyUpdArgs e.body).keyId = d'.key.lcs + 1 ∧ d'.key.nextLcs = none := by
  have h : portPasses (cmdReady.atTime 5) specKeyUpdate lcBody = true := by
    have ha : ∀ d p, specKeyUpdate.argsOk d p = Dev.keyUpdArgsOk p := fun _ _ => rfl
    simp only [portPasses, ha, lcBody_ok]
    decide +kernel
  have hb : (macd (cmdReady.atTime 5) specKeyUpdate.code lcBody).body = lcBody := List.take_length
  refine ⟨_, _, accepts _ _ lcBody h, ?_⟩
  rw [hb]
  decide +kernel

theorem witness_VaultCommandsComplete_2 : ∃ d' e, (Dev.atTime (cmdKeys) 5).Accepts d' (specKeyUpdate) e ∧ e.body = deriveBody ∧ (byteAt e.body 0 = 1 ∨ byteAt e.body 0 = 2) := ⟨_, _, accepts (Dev.atTime (cmdKeys) 5) (specKeyUpdate) deriveBody (by decide +kernel), List.take_length, by decide +kernel⟩

theorem witness_VaultCommandsComplete_3 : ∃ d' e, (Dev.atTime (cmdKeys) 5).Accepts d' (specKeyInvalidate) e ∧ e.body = [6,0,0,0,1,0,0,0] ∧ fieldLE e.body 0 2 < 0xFF00 ∧ d'.pointer (fieldLE e.body 0 2) = some (0, 1, 1) ∧ fieldLE e.body 4 4 = 1 ∧ (1 : Nat) ≠ 0xFFFF ∧ d'.sil.readOnly = false ∧ d'.onlyWith (fieldLE e.body 0 2) useCutVerify = false ∧ d'.onlyWith (fieldLE e.body 0 2) useCommandMac = false ∧ d'.ringRoom (.keyPointer (fieldLE e.body 0 2) 0 1 0xFFFF 0) = true := ⟨_, _, accepts (Dev.atTime (cmdKeys) 5) (specKeyInvalidate) [6,0,0,0,1,0,0,0] (by decide +kernel), List.take_length, by decide +kernel⟩

theorem witness_VaultCommandsComplete_4 : let d : Dev := { base with key := { base.key with pending := [⟨1, 1, macBlob⟩] } }; d.key.pending = ⟨1, 1, macBlob⟩ :: [] := by decide

theorem witness_VaultCommandsComplete_5 : opDev.get (Reg.KEY_OP_STATUS.busy 0) = 0 ∧ inSramOrLpddr (bits (opDev0.get (Reg.KEY_OP_DESC_HI.word 0)) 7 0 * 2 ^ 32 + 0x10000000) 32 = true ∧ (∀ op ∈ [1, 2, 3, 4, 5, 6], Dev.descOk op (opDev0.opDesc 0x10000000) = true) ∧ ∀ op ∈ [1, 2, 3, 4, 5], opDev0.permit (opDev.get (Reg.KEY_OP_CFG.key_id 0)) masterAppNormal (Dev.opUsage op) = (ST_OK, some macBlob) := by decide

theorem witness_VaultCommandsComplete_6 : let d : Dev := { base with key := { base.key with ops := [keyOpRun] } }; d.key.ops.find? (fun r => r.bank == 0) = some keyOpRun ∧ keyOpRun.waits = false := by decide

theorem witness_BeatCommandsComplete_1 : running.beats = true ∧ running.beat.step = none ∧ running.pair.cfg = none ∧ running.bst.test = none := by decide

theorem witness_BeatCommandsComplete_2 : let d : Dev := { running with beat := { running.beat with step := some ⟨false, 7, none, true, true⟩ } }; d.beats = true ∧ d.beat.step = some ⟨false, 7, none, true, true⟩ ∧ d.pair.cfg = none ∧ d.bst.test = none := by decide

theorem witness_BeatCommandsComplete_3 : base.beats = false := by decide

theorem witness_BeatCommandsComplete_4 : sweepingDev.rft.sweeping = true ∧ sweepingDev.beats = true ∧ (sweepingDev.atTime 3600000).beat.sinceBase ≤ sweepingDev.deadline := by decide

theorem witness_BeatCommandsComplete_5 : sweepingDev.rft.sweeping = true ∧ sweepingDev.beats = true ∧ (sweepingDev.atTime 3600000).commitFits = false ∧ sweepingDev.get Reg.BEAT_OVR_STATE.consec < 2 := by decide

theorem witness_BeatCommandsComplete_6 : thirdOverrun.rft.sweeping = true ∧ thirdOverrun.beats = true ∧ (thirdOverrun.atTime 3600000).commitFits = false ∧ 2 ≤ thirdOverrun.get Reg.BEAT_OVR_STATE.consec ∧ 1 < thirdOverrun.get Reg.BEAT_PASSES.passes_now := by decide

theorem witness_EngineCommandsComplete_1 : ingest.ingestStage 0 = some ⟨0, [0, BitVec.ofNat 32 (5 * 65536 + 3), 0]⟩ ∧ ingest.sys.mstate = .service ∧ ingest.sys.role = .solo ∧ bits (5 * 65536 + 3) 15 8 = 0 ∧ bits (5 * 65536 + 3) 31 16 ≤ 1023 ∧ bits (5 * 65536 + 3) 7 0 = 3 ∧ ingest.nodeAt 0 = some sensor ∧ sensor.stat.takes 3 = true ∧ ingest.rft.port.length < ingest.portLimit := by decide

theorem witness_EngineCommandsComplete_2 : (nodes [stale1]).nodeAt 0 = some stale1 ∧ stale1.run.c1Eid = true ∧ expired stale1.run.c1Noexp stale1.run.c1Expiry (nodes [stale1]).beat.count = true ∧ (nodes [stale1]).servesAsActive = true ∧ (nodes [stale1]).rft.sweeping = true := by decide

theorem witness_EngineCommandsComplete_3 : overrides.rft.ovGroup.find? (fun o => o.1 == 1) = some (1, ov) ∧ overrides.rft.ovZone.find? (fun o => o.1 == 2) = some (2, ov) ∧ overrides.rft.ovSite = some ov ∧ expired ov.noexp ov.expiry overrides.beat.count = true ∧ overrides.servesAsActive = true ∧ overrides.rft.sweeping = true := by decide

theorem witness_EngineCommandsComplete_4 : let n : Node := { node 0 0 with run := { lampRun with refreshTmr := 0 } }; (nodes [n]).nodeAt 0 = some n ∧ n.stat.drives = true ∧ n.stat.refresh ≠ 0 ∧ n.run.refreshTmr = 0 ∧ n.run.c0Active = false := by decide

theorem witness_EngineCommandsComplete_5 : sweepingDev.rft.sweeping = true := by decide

theorem witness_TimeEventsComplete_1 : base.beat.running = false := by decide

theorem witness_TimeEventsComplete_2 : let d : Dev := { running with beat := { running.beat with source := .pps } }; d.beat.running = true ∧ d.alwaysDedicated [40] = true ∧ d.sys.mstate ≠ .failsafe ∧ d.beat.source = .pps ∧ mag (d.atTime 5).secondOffset ≤ 50000 := by decide

theorem witness_TimeEventsComplete_3 : ptpDev.ptpEnabled 8 = true ∧ ((8 : Fin 10).val < 8 → ptpDev.plcaRole 8 = 1) ∧ ptpDev.beat.running = true ∧ ptpDev.sys.mstate ≠ .failsafe ∧ ptpDev.tim.ptp[8]? = some ptpPort ∧ ptpPort.state = 4 ∧ ptpDev.get Reg.TIME_PTP_CFG.p2p = 1 ∧ ptpPort.delay = none := by decide

theorem witness_TimeEventsComplete_4 : (ptpDev.ptpMaySend 8 .delayReq = true ∨ ptpDev.ptpMaySend 8 .pdelayReq = true) ∧ ptpDev.trk.length = 10 := by decide

theorem witness_TimeEventsComplete_5 : ptpDev.tim.lockedPort = some (8 : Fin 10).val ∧ ptpDev.tim.ptp[8]? = some ptpPort ∧ ptpDev.ptpEnabled 8 = true ∧ (ptpDev.atTime 100000000000).ptpOver ptpPort.measuredAt 8 (sext 4 (ptpDev.get Reg.TIME_PTP_INTV.log_sync)) = true ∧ (ptpDev.atTime 100000000000).ptpOver ptpPort.announcedAt (ptpDev.get Reg.TIME_PTP_INTV.ann_timeout) (sext 4 (ptpDev.get Reg.TIME_PTP_INTV.log_announce)) = true := by decide

theorem witness_TimeEventsComplete_6 : let d : Dev := { base with regs := [(Reg.TIME_UTC.leap61.key, BitVec.ofNat 32 (2 ^ Reg.TIME_UTC.leap61.lo))] }; d.get Reg.TIME_UTC.leap61 = 1 := by decide

theorem witness_TimeEventsComplete_7 : let d : Dev := { base with regs := [(Reg.TIME_UTC.leap59.key, BitVec.ofNat 32 (2 ^ Reg.TIME_UTC.leap59.lo))] }; d.get Reg.TIME_UTC.leap61 = 0 ∧ d.get Reg.TIME_UTC.leap59 = 1 := by decide

theorem witness_TimeEventsComplete_8 : let q : TsQueue := ⟨[⟨1, 2, 3, 4⟩], 0, 0, ⟨1, 2, 3, 4⟩⟩; let d : Dev := { base with tim := { base.tim with tsq := [q] } }; d.tim.tsq[d.get Reg.TIME_TSQ_SEL.port]? = some q ∧ q.entries.head? = some q.latched ∧ d.get Reg.TIME_TSQ_SEL.port ∉ (d.atTime 5).cyc.stamped := by decide

theorem witness_TimeEventsComplete_9 : let d : Dev := { running with regs := [(Reg.TIME_PPS_OUT.pps_en.key, 1#32)] }; d.beat.running = true ∧ d.get Reg.TIME_PPS_OUT.pps_en = 1 ∧ d.tim.lastStep = none ∧ d.quiet = false ∧ (d.atTime 3).now % nsPerSec < 4 := by decide

theorem witness_TimeEventsComplete_10 : base.tim.ppsOutAt + base.get Reg.TIME_PPS_OUT.width_ms * 1000000 ≤ (base.atTime 100000000).now := by decide

theorem witness_TimeEventsComplete_11 : let d : Dev := { running with tim := { base.tim with tpo := [tpo] } }; d.tim.tpo[d.get Reg.TIME_TPO_SEL.tpo]? = some tpo ∧ (4 ≤ tpo.width && tpo.period % 4 = 0 && tpo.period ≤ 4294967292 && (tpo.period = 0 || tpo.width < tpo.period)) = true := by decide

theorem witness_TimeEventsComplete_12 : let d : Dev := { running with tim := { base.tim with tpo := [tpo] } }; d.tim.tpo[0]? = some tpo ∧ tpo.armed = true ∧ (d.atTime 3).tpoDue tpo = true ∧ d.quiet = false := by decide

theorem witness_TimeEventsComplete_13 : let d : Dev := { running with tim := { base.tim with tpo := [tpo] } }; d.tim.tpo[0]? = some tpo ∧ tpo.pulsing = true ∧ tpo.rose + tpo.width ≤ (d.atTime 36).now + 4 := by decide

theorem witness_RtcCommandsComplete_1 : rtcDev.rtc.counting = true ∧ rtcDev.rtc.talmArmed = false := by decide

theorem witness_RtcCommandsComplete_2 : (rtcDev.atTime 5).cyc.calWas = [] ∧ (puts rtcDev [(Reg.RTC_STATUS.on_vbat, 1)]).get Reg.RTC_STATUS.on_vbat = 1 := by decide

theorem witness_RtcCommandsComplete_3 : base.rtc.ticks < base.stagedHi 0 ⟨Reg.RTC_TALM_HI.word.key, 15, 0⟩ % 65536 * 2 ^ 32 + (7#32).toNat := by decide

theorem witness_RtcCommandsComplete_4 : let d : Dev := { rtcDev with rtc := { rtcDev.rtc with talmArmed := true } }; d.rtc.talmArmed = true ∧ d.rtc.counting = true := by decide

theorem witness_RtcCommandsComplete_5 : rtcDev.rtc.posted.find? (fun x => x.key == 0x080054) = some ⟨0x080054, 9⟩ := by decide

theorem witness_LinkCommandsComplete_1 : let d0 := (radDev).atTime 5; d0.rad.length = 4 ∧ d0.linkGate 0 = ST_OK ∧ d0.indexOk 0 (d0.selectedLink 0 0) = true ∧ d0.radioParams 0 (d0.stagedRadio 0 0) (d0.get (Reg.RAD_LINK_FC.word 0 0)) = true ∧ (d0.useKey (d0.stagedRadio 0 0).keyId masterRadio useRadioLink).1 = ST_OK ∧ d0.findLink 0 0 = none := by decide

theorem witness_LinkCommandsComplete_2 : let d0 := (radLinks [lostLink]).atTime 5; d0.rad.length = 4 ∧ d0.linkGate 0 = ST_OK ∧ d0.indexOk 0 (d0.selectedLink 0 0) = true ∧ d0.radioParams 0 (d0.stagedRadio 0 0) (d0.get (Reg.RAD_LINK_FC.word 0 0)) = true ∧ (d0.useKey (d0.stagedRadio 0 0).keyId masterRadio useRadioLink).1 = ST_OK ∧ d0.findLink 0 0 = some lostLink ∧ lostLink.lost = true := by decide

theorem witness_LinkCommandsComplete_3 : let d0 := (wiredDev).atTime 5; d0.trk.length = 10 ∧ d0.linkGate 4 = ST_OK ∧ d0.indexOk 4 (d0.selectedLink 4 0) = true ∧ Dev.wiredParams (d0.stagedWired 0 0) (d0.get (Reg.TRK_LINK_FC.word (trkWindow 0) 0)) = true ∧ (d0.useKey (d0.stagedWired 0 0).keyId masterTrunk useTrunkLink).1 = ST_OK ∧ d0.findLink 4 0 = none := by decide

theorem witness_LinkCommandsComplete_4 : let d0 := (wiredLinks [lostLink]).atTime 5; d0.trk.length = 10 ∧ d0.linkGate 4 = ST_OK ∧ d0.indexOk 4 (d0.selectedLink 4 0) = true ∧ Dev.wiredParams (d0.stagedWired 0 0) (d0.get (Reg.TRK_LINK_FC.word (trkWindow 0) 0)) = true ∧ (d0.useKey (d0.stagedWired 0 0).keyId masterTrunk useTrunkLink).1 = ST_OK ∧ d0.findLink 4 0 = some lostLink ∧ lostLink.lost = true := by decide

theorem witness_LinkCommandsComplete_5 : (radLinks [link]).rad.length = 4 ∧ (radLinks [link]).linkGate 0 = ST_OK ∧ ((radLinks [link]).findLink 0 ((radLinks [link]).selectedLink 0 0)).isSome = true := by decide

theorem witness_LinkCommandsComplete_6 : (wiredLinks [link]).trk.length = 10 ∧ (wiredLinks [link]).linkGate (portMedium 0) = ST_OK ∧ ((wiredLinks [link]).findLink (portMedium 0) ((wiredLinks [link]).selectedLink (portMedium 0) 0)).isSome = true := by decide

theorem witness_LinkCommandsComplete_7 : let d : Dev := { wiredLinks [link] with rad := List.replicate 4 RadSt.reset }; d.rad.length = 4 ∧ d.trk.length = 10 ∧ d.findLink 4 0 = some link ∧ link.lost = false ∧ link.lastRx + link.cfg.supervision ≤ d.beat.count := by decide

theorem witness_LinkCommandsComplete_8 : (radLinks [link]).rad.length = 4 ∧ ((radLinks [link]).radAt 0).event = some ⟨0, 0, 9⟩ ∧ (radLinks [link]).findLink 0 0 = some link ∧ link.awaiting = true ∧ ((radLinks [link]).atTime 5000000).answerBy 0 ≤ ((radLinks [link]).atTime 5000000).now := by decide

theorem witness_LinkCommandsComplete_9 : (radLinks [link]).rad.length = 4 ∧ (radLinks [link]).findLink 0 0 = some link ∧ ((radLinks [link]).radAt 0).plan = some { plan with nCh := 4 } ∧ link.lost = false ∧ (radLinks [link]).linksRun = true ∧ (radLinks [link]).mediumPresent 0 = true ∧ (radLinks [link]).mediumTested 0 = false ∧ (radLinks [link]).eventDue link = true ∧ ((radLinks [link]).radAt 0).event.isSome = true := by decide

theorem witness_LinkCommandsComplete_10 : (idleLinks [link]).rad.length = 4 ∧ (idleLinks [link]).findLink 0 0 = some link ∧ ((idleLinks [link]).radAt 0).plan = some { plan with nCh := 4 } ∧ link.lost = false ∧ (idleLinks [link]).linksRun = true ∧ (idleLinks [link]).mediumPresent 0 = true ∧ (idleLinks [link]).mediumTested 0 = false ∧ (idleLinks [link]).eventDue link = true ∧ ((idleLinks [link]).atTime 5).eventStart 0 (((idleLinks [link]).atTime 5).beat.base + link.cfg.anchorUs * 1000) ≤ ((idleLinks [link]).atTime 5).beat.base + link.cfg.anchorUs * 1000 + 500000 ∧ ((idleLinks [link]).radAt 0).event = none ∧ ((idleLinks [link]).radAt 0).waking = none ∧ (((idleLinks [link]).radAt 0).claimed = false ∨ 2000 ≤ link.cfg.anchorUs) ∧ link.cfg.wake = false := by decide

theorem witness_LinkCommandsComplete_11 : (idleLinks [wakeLink]).findLink 0 0 = some wakeLink ∧ (idleLinks [wakeLink]).eventDue wakeLink = true ∧ ((idleLinks [wakeLink]).atTime 5).eventStart 0 (((idleLinks [wakeLink]).atTime 5).beat.base + wakeLink.cfg.anchorUs * 1000) ≤ ((idleLinks [wakeLink]).atTime 5).beat.base + wakeLink.cfg.anchorUs * 1000 + 500000 ∧ ((idleLinks [wakeLink]).radAt 0).claimed = false ∧ wakeLink.cfg.wake = true ∧ dwellRefuses ((idleLinks [wakeLink]).radAt 0) plan.wakeCh plan.mode 32080 false = none := by decide

theorem witness_LinkCommandsComplete_12 : (wiredLinks [link]).findLink (portMedium 0) 0 = some link ∧ link.lost = false ∧ link.sentNow ≠ 0 ∧ link.markAt + link.cfg.ackTimeout * 100000 ≤ ((wiredLinks [link]).atTime 200000).now := by decide

theorem witness_LinkCommandsComplete_13 : (wiredLinks [link]).findLink (portMedium 0) 0 = some link ∧ link.lost = false ∧ link.lastTx + link.cfg.keepalive ≤ (wiredLinks [link]).beat.count := by decide

theorem witness_MediumCommandsComplete_1 : radDev.rad.length = 4 := by decide

theorem witness_MediumCommandsComplete_2 : toRadio.joistRuns = true ∧ toRadio.mediumPresent (0 : Fin 14).val = true ∧ ((toRadio.atTime 5).takeForConsumer (0 : Fin 14).val).map (·.1) = some csItem ∧ (toRadio.atTime 5).mirrorHeld csItem = false ∧ csItem.producer = producerEngine ∧ (toRadio.atTime 5).ringFits 0 (Dev.radioItemSize csItem) = true := by decide

theorem witness_MediumCommandsComplete_3 : (listening.radAt 0).plan = some { plan with nCh := 4, wakeRx := false } ∧ bit (listening.get Reg.BST_UNIT0.radios) 0 = true ∧ listening.mediumTested 0 = false ∧ (listening.atTime 5).mainReceiver 0 = true ∧ rx5.phrOk = true ∧ rx5.fcsOk = true ∧ 16 ≤ rx5.psdu.length ∧ rx5.psdu.length ≤ 62 ∧ byteAt rx5.psdu 0 % 16 = 5 ∧ byteAt rx5.psdu 1 = 1 ∧ fieldLE rx5.psdu 2 2 = plan.netId ∧ bits (fieldLE rx5.psdu 4 2) 11 10 = 0 := by decide +kernel

theorem witness_MediumCommandsComplete_4 : let f : RadioRx := { rx5 with mpdu := rx5Body ++ [0, 0, 0, 0] }; (listening.radAt 0).plan = some { plan with nCh := 4, wakeRx := false } ∧ bit (listening.get Reg.BST_UNIT0.radios) 0 = true ∧ listening.mediumTested 0 = false ∧ (listening.atTime 5).mainReceiver 0 = true ∧ f.phrOk = true ∧ f.fcsOk = false := by decide +kernel

theorem witness_MediumCommandsComplete_5 : beaconing.rad.length = 4 ∧ (beaconing.radAt 0).plan = some beaconPlan ∧ beaconing.linksRun = true ∧ beaconing.mediumPresent 0 = true ∧ beaconing.mediumTested 0 = false ∧ beaconBeat beaconPlan beaconing.beat.count = true ∧ (beaconing.atTime 9999).beat.sinceBase / 1000 = beaconPlan.beaconOffset ∧ (beaconing.radAt 0).beaconBeat ≠ some beaconing.beat.count ∧ beaconKey.1 = ST_OK ∧ (beaconing.radAt 0).event = none ∧ (beaconKey.2.2.tryAir 0 (maskTurn beaconPlan.beaconMap 0) beaconPlan.mode beaconPlan.preamble (beaconKey.2.2.broadcast 0 beaconKey.2.1 Dev.fcBeacon beaconKey.2.2.beaconPayload).1).1 = .sent := by decide

theorem witness_MediumCommandsComplete_6 : let d : Dev := toUplink; d.joistRuns = true ∧ d.mediumPresent (12 : Fin 14).val = true ∧ ((d.atTime 5).takeForConsumer 12).map (·.1) = some rawItem ∧ (d.atTime 5).mirrorHeld rawItem = false ∧ rawItem.producer ≠ producerEngine ∧ bits (rawItem.words.headD 0) 15 0 = 0xFFFF ∧ d.trk.length = 10 ∧ (d.trkAt 8).launch.length < 16 ∧ 60 ≤ bits (rawItem.words.headD 0) 26 16 ∧ bits (rawItem.words.headD 0) 26 16 ≤ 1518 ∧ bit (rawItem.words.headD 0) 28 = false := by decide

theorem witness_MediumCommandsComplete_7 : radDev.rad.length = 4 ∧ (radDev.radAt 0).plan = some { plan with nCh := 4 } ∧ plan.wakeRx = true ∧ 0x123 = plan.wakeAddr ∧ bit (radDev.get Reg.BST_UNIT0.radios) 0 = true := by decide

theorem witness_MediumCommandsComplete_8 : (listening.radAt 0).wakeUntil ≤ (listening.atTime 5).now := by decide

theorem witness_MediumCommandsComplete_9 : let f : WiredRx := ethBad; wiredBase.portUp 8 = true ∧ wiredBase.mediumTested (portMedium 8) = false ∧ f.fcsOk = false := by decide +kernel

theorem witness_MediumCommandsComplete_10 : let f : WiredRx := eth 0x88 8 1; wiredBase.portUp 8 = true ∧ wiredBase.mediumTested (portMedium 8) = false ∧ f.fcsOk = true ∧ 60 ≤ f.frame.length ∧ f.frame.length + 4 ≤ wiredBase.maxFrame (portMedium 8) ∧ beNat (slice f.frame 12 2) = 0x8808 ∧ beNat (slice f.frame 14 2) = 1 := by decide +kernel

theorem witness_MediumCommandsComplete_11 : let f : WiredRx := eth 8 0 0; wiredBase.portUp 8 = true ∧ wiredBase.mediumTested (portMedium 8) = false ∧ f.fcsOk = true ∧ 60 ≤ f.frame.length ∧ f.frame.length + 4 ≤ wiredBase.maxFrame (portMedium 8) ∧ beNat (slice f.frame 12 2) = 0x0800 ∧ wiredBase.get (Reg.TRK_WAKE_CTRL.sleep (trkWindow 8)) = 0 := by decide +kernel

theorem witness_WiredCommandsComplete_1 : wiredBase.plcaRole 0 = 1 := by decide

theorem witness_WiredCommandsComplete_2 : standIn.trk.length = 10 ∧ standIn.plcaRole 0 = 3 ∧ standIn.c0Due 0 ≠ [] ∧ (standIn.trkAt 0).silent = false ∧ standIn.quiet = false ∧ (standIn.trkAt 0).heard = false ∧ 100000 ≤ (standIn.atTime 100000).beat.sinceBase := by decide

theorem witness_WiredCommandsComplete_3 : let d : Dev := onPort (fun s => { s with c0 := [c0Frame] }); d.trk.length = 10 ∧ d.quiet = false ∧ d.portUp 8 = true ∧ d.mediumTested (portMedium 8) = false ∧ d.c0Tested (portMedium 8) = false ∧ (d.trkAt 8).sending = none ∧ (d.trkAt 8).pauseEnd ≤ (d.atTime 5).now ∧ d.c0Due 8 = c0Frame :: [] := by decide

theorem witness_WiredCommandsComplete_4 : let d : Dev := { onPort (fun s => { s with c0 := [c0Frame] }) with sys := { wiredBase.sys with mstate := .failsafe } }; d.trk.length = 10 ∧ (0 : Fin 10).val < 8 ∧ d.plcaRole 0 = 2 ∧ d.quiet = false ∧ d.portUp 0 = true ∧ d.mediumTested (portMedium 0) = false ∧ d.c0Tested (portMedium 0) = false ∧ (d.trkAt 0).silent = false ∧ (d.trkAt 0).idle = false := by decide

theorem witness_WiredCommandsComplete_5 : let d : Dev := onPort (fun s => { s with gates := [⟨0, 15⟩, ⟨9, 3⟩] }); (d.trkAt 8).gates[1]? = some ⟨9, 3⟩ ∧ 9 * 1000 ≤ (d.atTime 9000).beat.sinceBase := by decide

theorem witness_WiredCommandsComplete_6 : let d : Dev := puts wiredBase [(Reg.TRK_GBE_CFG.pause_en 14, 1)]; d.trk.length = 10 ∧ d.get (Reg.TRK_GBE_CFG.pause_en (trkWindow 8)) = 1 ∧ (9 : Nat) ≠ 0 ∧ (d.trkAt 8).sending = none := by decide

theorem witness_WiredCommandsComplete_7 : let d : Dev := puts wiredBase [(Reg.TRK_STATUS.pause_active 14, 1)]; d.trk.length = 10 ∧ d.get (Reg.TRK_STATUS.pause_active (trkWindow 8)) = 1 ∧ (d.trkAt 8).pauseEnd ≤ (d.atTime 5).now := by decide

theorem witness_WiredCommandsComplete_8 : let d : Dev := puts wiredBase [(Reg.TRK_GBE_CFG.pfc_mask 14, 1)]; d.trk.length = 10 ∧ bit (d.get (Reg.TRK_GBE_CFG.pfc_mask (trkWindow 8))) 0 = true := by decide

theorem witness_WiredCommandsComplete_9 : wiredBase.trk.length = 10 ∧ wiredBase.get (Reg.TRK_MDIO_CMD.busy 14) = 0 ∧ 1 ≤ bits (BitVec.ofNat 32 (2 * 2 ^ 28)).toNat 30 28 ∧ bits (BitVec.ofNat 32 (2 * 2 ^ 28)).toNat 30 28 ≤ 5 := by decide

theorem witness_WiredCommandsComplete_10 : let d : Dev := puts (onPort (fun s => { s with mdioOp := 2 })) [(Reg.TRK_MDIO_CMD.busy 14, 1)]; d.get (Reg.TRK_MDIO_CMD.busy 14) = 1 ∧ (d.trkAt 8).mdioOp = 2 := by decide

theorem witness_WiredCommandsComplete_11 : let d : Dev := onPort (fun s => { s with sending := some .plain }); d.trk.length = 10 ∧ (d.trkAt 8).sending = some .plain ∧ (d.trkAt 8).pauseDeferred = none := by decide

theorem witness_WiredCommandsComplete_12 : let d : Dev := puts (onPort (fun s => { s with launch := [rawTx] })) [(Reg.TRK_GATE.gates 14, 15)]; d.trk.length = 10 ∧ ((d.trkAt 8).launch.filter (fun r => r.launch ≤ (d.atTime 5).now)).head? = some rawTx ∧ (d.trkAt 8).sending = none ∧ (d.trkAt 8).pauseEnd ≤ (d.atTime 5).now ∧ d.portUp 8 = true ∧ d.get (Reg.TRK_GATE.window (trkWindow 8)) = 0 ∧ (d.atTime 5).gateOpen 8 3 (rawTx.len + 4) = true ∧ (d.atTime 5).pfcHeld 8 ((d.atTime 5).rawPcp rawTx) = false ∧ d.quiet = false := by decide

theorem witness_HostLinkCommandsComplete_1 : base.hlRuns = true ∧ [1#64, 2#64].length ≤ 256 ∧ base.hlk.down.length + [1#64, 2#64].length ≤ hlDepth := by decide

theorem witness_HostLinkCommandsComplete_2 : let d : Dev := hl (fun h => { h with up := [4, 5, 6], read := 1 }); d.hlRuns = true ∧ (2 : Nat) ≤ 256 ∧ d.hlk.read + 2 + (d.atTime 5).cyc.upNew ≤ d.hlk.up.length := by decide

theorem witness_HostLinkCommandsComplete_3 : let d : Dev := hl (fun h => { h with up := [4, 5, 6], read := 2 }); d.hlRuns = true ∧ (0 : Nat) < 1 ∧ (1 : Nat) ≤ 256 ∧ 1 ≤ d.hlk.read := by decide

theorem witness_HostLinkCommandsComplete_4 : let d : Dev := hl (fun h => { h with down := [hlHead, 7] }); d.hlk.down.take (d.dnFill - (d.atTime 5).cyc.downNew) = hlHead :: [7] ∧ frameBody hlHead = some 1 ∧ 1 ≤ [7].length ∧ frameKind hlHead ≠ 2 ∧ d.joistRuns = true ∧ ((d.atTime 5).push ((d.jst.qcfg.findIdx? (fun c => c.hostDown)).getD 64) (bits hlHead 19 0) producerHost ([7].take 1)).2.1 = ST_OK := by decide

theorem witness_HostLinkCommandsComplete_5 : let d : Dev := hl (fun h => { h with down := [hlEnv, 7, 8] }); d.hlk.down.take (d.dnFill - (d.atTime 5).cyc.downNew) = hlEnv :: [7, 8] ∧ frameBody hlEnv = some 2 ∧ 2 ≤ [7, 8].length ∧ frameKind hlEnv = 2 := by decide

theorem witness_HostLinkCommandsComplete_6 : let d : Dev := hl (fun h => { h with staging := [(0, [hlHead])] }); d.hlk.staging.find? (fun x => x.1 == 0) = some (0, [hlHead]) ∧ [hlHead].length < 9 := by decide

theorem witness_HostLinkCommandsComplete_7 : let d : Dev := hl (fun h => { h with staging := [(0, [hlHead, 7])] }); d.hlk.staging.find? (fun x => x.1 == 0) = some (0, hlHead :: [7]) ∧ frameBody hlHead = some [7].length ∧ d.hlk.up.length + ([7].length + 1) ≤ hlDepth := by decide

theorem witness_HostLinkCommandsComplete_8 : let d : Dev := puts (hl (fun h => { h with up := [4], upAt := [0] })) [(Reg.HLK_UP_TMO.us, 100)]; d.get Reg.HLK_UP_TMO.us ≠ 0 ∧ d.upUnread ≠ 0 ∧ ∃ x ∈ d.hlk.upAt.drop d.hlk.read, x + d.get Reg.HLK_UP_TMO.us * 1000 ≤ (d.atTime 100000).now := by decide

theorem witness_HostLinkCommandsComplete_9 : let d : Dev := puts base [(Reg.CLK_STATUS.trimmed, 1)]; (true && d.flag Reg.CLK_STATUS.trimmed) ≠ d.flag Reg.USB_STATE.attached ∧ (true && base.flag Reg.CLK_STATUS.trimmed) = base.flag Reg.USB_STATE.attached := by decide

theorem witness_MeterAndSillComplete_1 : meters.meterCfg 0 = some meterCfg ∧ meters.measured 0 = true ∧ Dev.cycleLength meterCfg ⟨[(1, 2), (3, 4)], (5, 6), some 20000000⟩ = some 20000000 ∧ (meters.meterCfg 0).any (fun k => !k.dc) = true := by decide

theorem witness_MeterAndSillComplete_2 : let k : MeterCfg := { meterCfg with dc := true }; Dev.cycleLength k ⟨List.replicate 160 (0, 0), (0, 0), none⟩ = some 20000000 ∧ Dev.cycleLength k ⟨List.replicate 160 (0, 0), (0, 0), some 7⟩ = some 20000000 := by decide +kernel

theorem witness_MeterAndSillComplete_3 : meters.emittedOf 0 < meters.pulsesDue 0 ∧ meters.pulseUsed 0 = true ∧ meters.metersActive = true ∧ meters.isState [.off, .failsafe] = false ∧ (meters.mtr.lastEdge.getD 0 0 = 0 ∨ meters.mtr.lastEdge.getD 0 0 + 60000000 ≤ (meters.atTime 5).now) := by decide

theorem witness_MeterAndSillComplete_4 : let d : Dev := puts { base with mtr := { base.mtr with lastEdge := [7, 0] } } [(Reg.MTR_STATUS.pout_active, 1)]; d.mtr.lastEdge.getD 0 0 + 30000000 ≤ (d.atTime 30000007).now := by decide

theorem witness_MeterAndSillComplete_5 : meters.isState [.off, .failsafe] = false ∧ (meters.meterCfg 0).any (fun k => k.s0 != 0) = true ∧ meters.mtr.ch[0]? = some meterCh := by decide

theorem witness_MeterAndSillComplete_6 : meters.isState [.off, .failsafe] = false ∧ meters.meterCfg 0 = some meterCfg ∧ meterCfg.reconMin ≠ 0 ∧ meters.metersActive = true ∧ bit (meters.meterCh 0).flags 3 = true ∧ ((meters.meterCh 0).start / (meterCfg.reconMin * 60) + 1) * (meterCfg.reconMin * 60) ≤ (meters.atTime 5).nowSec := by decide

theorem witness_MeterAndSillComplete_7 : meters.mtr.cfg.isSome = true ∧ meters.isState [.off, .boot, .failsafe] = false := by decide

theorem witness_MeterAndSillComplete_8 : let d : Dev := puts base [(Reg.MTR_ARC_STATUS.busy, 1)]; d.get Reg.MTR_ARC_STATUS.busy = 1 := by decide

theorem witness_MeterAndSillComplete_9 : withNodes.pwr.pf = none ∧ withNodes.sys.mstate = .ready ∧ withNodes.get (Reg.SIL_LPOST_EID.eid 0) < withNodes.nodeCount ∧ withNodes.get (Reg.SIL_LPOST_VAL_HI.word 0) * 2 ^ 32 + withNodes.get (Reg.SIL_LPOST_VAL_LO.word 0) < 2 ^ 32 := by decide

theorem witness_MeterAndSillComplete_10 : let d : Dev := puts (sill (fun s => { s with current := some jreq })) [(Reg.SIL_JW_ADDR_LO.word 0, 0x10000000)]; let v := (BitVec.ofNat 32 (0x8001 * 65536 + 2)).toNat; 0x8000 ≤ bits v 31 16 ∧ bits v 13 0 ≤ 8192 ∧ inSramOrLpddr (bits (d.get (Reg.SIL_JW_ADDR_HI.word 0)) 7 0 * 2 ^ 32 + d.get (Reg.SIL_JW_ADDR_LO.word 0)) (bits v 13 0) = true ∧ d.sil.current.isSome = true := by decide

theorem witness_MeterAndSillComplete_11 : let d : Dev := sill (fun s => { s with current := some jreq }); d.sil.current = some jreq ∧ d.sil.queue = [] ∧ (d.sil.readOnly = false ∨ jreq.val.typeKey.1 ≤ 3) ∧ d.ringRoom jreq.val = true ∧ d.pwr.pf = none := by decide

theorem witness_MeterAndSillComplete_12 : (sill (fun s => { s with mounted := true })).sil.mounted = true := by decide

theorem witness_ClockCommandsComplete_1 : let d : Dev := { clocks with pwr := { base.pwr with rcFailed := true } }; d.sys.mstate ≠ .off ∧ d.pwr.failedAt = none ∧ d.pwr.stopped = false ∧ d.pwr.rcFailed = true := by decide

theorem witness_ClockCommandsComplete_2 : clocks.sys.mstate ≠ .off ∧ clocks.pwr.failedAt = none ∧ clocks.pwr.stopped = false ∧ clocks.pwr.rcFailed = false ∧ clocks.pwr.pf = none := by decide

theorem witness_ClockCommandsComplete_3 : let d : Dev := { inState .failsafe with pwr := { base.pwr with failedAt := some 3 } }; d.sys.mstate ≠ .off ∧ d.pwr.failedAt = some 3 ∧ d.pwr.stopped = false ∧ d.pwr.pf = none := by decide

theorem witness_ClockCommandsComplete_4 : let d : Dev := { inState .failsafe with pwr := { base.pwr with failedAt := some 3, pf := some pfRun } }; d.sys.mstate ≠ .off ∧ d.pwr.failedAt = some 3 ∧ d.pwr.stopped = false ∧ d.pwr.pf = some pfRun := by decide

theorem witness_ClockCommandsComplete_5 : clocks.sys.mstate ≠ .off ∧ clocks.mainClockRuns = true ∧ clocks.get Reg.CLK_STATUS.rc_ok = 1 ∧ (500 : Int) < 501 ∧ (puts clocks [(Reg.USB_STATE.attached, 1)]).get Reg.USB_STATE.attached = 1 := by decide

theorem witness_ClockCommandsComplete_6 : clocks.sys.mstate ≠ .off ∧ clocks.get Reg.CLK_STATUS.xtal40_ok = 1 ∧ clocks.get Reg.CLK_STATUS.rc_ok = 1 := by decide

theorem witness_ClockCommandsComplete_7 : let d : Dev := { onRc with pwr := { onRc.pwr with muxes := [] } }; d.sourceRuns 1 = true ∧ d.sourceRuns (d.muxAt 2) = false := by decide

theorem witness_PowerCommandsComplete_1 : (inState .off).pwr.pf = none ∧ (inState .off).sys.mstate = .off ∧ (inState .off).pwr.heldOff = false ∧ 9000 ≤ 9000 := by decide

theorem witness_PowerCommandsComplete_2 : let d : Dev := { inState .ready with pwr := { base.pwr with pf := some pfRun } }; d.pwr.pf = some pfRun ∧ pfRun.vinReturned = none := by decide

theorem witness_PowerCommandsComplete_3 : let d : Dev := puts (inState .ready) [(Reg.PWR_STATUS.pf_armed, 1)]; d.sys.mstate ≠ .off ∧ d.pwr.pf = none ∧ d.get Reg.PWR_STATUS.pf_armed = 1 ∧ d.pwr.stopped = false ∧ d.sil.mounted = false := by decide

theorem witness_PowerCommandsComplete_4 : let d : Dev := { (puts (inState .ready) [(Reg.PWR_STATUS.pf_armed, 1)]) with pwr := { base.pwr with stopped := true } }; d.sys.mstate ≠ .off ∧ d.pwr.pf = none ∧ d.get Reg.PWR_STATUS.pf_armed = 1 ∧ d.pwr.stopped = true := by decide

theorem witness_PowerCommandsComplete_5 : let d : Dev := { (puts (inState .ready) [(Reg.PWR_STATUS.pf_armed, 1)]) with sil := { base.sil with mounted := true } }; d.sys.mstate ≠ .off ∧ d.pwr.pf = none ∧ d.get Reg.PWR_STATUS.pf_armed = 1 ∧ d.pwr.stopped = false ∧ d.sil.mounted = true := by decide

theorem witness_PowerCommandsComplete_6 : base.sys.mstate = .boot ∧ (puts base [(Reg.BST_STATUS.step, 1)]).get Reg.BST_STATUS.step = 1 ∧ (puts base [(Reg.BST_STATUS.step, 1)]).get Reg.PWR_STATUS.vhold_ok = 0 ∧ base.pwr.vholdWaited = false ∧ (puts base [(Reg.BST_STATUS.step, 1)]).bst.stepAt + 2000000000 ≤ ((puts base [(Reg.BST_STATUS.step, 1)]).atTime 2000000000).now := by decide

theorem witness_PowerCommandsComplete_7 : base.isState [.boot, .test] = true := by decide

theorem witness_PowerCommandsComplete_8 : let d : Dev := { inState .ready with pwr := { base.pwr with pf := some pfRun } }; d.pwr.pf = some pfRun := by decide

theorem witness_PowerCommandsComplete_9 : let d : Dev := { inState .ready with pwr := { base.pwr with pf := some { pfRun with vinReturned := some 3 } } }; d.pwr.pf = some { pfRun with vinReturned := some 3 } ∧ ({ pfRun with vinReturned := some 3 } : PfRun).vinReturned.isSome = true ∧ pfRun.rstLow = false := by decide

theorem witness_ResetCommandsComplete_1 : (inState .ready).pwr.pf = none ∧ (inState .ready).sys.mstate ≠ .off ∧ (inState .ready).pwr.stopped = false := by decide

theorem witness_ResetCommandsComplete_2 : let d : Dev := { inState .ready with pwr := { base.pwr with pf := some pfRun, rstLow := true } }; d.pwr.pf = some pfRun ∧ d.pwr.rstLow = true := by decide

theorem witness_ResetCommandsComplete_3 : let d : Dev := { inState .off with pwr := { base.pwr with rstLow := true } }; d.pwr.rstLow = true ∧ d.pwr.pf = none ∧ d.sys.mstate = .off ∧ d.pwr.vinLow = false ∧ d.pwr.stopped = false := by decide

theorem witness_BootCommandsComplete_1 : let d : Dev := puts (atStep 1) [(Reg.PWR_STATUS.vhold_ok, 1)]; d.isState [.boot, .unframed] = true ∧ d.get Reg.BST_STATUS.step = 1 ∧ d.get Reg.PWR_STATUS.vhold_ok = 1 ∧ d.sys.warm = false ∧ (d.atTime 5).holdupDue = false := by decide

theorem witness_BootCommandsComplete_2 : let d : Dev := { atStep 3 with key := { base.key with rootPresent := true } }; d.isState [.boot, .unframed] = true ∧ d.get Reg.BST_STATUS.step = 3 ∧ d.key.rootPresent = true ∧ d.sys.warm = false := by decide

theorem witness_BootCommandsComplete_3 : (atStep 5).isState [.boot, .unframed] = true ∧ (atStep 5).get Reg.BST_STATUS.step = 5 ∧ (atStep 5).sys.warm = false := by decide

theorem witness_BootCommandsComplete_4 : (atStep 6).isState [.boot, .unframed] = true ∧ (atStep 6).get Reg.BST_STATUS.step = 6 ∧ (atStep 6).bst.debug = false := by decide

theorem witness_BootCommandsComplete_5 : (atStep 7).get Reg.BST_STATUS.step = 7 ∧ (atStep 7).cutPtr = none ∧ (atStep 7).sys.warm = false := by decide

theorem witness_BootCommandsComplete_6 : (atStep 10).get Reg.BST_STATUS.step = 10 ∧ (atStep 10).sys.mstate = .boot ∧ (atStep 10).fwu.activating = none := by decide

theorem witness_BootCommandsComplete_7 : (atStep 1).get Reg.BST_STATUS.step = 1 ∧ (1 : Nat) ≠ 0 ∧ min 255 ((atStep 1).consec 1 + 1) < Dev.failLimit 1 ∧ (atStep 1).bst.stepAt + (atStep 1).stepLimit 1 ≤ ((atStep 1).atTime 100000000000).now ∧ (atStep 1).bst.stepAt + (if (atStep 1).pathOf 1 = 1 then 500000000 else 50000000) ≤ ((atStep 1).atTime 50000000).now ∧ (atStep 1).sys.mstate = .boot := by decide

theorem witness_BootCommandsComplete_8 : failing.isState [.boot, .unframed] = true ∧ failing.get Reg.BST_STATUS.step = 1 ∧ Dev.failLimit 1 ≤ min 255 (failing.consec 1 + 1) ∧ failing.bst.stepAt + failing.stepLimit 1 ≤ (failing.atTime 100000000000).now ∧ failing.bst.stepAt + (if failing.pathOf 1 = 1 then 500000000 else 50000000) ≤ (failing.atTime 500000000).now ∧ failing.sys.mstate = .boot := by decide

theorem witness_TestCommandsComplete_1 : (testing [1, 3] true).bst.test = some (testRun [1, 3] true) ∧ (testing [1, 3] true).sys.mstate = .test ∧ 1 ∈ (testRun [1, 3] true).running ∧ ∃ u ∈ (testRun [1, 3] true).running, u ≠ 1 := by decide

theorem witness_TestCommandsComplete_2 : (testing [1] true).bst.test = some (testRun [1] true) ∧ (testRun [1] true).running = [1] ∧ (testRun [1] true).waiting = [] ∧ (testRun [1] true).restart = true := by decide

theorem witness_TestCommandsComplete_3 : (testing [1] false).bst.test = some (testRun [1] false) ∧ (testRun [1] false).running = [1] ∧ (testRun [1] false).waiting = [] ∧ (testRun [1] false).restart = false := by decide

theorem witness_TestCommandsComplete_4 : (inState .service).bst.test = none ∧ (inState .service).isState [.unframed, .ready, .service, .hold, .failsafe] = true ∧ Dev.unitTestNos.contains 7 = true ∧ 3 ∈ [3] := by decide

theorem witness_TestCommandsComplete_5 : (shutting true).bst.shut = some ⟨true, false, 0, 1⟩ ∧ (shutting true).isState [.unframed, .ready, .service, .failsafe] = true := by decide

theorem witness_LightCommandsChange_1 : let d : Dev := { light with lgt := { light.lgt with safe := true } }; d.lgt.safe = true ∧ (d.atTime 0).frameDue 1 = true ∧ d.lgt.frameAt ≠ some (d.atTime 0).frameInstant := by decide

theorem witness_LightCommandsChange_2 : dark.lgt.safe = false ∧ dark.lightRuns = false ∧ (dark.atTime 0).frameDue 1 = true ∧ (dark.atTime 0).frameDue 2 = true ∧ dark.lgt.frameAt ≠ some (dark.atTime 0).frameInstant ∧ dark.lgt.scanAt ≠ some (dark.atTime 0).frameInstant := by decide

theorem witness_LightCommandsChange_3 : let d : Dev := { light with sys := { light.sys with mstate := .test } }; (light.atTime 1).frameDue 1 = false ∧ d.lightHeld = true ∧ (d.atTime 0).frameDue 2 = true ∧ d.lgt.scanAt ≠ some (d.atTime 0).frameInstant := by decide

theorem witness_LightCommandsChange_4 : light.lgt.safe = false ∧ light.lightRuns = true ∧ light.matCfg 0 = some matCfg ∧ light.lgt.matrices.length = 2 ∧ (light.matAt 0).flip = false ∧ light.lightHeld = false ∧ (light.atTime 2000000).frameDue 2 = true ∧ light.lgt.scanAt ≠ some (light.atTime 2000000).frameInstant ∧ (light.atTime 2000000).frameLen 2 ≤ (light.atTime 2000000).now % 1000000000 := by decide +kernel

theorem witness_LightCommandsChange_5 : flipping.lgt.safe = false ∧ flipping.lightRuns = true ∧ flipping.matCfg 0 = some matCfg ∧ flipping.lgt.matrices.length = 2 ∧ (flipping.matAt 0).flip = true ∧ (flipping.matAt 0).flipAt ≠ (flipping.atTime 0).now ∧ (flipping.atTime 0).frameDue 2 = true ∧ flipping.lgt.scanAt ≠ some (flipping.atTime 0).frameInstant ∧ flipping.lightHeld = false := by decide +kernel

theorem witness_LightCommandsChange_6 : light.lgt.cfg.bind (fun c => c.ntcs[0]?) = some ntcCfg ∧ ntcCfg.enabled = true ∧ (1500 : Int) < 1501 := by decide

theorem witness_LightCommandsChange_7 : light.lgt.cfg.bind (fun c => c.ntcs[0]?) = some ntcCfg ∧ (-500 : Int) ≤ 850 ∧ (850 : Int) ≤ 1500 := by decide

theorem witness_LightCommandsChange_8 : light.lgt.strings.length = 8 ∧ ((light.strAt (light.get Reg.LGT_STR_SEL.string)).engine = false ∧ light.strCfg (light.get Reg.LGT_STR_SEL.string) ≠ none) ∧ (engineStr.strAt 0).engine = true := by decide

theorem witness_LightCommandsChange_9 : light.lgt.matrices.length = 2 ∧ ((light.matAt 0).page0.length = 512 ∧ (light.matAt 0).page1.length = 512) := by decide +kernel

theorem witness_StringFrameOpens : ((0 : Nat) < 8 ∧ engineStr.lgt.strings.length = 8 ∧ engineStr.lgt.safe = false ∧ engineStr.lightRuns = true ∧ engineStr.strCfg 0 = some strCfg ∧ (engineStr.strAt 0).engine = true ∧ (engineStr.strAt 0).debt = 0 ∧ engineStr.diagMode 0 = false ∧ 0 < (engineStr.usable 0).length ∧ (engineStr.atTime 0).frameDue 1 = true ∧ engineStr.lgt.frameAt ≠ some (engineStr.atTime 0).frameInstant) ∧ ∀ k, (([] : List (List Nat)).getD 0 []).getD k 0 ≤ strCfg.vOpen := ⟨by decide, fun k => by simp⟩

theorem witness_RegisterCommandsComplete_1 : loRegs.contains 0x080008 = true ∧ base.blockTested (regPlace 0x080008) = false ∧ 0x080008 ≠ 0x070004 := by decide

theorem witness_RegisterCommandsComplete_2 : (inState .ready).accessOk ⟨⟨.store, 2, 0x0102⟩, 0x10000000⟩ = true ∧ (Access.mk ⟨.store, 2, 0x0102⟩ 0x10000000).addr < regBase ∧ (inState .ready).accessOk ⟨⟨.store, 4, 1⟩, 0⟩ = false ∧ isCore (.core 3) = true := by decide

theorem witness_RegisterCommandsComplete_3 : serBusy.lnd.serial.isSome = true ∧ serBusy.stagedHi 0 (Reg.SYS_SER_DESC_HI.word 0) < 2 ^ 32 := by decide

theorem witness_RegisterCommandsComplete_4 : serDev.lnd.serial = none ∧ serDev.serDesc (bits (serDev.stagedHi 0 (Reg.SYS_SER_DESC_HI.word 0)) 7 0 * 2 ^ 32 + (0x10000004#32).toNat) = none := by decide

theorem witness_RegisterCommandsComplete_5 : serDev.lnd.serial = none ∧ serDev.serDesc (bits (serDev.stagedHi 0 (Reg.SYS_SER_DESC_HI.word 0)) 7 0 * 2 ^ 32 + (0x10000000#32).toNat) = some (2, 1, 2, 0x0010000100) ∧ serDev.cut.image.isSome = true ∧ [18, 19, 20, 21].all (fun i => serDev.landDedicated i) = true := by decide

theorem witness_RegisterCommandsComplete_6 : serBusy.lnd.serial = some serRun := by decide

theorem witness_RegisterWriteActs : (Access.storeWord 0x0000000000 3).allowed = false ∧ (0x0010000000 : Nat) < regBase ∧ (inState .ready).sys.mstate ≠ .off ∧ (inState .ready).sys.mstate ≠ .unframed ∧ (inState .unframed).sys.mstate = .unframed ∧ (inState .ready).stagedHi 0 Reg.SYS_GPIO_OUT_HI.word < 2 ^ 32 ∧ (inState .ready).get Reg.BEAT_CFG.period ≤ 4 ∧ bit (2#32).toNat 1 = true ∧ ((inState .ready).atTime 5).raisedNow Reg.BEAT_IRQ_STATUS.commit_done = 0 := by decide

theorem witness_TieCommandsComplete_1 : ∃ d' e, (Dev.atTime (keyed (pairDev .standby)) 5).Accepts d' (specPairTakeover) e ∧ e.body = [] ∧ d'.sys.mstate ≠ .test ∧ d'.sys.role = .standby := ⟨_, _, accepts (Dev.atTime (keyed (pairDev .standby)) 5) (specPairTakeover) [] (by decide +kernel), List.take_length, by decide +kernel⟩

theorem witness_TieCommandsComplete_2 : ∃ d' e, (Dev.atTime (keyed (withPair .active (fun p => { p with peerRole := .standby, peerUp := true }))) 5).Accepts d' (specPairDemote) e ∧ e.body = [] ∧ True := ⟨_, _, accepts (Dev.atTime (keyed (withPair .active (fun p => { p with peerRole := .standby, peerUp := true }))) 5) (specPairDemote) [] (by decide +kernel), List.take_length, trivial⟩

theorem witness_TieCommandsComplete_3 : (watcher.radAt 0).plan = some plan ∧ plan.watch = true ∧ watcher.watches = true ∧ beaconBeat plan watcher.beat.count = true ∧ (watcher.radAt 0).watchBeat ≠ some watcher.beat.count ∧ (watchWindow plan).2 ≤ (watcher.atTime 4000000).beat.sinceBase ∧ (watcher.radAt 0).claimed = false ∧ watcher.mediumTested 0 = false ∧ bit (watcher.get Reg.BST_UNIT0.radios) 0 = true ∧ watcher.rad.length = 4 := by decide

theorem witness_TieCommandsComplete_4 : pathTrunk.plcaRole 0 = 3 ∧ pathTrunk.trk.length = 10 ∧ (pathTrunk.atTime 100000).beat.sinceBase ≤ 100000 ∧ ∃ c, pathTrunk.pair.cfg = some c ∧ c.path2Trunk = true ∧ c.path2 = 0 := ⟨by decide, by decide, by decide, _, rfl, by decide, by decide⟩

theorem witness_TieCommandsComplete_5 : (pairDev .active).pairTalks = true ∧ ((pairDev .active).atTime 50999).beat.sinceBase / 1000 = 50 ∧ ((pairDev .active).atTime 51000).beat.sinceBase / 1000 ≠ 50 := by decide

theorem witness_TieCommandsComplete_6 : (pairDev .active).pairTalks = true ∧ (hb 2 9).member ≠ (pairDev .active).pair.member := by decide

theorem witness_TieCommandsComplete_7 : let d : Dev := puts (pairDev .standby) [(Reg.PAIR_LAG.tie_miss, 2)]; d.pairTalks = true ∧ d.pair.heard ≠ some (d.atTime 5).lastInstance ∧ d.pair.missed ≠ some (d.atTime 5).lastInstance ∧ d.get Reg.PAIR_LAG.tie_miss = 2 := by decide

theorem witness_TieCommandsComplete_8 : (pairDev .standby).inPair = true ∧ (pairDev .standby).sys.role = .standby ∧ (pairDev .standby).pair.bundles.any (fun b => b.beat == 9) = false := by decide

theorem witness_TieCommandsComplete_9 : let d := withPair .syncing (fun p => { p with resync := some resyncRun }); d.inPair = true ∧ d.sys.role = .syncing ∧ d.pair.resync = some resyncRun ∧ resyncRun.loaded = 0 := by decide

theorem witness_TieCommandsComplete_10 : let d := withPair .standby (fun p => { p with replayed := 7 }); d.inPair = true ∧ d.sys.role = .standby ∧ d.pair.bundles = [] ∧ d.pair.replayed ≠ 0 ∧ 9 ≠ d.pair.replayed + 1 := by decide

theorem witness_TieCommandsComplete_11 : let d := withPair .active (fun p => { p with acked := 7 }); d.inPair = true ∧ d.sys.role = .active ∧ d.pair.acked < 8 := by decide

theorem witness_HandshakeAndResyncComplete_1 : atNine.inPair = true ∧ atNine.sys.mstate = .boot ∧ atNine.get Reg.BST_STATUS.step = 9 ∧ atNine.pair.helloAt.all (fun a => a + 100000000 ≤ (atNine.atTime 5).now) = true ∧ atNine.pair.helloSeen = false ∧ atNine.bst.stepAt + 2000000000 ≤ (atNine.atTime 2000000000).now := by decide

theorem witness_HandshakeAndResyncComplete_2 : let d := withPair .standby (fun p => { p with handshake := true }); d.inPair = true ∧ d.pair.handshake = true ∧ d.sys.role ≠ .active ∧ d.helloFinding (hb 2 9) 1 7 ≤ 1 := by decide

theorem witness_HandshakeAndResyncComplete_3 : (pairDev .ineligible).inPair = true ∧ (pairDev .ineligible).pair.handshake = false ∧ (pairDev .ineligible).sys.role = .ineligible ∧ (pairDev .ineligible).sys.mstate = .service ∧ (pairDev .ineligible).helloFinding (hb 2 9) 1 7 = 1 ∧ (pairDev .ineligible).pair.helloAt.all (fun a => a + 10000000000 ≤ ((pairDev .ineligible).atTime 5).now) = true := by decide

theorem witness_HandshakeAndResyncComplete_4 : let d := withPair .active (fun p => { p with peerRole := .standby }); d.inPair = true ∧ d.helloFinding (hb 2 9) 1 7 ≤ 1 ∧ d.sys.role = .active ∧ d.pair.peerRole = .standby ∧ d.pair.takeover = .none := by decide

theorem witness_HandshakeAndResyncComplete_5 : (catching.inPair = true ∧ catching.pair.resync = some resyncRun ∧ catching.sys.role = .syncing ∧ (ResyncChunk.mk 2 [3] false).offset = resyncRun.image.length ∧ resyncRun.loaded = 0 ∧ catching.pair.nextRole = none ∧ resyncRun.started + pairCfg.catchup * nsPerSec ≤ (catching.atTime 10000000000).now) ∧ catching.pair.cfg = some pairCfg := ⟨by decide, rfl⟩

theorem witness_HandshakeAndResyncComplete_6 : let d := withPair .ineligible (fun p => { p with handshake := true, failedAt := some 5 }); d.inPair = true ∧ d.sys.role = .ineligible ∧ d.pair.resync = none ∧ d.pair.failedAt.any (fun a => a + 10 * nsPerSec ≤ (d.atTime 10000000005).now) = true ∧ d.pair.haltResync = false := by decide

theorem witness_LeaseCommandsComplete_1 : (pairDev .active).inPair = true ∧ (pairDev .active).sys.role = .active ∧ (pairDev .active).isState [.ready, .service, .hold] = true ∧ (pairDev .active).pair.reqAt.all (fun a => a + 250000000 ≤ ((pairDev .active).atTime 5).now) = true := by decide

theorem witness_LeaseCommandsComplete_2 : (leasing .standby).inPair = true ∧ (leasing .standby).pair.bundles = [] ∧ (leasing .standby).leaseReply 2 (leaseMsg 2 0 3) = some ⟨3, 100, false⟩ ∧ byteAt (leaseMsg 2 0 3) 3 = (leasing .standby).pair.member ∧ (leasing .standby).notDeciding = true := ⟨by decide, by decide, grantReply, by decide, by decide⟩

theorem witness_LeaseCommandsComplete_3 : (leasing .active).inPair = true ∧ (leasing .active).leaseReply 3 (leaseMsg 2 0 3) = none := by decide

theorem witness_LeaseCommandsComplete_4 : (leasing .active).pair.asked = ⟨3, 100, false⟩ :: [⟨4, 200, false⟩] ∧ (⟨3, 100, false⟩ : LeaseReq).left + 250000000 ≤ ((leasing .active).atTime 250000100).now ∧ 4 ≤ (leasing .active).pair.noReply + 1 := by decide

theorem witness_LeaseCommandsComplete_5 : let d := withPair .active (fun p => { p with leaseEnd := 4 }); d.inPair = true ∧ d.sys.role = .active ∧ d.pair.leaseEnd ≠ 0 ∧ (d.atTime 5).leaseHeld = false := by decide

theorem witness_LeaseCommandsComplete_6 : let d := withPair .active (fun p => { p with resendAt := some 9 }); d.pair.resendAt = some 9 ∧ d.sys.role = .active ∧ 9 ≤ (d.atTime 9).now ∧ (d.atTime 8).now < 9 := by decide

theorem witness_LeaseCommandsComplete_7 : let d := withPair .active (fun p => { p with resendAt := some 9, resendGo := true }); d.pair.resendGo = true ∧ d.pair.resendAt.isSome = true ∧ d.sys.role = .active := by decide

theorem witness_TimeFrames : (0x080034 : Nat) / 65536 = 8 ∧ Dev.keptReg false 0x080034 = true := by decide

theorem witness_LightAndRegisterFrames : (0x010038 : Nat) ∈ [0x010034, 0x010038, 0x040144, 0x0700B4, 0x090014, 0x0A001C, 0x0B0054, 0x0D002C] := by decide

theorem witness_MemoryStores_1 : withNodes.liveAddr (withNodes.get (Reg.SIL_LPOST_EID.eid (bankOf (.core 0)))) + 16 ≤ 999999999999 := by decide

theorem witness_MemoryStores_2 : let d : Dev := { base with key := { base.key with ops := [keyRun] } }; d.key.ops.find? (fun r => r.bank == 0) = some keyRun ∧ keyRun.waits = false ∧ (0 : Nat) < keyRun.dest := by decide

theorem witness_MemoryStores_3 : let d : Dev := { base with fwu := { base.fwu with libRuns := [libRun] } }; d.fwu.libRuns.find? (fun r => r.bank == 0) = some libRun ∧ libRun.op = 2 ∧ (0 : Nat) < libRun.addr := by decide

theorem witness_MemoryStores_4 : (0 : Fin 10).val < 8 ∧ (7 : Fin 10).val < 8 := by decide

theorem witness_MemoryStores_5 : let d : Dev := puts wiredBase [(Reg.TRK_RAW_CFG.slots 14, 4)]; (8 : Nat) ≤ (8 : Fin 10).val ∧ (List.range (min 1024 (d.get (Reg.TRK_RAW_CFG.slots (trkWindow 8))))).find? (fun i => !(d.trkAt 8).usedSlots.contains i) = some 0 := by decide

end Sys2Proof.Tests
end

section
/-! PROOFS. What an operation of the machine leaves alone, as a relation between the machine before and after it that composes along
the calls of a command; then that relation for the operations of the sweep, the Joist's push, the pair's bundle and the journal. -/

-- One proof at a time: a side condition left to `decide` waits for every declaration before it, each in a thread of its own.
set_option Elab.async false

namespace Sys2Proof.Machine

/-! ### The relation -/

/-- `d'` differs from `d` in the components `ps`, the register words of the keys `ks` and the event recorder only. -/
structure Touches (ps : List Part) (ks : List Nat) (d d' : Dev) : Prop where
  parts : ∀ p, p ∉ ps → p.same d d'
  regs : ∀ k, k ∉ ks → k ∉ eventKeys → d'.regs.get k = d.regs.get k

theorem part_same_refl (p : Part) (d : Dev) : p.same d d := by cases p <;> rfl

theorem part_same_trans {a b c : Dev} (p : Part) (h : p.same a b) (h' : p.same b c) : p.same a c := by
  cases p
  case beat =>
    have e : c.beat = { b.beat with sinceBase := c.beat.sinceBase } := by rw [← show _ = b.beat from h']
    show { c.beat with sinceBase := a.beat.sinceBase } = a.beat
    rw [e]; exact h
  all_goals exact Eq.trans h' h

namespace Touches

variable {ps qs : List Part} {ks ls : List Nat} {d x y : Dev}

theorem refl (d : Dev) : Touches ps ks d d := ⟨fun p _ => part_same_refl p d, fun _ _ _ => rfl⟩

theorem trans (h : Touches ps ks d x) (h' : Touches ps ks x y) : Touches ps ks d y :=
  ⟨fun p hp => part_same_trans p (h.parts p hp) (h'.parts p hp), fun k hk he => (h'.regs k hk he).trans (h.regs k hk he)⟩

theorem mono (h : Touches qs ls d x) (hp : qs ⊆ ps := by decide) (hk : ls ⊆ ks := by decide) : Touches ps ks d x :=
  ⟨fun p hq => h.parts p (fun m => hq (hp m)), fun k hq => h.regs k (fun m => hq (hk m))⟩

/-- What follows may touch less. -/
theorem andThen (h : Touches ps ks d x) (h' : Touches qs ls x y) (hp : qs ⊆ ps := by decide) (hk : ls ⊆ ks := by decide) :
    Touches ps ks d y := h.trans (h'.mono hp hk)

theorem ite {c : Prop} [Decidable c] (hx : c → Touches ps ks d x) (hy : ¬ c → Touches ps ks d y) :
    Touches ps ks d (if c then x else y) := by
  split
  · exact hx ‹_›
  · exact hy ‹_›

/-- A fold touches what each of its steps touches. -/
theorem foldl {α : Type} {f : Dev → α → Dev} (l : List α) (hf : ∀ x, ∀ a ∈ l, Touches ps ks x (f x a)) (h : Touches ps ks d x) :
    Touches ps ks d (l.foldl f x) := by
  induction l generalizing x with
  | nil => exact h
  | cons a r ih => exact ih (fun x b hb => hf x b (List.mem_cons_of_mem a hb)) (h.trans (hf x a List.mem_cons_self))

theorem put (f : Fld) (v : Nat) (h : Touches ps ks d x) (hf : f.key ∈ ks ++ eventKeys := by decide) : Touches ps ks d (x.put f v) :=
  h.trans ⟨fun p _ => by cases p <;> rfl, fun k hk he => x.put_regs_get f v k (fun e =>
    (List.mem_append.1 (e ▸ hf)).elim hk he)⟩

theorem putB (f : Fld) (b : Bool) (h : Touches ps ks d x) (hf : f.key ∈ ks ++ eventKeys := by decide) : Touches ps ks d (x.putB f b) := h.put f _ hf

theorem bump (f : Fld) (h : Touches ps ks d x) (n : Nat := 1) (hf : f.key ∈ ks ++ eventKeys := by decide) : Touches ps ks d (x.bump f n) :=
  h.put f _ hf

/-- The notes of the cycle and the event recorder are no components. -/
theorem note (c : CycleSt) (e : EvrSt) (h : Touches ps ks d x) : Touches ps ks d { x with cyc := c, evr := e } :=
  h.trans ⟨fun p _ => by cases p <;> rfl, fun _ _ _ => rfl⟩

theorem raise (f : Fld) (h : Touches ps ks d x) (hf : f.key ∈ ks ++ eventKeys := by decide) : Touches ps ks d (x.raise f) := (h.put f _ hf).note _ _

theorem offer (e : EvCode) (args : List Nat) (h : Touches ps ks d x) : Touches ps ks d (x.offer e args) := h.note _ _

theorem eventOnly (h : Touches ps ks d x) (h' : EventOnly x y) : Touches ps ks d y :=
  h.trans ⟨fun p _ => by rw [h'.rest]; cases p <;> rfl, fun k _ he => h'.regs k he⟩

theorem settleOffers (h : Touches ps ks d x) : Touches ps ks d x.settleOffers :=
  h.trans ⟨fun p _ => by cases p <;> simp [Part.same], fun k _ he => x.settleOffers_regs k he⟩

theorem atTime (t : Nat) (h : Touches ps ks d x) : Touches ps ks d (x.atTime t) :=
  h.trans ⟨fun p _ => by cases p <;> rfl, fun _ _ _ => rfl⟩

/-- Any change of the components `ps` that leaves the register file. -/
theorem update (h : Touches ps ks d x) (hp : ∀ p, p ∉ ps → p.same x y) (hr : y.regs = x.regs) : Touches ps ks d y :=
  h.trans ⟨hp, fun _ _ _ => by rw [hr]⟩

theorem setMem (v : Memory) (h : Touches ps ks d x) (hp : .mem ∈ ps := by decide) : Touches ps ks d { x with mem := v } :=
  h.update (fun p hq => by cases p <;> simp_all [Part.same]) rfl

theorem setSys (v : SysSt) (h : Touches ps ks d x) (hp : .sys ∈ ps := by decide) : Touches ps ks d { x with sys := v } :=
  h.update (fun p hq => by cases p <;> simp_all [Part.same]) rfl

theorem setBeat (v : BeatSt) (h : Touches ps ks d x) (hp : .beat ∈ ps := by decide) : Touches ps ks d { x with beat := v } :=
  h.update (fun p hq => by cases p <;> simp_all [Part.same]) rfl

theorem setSil (v : SilSt) (h : Touches ps ks d x) (hp : .sil ∈ ps := by decide) : Touches ps ks d { x with sil := v } :=
  h.update (fun p hq => by cases p <;> simp_all [Part.same]) rfl

theorem setKey (v : KeySt) (h : Touches ps ks d x) (hp : .key ∈ ps := by decide) : Touches ps ks d { x with key := v } :=
  h.update (fun p hq => by cases p <;> simp_all [Part.same]) rfl

theorem setCut (v : CutSt) (h : Touches ps ks d x) (hp : .cut ∈ ps := by decide) : Touches ps ks d { x with cut := v } :=
  h.update (fun p hq => by cases p <;> simp_all [Part.same]) rfl

theorem setRft (v : RftSt) (h : Touches ps ks d x) (hp : .rft ∈ ps := by decide) : Touches ps ks d { x with rft := v } :=
  h.update (fun p hq => by cases p <;> simp_all [Part.same]) rfl

theorem setLin (v : LintelSt) (h : Touches ps ks d x) (hp : .lin ∈ ps := by decide) : Touches ps ks d { x with lin := v } :=
  h.update (fun p hq => by cases p <;> simp_all [Part.same]) rfl

theorem setJst (v : JstSt) (h : Touches ps ks d x) (hp : .jst ∈ ps := by decide) : Touches ps ks d { x with jst := v } :=
  h.update (fun p hq => by cases p <;> simp_all [Part.same]) rfl

theorem setTim (v : TimSt) (h : Touches ps ks d x) (hp : .tim ∈ ps := by decide) : Touches ps ks d { x with tim := v } :=
  h.update (fun p hq => by cases p <;> simp_all [Part.same]) rfl

theorem setHlk (v : HlkSt) (h : Touches ps ks d x) (hp : .hlk ∈ ps := by decide) : Touches ps ks d { x with hlk := v } :=
  h.update (fun p hq => by cases p <;> simp_all [Part.same]) rfl

theorem setPwr (v : PwrSt) (h : Touches ps ks d x) (hp : .pwr ∈ ps := by decide) : Touches ps ks d { x with pwr := v } :=
  h.update (fun p hq => by cases p <;> simp_all [Part.same]) rfl

theorem setBst (v : BstSt) (h : Touches ps ks d x) (hp : .bst ∈ ps := by decide) : Touches ps ks d { x with bst := v } :=
  h.update (fun p hq => by cases p <;> simp_all [Part.same]) rfl

theorem setFwu (v : FwuSt) (h : Touches ps ks d x) (hp : .fwu ∈ ps := by decide) : Touches ps ks d { x with fwu := v } :=
  h.update (fun p hq => by cases p <;> simp_all [Part.same]) rfl

theorem setPair (v : PairSt) (h : Touches ps ks d x) (hp : .pair ∈ ps := by decide) : Touches ps ks d { x with pair := v } :=
  h.update (fun p hq => by cases p <;> simp_all [Part.same]) rfl

theorem setLgt (v : LgtSt) (h : Touches ps ks d x) (hp : .lgt ∈ ps := by decide) : Touches ps ks d { x with lgt := v } :=
  h.update (fun p hq => by cases p <;> simp_all [Part.same]) rfl

theorem setLnd (v : LndSt) (h : Touches ps ks d x) (hp : .lnd ∈ ps := by decide) : Touches ps ks d { x with lnd := v } :=
  h.update (fun p hq => by cases p <;> simp_all [Part.same]) rfl

/-- A field of a word that is not touched keeps its value. -/
theorem get (h : Touches ps ks d x) (f : Fld) (hk : f.key ∉ ks := by decide) (he : f.key ∉ eventKeys := by decide) : x.get f = d.get f := by
  rw [Dev.get, Dev.get, h.regs _ hk he]

theorem beat_eq (h : Touches ps ks d x) (hp : .beat ∉ ps := by decide) : x.beat = { d.beat with sinceBase := x.beat.sinceBase } := by
  have e : { x.beat with sinceBase := d.beat.sinceBase } = d.beat := h.parts .beat hp
  rw [← e]

end Touches

/-- A command that runs, at its instant, an operation that touches these components and words has this frame. -/
theorem frame_of_touches {c : Instr} {t : Nat} {f : Dev → Dev} {ps : List Part} {ks : List Nat} {regs : Nat → Prop}
    (hc : ∀ s, exec c s = s.runAt t f) (h : ∀ d, Touches ps ks d (f d)) (hk : ∀ k ∈ ks, regs k) : Frame c ps regs := by
  intro s
  have ht : Touches ps ks s.dev (f (s.dev.atTime t)).settleOffers := (((Touches.refl s.dev).atTime t).trans (h _)).settleOffers
  exact completes_of_runAt (hc s) ⟨ht.parts, fun k hr => ht.regs k (fun m => hr (hk k m))⟩

namespace Dev

/-! ### The journal, the mirror and the bundle of a beat (R332, R339, R392) -/

theorem journalStart_touches (d : Dev) : Touches [.sil] [] d d.journalStart := by
  unfold journalStart
  split
  · exact (Touches.refl d).setSil _
  · exact .refl d

theorem journal_touches (d : Dev) (p : JPrio) (v : JVal) (bank : Nat) : Touches [.sil] [] d (d.journal p v bank) :=
  ((Touches.refl d).setSil _).trans (journalStart_touches _)

theorem ledgerCommit_touches (d : Dev) : Touches [.sil] [] d d.ledgerCommit :=
  ((Touches.refl d).setSil _).foldl _ fun x v _ => x.journal_touches _ v 0

theorem mirror_touches (d : Dev) (f : Bundle → Bundle) : Touches [.pair] [] d (d.mirror f) := by
  unfold mirror
  split
  · exact .refl d
  · exact (Touches.refl d).setPair _

theorem tieSend_touches (d : Dev) (l : List Bytes) : Touches [.pair] [] d (d.tieSend l) := by
  have h : Touches [.pair] [] d (l.foldl (fun (d : Dev) b => d.noteSent (byteAt b 0, b)) d) :=
    (Touches.refl d).foldl _ fun x _ _ => (Touches.refl x).setPair _
  unfold tieSend
  split
  · exact h
  · exact h.setPair _

theorem closeBundle_touches (d : Dev) (outcome : Nat) : Touches [.pair] [] d (d.closeBundle outcome) := by
  unfold closeBundle
  split
  · exact .refl d
  · exact (((Touches.refl d).foldl _ fun x m _ => (Touches.refl x).setPair _).trans (mirror_touches _ _)).trans (tieSend_touches _ _)

/-! ### The engine's tables (R151-R155, R165-R168) -/

theorem setNode_touches (d : Dev) (eid : Nat) (f : Node → Node) : Touches [.rft] [] d (d.setNode eid f) := (Touches.refl d).setRft _

theorem mapNodes_touches (d : Dev) (f : Nat → Node → Node) : Touches [.rft] [] d (d.mapNodes f) := (Touches.refl d).setRft _

theorem runSweep_touches (d : Dev) (passes k : Nat) : Touches [.rft] [] d (d.runSweep passes k) := by
  unfold runSweep
  extract_lets run even toNxt toPass d1
  have h1 : Touches [.rft] [] d d1 := .ite (fun _ => .refl d) fun _ => d.mapNodes_touches _
  exact h1.setRft _

theorem c1Remove_touches (d : Dev) (scope id : Nat) : Touches [.rft] [] d (d.c1Remove scope id) := by
  unfold c1Remove
  exact .ite (fun _ => d.setNode_touches _ _) fun _ => .ite (fun _ => (Touches.refl d).setRft _) fun _ =>
    .ite (fun _ => (Touches.refl d).setRft _) fun _ => (Touches.refl d).setRft _

theorem expireC1_touches (d : Dev) (b : Nat) : Touches [.rft] [] d (d.expireC1 b) :=
  (Touches.refl d).foldl _ fun x a _ => (x.c1Remove_touches a.1 a.2).offer _ _

theorem applyStaged_touches (d : Dev) : Touches [.rft] [] d d.applyStaged := (Touches.refl d).setRft _

theorem localLevels_touches (d : Dev) : Touches [.rft, .lgt] [] d d.localLevels := by
  refine (Touches.refl d).foldl _ fun x a _ => ?_
  obtain ⟨n, i⟩ := a
  exact .ite (fun _ => ((Touches.refl x).andThen (x.setNode_touches _ _)).setLgt _) fun _ => .refl x

theorem groupStep_touches (c : CsBuild) (z : Nat) (zn : Zone) : Touches [.rft] [] c.dev (groupStep c z zn).dev := by
  unfold groupStep
  dsimp only
  split
  · split
    · split
      · exact .refl _
      · exact (Touches.refl _).foldl _ fun x a _ => x.setNode_touches _ _
    · exact .refl _
  · exact .refl _

theorem unicastStep_touches (c : CsBuild) (last : Option Nat) (i : Nat) : Touches [.rft] [] c.dev (unicastStep c last i).1.dev := by
  unfold unicastStep
  split
  · split
    · split
      · exact c.dev.setNode_touches _ _
      · exact .refl _
    · exact .refl _
  · exact .refl _

/-- The words of the change-set's counts (R167, R176). -/
def changeSetKeys : List Nat :=
  keysOf [Reg.RFT_CS_CURSOR.word, Reg.RFT_CS_LAST.word, Reg.RFT_CS_PENDING.word, Reg.RFT_CS_LIMIT_CNT.word, Reg.RFT_IRQ_STATUS.word]

theorem groupSteps_touches (l : List (Zone × Nat)) (c : CsBuild) :
    Touches [.rft] [] c.dev (l.foldl (fun c (zn, z) => groupStep c z zn) c).dev := by
  induction l generalizing c with
  | nil => exact .refl _
  | cons a r ih => exact (groupStep_touches c a.2 a.1).trans (ih _)

theorem unicastSteps_touches (l : List Nat) (x : CsBuild × Option Nat) :
    Touches [.rft] [] x.1.dev (l.foldl (fun (x : CsBuild × Option Nat) i => unicastStep x.1 x.2 i) x).1.dev := by
  induction l generalizing x with
  | nil => exact .refl _
  | cons i r ih => exact (unicastStep_touches x.1 x.2 i).trans (ih _)

theorem changeSet_touches (d : Dev) (b : Nat) : Touches [.rft] changeSetKeys d (d.changeSet b).1 := by
  unfold changeSet
  extract_lets c1 n order r c2 full waiting cursor left x0 x1 d1 d2
  have hr : Touches [.rft] [] d c2.dev := (groupSteps_touches _ (CsBuild.mk d [] 0 [])).trans (unicastSteps_touches order (c1, none))
  have h1 : Touches [.rft] changeSetKeys d d1 := ((((((Touches.refl d).andThen hr).setRft _).put _ _).put _ _).put _ _).put _ _
  change Touches [.rft] changeSetKeys d d2
  simp only [d2]
  split
  · exact ((h1.bump _).raise _).offer _ _
  · exact h1

/-- The words of the digest (R159). -/
def digestKeys : List Nat :=
  keysOf [Reg.RFT_DIGEST_LO.word, Reg.RFT_DIGEST_HI.word, Reg.RFT_DIGEST_BEAT_LO.word, Reg.RFT_DIGEST_BEAT_HI.word]

theorem showDigest_touches (d : Dev) (b : Nat) : Touches [] digestKeys d (d.showDigest b) :=
  ((((Touches.refl d).put _ _).put _ _).put _ _).put _ _

theorem showFill_touches (d : Dev) : Touches [] [Reg.RFT_INGEST_FILL.word.key] d d.showFill := ((Touches.refl d).put _ _).put _ _

/-- The words of the engine that a COMMIT writes. -/
def commitEngineKeys : List Nat := changeSetKeys ++ digestKeys ++ keysOf [Reg.RFT_INGEST_FILL.word, Reg.RFT_STATUS.word]

theorem commitEngine_touches (d : Dev) (b : Nat) : Touches [.rft, .lgt] commitEngineKeys d (d.commitEngine b).1 := by
  unfold commitEngine
  extract_lets x0 d1 d2 d3 r d4
  have h1 : Touches [.rft, .lgt] commitEngineKeys d d1 := ((Touches.refl d).setRft _).put _ _
  have h2 : Touches [.rft, .lgt] commitEngineKeys d d2 :=
    ((h1.andThen (d1.mapNodes_touches _)).andThen (applyStaged_touches _)).andThen (expireC1_touches _ _)
  have h3 : Touches [.rft, .lgt] commitEngineKeys d d3 := (h2.andThen (d2.mapNodes_touches _)).andThen (localLevels_touches _)
  have h4 : Touches [.rft, .lgt] commitEngineKeys d d4 :=
    ((h3.andThen (d3.changeSet_touches b)).andThen (showDigest_touches _ _)).put _ _
  exact (h4.setRft _).andThen (showFill_touches _)

theorem carry_touches (d : Dev) : Touches [.rft] [] d d.carry := (Touches.refl d).setRft _

/-! ### Items into the Joist (R172, R173, R182) and the resend (R402) -/

/-- The words of a push: the 64 queues' counts of refusals and the interrupt (R182, R204). -/
def pushKeys : List Nat := Reg.JST_IRQ_STATUS.word.key :: (List.range 64).map (fun i => (Reg.JST_QREFUSED.word i).key)

theorem pushRefused_touches (d : Dev) (q producer : Nat) (pool : Bool) (h : q < 64) :
    Touches [] pushKeys d (d.pushRefused q producer pool) :=
  have h1 : Touches [] pushKeys d (d.bump (Reg.JST_QREFUSED.word q)) :=
    (Touches.refl d).bump _ 1 (List.mem_append_left _ (.tail _
      (List.mem_map_of_mem (f := fun i => (Reg.JST_QREFUSED.word i).key) (List.mem_range.2 h))))
  (h1.raise _).offer _ _

theorem enqueue_touches (d : Dev) (q flow producer : Nat) (words eids : List Nat) :
    Touches [.jst] [] d (d.enqueue q flow producer words eids) :=
  ⟨fun p hp => by cases p <;> simp_all [Part.same, enqueue], fun _ _ _ => rfl⟩

/-- Only the 64 queues have a configuration (R179). -/
theorem lt_of_qcfgOf {d : Dev} {q : Nat} {c : QCfg} (h : d.qcfgOf q = some c) : q < 64 := by
  by_contra hq
  simp [qcfgOf, hq] at h

theorem push_touches (d : Dev) (q flow producer : Nat) (words eids : List Nat) :
    Touches [.jst] pushKeys d (d.push q flow producer words eids).1 := by
  unfold push
  split
  · exact .refl d
  split
  · exact .refl d
  split
  · exact .refl d
  split
  · exact .refl d
  · rename_i c hc
    split
    · exact (d.pushRefused_touches q producer false (lt_of_qcfgOf hc)).mono (hk := List.Subset.refl _)
    split
    · exact (d.pushRefused_touches q producer true (lt_of_qcfgOf hc)).mono (hk := List.Subset.refl _)
    · exact (d.enqueue_touches q flow producer words eids).mono

/-- The words of an item's push: those of the Joist, and the engine's count of refusals (R173). -/
def pushItemKeys : List Nat := keysOf [Reg.RFT_CS_REFUSED.word, Reg.RFT_IRQ_STATUS.word] ++ pushKeys

theorem itemRefused_touches (d : Dev) (x : CsItem) :
    Touches [.rft] (keysOf [Reg.RFT_CS_REFUSED.word, Reg.RFT_IRQ_STATUS.word]) d (d.itemRefused x) :=
  (((Touches.refl d).setRft _).bump _).raise _

theorem pushItem_touches (d : Dev) (x : CsItem) : Touches [.rft, .jst] pushItemKeys d (d.pushItem x) := by
  have h : Touches [.rft, .jst] pushItemKeys d _ :=
    (d.push_touches (16 + x.medium) (if x.group then 0x20000 + x.grp else x.eid) producerEngine x.words x.eids).mono
      (hk := List.subset_append_right _ _)
  unfold pushItem
  exact .ite (fun _ => h) fun _ => h.andThen (itemRefused_touches _ x) (hk := List.subset_append_left _ _)

end Dev
end Sys2Proof.Machine
end

section
/-! PROOFS. COMMIT, OVERRUN and the idle boundary: what they touch (R11, R47, R155). -/

-- One proof at a time: a side condition left to `decide` waits for every declaration before it, each in a thread of its own.
set_option Elab.async false

namespace Sys2Proof.Machine

/-- Settles O1: a step takes the front command, and idles on an empty queue. -/
theorem stepTakesFront : Obligations.StepTakesFront := by
  unfold Obligations.StepTakesFront
  refine ⟨fun c rest s h => ?_, fun s h => ?_⟩
  · rw [step, h]
  · rw [step, h]

namespace Dev

/-- The words of the resend (R402, R412). -/
def resendKeys : List Nat := keysOf [Reg.PAIR_RESEND.word, Reg.PAIR_IRQ_STATUS.word] ++ pushItemKeys

theorem resendBeat_touches (d : Dev) (placed : Nat) : Touches [.rft, .jst, .pair] resendKeys d (d.resendBeat placed) := by
  unfold resendBeat
  split
  · exact .refl d
  extract_lets room step r total
  have hstep : ∀ (l : List (Node × Nat)) (acc : Dev × Nat × Nat),
      Touches [.rft, .jst] pushItemKeys acc.1 (l.foldl step acc).1 := by
    intro l
    induction l with
    | nil => exact fun acc => .refl _
    | cons x l ih =>
      intro acc
      refine Touches.trans ?_ (ih _)
      simp only [step]
      split
      · exact .refl _
      split
      · exact acc.1.pushItem_touches _
      · exact .refl _
  have hr : Touches [.rft, .jst, .pair] resendKeys d r.1 := (hstep _ (d, 0, d.pair.resendCursor)).mono (hk := List.subset_append_right _ _)
  split
  · exact (((hr.setPair _).put _ _).raise _).offer _ _
  · exact (hr.setPair _).put _ _

theorem patchWindow_touches (d : Dev) : Touches [.cut] [] d d.patchWindow := by
  unfold patchWindow
  split
  · split
    · split
      · exact (Touches.refl d).setCut _
      · exact .refl d
    · exact .refl d
  · exact .refl d

/-- The words of the beat that OVERRUN writes (R56, R58). -/
def overrunKeys : List Nat :=
  keysOf [Reg.BEAT_IRQ_STATUS.word, Reg.BEAT_OVR_CNT.word, Reg.BEAT_OVR_STATE.word, Reg.BEAT_STATUS.word]

/-- The words that COMMIT writes (R155): those of the beat, the resend, the Joist and the engine. -/
def commitKeys : List Nat := overrunKeys ++ (Reg.BEAT_SWEEP_TIME.word.key :: (resendKeys ++ commitEngineKeys))

theorem overrunKeys_sub_commitKeys : overrunKeys ⊆ commitKeys := List.subset_append_left _ _

theorem resendKeys_sub_commitKeys : resendKeys ⊆ commitKeys :=
  fun _ h => List.mem_append_right _ (.tail _ (List.mem_append_left _ h))

theorem pushItemKeys_sub_commitKeys : pushItemKeys ⊆ commitKeys :=
  fun _ h => resendKeys_sub_commitKeys (List.mem_append_right _ h)

theorem commitEngineKeys_sub_commitKeys : commitEngineKeys ⊆ commitKeys :=
  fun _ h => List.mem_append_right _ (.tail _ (List.mem_append_right _ h))

/-- The components that COMMIT writes; the beat is none of them. -/
def commitParts : List Part := [.sil, .cut, .rft, .lin, .jst, .pair, .lgt]

/-- COMMIT touches its components and words, and ends the beat with phase 3, commit_done and no overrun in a row (R55, R57). -/
theorem commitBeat_spec (d : Dev) :
    Touches commitParts commitKeys d d.commitBeat ∧ d.commitBeat.get Reg.BEAT_STATUS.phase = 3 ∧
      d.commitBeat.get Reg.BEAT_IRQ_STATUS.commit_done = 1 ∧ d.commitBeat.get Reg.BEAT_OVR_STATE.consec = 0 := by
  unfold commitBeat
  extract_lets b r x0 lin x1 d1 d2 fresh x2 d3 d4 us d5
  have hr : Touches commitParts commitKeys d r.1 :=
    ((Touches.refl d).andThen (d.runSweep_touches _ _) (hk := List.nil_subset _)).andThen (commitEngine_touches _ b)
      (hk := commitEngineKeys_sub_commitKeys)
  have h1 : Touches commitParts commitKeys d d1 := hr.setLin _
  have h2 : Touches commitParts commitKeys d d2 :=
    h1.foldl _ fun x i _ => (x.pushItem_touches i).mono (hk := pushItemKeys_sub_commitKeys)
  have h3 : Touches commitParts commitKeys d d3 := .ite (fun _ => h2.setPair _) fun _ => h2
  have h4 : Touches commitParts commitKeys d d4 :=
    (h3.andThen (d3.resendBeat_touches _) (hk := resendKeys_sub_commitKeys)).andThen (closeBundle_touches _ _) (hk := List.nil_subset _)
  have h5 : Touches commitParts commitKeys d d5 := ((((h4.put _ _).put _ _).put _ _).raise _).put _ _
  have hend : Touches [.sil, .cut] [] d5 d5.ledgerCommit.patchWindow :=
    d5.ledgerCommit_touches.mono.andThen (patchWindow_touches _)
  refine ⟨h5.andThen hend (hk := List.nil_subset _), ?_, ?_, ?_⟩
  · rw [hend.get Reg.BEAT_STATUS.phase]
    exact get_put _ Reg.BEAT_STATUS.phase 3 (by decide) (by decide)
  · rw [hend.get Reg.BEAT_IRQ_STATUS.commit_done]
    simp (disch := decide) only [d5, get_put_of_ne, get_raise]
  · rw [hend.get Reg.BEAT_OVR_STATE.consec]
    simp (disch := decide) only [d5, get_put_of_ne, get_raise_of_ne, get_put, Nat.zero_mod]

/-- The components that OVERRUN writes beside the beat. -/
def overrunParts : List Part := [.beat, .sil, .cut, .rft, .pair]

/-- OVERRUN touches its components and words (R11, R56, R58). -/
theorem overrunBeat_touches (d : Dev) (pass : Nat) : Touches overrunParts overrunKeys d (d.overrunBeat pass) := by
  unfold overrunBeat
  extract_lets carried n now d1 d2 low x x1 d3
  have h1 : Touches overrunParts overrunKeys d d1 :=
    ((((Touches.refl d).andThen (d.runSweep_touches _ _)).andThen (closeBundle_touches _ 1)).andThen (carry_touches _)).setSil _
  have h2 : Touches overrunParts overrunKeys d d2 := ((((h1.bump _).put _ _).raise _).put _ _).offer _ _
  have hx : Touches overrunParts overrunKeys d x := ((h2.put _ _).raise _).offer _ _
  have h3 : Touches overrunParts overrunKeys d d3 :=
    .ite (fun _ => h2.put _ _) fun _ => .ite (fun _ => (hx.setBeat _).bump _) fun _ => hx
  exact h3.andThen (patchWindow_touches _)

/-- What COMMIT does at its instant: nothing without a sweep, and past the deadline the beat is abandoned (R11, R55). -/
theorem commitOrOverrun_touches (d : Dev) :
    Touches (.beat :: commitParts) commitKeys d
      (if !(d.rft.sweeping && d.beats) then d
       else if d.deadline < d.beat.sinceBase then d.overrunBeat d.rft.passesRun else d.commitBeat) :=
  .ite (fun _ => .refl d) fun _ =>
    .ite (fun _ => (d.overrunBeat_touches _).mono (hk := overrunKeys_sub_commitKeys))
      fun _ => d.commitBeat_spec.1.mono (hk := List.Subset.refl _)

/-- The words of COMMIT are the 20 that the statement names and the queues' counts of refusals. -/
theorem mem_commitKeys {k : Nat} (h : k ∈ commitKeys) :
    k ∈ commitKeys.filter (fun k => !pushKeys.tail.contains k) ∨ ∃ i < 64, k = (Reg.JST_QREFUSED.word i).key := by
  by_cases hp : k ∈ pushKeys.tail
  · obtain ⟨i, hi, rfl⟩ := List.mem_map.1 hp
    exact .inr ⟨i, List.mem_range.1 hi, rfl⟩
  · exact .inl (List.mem_filter.2 ⟨h, by simpa using hp⟩)

end Dev

/-- Settles O48: COMMIT and OVERRUN touch the components and words named; an idle boundary settles the recorder alone. -/
theorem beatFrames : Obligations.BeatFrames := by
  unfold Obligations.BeatFrames
  refine ⟨fun t => ?_, fun t pass => ?_, fun s h => ?_⟩
  · refine frame_of_touches (fun s => rfl) Dev.commitOrOverrun_touches fun k hk => (Dev.mem_commitKeys hk).imp_left fun h => ?_
    exact (by decide : Dev.commitKeys.filter _ ⊆ Dev.keysOf _) h
  · refine frame_of_touches (f := fun d => if d.rft.sweeping && d.beats && !d.commitFits then d.overrunBeat pass else d)
      (fun s => rfl) (fun d => ?_) (fun k hk => hk)
    exact .ite (fun _ => (d.overrunBeat_touches pass).mono (hk := by decide)) fun _ => .refl d
  · refine completes_of_run (f := fun d => if d.beats then d.boundary else d) rfl ?_
    rw [if_neg (by simp [h])]
    have ht : Touches [] [] s.dev s.dev.settleOffers := (Touches.refl _).settleOffers
    exact ⟨fun p => ht.parts p (by simp), fun k hk => ht.regs k (by simp) hk⟩

end Sys2Proof.Machine
end

section
/-! PROOFS. What an entry into OFF and an entry into BOOT leave of the machine (R62-R64, R318, R379). -/

-- One proof at a time: a side condition left to `decide` waits for every declaration before it, each in a thread of its own.
set_option Elab.async false

namespace Sys2Proof.Machine
namespace Dev

/-! ### The recorder's buffer is written out -/

theorem ringWrite_touches (d : Dev) (r : EvRec) : Touches [] [] d (d.ringWrite r) := by
  unfold ringWrite
  extract_lets r'
  split
  · exact (Touches.refl d).note d.cyc _
  · split
    · exact (Touches.refl d).note d.cyc _
    · exact ((((Touches.refl d).note d.cyc _).bump _).raise _).offer _ _

theorem drainBuffer_touches (d : Dev) : Touches [] [] d d.drainBuffer :=
  ((((Touches.refl d).settleOffers).note d.settleOffers.cyc _).foldl _ fun x r _ => x.ringWrite_touches r).note _ _

theorem writeSuppressed_touches (d : Dev) : Touches [] [] d d.writeSuppressed :=
  (Touches.refl d).settleOffers.foldl _ fun x _ _ => ((Touches.refl x).note x.cyc _).eventOnly (.offerNow _ _ _)

/-! ### OFF -/

/-- The loads of JST_GET that wait (R185). -/
def waitKeys (d : Dev) : List Nat := d.jst.waiting.map (fun b => (Reg.JST_GET.word b).key)

/-- The registers of JST_GET are banked per master, above every register that is not (R29). -/
theorem not_mem_waitKeys (d : Dev) {k : Nat} (h : k < 0x1000000) : k ∉ d.waitKeys := by
  simp only [waitKeys, List.mem_map, Reg.JST_GET.word]
  rintro ⟨b, -, rfl⟩
  omega

theorem endWaits_touches (d : Dev) : Touches [.jst] d.waitKeys d d.endWaits :=
  ((Touches.refl d).setJst _).foldl _ fun x b hb =>
    (Touches.refl x).put _ _ (List.mem_append_left _ (List.mem_map_of_mem (f := fun b => (Reg.JST_GET.word b).key) hb))

theorem lightSafe_touches (d : Dev) : Touches [.lgt] [Reg.LGT_STATUS.word.key] d d.lightSafe :=
  ((((Touches.refl d).setLgt _).put _ _).put _ _).putB _ _

/-- The words of the outputs' safe states (R306). -/
def safeKeys : List Nat := keysOf [Reg.LGT_STATUS.word, Reg.MTR_STATUS.word, Reg.HLK_STATUS.word]

theorem safeOutputs_touches (d : Dev) : Touches [.lgt, .lnd, .tim] safeKeys d d.safeOutputs := by
  unfold safeOutputs
  extract_lets d1
  have h1 : Touches [.lgt, .lnd, .tim] safeKeys d d1 := (Touches.refl d).andThen d.lightSafe_touches
  clear_value d1
  exact .setLnd _ (.put _ _ (.put _ _ (.put _ _ (.put _ _
    (h1.update (fun p hp => by cases p <;> simp_all [Part.same]) rfl)))))

/-- The components that an entry into OFF writes. -/
def offParts : List Part :=
  [.mem, .sys, .beat, .sil, .key, .cut, .rft, .lin, .jst, .tim, .rad, .trk, .pwr, .fwu, .lgt, .lnd]

/-- The words that an entry into OFF writes, beside those of the loads that wait. -/
def offKeys : List Nat := safeKeys ++ keysOf [Reg.SYS_STATUS.word, Reg.JST_STATUS.word, Reg.PWR_STATUS.word]

/-- What OFF is (R62, R64, R318): the state, the memory that is lost, and what the queues, the sweep and the load are left at. -/
structure IsOff (d d' : Dev) : Prop where
  touches : Touches offParts (offKeys ++ d.waitKeys) d d'
  sys : d'.sys = { d.sys with mstate := .off }
  mem : d'.mem = []
  pwr : d'.pwr = { d.pwr with pf := none }
  items : d'.jst.items = []
  sweeping : d'.rft.sweeping = false
  load : d'.cut.load = none

theorem goOff_isOff (d : Dev) : IsOff d d.goOff := by
  unfold goOff
  extract_lets d0 x d1
  have h0 : Touches [] [] d d0 := .ite (fun _ => d.drainBuffer_touches) fun _ => (Touches.refl d).settleOffers
  clear_value d0
  have hw : d0.waitKeys = d.waitKeys := by rw [waitKeys, waitKeys, show d0.jst = d.jst from h0.parts .jst (by decide)]
  have hs : Touches [.sys] offKeys d
      ((({ d0 with sys := { d0.sys with mstate := .off } } : Dev).put Reg.SYS_STATUS.state 0).put Reg.JST_STATUS.running 0) :=
    ((h0.mono.setSys _).put _ _).put _ _
  have hj := endWaits_touches
    ((({ d0 with sys := { d0.sys with mstate := .off } } : Dev).put Reg.SYS_STATUS.state 0).put Reg.JST_STATUS.running 0)
  have h1 : Touches [.jst, .lgt, .lnd, .tim] (offKeys ++ d.waitKeys) _ d1 :=
    (((hw ▸ hj : Touches [.jst] d.waitKeys _ _).mono (hk := List.subset_append_right _ _)).andThen (safeOutputs_touches _)
      (hk := fun _ h => List.mem_append_left _ (List.mem_append_left _ h))).note _ _
  have hsys : d1.sys = { d.sys with mstate := .off } := by
    rw [show d1.sys = _ from h1.parts .sys (by decide), ← show d0.sys = d.sys from h0.parts .sys (by decide)]
    rfl
  have hpwr : d1.pwr = d.pwr := (h1.parts .pwr (by decide)).trans (hs.parts .pwr (by decide))
  have hvin : d0.pwr.vinBack = d.pwr.vinBack := congrArg (·.vinBack) (h0.parts .pwr (by decide))
  have h2 : Touches offParts (offKeys ++ d.waitKeys) d d1 :=
    (hs.mono (hk := List.subset_append_left _ _)).andThen h1 (hk := List.Subset.refl _)
  clear_value d1
  refine ⟨.put _ _ (h2.update (fun p hp => by cases p <;> simp_all [Part.same, offParts]) rfl)
    (List.mem_append_left _ (List.mem_append_left _ (by decide))), hsys, rfl, ?_, rfl, rfl, rfl⟩
  show ({ d1.pwr with pf := none, vinBack := d0.pwr.vinBack } : PwrSt) = _
  rw [hpwr, hvin]

namespace IsOff

variable {d d' : Dev} (h : IsOff d d')
include h

theorem mstate : d'.sys.mstate = .off := by rw [h.sys]

/-- A register that OFF does not write and that is not banked keeps its fields. -/
theorem get (f : Fld) (hf : f.key ∉ offKeys := by decide) (hb : f.key < 0x1000000 := by decide) (he : f.key ∉ eventKeys := by decide) :
    d'.get f = d.get f :=
  h.touches.get f (fun m => (List.mem_append.1 m).elim hf (d.not_mem_waitKeys hb)) he

end IsOff

end Dev
end Sys2Proof.Machine
end

section
/-! PROOFS. The entry into BOOT after a loss of everything volatile (R62, R63, R455). -/

-- One proof at a time: a side condition left to `decide` waits for every declaration before it, each in a thread of its own.
set_option Elab.async false

namespace Sys2Proof.Machine

/-- A register whose key the filter keeps reads as before. -/
theorem RegFile.get_filter (q : Nat → Bool) (f : RegFile) (k : Nat) (h : q k = true) :
    RegFile.get (f.filter (fun e => q e.1)) k = f.get k := by
  induction f with
  | nil => rfl
  | cons e r ih =>
    obtain ⟨a, w⟩ := e
    by_cases ha : q a = true
    · simp only [List.filter_cons, ha, if_true, RegFile.get, ih]
    · have hk : a ≠ k := fun e => ha (e ▸ h)
      simp only [List.filter_cons, ha, Bool.false_eq_true, if_false, ih, RegFile.get, if_neg hk]

namespace Dev

/-- An entry into BOOT leaves the registers that it keeps (R63). -/
theorem bootRegs_get (warm : Bool) (f : RegFile) (k : Nat) (h : keptReg warm k = true) : (bootRegs warm f).get k = f.get k := by
  have hfold : ∀ (l : List (Nat × W32)) (f : RegFile),
      (l.foldl (fun (f : RegFile) (e : Nat × W32) => if keptReg warm e.1 then f else f.set e.1 e.2) f).get k = f.get k := by
    intro l
    induction l with
    | nil => exact fun f => rfl
    | cons e l ih =>
      intro f
      refine (ih _).trans ?_
      dsimp only
      split
      · rfl
      · rw [RegFile.get_set, if_neg]
        rintro rfl
        contradiction
  exact (hfold _ _).trans (RegFile.get_filter (keptReg warm) f k h)

theorem commit_touches (d : Dev) (v : JVal) : Touches [.sil] [] d (d.commit v) := by
  unfold commit
  exact .ite (fun _ => .refl d) fun _ => (Touches.refl d).setSil _

theorem noteStep_touches (d : Dev) (n phase path consec cause : Nat) :
    Touches [.bst, .sil] [Reg.BST_EARLY.word.key] d (d.noteStep n phase path consec cause) := by
  unfold noteStep
  extract_lets x d1
  have h1 : Touches [.bst, .sil] [Reg.BST_EARLY.word.key] d d1 := (Touches.refl d).setBst _
  exact .ite (fun _ => h1.andThen (commit_touches _ _)) fun _ => .ite (fun _ => h1.put _ _) fun _ => .ite (fun _ => h1.put _ _) fun _ => h1

/-- The words that the start of a boot step writes (R452, R454, R467). -/
def startKeys : List Nat := keysOf [Reg.BST_EARLY.word, Reg.BST_STATUS.word, Reg.BST_IRQ_STATUS.word]

theorem startStep_touches (d : Dev) (n : Nat) : Touches [.bst, .sil] startKeys d (d.startStep n) := by
  unfold startStep
  extract_lets path c x d1
  have h1 : Touches [.bst, .sil] startKeys d d1 := (((Touches.refl d).setBst _).put _ _).andThen (noteStep_touches _ _ _ _ _ _)
  exact .ite (fun _ => ((h1.put _ _).raise _).offer _ _) fun _ => h1

theorem setSuspended_touches (d : Dev) (media : Nat) :
    Touches [] (keysOf [Reg.SYS_C0_SUSPEND.word, Reg.SYS_STATUS.word]) d (d.setSuspended media) := ((Touches.refl d).put _ _).putB _ _

theorem setRole_touches (d : Dev) (r : Role) : Touches [.sys, .lnd] (keysOf [Reg.SYS_STATUS.word, Reg.MTR_STATUS.word]) d (d.setRole r) :=
  have h : Touches [.sys, .lnd] (keysOf [Reg.SYS_STATUS.word, Reg.MTR_STATUS.word]) d _ := ((Touches.refl d).setSys _).put _ _
  (Touches.ite (fun _ => h.put _ _) fun _ => h).setLnd _

theorem hlReset_touches (d : Dev) : Touches [.hlk] (keysOf [Reg.HLK_STATUS.word, Reg.HLK_FILL.word]) d d.hlReset := by
  unfold hlReset hlSignals
  extract_lets
  exact .put _ _ (.put _ _ (.putB _ _ (.putB _ _ (.setHlk _ (.setHlk _ (.refl d))))))

/-- The words that an entry into BOOT writes once what it loses is lost, beside the supply's count of dips. -/
def bootKeys : List Nat :=
  startKeys ++ keysOf [Reg.HLK_STATUS.word, Reg.HLK_FILL.word, Reg.RFT_STATUS.word, Reg.SYS_STATUS.word, Reg.SYS_PIN_STATUS.word,
    Reg.PWR_STATUS.word, Reg.SYS_C0_SUSPEND.word, Reg.MTR_STATUS.word]

/-- What BOOT is on its entry without a warm start: the state, the supply, and the fields that it keeps (R62, R63). -/
structure IsBoot (d d' : Dev) : Prop where
  mstate : d'.sys.mstate = .boot
  cold : d'.sys.warm = false
  pf : d'.pwr.pf = none
  vinLow : d'.pwr.vinLow = d.pwr.vinLow
  get : ∀ f : Fld, keptReg false f.key = true → f.key ∉ bootKeys → f.lo ≤ f.hi →
    f.key ≠ Reg.PWR_VIN.dips.key ∨ f.hi < Reg.PWR_VIN.dips.lo →
    f.key ∉ eventKeys → d'.get f = d.get f

/-- What is lost leaves the registers that are kept (R63). -/
theorem dropVolatile_get (d : Dev) (warm : Bool) (f : Fld) (h : keptReg warm f.key = true) : (d.dropVolatile warm).get f = d.get f := by
  have hr : (d.dropVolatile warm).regs = bootRegs warm d.regs := by
    unfold dropVolatile recorderReset
    dsimp only
    split <;> rfl
  rw [get, get, hr, bootRegs_get warm d.regs f.key h]

theorem dropVolatile_pwr (d : Dev) (warm : Bool) : (d.dropVolatile warm).pwr =
    { d.pwr with pf := none, written := false, failedAt := none, vholdWaited := false, measured := false } := by
  unfold dropVolatile recorderReset
  dsimp only
  split <;> rfl

theorem joistReset_touches (d : Dev) : Touches [.jst] [] d d.joistReset := (Touches.refl d).setJst _

theorem beginBoot_isBoot (dv : Dev) (straps : Nat) : IsBoot dv (dv.beginBoot false straps) := by
  unfold beginBoot
  extract_lets d s d1 x1 x2 x3 x4 d2 d3 d4 d5 d6
  have h0 : Touches [] [] dv d := .ite (fun _ => dv.drainBuffer_touches) fun _ => (Touches.refl dv).settleOffers
  have hpwr : d.pwr = dv.pwr := h0.parts .pwr (by decide)
  have h1 : Touches [.jst, .hlk] (keysOf [Reg.HLK_STATUS.word, Reg.HLK_FILL.word]) (d.dropVolatile false) d1 :=
    (joistReset_touches _).mono.andThen (hlReset_touches _)
  have hpwr1 : d1.pwr = (d.dropVolatile false).pwr := h1.parts .pwr (by decide)
  have hget1 : ∀ f : Fld, keptReg false f.key = true → f.key ∉ bootKeys → f.key ∉ eventKeys → d1.get f = dv.get f := fun f hk hb he =>
    calc d1.get f = (d.dropVolatile false).get f :=
          h1.get f (fun m => hb ((by decide : keysOf [Reg.HLK_STATUS.word, Reg.HLK_FILL.word] ⊆ bootKeys) m)) he
      _ = d.get f := d.dropVolatile_get false f hk
      _ = dv.get f := h0.get f (by simp) he
  obtain ⟨p, hp, h2⟩ : ∃ p, d3 = p.put Reg.PWR_VIN.dips 0 ∧ Touches [] bootKeys d2 p :=
    ⟨_, rfl, (((((Touches.refl d2).put _ _).put _ _).put _ _).putB _ _).put _ _⟩
  have h4 : Touches [] [] d3 d4 := .ite (fun _ => .refl _) fun _ => (Touches.refl _).offer _ _
  have h5 : Touches [.sys, .lnd] bootKeys d4 d5 := ((d4.setRole_touches _).mono.andThen (setSuspended_touches _ _)).setLnd _
  have h6 : Touches [.bst, .sil] startKeys d5 (if s = 7 then d5 else d6.startStep (if false = true then 2 else 1)) :=
    .ite (fun _ => .refl _) fun _ => startStep_touches _ _
  have h36 : Touches [.sys, .lnd, .bst, .sil] bootKeys d3 _ := (h4.mono.andThen h5).andThen h6
  have hsys : d5.sys = { d2.sys with role := .solo } := congrArg (fun x : SysSt => { x with role := .solo }) (h4.parts .sys (by decide))
  have hpwr2 : ({ d1.pwr with straps := s, heldOff := false, rstHeld := false } : PwrSt) = d2.pwr := rfl
  refine ⟨?_, ?_, ?_, ?_, fun f hk hb hle hv he => ?_⟩
  · rw [show _ = d5.sys from h6.parts .sys (by decide), hsys]
  · rw [show _ = d5.sys from h6.parts .sys (by decide), hsys]
  · rw [show _ = d2.pwr from h36.parts .pwr (by decide), ← hpwr2, hpwr1, dropVolatile_pwr]
  · rw [show _ = d2.pwr from h36.parts .pwr (by decide), ← hpwr2, hpwr1, dropVolatile_pwr, ← hpwr]
  · calc _ = d3.get f := h36.get f hb he
      _ = p.get f := hp ▸ p.get_put_of_ne Reg.PWR_VIN.dips f 0 hle (by decide) (by decide)
          (hv.elim (fun h => .inl (Ne.symm h)) fun h => .inr (.inr h))
      _ = d2.get f := h2.get f hb he
      _ = d1.get f := by simp only [get, d2]
      _ = dv.get f := hget1 f hk hb he

end Dev
end Sys2Proof.Machine
end

section
/-! PROOFS. The self-test: what the end of a test, the end of all of them and the stop writes of a SHUTDOWN lead to (R25, R62, R458,
R460, R462). -/

-- One proof at a time: a side condition left to `decide` waits for every declaration before it, each in a thread of its own.
set_option Elab.async false

namespace Sys2Proof.Machine

/-- A run of the self-test once test `t` has ended. -/
def TestRun.ended (r : TestRun) (t : Nat) (failed : List Nat) : TestRun :=
  { r with
    running := r.running.filter (fun x => x != t)
    passed := r.passed + b2n failed.isEmpty
    failed := r.failed + b2n (!failed.isEmpty) }

namespace Dev

/-- The OFF that only a new supply takes the module out of (R458). -/
def keptOff (d : Dev) : Dev := { d with pwr := { d.pwr with heldOff := true } }

@[simp] theorem keptOff_sys (d : Dev) : d.keptOff.sys = d.sys := rfl
@[simp] theorem keptOff_heldOff (d : Dev) : d.keptOff.pwr.heldOff = true := rfl
@[simp] theorem keptOff_get (d : Dev) (f : Fld) : d.keptOff.get f = d.get f := by rw [get, get]; rfl

theorem clearOverrides_touches (d : Dev) (keep : Nat → Nat → Bool) (cause : Nat) : Touches [.rft] [] d (d.clearOverrides keep cause) := by
  unfold clearOverrides
  extract_lets
  split
  · exact (Touches.refl d).setRft _
  · exact ((Touches.refl d).setRft _).offer _ _

theorem announce_touches (d : Dev) (to_ : ModState) (cause : Nat) : Touches [.rft] [] d (d.announce to_ cause) :=
  (Touches.ite (fun _ => d.clearOverrides_touches _ _) fun _ => .refl d).offer _ _

theorem judgeLedger_touches (d : Dev) : Touches [] [Reg.SYS_STATUS.word.key] d d.judgeLedger := by
  unfold judgeLedger
  extract_lets
  exact .ite (fun _ => .refl d) fun _ => ((Touches.refl d).putB _ _).offer _ _

theorem judgeHoldup_touches (d : Dev) (cap esr : Nat) :
    Touches [] (keysOf [Reg.PWR_STATUS.word, Reg.SYS_STATUS.word]) d (d.judgeHoldup cap esr) :=
  ((Touches.refl d).putB _ _).andThen (judgeLedger_touches _)

theorem storeResult_touches (d : Dev) (test index result code : Nat) : Touches [.bst] [] d (d.storeResult test index result code) :=
  (Touches.refl d).setBst _

/-! ### Starting the tests that wait (R460) -/

theorem startTests_touches (d : Dev) : Touches [.bst] [] d d.startTests := by
  unfold startTests
  split
  · exact .refl d
  · exact (Touches.refl d).setBst _

theorem startTests_shut (d : Dev) : d.startTests.bst.shut = d.bst.shut := by
  unfold startTests
  split <;> rfl

/-- Starting tests keeps those that run and what has been counted; with none waiting it changes none. -/
theorem startTests_test {d : Dev} {r : TestRun} (h : d.bst.test = some r) :
    ∃ r', d.startTests.bst.test = some r' ∧ r'.passed = r.passed ∧ r'.failed = r.failed ∧ r'.restart = r.restart ∧
      r.running ⊆ r'.running ∧ (r.waiting = [] → r'.running = r.running ∧ r'.waiting = []) := by
  unfold startTests
  rw [h]
  extract_lets draw go run
  refine ⟨_, rfl, rfl, rfl, rfl, ?_, fun hw => ?_⟩
  · have hgo : ∀ (l : List Nat) (acc : List Nat × Bool), acc.1 ⊆ (l.foldl go acc).1 := by
      intro l
      induction l with
      | nil => exact fun acc => List.Subset.refl _
      | cons t l ih =>
        intro acc
        refine List.Subset.trans ?_ (ih _)
        simp only [go]
        split
        · exact List.Subset.refl _
        split
        · exact List.Subset.refl _
        · exact List.subset_append_left _ _
    exact hgo r.waiting (r.running, false)
  · simp only [hw, List.foldl_nil, List.filter_nil, and_self]

/-! ### The end of a test and of all tests (R62, R458) -/

/-- While tests run, nothing ends. -/
theorem finishTests_of_running {d : Dev} {r : TestRun} (h : d.bst.test = some r) (hr : r.running ≠ []) (straps : Nat) :
    d.finishTests straps = d := by
  unfold finishTests
  rw [h]
  simp [hr]

/-- The results of a self-test that has ended are reported, and its draw and duration shown (R458, R467). -/
def testsReported (d : Dev) (r : TestRun) : Dev :=
  (((({ d with bst := { d.bst with test := none } } : Dev).put Reg.BST_STATUS.testing 0).offer Ev.TEST_DONE
    [r.seq, r.passed, r.failed, r.incomplete]).put Reg.BST_TEST_PEAK.ms (min 65535 ((d.now - r.start) / 1000000))).put
    Reg.BST_TEST_PEAK.mw (min 65535 r.peak)

theorem testsReported_testing (d : Dev) (r : TestRun) : (d.testsReported r).get Reg.BST_STATUS.testing = 0 := by
  unfold testsReported
  rw [get_put_of_ne _ _ _ _ (by decide) (by decide) (by decide) (by decide),
    get_put_of_ne _ _ _ _ (by decide) (by decide) (by decide) (by decide)]
  exact get_put _ Reg.BST_STATUS.testing 0 (by decide) (by decide)

/-- After the last test the module enters BOOT, or OFF, where only a new supply takes it out (R458). -/
theorem finishTests_of_ended {d : Dev} {r : TestRun} (h : d.bst.test = some r) (hr : r.running = []) (hw : r.waiting = [])
    (hs : d.sys.mstate = .test) (straps : Nat) :
    d.finishTests straps = if r.restart then ((d.testsReported r).announce .boot causeTests).writeSuppressed.beginBoot false straps
      else ((d.testsReported r).announce .off causeTests).writeSuppressed.goOff.keptOff := by
  unfold finishTests
  rw [h]
  simp only [hr, hw, hs, List.isEmpty_nil, Bool.and_self, Bool.not_true, ne_eq, not_true_eq_false, decide_false, Bool.or_self,
    Bool.false_eq_true, if_false]
  rfl

/-- A test that runs and ends is counted, with its results; then those that wait may start, or all have ended (R459, R460). -/
theorem testFinished_of_running {d : Dev} {r : TestRun} {t : Nat} (h : d.bst.test = some r) (ht : t ∈ r.running) (failed : List Nat)
    (code straps : Nat) :
    ∃ y : Dev, d.testFinished t failed code straps = y.startTests.finishTests straps ∧ y.sys = d.sys ∧
      y.bst.test = some (r.ended t failed) := by
  unfold testFinished
  split
  case h_1 hn => exact absurd (h ▸ hn) (by simp)
  case h_2 r' hr' =>
  obtain rfl : r = r' := Option.some.inj (h ▸ hr')
  rw [if_neg (by simpa using ht)]
  extract_lets d1 bad x d2 d3
  refine ⟨d3, rfl, ?_, ?_⟩
  · have h1 : Touches [.bst] [] d d1 := (Touches.refl d).foldl _ fun x i _ => x.storeResult_touches _ _ _ _
    have h2 : Touches [.bst] [] d d2 := h1.setBst _
    have h3 : Touches [] (keysOf [Reg.PWR_STATUS.word, Reg.SYS_STATUS.word]) d2 d3 := .ite (fun _ => judgeHoldup_touches _ _ _) fun _ => .refl _
    exact (h3.parts .sys (by decide)).trans (h2.parts .sys (by decide))
  · have h3 : Touches [] (keysOf [Reg.PWR_STATUS.word, Reg.SYS_STATUS.word]) d2 d3 := .ite (fun _ => judgeHoldup_touches _ _ _) fun _ => .refl _
    rw [show d3.bst = d2.bst from h3.parts .bst (by decide)]
    simp only [d2, bad, TestRun.ended, Bool.not_not]

/-! ### A unit that faults in service (R25, R462) -/

theorem settleOffers_lastResult (d : Dev) (x : Nat × Nat) : d.settleOffers.lastResult x = d.lastResult x := by
  rw [(settleOffers_only d).rest]
  rfl

/-- A stored failure is the latest result of its index, of this day. -/
theorem lastResult_storeResult (d : Dev) (t i code : Nat) : (d.storeResult t i 2 code).lastResult (t, i) = some (true, 0) := by
  simp [lastResult, storeResult, List.filter_append, List.getLast?_append]
  exact Nat.sub_self _

/-- A failure stored for another index, or for this one again, leaves the latest result a failure of this day. -/
theorem lastResult_storeResult_of {d : Dev} {t i : Nat} (h : d.lastResult (t, i) = some (true, 0)) (j code : Nat) :
    (d.storeResult t j 2 code).lastResult (t, i) = some (true, 0) := by
  by_cases hj : j = i
  · subst hj; exact d.lastResult_storeResult t j code
  · have hres : ((d.storeResult t j 2 code).bst.results.filter (fun r => r.test == t && r.index == i && (r.result == 1 || r.result == 2)))
        = d.bst.results.filter (fun r => r.test == t && r.index == i && (r.result == 1 || r.result == 2)) := by
      simp only [storeResult, List.filter_append, List.filter_filter]
      rw [List.filter_cons_of_neg (by simp [hj]), List.filter_nil, List.append_nil]
      refine List.filter_congr fun x _ => ?_
      by_cases hx : x.test = t ∧ x.index = i ∧ (x.result = 1 ∨ x.result = 2)
      · obtain ⟨h1, h2, h3⟩ := hx
        have hi : i ≠ j := fun e => hj e.symm
        rcases h3 with h3 | h3 <;> simp [h1, h2, h3, hi]
      · have hf : (x.test == t && x.index == i && (x.result == 1 || x.result == 2)) = false := by
          simpa [and_assoc] using hx
        rw [hf, Bool.false_and]
    rw [← h, lastResult, hres]
    rfl

/-- Units reported as failed by a test of units stand as failed today; the module's state stays (R25, R462). -/
theorem unitFaults_spec (d : Dev) (t code : Nat) (units : List Nat) (hs : d.isState [.unframed, .ready, .service, .hold, .failsafe] = true)
    (ht : unitTestNos.contains t = true) : Touches [.bst] [] d (d.unitFaults t units code) ∧
      ∀ i ∈ units, (d.unitFaults t units code).lastResult (t, i) = some (true, 0) := by
  unfold unitFaults
  rw [if_pos (by rw [hs, ht]; rfl)]
  refine ⟨(Touches.refl d).foldl _ fun x i _ => (x.storeResult_touches _ _ _ _).offer _ _, ?_⟩
  have hkeep : ∀ (l : List Nat) (x : Dev) (i : Nat), x.lastResult (t, i) = some (true, 0) →
      (l.foldl (fun (d : Dev) i => (d.storeResult t i 2 code).offer ⟨Config.evUnitFault, Config.sevUnitFault⟩ [t, i]) x).lastResult (t, i) =
        some (true, 0) := by
    intro l
    induction l with
    | nil => exact fun x i h => h
    | cons j l ih => exact fun x i h => ih _ i (lastResult_storeResult_of h j code)
  intro i hi
  induction units generalizing d with
  | nil => simp at hi
  | cons j l ih =>
    rcases List.mem_cons.1 hi with rfl | hi
    · exact hkeep l _ i (d.lastResult_storeResult t i code)
    · exact ih _ hs hi

/-! ### The stop writes of a SHUTDOWN (R458) -/

/-- A transition sets the state, whatever else it ends (R62). -/
theorem goto_sys (d : Dev) (m : ModState) (cause : Nat) : (d.goto m cause).sys = { d.sys with mstate := m } := by
  unfold goto
  extract_lets x d1 d2
  split
  · rfl
  · exact (endWaits_touches d2).parts .sys (by decide)

/-- The tests of a TEST that is entered start under way. -/
theorem startTests_entered {y : Dev} {run : TestRun} (hm : y.sys.mstate = .test) (hs : y.bst.shut = none)
    (hg : y.get Reg.BST_STATUS.testing = 1) (ht : y.bst.test = some run) : y.startTests.sys.mstate = .test ∧
    y.startTests.bst.shut = none ∧ y.startTests.get Reg.BST_STATUS.testing = 1 ∧ y.startTests.bst.test.isSome = true := by
  obtain ⟨r', hr', -⟩ := startTests_test ht
  refine ⟨?_, ?_, ?_, ?_⟩
  · rw [show y.startTests.sys = y.sys from y.startTests_touches.parts .sys (by decide), hm]
  · rw [startTests_shut, hs]
  · rw [y.startTests_touches.get Reg.BST_STATUS.testing, hg]
  · rw [hr']; rfl

/-- TEST begins with its tests under way (R62, R458). -/
theorem enterTest_spec (d : Dev) (r : ShutReq) : (d.enterTest r).sys.mstate = .test ∧ (d.enterTest r).bst.shut = none ∧
    (d.enterTest r).get Reg.BST_STATUS.testing = 1 ∧ (d.enterTest r).bst.test.isSome = true := by
  unfold enterTest
  extract_lets sel standby d1 run
  refine startTests_entered ?_ rfl ?_ (run := run) rfl
  · exact congrArg (·.mstate) (d.goto_sys .test causeCommand)
  · exact get_put (d.goto .test causeCommand) Reg.BST_STATUS.testing 1 (by decide) (by decide)

/-- The end of the last test decides the way on (R458): BOOT where a restart was asked, else OFF. -/
theorem testFinished_of_last {d : Dev} {r : TestRun} {t : Nat} (h : d.bst.test = some r) (hr : r.running = [t]) (hw : r.waiting = [])
    (hs : d.sys.mstate = .test) (failed : List Nat) (code straps : Nat) :
    ∃ (y : Dev) (r' : TestRun), y.get Reg.BST_STATUS.testing = 0 ∧ r'.restart = r.restart ∧
      d.testFinished t failed code straps = if r'.restart then (y.announce .boot causeTests).writeSuppressed.beginBoot false straps
      else (y.announce .off causeTests).writeSuppressed.goOff.keptOff := by
  obtain ⟨y, he, hys, hyt⟩ := testFinished_of_running h (hr ▸ List.mem_singleton.2 rfl) failed code straps
  obtain ⟨r', hr', -, -, hrestart, -, hnone⟩ := startTests_test hyt
  obtain ⟨hr'run, hr'w⟩ := hnone hw
  have hrun : r'.running = [] := hr'run.trans (by simp [TestRun.ended, hr])
  have hst : y.startTests.sys.mstate = .test := by
    rw [show y.startTests.sys = y.sys from y.startTests_touches.parts .sys (by decide), hys, hs]
  exact ⟨_, r', testsReported_testing _ r', hrestart, he.trans (finishTests_of_ended hr' hrun hr'w hst straps)⟩

/-- The stop writes of a SHUTDOWN lead into TEST, or OFF, where only a new supply takes the module out (R458). -/
theorem stopWritesDone_of_shut {d : Dev} {r : ShutReq} (h : d.bst.shut = some r)
    (hs : d.isState [.unframed, .ready, .service, .failsafe] = true) (straps : Nat) :
    d.stopWritesDone straps =
      if r.test then (({ d with bst := { d.bst with shut := none } } : Dev).stopWrites 1 true).enterTest r
      else (((({ d with bst := { d.bst with shut := none } } : Dev).offer Ev.TEST_DONE [r.seq, 0, 0, 0]).announce .off
          causeCommand).stopWrites 1 true).goOff.keptOff := by
  unfold stopWritesDone
  rw [h]
  simp only [hs, Bool.not_true, Bool.false_eq_true, if_false]
  rfl

end Dev

/-- Settles O36: the last test to end decides between BOOT and OFF, and the stop writes between TEST and OFF. -/
theorem testCommandsComplete : Obligations.TestCommandsComplete := by
  unfold Obligations.TestCommandsComplete
  refine ⟨fun t code test failed straps s r hr hs ht => ⟨fun ⟨u, hu, hne⟩ => ?_, fun hrun hw hx => ?_, fun hrun hw hx => ?_⟩,
    fun t code i test failed straps s hn hs hu hi => ?_, fun t straps s r hr hs => ⟨fun hx => ?_, fun hx => ?_⟩⟩
  · refine completes_of_runAt (f := fun d => d.testFinished test.val failed code straps.val) rfl ?_
    obtain ⟨y, he, hys, hyt⟩ := Dev.testFinished_of_running (d := s.dev.atTime t) hr ht failed code straps
    obtain ⟨r', hr', hp, hf, -, hsub, -⟩ := Dev.startTests_test hyt
    have hrun : r'.running ≠ [] := List.ne_nil_of_mem (hsub (List.mem_filter.2 ⟨hu, by simpa using hne⟩))
    rw [he, Dev.finishTests_of_running hr' hrun, Dev.settleOffers_sys, Dev.settleOffers_bst]
    exact ⟨by rw [show _ = y.sys from y.startTests_touches.parts .sys (by decide), hys]; exact hs, r', hr', hp, hf⟩
  · refine completes_of_runAt (f := fun d => d.testFinished test.val failed code straps.val) rfl ?_
    obtain ⟨y, r', -, hre, he⟩ := Dev.testFinished_of_last (d := s.dev.atTime t) hr hrun hw hs failed code straps
    have hb := Dev.beginBoot_isBoot (y.announce .boot causeTests).writeSuppressed straps
    rw [he, if_pos (hre.trans hx), Dev.settleOffers_sys]
    exact ⟨hb.mstate, hb.cold⟩
  · refine completes_of_runAt (f := fun d => d.testFinished test.val failed code straps.val) rfl ?_
    obtain ⟨y, r', hy, hre, he⟩ := Dev.testFinished_of_last (d := s.dev.atTime t) hr hrun hw hs failed code straps
    have hno : ¬ r'.restart = true := by simp [hre, hx]
    have ho := Dev.goOff_isOff (y.announce .off causeTests).writeSuppressed
    have hg : (y.announce .off causeTests).writeSuppressed.goOff.get Reg.BST_STATUS.testing = 0 := by
      rw [ho.get Reg.BST_STATUS.testing, (Dev.writeSuppressed_touches _).get Reg.BST_STATUS.testing,
        (Dev.announce_touches y _ _).get Reg.BST_STATUS.testing, hy]
    rw [he, if_neg hno, Dev.settleOffers_sys, Dev.settleOffers_pwr, Dev.settleOffers_get _ _ (by decide), Dev.keptOff_sys,
      Dev.keptOff_get]
    exact ⟨ho.mstate, Dev.keptOff_heldOff _, hg⟩
  · refine completes_of_runAt (f := fun d => d.testFinished test.val failed code straps.val) rfl ?_
    obtain ⟨h1, h2⟩ := Dev.unitFaults_spec (s.dev.atTime t) test.val code failed hs hu
    have he : (s.dev.atTime t).testFinished test.val failed code straps.val = (s.dev.atTime t).unitFaults test.val failed code := by
      unfold Dev.testFinished
      rw [show (s.dev.atTime t).bst.test = none from hn]
    rw [he, Dev.settleOffers_lastResult, Dev.settleOffers_sys, show _ = (s.dev.atTime t).sys from h1.parts .sys (by decide)]
    exact ⟨h2 i hi, rfl⟩
  · refine completes_of_runAt (f := fun d => d.stopWritesDone straps.val) rfl ?_
    rw [Dev.stopWritesDone_of_shut (d := s.dev.atTime t) hr hs, if_pos hx, Dev.settleOffers_sys, Dev.settleOffers_bst,
      Dev.settleOffers_get _ _ (by decide)]
    exact Dev.enterTest_spec _ r
  · refine completes_of_runAt (f := fun d => d.stopWritesDone straps.val) rfl ?_
    rw [Dev.stopWritesDone_of_shut (d := s.dev.atTime t) hr hs, if_neg (by rw [hx]; decide), Dev.settleOffers_sys, Dev.settleOffers_pwr,
      Dev.keptOff_sys]
    exact ⟨(Dev.goOff_isOff _).mstate, Dev.keptOff_heldOff _⟩

end Sys2Proof.Machine
end

section
/-! PROOFS. The supply: its return, its failure, its dips and range, and the hold-up (R16, R314-R321). -/

-- One proof at a time: a side condition left to `decide` waits for every declaration before it, each in a thread of its own.
set_option Elab.async false

namespace Sys2Proof.Machine
namespace Dev

/-- A saturating count of events goes up by one. -/
theorem get_bump (d : Dev) (f : Fld) (h : f.lo ≤ f.hi) (h' : f.hi < 32) :
    (d.bump f).get f = min (d.get f + 1) (2 ^ (f.hi + 1 - f.lo) - 1) := by
  have hpos : 0 < 2 ^ (f.hi + 1 - f.lo) := Nat.two_pow_pos _
  rw [bump, get_put d f _ h h', satAdd, Nat.mod_eq_of_lt (by omega)]

/-- A count leaves the other fields. -/
theorem get_bump_of_ne (d : Dev) (f g : Fld) (hg : g.lo ≤ g.hi) (hf : f.lo ≤ f.hi) (h' : f.hi < 32)
    (h : f.key ≠ g.key ∨ f.hi < g.lo ∨ g.hi < f.lo) : (d.bump f).get g = d.get g := d.get_put_of_ne f g _ hg hf h' h

@[simp] theorem atTime_get (d : Dev) (t : Nat) (f : Fld) : (d.atTime t).get f = d.get f := by rw [get, get, atTime_regs]

/-- A value limited to what its field holds is stored whole. -/
theorem min_mod (v m n : Nat) (h : m < n) : min v m % n = min v m := Nat.mod_eq_of_lt (Nat.lt_of_le_of_lt (Nat.min_le_right v m) h)

@[simp] theorem offer_get (d : Dev) (e : EvCode) (args : List Nat) (f : Fld) : (d.offer e args).get f = d.get f := by
  rw [get, get, offer_regs]

/-! ### OFF ends (R62, R315) -/

/-- What the end of OFF leaves: BOOT, or OFF still where RST_N is low, and the fields that both keep. -/
structure IsLeft (d d' : Dev) : Prop where
  mstate : d'.sys.mstate = if d.pwr.rstLow then d.sys.mstate else .boot
  vinLow : d'.pwr.vinLow = false
  pf : d.pwr.pf = none → d'.pwr.pf = none
  get : ∀ f : Fld, keptReg false f.key = true → f.key ∉ bootKeys → f.lo ≤ f.hi →
    f.key ≠ Reg.PWR_VIN.dips.key ∨ f.hi < Reg.PWR_VIN.dips.lo →
    f.key ≠ Reg.CLK_STATUS.rc_ok.key → f.key ∉ eventKeys → d'.get f = d.get f

theorem leaveOff_isLeft (dv : Dev) (straps : Nat) : IsLeft dv (dv.leaveOff straps) := by
  unfold leaveOff
  extract_lets x0 d d1
  have h1 : Touches [] (Reg.CLK_STATUS.rc_ok.key :: bootKeys) d d1 := ((((Touches.refl d).put _ _).put _ _).put _ _).put _ _
  have hpwr1 : d1.pwr = d.pwr := h1.parts .pwr (by decide)
  have hget1 : ∀ f : Fld, f.key ∉ bootKeys → f.key ≠ Reg.CLK_STATUS.rc_ok.key → f.key ∉ eventKeys → d1.get f = dv.get f := by
    intro f hb hc he
    rw [h1.get f (fun m => (List.mem_cons.1 m).elim hc hb) he]
    rw [get, get]
  have ha := announce_touches d1 .boot causePower
  have hb := beginBoot_isBoot (d1.announce .boot causePower) straps
  split
  next hrst =>
    refine ⟨?_, ?_, fun hp => ?_, fun f hk hb hl hv hc he => hget1 f hb hc he⟩
    · rw [show d1.sys = d.sys from h1.parts .sys (by decide), if_pos hrst]
    · rw [hpwr1]
    · rw [hpwr1]; exact hp
  next hrst =>
    refine ⟨?_, ?_, fun _ => hb.pf, fun f hk hbk hl hv hc he => ?_⟩
    · rw [if_neg hrst]; exact hb.mstate
    · rw [enterBoot, hb.vinLow, show _ = d1.pwr from ha.parts .pwr (by decide), hpwr1]
    · rw [enterBoot, hb.get f hk hbk hl hv he, ha.get f (by simp) he, hget1 f hbk hc he]

/-! ### The power-fail sequence (R318-R321) -/

/-- What the end of the sequence leaves: OFF, or what the end of OFF leaves where VIN has returned; step and count shown (R320, R325). -/
structure IsEnded (d : Dev) (r : PfRun) (step : Nat) (d' : Dev) : Prop where
  pf : d'.pwr.pf = none
  mstate : d'.sys.mstate = if r.vinReturned.isSome = true ∧ r.rstLow = false then .boot else .off
  off : r.vinReturned = none → d'.mem = [] ∧ d'.jst.items = [] ∧ d'.rft.sweeping = false ∧ d'.cut.load = none ∧ d'.pwr.vinLow = d.pwr.vinLow
  step : d'.get Reg.PWR_PF_LAST.step = step % 16
  count : d'.get Reg.PWR_PF_CNT.count = min (d.get Reg.PWR_PF_CNT.count + 1) 65535

theorem pfEnd_isEnded (d : Dev) (r : PfRun) (step : Nat) : IsEnded d r step (d.pfEnd r step) := by
  unfold pfEnd
  extract_lets us back d1 d2 x d3
  have hstep1 : d1.get Reg.PWR_PF_LAST.step = step % 16 := by
    simp (disch := decide) only [d1, get_bump_of_ne, get_put_of_ne, get_put]
    rfl
  have hcount1 : d1.get Reg.PWR_PF_CNT.count = min (d.get Reg.PWR_PF_CNT.count + 1) 65535 := by
    simp (disch := decide) only [d1, get_bump, get_put_of_ne]
    rfl
  have hpwr1 : d1.pwr = d.pwr := by simp [d1]
  have ho : IsOff d1 d2 := goOff_isOff d1
  have hstep2 : d3.get Reg.PWR_PF_LAST.step = step % 16 := by
    rw [← hstep1, ← ho.get Reg.PWR_PF_LAST.step]
    simp only [d3, get]
  have hcount2 : d3.get Reg.PWR_PF_CNT.count = min (d.get Reg.PWR_PF_CNT.count + 1) 65535 := by
    rw [← hcount1, ← ho.get Reg.PWR_PF_CNT.count]
    simp only [d3, get]
  have hpf : d3.pwr.pf = none := congrArg (·.pf) ho.pwr
  split
  next straps hs =>
    have hl := leaveOff_isLeft d3 straps
    refine ⟨hl.pf hpf, ?_, fun hn => absurd (hs ▸ hn) (by simp), ?_, ?_⟩
    · rw [hl.mstate, show d3.pwr.rstLow = r.rstLow from rfl, show d3.sys.mstate = .off from ho.mstate]
      cases r.rstLow <;> simp [hs]
    · rw [hl.get Reg.PWR_PF_LAST.step (by decide) (by decide) (by decide) (by decide) (by decide) (by decide), hstep2]
    · rw [hl.get Reg.PWR_PF_CNT.count (by decide) (by decide) (by decide) (by decide) (by decide) (by decide), hcount2]
  next hs =>
    refine ⟨hpf, ?_, fun _ => ⟨ho.mem, ho.items, ho.sweeping, ho.load, ?_⟩, hstep2, hcount2⟩
    · rw [show d3.sys.mstate = .off from ho.mstate, if_neg (by simp [hs])]
    · show d2.pwr.vinLow = _
      rw [ho.pwr, hpwr1]

/-- A sequence goes on, or has ended in OFF; what it began by dropping stays dropped (R318, R320). -/
structure IsStopping (d d' : Dev) : Prop where
  items : d'.jst.items = []
  sweeping : d'.rft.sweeping = false
  load : d'.cut.load = none
  vinLow : d'.pwr.vinLow = d.pwr.vinLow
  goes : d'.sys.mstate = .off ∨ d'.pwr.pf.isSome = true

/-- The flush path's next record drops nothing of this. -/
theorem IsStopping.journal {d y : Dev} (h : IsStopping d y) (p : JPrio) (v : JVal) : IsStopping d (y.journal p v) :=
  have hj := y.journal_touches p v 0
  have hpwr : (y.journal p v).pwr = y.pwr := hj.parts .pwr (by decide)
  ⟨(congrArg (·.items) (hj.parts .jst (by decide))).trans h.items, (congrArg (·.sweeping) (hj.parts .rft (by decide))).trans h.sweeping,
    (congrArg (·.load) (hj.parts .cut (by decide))).trans h.load, hpwr ▸ h.vinLow, by
    rw [hpwr, show (y.journal p v).sys = y.sys from hj.parts .sys (by decide)]; exact h.goes⟩

theorem pfAdvance_isStopping {d : Dev} {r : PfRun} (h : d.pwr.pf = some r) (hr : r.vinReturned = none) (hi : d.jst.items = [])
    (hs : d.rft.sweeping = false) (hl : d.cut.load = none) : IsStopping d d.pfAdvance := by
  unfold pfAdvance
  split
  next hn => exact absurd (h ▸ hn) (by simp)
  next r' hr' =>
  obtain rfl : r = r' := Option.some.inj (h ▸ hr')
  split
  · exact ⟨hi, hs, hl, rfl, .inr (by rw [h]; rfl)⟩
  split
  · exact ⟨hi, hs, hl, rfl, .inr rfl⟩
  extract_lets todo
  clear_value todo
  cases todo with
  | cons v rest =>
    refine .journal ?_ _ _
    exact ⟨hi, hs, hl, rfl, .inr rfl⟩
  | nil =>
    have he := pfEnd_isEnded d r 8
    obtain ⟨-, hi', hs', hl', hv'⟩ := he.off hr
    exact ⟨hi', hs', hl', hv', .inl (by rw [he.mstate, if_neg (by simp [hr])])⟩

theorem abortTests_touches (d : Dev) (tests : List Nat) (cause : Nat) :
    Touches [.bst] [Reg.BST_IRQ_STATUS.word.key] d (d.abortTests tests cause) := by
  unfold abortTests
  split
  · exact .refl d
  · exact .ite (fun _ => (Touches.refl d).setBst _) fun _ => (((Touches.refl d).setBst _).raise _).offer _ _

theorem endTests_touches (d : Dev) (cause : Nat) :
    Touches [.bst] (keysOf [Reg.BST_IRQ_STATUS.word, Reg.BST_STATUS.word]) d (d.endTests cause) :=
  ((d.abortTests_touches _ cause).mono.setBst _).put _ _

/-- The supply as the comparator shows it at a power failure (R314, R318). -/
def shownLow (d : Dev) (vin vhold : Nat) : Dev :=
  (({ d with pwr := { d.pwr with vinLow := true } } : Dev).put Reg.PWR_VIN.mv (min vin 65535)).put Reg.PWR_VHOLD.mv (min vhold 65535)

section
variable {d : Dev} (h : d.sys.mstate ≠ .off) (hp : d.pwr.pf = none) (ha : d.get Reg.PWR_STATUS.pf_armed = 1) (vin vhold : Nat)
include h hp ha

/-- Before the mount, or with a stopped clock, nothing is written and the module is OFF at once (R309, R319). -/
theorem powerFail_at_once (hm : d.pwr.stopped = true ∨ d.sil.mounted = false) : d.powerFail vin vhold =
    if d.pwr.stopped then (d.shownLow vin vhold).goOff else ((d.shownLow vin vhold).put Reg.BST_EARLY.interrupted 1).goOff := by
  unfold powerFail
  rw [if_neg h, if_neg (by simp [hp, flag, ha])]
  split
  · rfl
  · rename_i hs
    rw [if_pos (by simp [hm.resolve_left hs])]
    rfl

/-- A mounted store begins the sequence with the queues and the sweep dropped (R318). -/
theorem powerFail_begins (hs : d.pwr.stopped = false) (hm : d.sil.mounted = true) :
    ∃ (y : Dev) (r : PfRun), d.powerFail vin vhold = y.pfAdvance ∧ y.pwr.pf = some r ∧ r.vinReturned = none ∧ y.jst.items = [] ∧
      y.rft.sweeping = false ∧ y.cut.load = none ∧ y.pwr.vinLow = true := by
  unfold powerFail
  extract_lets x0 d0 x1 d1 x2 x3 x4 x5 x6 x7 d2
  have h1 : Touches [.bst, .rft] (keysOf [Reg.BST_IRQ_STATUS.word, Reg.BST_STATUS.word, Reg.SYS_C0_SUSPEND.word, Reg.SYS_STATUS.word]) d0 d1 :=
    (((((Touches.refl d0).offer _ _).andThen (endTests_touches _ _)).settleOffers).andThen (announce_touches _ _ _)).andThen
      (setSuspended_touches _ _)
  refine ⟨d2.settleOffers, ⟨d.now, 2, none, d.pwr.rstLow, []⟩, ?_, ?_⟩
  · rw [if_neg h, if_neg (by simp [hp, flag, ha]), if_neg (by simp [hs]), if_neg (by simp [hm])]
  have hv : d1.pwr.vinLow = true := congrArg (·.vinLow) (h1.parts .pwr (by decide))
  simp [d2, hv, x2, x3, x4, x5, x6, x7]

end

/-! ### The hold-up (R16, R316, R317) -/

/-- Judging the hold-up writes its condition and the ledger's only. -/
theorem judgeHoldup_get (d : Dev) (cap esr : Nat) (f : Fld) (hk : f.key ≠ Reg.SYS_STATUS.word.key) (he : f.key ∉ eventKeys) (hf : f.lo ≤ f.hi)
    (hn : Reg.PWR_STATUS.holdup_met.key ≠ f.key ∨ Reg.PWR_STATUS.holdup_met.hi < f.lo ∨ f.hi < Reg.PWR_STATUS.holdup_met.lo) :
    (d.judgeHoldup cap esr).get f = d.get f :=
  ((judgeLedger_touches _).get f (by simpa using hk) he).trans (d.get_put_of_ne Reg.PWR_STATUS.holdup_met f _ hf (by decide) (by decide) hn)

theorem judgeHoldup_met (d : Dev) (cap esr : Nat) : (d.judgeHoldup cap esr).get Reg.PWR_STATUS.holdup_met =
    b2n (680 ≤ cap && esr ≤ 1000 && d.flag Reg.PWR_STATUS.vhold_ok && !d.comparatorFails) :=
  ((judgeLedger_touches _).get Reg.PWR_STATUS.holdup_met).trans ((d.get_put Reg.PWR_STATUS.holdup_met _ (by decide) (by decide)).trans
    (Nat.mod_eq_of_lt (by unfold b2n; split <;> decide)))

/-- A measurement in the registers, before it is judged (R317). -/
def measuredHoldup (d : Dev) (cap esr : Nat) : Dev :=
  ((((({ d with pwr := { d.pwr with holdAt := some d.nowSec, measured := true } } : Dev).put Reg.PWR_HOLDUP.cap_100nf (min cap 8191)).put
    Reg.PWR_HOLDUP.esr_10mohm (min (esr / 10) 1023)).put Reg.PWR_HOLDUP.age_days 0).raise Reg.PWR_IRQ_STATUS.measured).offer
    Ev.HOLDUP_MEASURED [cap, esr]

theorem measuredHoldup_touches (d : Dev) (cap esr : Nat) :
    Touches [.pwr] (keysOf [Reg.PWR_HOLDUP.word, Reg.PWR_IRQ_STATUS.word]) d (d.measuredHoldup cap esr) :=
  ((((((Touches.refl d).setPwr _).put _ _).put _ _).put _ _).raise _).offer _ _

/-- The measurement's judgement reads the hold-up's voltage and T12 as they were. -/
theorem measuredHoldup_met (d : Dev) (cap esr : Nat) : ((d.measuredHoldup cap esr).judgeHoldup cap esr).get Reg.PWR_STATUS.holdup_met =
    b2n (680 ≤ cap && esr ≤ 1000 && d.flag Reg.PWR_STATUS.vhold_ok && !d.comparatorFails) := by
  have h := d.measuredHoldup_touches cap esr
  have hb : (d.measuredHoldup cap esr).bst = d.bst := h.parts .bst (by decide)
  rw [judgeHoldup_met, flag, flag, h.get Reg.PWR_STATUS.vhold_ok, comparatorFails, comparatorFails, hb]

/-- A measurement is judged; one out of R16's limits raises its interrupt, which leaves every other field. -/
theorem holdupMeasured_get (d : Dev) (cap esr : Nat) (f : Fld) (hf : f.lo ≤ f.hi)
    (hn : Reg.PWR_IRQ_STATUS.holdup_low.key ≠ f.key ∨ Reg.PWR_IRQ_STATUS.holdup_low.hi < f.lo ∨ f.hi < Reg.PWR_IRQ_STATUS.holdup_low.lo) :
    (d.holdupMeasured cap esr).get f = ((d.measuredHoldup cap esr).judgeHoldup cap esr).get f := by
  unfold holdupMeasured
  extract_lets x0 y d1 d2
  split
  · rfl
  · rw [offer_get, get_raise_of_ne _ _ _ hf (by decide) (by decide) hn]
    rfl

theorem holdupMeasured_pwr (d : Dev) (cap esr : Nat) : (d.holdupMeasured cap esr).pwr = { d.pwr with holdAt := some d.nowSec, measured := true } := by
  have h : Touches [] (keysOf [Reg.PWR_STATUS.word, Reg.SYS_STATUS.word, Reg.PWR_IRQ_STATUS.word]) (d.measuredHoldup cap esr)
      (d.holdupMeasured cap esr) :=
    have hj := (judgeHoldup_touches (d.measuredHoldup cap esr) cap esr).mono
    .ite (fun _ => hj) fun _ => (hj.raise _).offer _ _
  rw [show (d.holdupMeasured cap esr).pwr = _ from h.parts .pwr (by decide)]
  rfl

end Dev

/-- Settles O33: the entry into BOOT, the sequence's end and the judged hold-up each keep the registers that the statement reads. -/
theorem powerCommandsComplete : Obligations.PowerCommandsComplete := by
  unfold Obligations.PowerCommandsComplete
  refine ⟨fun t vin straps s hv => ⟨fun hp hm hh => ?_, fun r hp hr => ?_⟩,
    fun t vin vhold s hm hp ha => ⟨fun hs hmt => ?_, fun hs => ?_, fun hs hmt => ?_⟩, fun t s hm => ?_, fun t mv s hm => ?_,
    fun t mv s hm hst hok hw ht => ?_, fun t mv s hm hmv => ?_, fun t cap esr s hs => ?_, fun t s r hp => ?_⟩
  · refine completes_of_runAt (Eq.refl (execPowerOn t straps vin s)) ?_
    have hl := Dev.leaveOff_isLeft ((s.dev.atTime t).put Reg.PWR_VIN.mv (min vin 65535)) straps.val
    have hmv := hl.get Reg.PWR_VIN.mv (by decide) (by decide) (by decide) (by decide) (by decide) (by decide)
    simp only [if_neg (Nat.not_lt.2 hv), Dev.atTime_pwr, hp, Dev.atTime_sys, hm, hh, ne_eq, not_true_eq_false, decide_false,
      Bool.or_self, Bool.false_eq_true, if_false, Dev.settleOffers_sys, Dev.settleOffers_pwr]
    refine ⟨?_, hl.vinLow, ?_⟩
    · rw [hl.mstate, Dev.put_pwr, Dev.put_sys, Dev.atTime_pwr, Dev.atTime_sys, hm]
    · rw [Dev.settleOffers_get _ _ (by decide), hmv, Dev.get_put _ _ _ (by decide) (by decide), Dev.min_mod _ _ _ (by decide)]
  · refine completes_of_runAt (Eq.refl (execPowerOn t straps vin s)) ?_
    simp only [if_neg (Nat.not_lt.2 hv), Dev.atTime_pwr, hp, hr, Option.isSome_none, Bool.false_eq_true, if_false, Dev.settleOffers_sys,
      Dev.settleOffers_pwr, Dev.atTime_sys, and_self]
  · refine completes_of_runAt (Eq.refl (execPowerFail t vin vhold s)) ?_
    have he := Dev.powerFail_at_once (d := s.dev.atTime t) hm hp ha vin vhold (.inr hmt)
    rw [if_neg (by simp [hs])] at he
    have ho := Dev.goOff_isOff (((s.dev.atTime t).shownLow vin vhold).put Reg.BST_EARLY.interrupted 1)
    simp only [he, Dev.settleOffers_sys, Dev.settleOffers_pwr, Dev.settleOffers_mem, Dev.putB_sys, Dev.putB_pwr, Dev.putB_mem]
    refine ⟨ho.mstate, ?_, ho.mem, ?_⟩
    · rw [Dev.settleOffers_get _ _ (by decide), Dev.putB, Dev.get_put_of_ne _ _ _ _ (by decide) (by decide) (by decide) (by decide),
        ho.get Reg.BST_EARLY.interrupted, Dev.get_put _ _ _ (by decide) (by decide)]
      decide
    · rw [ho.pwr]; rfl
  · refine completes_of_runAt (Eq.refl (execPowerFail t vin vhold s)) ?_
    have he := Dev.powerFail_at_once (d := s.dev.atTime t) hm hp ha vin vhold (.inl hs)
    rw [if_pos (by simp [hs])] at he
    have ho := Dev.goOff_isOff ((s.dev.atTime t).shownLow vin vhold)
    simp only [he, Dev.settleOffers_sys, Dev.settleOffers_mem, Dev.putB_sys, Dev.putB_mem]
    exact ⟨ho.mstate, ho.mem⟩
  · refine completes_of_runAt (Eq.refl (execPowerFail t vin vhold s)) ?_
    obtain ⟨y, r, he, hpf, hr, hi, hsw, hl, hv⟩ := Dev.powerFail_begins (d := s.dev.atTime t) hm hp ha vin vhold hs hmt
    have hs' := Dev.pfAdvance_isStopping hpf hr hi hsw hl
    simp only [he, Dev.settleOffers_sys, Dev.settleOffers_pwr, Dev.settleOffers_jst, Dev.settleOffers_rft, Dev.settleOffers_cut,
      Dev.putB_sys, Dev.putB_pwr, Dev.putB_jst, Dev.putB_rft, Dev.putB_cut]
    exact ⟨hs'.items, hs'.sweeping, hs'.load, hs'.vinLow.trans hv, hs'.goes⟩
  · refine completes_of_runAt (Eq.refl (execVinDip t s)) ?_
    simp only [Dev.atTime_sys, hm, if_false]
    constructor
    · rw [Dev.settleOffers_get _ _ (by decide), Dev.get_raise _ _ (by decide) (by decide)]
    · rw [Dev.settleOffers_get _ _ (by decide), Dev.get_raise_of_ne _ _ _ (by decide) (by decide) (by decide) (by decide),
        Dev.get_bump _ _ (by decide) (by decide), Dev.atTime_get]
      rfl
  · refine completes_of_runAt (Eq.refl (execVinRange t mv s)) ?_
    have hc : (((decide (8000 ≤ mv) && decide (mv < 9000)) || decide (62000 < mv)) = true) = ((8000 ≤ mv ∧ mv < 9000) ∨ 62000 < mv) := by simp
    simp only [Dev.atTime_sys, hm, if_false, hc]
    split
    · simp (disch := decide) only [Dev.settleOffers_get, Dev.offer_get, Dev.get_raise_of_ne, Dev.get_raise, Dev.get_put, Dev.min_mod, and_self]
    · simp (disch := decide) only [Dev.settleOffers_get, Dev.get_put_of_ne, Dev.get_put, Dev.atTime_get, Dev.min_mod, and_self]
  · refine completes_of_runAt (Eq.refl (execVholdWaitTimeout t mv s)) ?_
    have hgate : (decide ((s.dev.atTime t).sys.mstate ≠ .boot) || decide ((s.dev.atTime t).get Reg.BST_STATUS.step ≠ 1) ||
        (s.dev.atTime t).flag Reg.PWR_STATUS.vhold_ok || (s.dev.atTime t).pwr.vholdWaited ||
        decide ((s.dev.atTime t).now < (s.dev.atTime t).bst.stepAt + 2000000000)) = false := by
      simp only [Dev.atTime_sys, hm, Dev.atTime_get, hst, Dev.flag, hok, Dev.atTime_pwr, hw, Dev.atTime_bst, Nat.not_lt.2 ht]
      decide
    simp only [hgate, Bool.false_eq_true, if_false]
    refine ⟨by simp, ?_⟩
    simp (disch := decide) only [Dev.settleOffers_get, Dev.offer_get, Dev.get_raise_of_ne, Dev.get_raise, Dev.get_put_of_ne, Dev.get_put,
      Dev.min_mod, Nat.zero_mod, and_self]
  · refine completes_of_runAt (Eq.refl (execVholdOk t mv s)) ?_
    simp only [Dev.atTime_sys, hm, Nat.not_lt.2 hmv, decide_false, Bool.or_self, Bool.false_eq_true, if_false]
    simp (disch := decide) only [Dev.settleOffers_get, Dev.judgeHoldup_get, Dev.get_put_of_ne, Dev.get_put, Dev.min_mod]
    decide
  · refine completes_of_runAt (Eq.refl (execHoldupMeasured t cap esr s)) ?_
    have hst : (s.dev.atTime t).isState [.boot, .test] = true := hs
    simp (disch := decide) only [hst, if_true, Dev.settleOffers_get, Dev.settleOffers_pwr, Dev.holdupMeasured_get, Dev.holdupMeasured_pwr,
      Dev.judgeHoldup_get, Dev.measuredHoldup_met, true_and]
    simp (disch := decide) only [Dev.measuredHoldup, Dev.offer_get, Dev.get_raise_of_ne, Dev.get_raise, Dev.get_put_of_ne, Dev.get_put,
      Dev.min_mod, Nat.zero_mod, true_and]
    simp only [Dev.flag, Dev.atTime_get, Dev.comparatorFails, Dev.atTime_bst]
  · refine completes_of_runAt (Eq.refl (execVholdLow t s)) ?_
    obtain ⟨y, hy, hg⟩ : ∃ y : Dev, (s.dev.atTime t).vholdLow = y.pfEnd r r.step ∧ y.regs = s.dev.regs := by
      unfold Dev.vholdLow
      rw [show (s.dev.atTime t).pwr.pf = some r from hp]
      exact ⟨_, rfl, rfl⟩
    have he := Dev.pfEnd_isEnded y r r.step
    simp only [hy, Dev.settleOffers_sys, Dev.settleOffers_pwr, Dev.settleOffers_mem]
    rw [Dev.settleOffers_get _ _ (by decide), Dev.settleOffers_get _ _ (by decide), he.step, he.count, Dev.get, hg]
    exact ⟨he.pf, he.mstate, fun hn => (he.off hn).1, rfl, rfl⟩

end Sys2Proof.Machine
end

section
/-! PROOFS. What the operations of a boundary leave of the beat: its count, its base and its step stay as the boundary set them, with
the pair's configuration, the absence of a test and the boundary interrupt (R47, R52). -/

-- One proof at a time: a side condition left to `decide` waits for every declaration before it, each in a thread of its own.
set_option Elab.async false

namespace Sys2Proof.Machine
namespace Dev

/-- What a boundary decides of the beat, the pair and the self-test, and the word of BEAT_IRQ_STATUS. -/
def beatView (d : Dev) : Nat × Nat × Option StepReq × Option PairCfg × Option TestRun × W32 :=
  (d.beat.count, d.beat.base, d.beat.step, d.pair.cfg, d.bst.test, d.regs.get Reg.BEAT_IRQ_STATUS.word.key)

end Dev

/-- `d'` has the beat of `d`, where no test runs. -/
def KeepsBeat (d d' : Dev) : Prop := d.bst.test = none → d'.beatView = d.beatView

/-- A register of a table above the beat's block is not BEAT_IRQ_STATUS. -/
theorem far_key {a b : Nat} (h : 0x010034 < a := by decide) : a + b ≠ 0x010034 := by omega

theorem far_key₂ {a b c : Nat} (h : 0x010034 < a := by decide) : a + b + c ≠ 0x010034 := by omega

namespace KeepsBeat

variable {d x y : Dev}

theorem refl (d : Dev) : KeepsBeat d d := fun _ => rfl

theorem test (h : KeepsBeat d x) (ht : d.bst.test = none) : x.bst.test = none :=
  (congrArg (·.2.2.2.2.1) (h ht)).trans ht

theorem trans (h : KeepsBeat d x) (h' : KeepsBeat x y) : KeepsBeat d y := fun ht => (h' (h.test ht)).trans (h ht)

/-- What came before keeps it too. -/
theorem after (h' : KeepsBeat x y) (h : KeepsBeat d x) : KeepsBeat d y := h.trans h'

theorem ite {c : Prop} [Decidable c] (hx : c → KeepsBeat d x) (hy : ¬ c → KeepsBeat d y) : KeepsBeat d (if c then x else y) := by
  split
  · exact hx ‹_›
  · exact hy ‹_›

theorem foldl {α : Type} {f : Dev → α → Dev} (l : List α) (hf : ∀ x a, KeepsBeat x (f x a)) (h : KeepsBeat d x) :
    KeepsBeat d (l.foldl f x) := by
  induction l generalizing x with
  | nil => exact h
  | cons a r ih => exact ih (h.trans (hf x a))

/-- A change of other components. -/
theorem set (h : KeepsBeat d x) (hb : y.beat = x.beat := by rfl) (hp : y.pair.cfg = x.pair.cfg := by rfl) (ht : y.bst = x.bst := by rfl)
    (hr : y.regs = x.regs := by rfl) : KeepsBeat d y :=
  h.trans fun _ => by simp only [Dev.beatView, hb, hp, ht, hr]

/-- A change of the beat beside its count, its base and its step. -/
theorem setBeat (v : BeatSt) (h : KeepsBeat d x) (hc : v.count = x.beat.count := by rfl) (hb : v.base = x.beat.base := by rfl)
    (hs : v.step = x.beat.step := by rfl) : KeepsBeat d { x with beat := v } :=
  h.trans fun _ => by simp only [Dev.beatView, hc, hb, hs]

theorem put (f : Fld) (v : Nat) (h : KeepsBeat d x) (hk : f.key ≠ 0x010034 := by decide) : KeepsBeat d (x.put f v) :=
  h.trans fun _ => by simp only [Dev.beatView, Dev.put_beat, Dev.put_pair, Dev.put_bst, x.put_regs_get f v Reg.BEAT_IRQ_STATUS.word.key hk]

theorem putB (f : Fld) (b : Bool) (h : KeepsBeat d x) (hk : f.key ≠ 0x010034 := by decide) : KeepsBeat d (x.putB f b) := h.put f _ hk

theorem bump (f : Fld) (h : KeepsBeat d x) (n : Nat := 1) (hk : f.key ≠ 0x010034 := by decide) : KeepsBeat d (x.bump f n) := h.put f _ hk

theorem raise (f : Fld) (h : KeepsBeat d x) (hk : f.key ≠ 0x010034 := by decide) : KeepsBeat d (x.raise f) := (h.put f _ hk).set

theorem offer (e : EvCode) (args : List Nat) (h : KeepsBeat d x) : KeepsBeat d (x.offer e args) := h.set

theorem of_touches {ps : List Part} {ks : List Nat} (h : KeepsBeat d x) (ht : Touches ps ks x y) (hb : .beat ∉ ps := by decide)
    (hp : .pair ∉ ps := by decide) (hs : .bst ∉ ps := by decide) (hk : 0x010034 ∉ ks := by decide) : KeepsBeat d y :=
  h.trans fun _ => by
    have hb' := ht.beat_eq hb
    have hp' : y.pair = x.pair := ht.parts .pair hp
    have hs' : y.bst = x.bst := ht.parts .bst hs
    have hr : y.regs.get 0x010034 = x.regs.get 0x010034 := ht.regs _ hk (by decide)
    simp only [Dev.beatView, hp', hs', Reg.BEAT_IRQ_STATUS.word, hr]
    rw [hb']

end KeepsBeat

namespace Dev

/-! ### The pair's bundle and the frames to the peer (R391, R392) -/

theorem mirror_keeps (d : Dev) (f : Bundle → Bundle) : KeepsBeat d (d.mirror f) := by
  unfold mirror
  exact .ite (fun _ => .refl d) fun _ => (KeepsBeat.refl d).set

theorem tieSend_keeps (d : Dev) (l : List Bytes) : KeepsBeat d (d.tieSend l) := by
  unfold tieSend
  extract_lets d1
  have h : KeepsBeat d d1 := (KeepsBeat.refl d).foldl _ fun x _ => (KeepsBeat.refl x).set
  clear_value d1
  exact .ite (fun _ => h) fun _ => h.set

theorem closeBundle_keeps (d : Dev) (outcome : Nat) : KeepsBeat d (d.closeBundle outcome) := by
  unfold closeBundle
  exact .ite (fun _ => .refl d) fun _ =>
    (((KeepsBeat.refl d).foldl _ fun x _ => (KeepsBeat.refl x).set).trans (mirror_keeps _ _)).trans (tieSend_keeps _ _)

theorem sendImage_keeps (d : Dev) : KeepsBeat d d.sendImage := d.tieSend_keeps _

/-! ### The module's state, the budget and the records of a boundary (R61, R62, R160, R301) -/

theorem endWaits_keeps (d : Dev) : KeepsBeat d d.endWaits :=
  (KeepsBeat.refl d).set.foldl _ fun x _ => (KeepsBeat.refl x).put _ _ (hk := far_key)

theorem showLands_keeps (d : Dev) : KeepsBeat d d.showLands := (KeepsBeat.refl d).set

theorem goto_keeps (d : Dev) (s : ModState) (cause : Nat) : KeepsBeat d (d.goto s cause) := by
  unfold goto
  extract_lets x d1 d2
  have h1 : KeepsBeat d d1 := ((KeepsBeat.refl d).set.put _ _).offer _ _
  clear_value d1
  have h2 : KeepsBeat d d2 := (showLands_keeps _).after (h1.putB _ _)
  exact .ite (fun _ => h2) fun _ => h2.trans (endWaits_keeps _)

theorem showBudget_keeps (d : Dev) : KeepsBeat d d.showBudget := by
  unfold showBudget
  extract_lets t late d1 d2
  have h1 : KeepsBeat d d1 := ((((KeepsBeat.refl d).put _ _).put _ _).put _ _).putB _ _
  have h2 : KeepsBeat d d2 := h1.put _ _
  exact .ite (fun _ => (h2.raise _).offer _ _) fun _ => h2

theorem rtcTicks_keeps (d : Dev) : KeepsBeat d d.rtcTicks.2 := by
  unfold rtcTicks
  split
  · exact .refl d
  · exact (KeepsBeat.refl d).set

theorem mapRecord_keeps (d : Dev) : KeepsBeat d d.mapRecord :=
  .ite (fun _ => .refl d) fun _ => d.rtcTicks_keeps.of_touches (journal_touches _ _ _ _)

theorem setQuality_keeps (d : Dev) (q : Nat) : KeepsBeat d (d.setQuality q) :=
  .ite (fun _ => .refl d) fun _ => ((KeepsBeat.refl d).put _ _).trans (mapRecord_keeps _)

theorem setUtc_keeps (d : Dev) (v : Int) (cause : Nat) : KeepsBeat d (d.setUtc v cause) :=
  .ite (fun _ => .refl d) fun _ => ((KeepsBeat.refl d).set.put _ _).offer _ _

theorem showSlew_keeps (d : Dev) : KeepsBeat d d.showSlew := (((KeepsBeat.refl d).put _ _).putB _ _).putB _ _

theorem sourceBoundary_keeps (d : Dev) : KeepsBeat d d.sourceBoundary := by
  unfold sourceBoundary
  split
  · exact .refl d
  · extract_lets x d1 d2
    have h1 : KeepsBeat d d1 := ((KeepsBeat.refl d).setBeat _).put _ _
    have h2 : KeepsBeat d d2 := .ite (fun _ => h1) fun _ => h1.offer _ _
    exact .ite (fun _ => h2.trans (setQuality_keeps _ _)) fun _ => h2

theorem showFill_keeps (d : Dev) : KeepsBeat d d.showFill := ((KeepsBeat.refl d).put _ _).put _ _

theorem discardPort_keeps (d : Dev) : KeepsBeat d d.discardPort := by
  unfold discardPort
  exact (showFill_keeps _).after ((KeepsBeat.refl d).set.bump _ _)

theorem startStop_keeps (d : Dev) : KeepsBeat d d.startStop := by
  unfold startStop
  extract_lets x d1
  have h1 : KeepsBeat d d1 := (KeepsBeat.refl d).set
  clear_value d1
  exact .ite (fun _ => h1.trans (goto_keeps _ _ _)) fun _ =>
    .ite (fun _ => (h1.trans (goto_keeps _ _ _)).trans (discardPort_keeps _)) fun _ => h1

theorem passesBoundary_keeps (d : Dev) : KeepsBeat d d.passesBoundary := by
  unfold passesBoundary
  split
  · exact .refl d
  · exact ((((KeepsBeat.refl d).setBeat _).put _ _).trans (showBudget_keeps _)).trans (mirror_keeps _ _)

theorem activateBoundary_keeps (d : Dev) : KeepsBeat d d.activateBoundary := by
  unfold activateBoundary
  split
  · exact .refl d
  · exact .ite (fun _ => .refl d) fun _ => (KeepsBeat.refl d).set.trans (goto_keeps _ _ _)

/-! ### The Lintel (R22, R96, R135, R136) -/

theorem abortTests_keeps (d : Dev) (tests : List Nat) (cause : Nat) : KeepsBeat d (d.abortTests tests cause) := fun ht => by
  unfold abortTests
  rw [ht]

theorem showSlots_keeps (d : Dev) : KeepsBeat d d.showSlots := ((KeepsBeat.refl d).put _ _).put _ _

theorem keyRefused_keeps (d : Dev) (id master usage : Nat) : KeepsBeat d (d.keyRefused id master usage) := by
  unfold keyRefused
  extract_lets bad d1
  have h1 : KeepsBeat d d1 := (((KeepsBeat.refl d).bump _).raise _).offer _ _
  exact .ite (fun _ => h1.offer _ _) fun _ => h1

theorem loadKey_keeps {d d' : Dev} {b : Blob} {i : Nat} (h : d.loadKey b = some (i, d')) : KeepsBeat d d' := by
  unfold loadKey at h
  split at h
  · obtain ⟨-, rfl⟩ := Prod.mk.inj (Option.some.inj h)
    exact (KeepsBeat.refl d).set
  · extract_lets x0 into at h
    have hinto : ∀ i keep, KeepsBeat d (into i keep).2 := fun i keep => ((showSlots_keeps _).after (KeepsBeat.refl d).set).bump _
    clear_value into
    split at h
    · rw [← show (into _ _).2 = d' from congrArg (·.2) (Option.some.inj h)]
      exact hinto _ _
    split at h
    · rw [← show (into _ _).2 = d' from congrArg (·.2) (Option.some.inj h)]
      exact hinto _ _
    · simp at h

theorem useKey_keeps (d : Dev) (id master usage : Nat) : KeepsBeat d (d.useKey id master usage).2.2 := by
  unfold useKey
  split
  · dsimp only
    split
    next h => exact loadKey_keeps h
    next => exact .refl d
  · exact d.keyRefused_keeps _ _ _

theorem setRad_keeps (d : Dev) (r : Nat) (f : RadSt → RadSt) : KeepsBeat d (d.setRad r f) := (KeepsBeat.refl d).set

theorem setTrk_keeps (d : Dev) (p : Nat) (f : TrkSt → TrkSt) : KeepsBeat d (d.setTrk p f) := (KeepsBeat.refl d).set

theorem loadC0_keeps (d : Dev) (f : SafetyFrame) (md seq : Nat) (fresh : Bool) : KeepsBeat d (d.loadC0 f md seq fresh) := by
  unfold loadC0
  extract_lets lm
  split
  · exact .refl d
  · have h := d.useKey_keeps (d.c0KeyOf md).1 (d.c0KeyOf md).2 useClass0
    split
    next st key d1 hu =>
    rw [hu] at h
    exact .ite (fun _ => h) fun _ => .ite (fun _ => h.trans (setRad_keeps _ _ _)) fun _ => h.trans (setTrk_keeps _ _ _)

theorem loadFrame_keeps (d : Dev) (f : SafetyFrame) (media : List Nat) (fresh : Bool) : KeepsBeat d (d.loadFrame f media fresh) :=
  (KeepsBeat.refl d).set.foldl _ fun x _ => x.loadC0_keeps _ _ _ _

theorem suspendC0_keeps (d : Dev) (md : Nat) (b : Bool) : KeepsBeat d (d.suspendC0 md b) :=
  (KeepsBeat.refl d).of_touches (setSuspended_touches _ _)

theorem queueC0_keeps (d : Dev) (come : List Nat) (r : Nat) : KeepsBeat d (d.queueC0 come r) :=
  (KeepsBeat.refl d).foldl _ fun x _ => ((suspendC0_keeps _ _ _).after (setRad_keeps x _ _)).offer _ _

theorem showAck_keeps (d : Dev) (on : Bool) : KeepsBeat d (d.showAck on) := (KeepsBeat.refl d).set.putB _ _

theorem latch_keeps (d : Dev) : KeepsBeat d d.latch := by
  unfold latch
  split
  · exact .refl d
  extract_lets old new gone come emg d1 d2 x0 d3 d4 d4' d5
  have h1 : KeepsBeat d d1 := (KeepsBeat.refl d).foldl _ fun x _ => (KeepsBeat.refl x).offer _ _
  have h2 : KeepsBeat d d2 := h1.foldl _ fun x _ => (KeepsBeat.refl x).offer _ _
  have h3 : KeepsBeat d d3 := h2.set
  have h4 : KeepsBeat d d4 := h3.foldl _ fun x _ => (loadFrame_keeps _ _ _ _).after (x.abortTests_keeps _ _)
  have h4' : KeepsBeat d d4' := h4.foldl _ fun x _ => x.queueC0_keeps _ _
  have h5 : KeepsBeat d d5 := (h4'.trans (showAck_keeps _ _)).set
  exact h5.set

theorem mapC0_keeps (d : Dev) (md : Nat) (f : List C0Send → List C0Send) : KeepsBeat d (d.mapC0 md f) :=
  .ite (fun _ => setRad_keeps _ _ _) fun _ => setTrk_keeps _ _ _

theorem reloadC0_keeps (d : Dev) (f : SafetyFrame) : KeepsBeat d (d.reloadC0 f) := by
  unfold reloadC0
  extract_lets media x
  refine .ite (fun _ => .refl d) fun _ => (KeepsBeat.refl d).set.foldl _ fun y md => ?_
  split
  · exact .refl y
  · exact (mapC0_keeps _ _ _).after ((loadC0_keeps _ _ _ _ _).after (mapC0_keeps _ _ _))

theorem cmdEntry_keeps (d : Dev) (c : CmdEntry) : KeepsBeat d (d.cmdEntry c) := .ite (fun _ => (KeepsBeat.refl d).set) fun _ => .refl d

theorem setSafety_keeps (d : Dev) (sec : Option Safety) : KeepsBeat d (d.setSafety sec) := by
  unfold setSafety
  extract_lets find kept edge x0 x1 d1 d2 d3 net d4
  have h1 : KeepsBeat d d1 := (KeepsBeat.refl d).set
  have h2 : KeepsBeat d d2 := .foldl _ (fun x _ => (KeepsBeat.refl x).offer _ _) (.ite (fun _ => h1.trans (cmdEntry_keeps _ _)) fun _ => h1)
  have h3 : KeepsBeat d d3 := .ite (fun _ => h2.of_touches (setSuspended_touches _ _)) fun _ => h2
  have h4 : KeepsBeat d d4 := h3.foldl _ fun x _ => ((KeepsBeat.refl x).put _ _ (hk := far_key)).put _ _ (hk := far_key)
  refine h4.foldl _ fun x a => ?_
  split
  · exact x.reloadC0_keeps _
  · exact .refl x

/-! ### A load and a patch (R91, R98-R101) -/

theorem enterHold_keeps (d : Dev) (run : LoadRun) : KeepsBeat d (d.enterHold run) := (goto_keeps _ _ _).after ((KeepsBeat.refl d).set.put _ _)

theorem leaveHold_keeps (d : Dev) (run : LoadRun) : KeepsBeat d (d.leaveHold run) := by
  unfold leaveHold
  extract_lets fresh d1 d2 x0 x1 d3
  have h1 : KeepsBeat d d1 := (goto_keeps _ _ _).after (d.setSafety_keeps _)
  have h2 : KeepsBeat d d2 := .ite (fun _ => h1.set) fun _ => h1
  have h3 : KeepsBeat d d3 := h2.set.setBeat _
  exact .of_touches ((showBudget_keeps _).after ((((h3.put _ _).put _ _).put _ _).offer _ _)) (judgeLedger_touches _)

theorem loadBoundary_keeps (d : Dev) : KeepsBeat d d.loadBoundary := by
  unfold loadBoundary
  split
  · exact .refl d
  extract_lets set
  split
  · exact .refl d
  · exact .ite (fun _ => (KeepsBeat.refl d).set.put _ _) fun _ =>
      .ite (fun _ => (mirror_keeps _ _).after (d.enterHold_keeps _)) fun _ => .refl d
  · exact .ite (fun _ => (KeepsBeat.refl d).set) fun _ => .refl d
  · exact .ite (fun _ => .refl d) fun _ => (mirror_keeps _ _).after (d.leaveHold_keeps _)

/-! ### Answers and the items of the host link (R172, R182, R207) -/

theorem pushItems_keeps (d : Dev) (l : List (Nat × List Nat)) : KeepsBeat d (d.pushItems l) := by
  refine (KeepsBeat.refl d).foldl _ fun x a => ?_
  extract_lets hold r
  have hr : KeepsBeat x r.1 := (KeepsBeat.refl x).of_touches (push_touches _ _ _ _ _ _)
  clear_value r
  exact .ite (fun _ => (KeepsBeat.refl x).set) fun _ => .ite (fun _ => hr.set) fun _ => hr

theorem hlSignals_keeps (d : Dev) : KeepsBeat d d.hlSignals := ((((KeepsBeat.refl d).set.putB _ _).putB _ _).put _ _).put _ _

theorem upAppend_keeps {d d' : Dev} {items : List Nat} (h : d.upAppend items = some d') : KeepsBeat d d' := by
  unfold upAppend at h
  split at h
  · rw [← Option.some.inj h]
    exact (hlSignals_keeps _).after (KeepsBeat.refl d).set
  · simp at h

theorem send_keeps (d : Dev) (a : Answer) : KeepsBeat d (d.send a) := by
  unfold send
  extract_lets x d1
  have h1 : KeepsBeat d d1 := (KeepsBeat.refl d).set
  clear_value d1
  split
  · split
    next h => exact h1.trans (upAppend_keeps h)
    next => exact h1.set
  · exact h1.trans (pushItems_keeps _ _)
  · exact h1

theorem recordSeq_keeps (d : Dev) (a : Answer) (mac : Nat) : KeepsBeat d (d.recordSeq a mac) :=
  .ite (fun _ => .refl d) fun _ => (KeepsBeat.refl d).of_touches (commit_touches _ _)

theorem answerPatch_keeps (d : Dev) (a : Answer) (status : Nat) : KeepsBeat d (d.answerPatch a status) := by
  unfold answerPatch
  extract_lets x
  refine .ite (fun _ => .refl d) fun _ => (send_keeps _ _).after ?_
  split
  · exact .ite (fun _ => d.recordSeq_keeps _ _) fun _ => .refl d
  · exact .refl d

theorem applyPatch_keeps (d : Dev) (x : PatchImage) : KeepsBeat d (d.applyPatch x) := by
  unfold applyPatch
  extract_lets p q newStat keep d1 edges x0 d2
  have h1 : KeepsBeat d d1 := (KeepsBeat.refl d).of_touches (clearOverrides_touches _ _ _)
  exact h1.set.set

theorem patchBoundary_keeps (d : Dev) : KeepsBeat d d.patchBoundary := by
  unfold patchBoundary
  split
  · exact .refl d
  split
  · exact .refl d
  · exact (KeepsBeat.refl d).set
  · extract_lets d1 g x0 d2 d3
    have h2 : KeepsBeat d d2 := ((((d.applyPatch_keeps _).set.put _ _).bump _).put _ _).put _ _
    have h3 : KeepsBeat d d3 := (mirror_keeps _ _).after ((showBudget_keeps _).after (h2.offer _ _))
    exact .ite (fun _ => h3) fun _ => h3.trans (answerPatch_keeps _ _ _)

theorem patchWaits_keeps (d : Dev) (len : Nat) : KeepsBeat d (d.patchWaits len) := by
  unfold patchWaits
  split
  · exact .refl d
  extract_lets w late x0 d1
  have h1 : KeepsBeat d d1 := (KeepsBeat.refl d).set
  exact .ite (fun _ => h1.trans (answerPatch_keeps _ _ _)) fun _ => h1

theorem sendHeld_keeps (d : Dev) : KeepsBeat d d.sendHeld := by
  unfold sendHeld
  extract_lets x0 y
  have hy : KeepsBeat d y := (pushItems_keeps _ _).after (KeepsBeat.refl d).set
  clear_value y
  refine hy.foldl _ fun x a => ?_
  split
  · split
    · split
      next h => exact (upAppend_keeps h).set
      next => exact .refl x
    · exact .refl x
  · exact .refl x

end Dev
end Sys2Proof.Machine
end

section
/-! PROOFS. The media, the keys, the lights and the engine at a boundary leave the beat as it is (R151, R202, R237, R444, R488). -/

-- One proof at a time: a side condition left to `decide` waits for every declaration before it, each in a thread of its own.
set_option Elab.async false

namespace Sys2Proof.Machine
namespace Dev

/-! ### Links and their rings (R225, R261) -/

theorem setRing_keeps (d : Dev) (md : Nat) (l : List RingEntry) : KeepsBeat d (d.setRing md l) := by
  unfold setRing
  extract_lets l' used
  exact .ite (fun _ => (d.setRad_keeps _ _).put _ _ (hk := far_key)) fun _ => (d.setTrk_keeps _ _).put _ _ (hk := far_key)

theorem setLinks_keeps (d : Dev) (md : Nat) (l : List Link) : KeepsBeat d (d.setLinks md l) :=
  .ite (fun _ => d.setRad_keeps _ _) fun _ => d.setTrk_keeps _ _

theorem updLink_keeps (d : Dev) (md idx : Nat) (f : Link → Link) : KeepsBeat d (d.updLink md idx f) := d.setLinks_keeps _ _

theorem showLinks_keeps (d : Dev) (md : Nat) : KeepsBeat d (d.showLinks md) :=
  .ite (fun _ => (KeepsBeat.refl d).put _ _ (hk := far_key)) fun _ => .refl d

theorem closeLink_keeps (d : Dev) (md idx : Nat) (report : Bool) : KeepsBeat d (d.closeLink md idx report) := by
  unfold closeLink
  split
  · exact .refl d
  extract_lets opens eids d1 d2 d3
  have h1 : KeepsBeat d d1 := (setRing_keeps _ _ _).after (d.setLinks_keeps _ _)
  have h2 : KeepsBeat d d2 := .ite (fun _ => h1.trans (setRad_keeps _ _ _)) fun _ => h1.trans (setTrk_keeps _ _ _)
  have h3 : KeepsBeat d d3 := .ite (fun _ => h2.set) fun _ => h2
  exact (h3.trans (showLinks_keeps _ _)).offer _ _

/-! ### Keys (R444) -/

theorem orphanSlots_keeps (d : Dev) (byLcs : Bool) : KeepsBeat d (d.orphanSlots byLcs) := by
  unfold orphanSlots
  extract_lets x0 d1 hit n x1
  have h1 : KeepsBeat d d1 := (KeepsBeat.refl d).set
  exact .ite (fun _ => h1) fun _ => .raise _ h1.set

theorem showKeys_keeps (d : Dev) : KeepsBeat d d.showKeys := (showSlots_keeps _).after (((KeepsBeat.refl d).put _ _).putB _ _)

theorem lifecycleStep_keeps (d : Dev) : KeepsBeat d d.lifecycleStep := by
  unfold lifecycleStep
  split
  · exact .refl d
  extract_lets x0 d1 x1 x2 d2
  have h1 : KeepsBeat d d1 := (KeepsBeat.refl d).set
  have h2 : KeepsBeat d d2 := .ite (fun _ => h1.set) fun _ => h1
  exact (((h2.trans (orphanSlots_keeps _ _)).trans (showKeys_keeps _)).raise _).offer _ _

theorem keyBoundary_keeps (d : Dev) : KeepsBeat d d.keyBoundary := by
  unfold keyBoundary
  extract_lets d1 dead links d2 x0 d3 d4
  have h2 : KeepsBeat d d2 := d.lifecycleStep_keeps.foldl _ fun x _ => x.closeLink_keeps _ _ _
  have h3 : KeepsBeat d d3 := h2.set
  have h4 : KeepsBeat d d4 := .ite (fun _ => h3) fun _ => h3.trans (showSlots_keeps _)
  exact .ite (fun _ => h4) fun _ => h4.offer _ _

/-! ### The radios (R208-R237) -/

theorem cnt_keeps (d : Dev) (md i k : Nat) : KeepsBeat d (d.cnt md i k) :=
  .ite (fun _ => (KeepsBeat.refl d).bump _ k (hk := far_key₂)) fun _ => (KeepsBeat.refl d).bump _ k (hk := far_key₂)

theorem dwellDefer_keeps (d : Dev) (r : Nat) (a : DwellAcc) : KeepsBeat d (d.dwellDefer r a) := by
  unfold dwellDefer
  extract_lets lim d1
  have h1 : KeepsBeat d d1 := (d.cnt_keeps _ _ _).raise _ (hk := far_key)
  exact .ite (fun _ => h1) fun _ => (h1.trans (setRad_keeps _ _ _)).offer _ _

theorem transmit_keeps (d : Dev) (r ch mode preamble t : Nat) (bytes : Bytes) : KeepsBeat d (d.transmit r ch mode preamble t bytes) :=
  d.setRad_keeps _ _

theorem tryAir_keeps (d : Dev) (r ch mode preamble : Nat) (psdu : Bytes) : KeepsBeat d (d.tryAir r ch mode preamble psdu).2 := by
  unfold tryAir
  extract_lets t
  split
  · exact .refl d
  split
  · exact d.dwellDefer_keeps _ _
  · exact d.transmit_keeps _ _ _ _ _ _

theorem c0Restore_keeps (d : Dev) (r : Nat) : KeepsBeat d (d.c0Restore r) :=
  .ite (fun _ => ((suspendC0_keeps _ _ _).after ((KeepsBeat.refl d).put _ _ (hk := far_key))).offer _ _) fun _ => .refl d

theorem c0Unqueued_keeps (d : Dev) (r : Nat) (waited : Bool) : KeepsBeat d (d.c0Unqueued r waited) :=
  .ite (fun _ => .refl d) fun _ => (d.suspendC0_keeps _ _).offer _ _

theorem wakeCut_keeps (d : Dev) (r : Nat) : KeepsBeat d (d.wakeCut r) := by
  unfold wakeCut
  split
  · exact .ite (fun _ => (cnt_keeps _ _ _ _).after (d.setRad_keeps _ _)) fun _ => .refl d
  · exact .refl d

theorem c0Slot_keeps (d : Dev) (r : Nat) : KeepsBeat d (d.c0Slot r) := by
  unfold c0Slot
  split
  · refine .ite (fun _ => .refl d) fun _ => ?_
    extract_lets ch
    split
    · extract_lets lim d1
      have h1 : KeepsBeat d d1 :=
        ((dwellDefer_keeps _ _ _).after ((KeepsBeat.refl d).bump _ 1 (hk := far_key))).raise _ (hk := far_key)
      exact .ite (fun _ => h1) fun _ => ((suspendC0_keeps _ _ _).after (h1.put _ _ (hk := far_key))).offer _ _
    · exact (c0Unqueued_keeps _ _ _).after ((cnt_keeps _ _ _ _).after
        (.bump _ ((setRad_keeps _ _ _).after (d.transmit_keeps _ _ _ _ _ _)) 1 (hk := far_key)))
  · exact .refl d

theorem groupSlot_keeps (d : Dev) (r : Nat) : KeepsBeat d (d.groupSlot r) := by
  unfold groupSlot
  split
  next p g rest _ _ =>
    refine .ite (fun _ => .refl d) fun _ => ?_
    have h := d.tryAir_keeps r (maskTurn p.c0Map d.beat.count) 4 4 g.bytes
    split
    next d1 he =>
      rw [he] at h
      extract_lets d2
      have h2 : KeepsBeat d d2 := h.trans (cnt_keeps _ _ _ _)
      exact .ite (fun _ => (setRing_keeps _ _ _).after (h2.trans (setRad_keeps _ _ _))) fun _ => h2.trans (setRad_keeps _ _ _)
    next d1 _ he =>
      rw [he] at h
      exact h
  next => exact .refl d

theorem radioBoundary_keeps (d : Dev) (r : Nat) : KeepsBeat d (d.radioBoundary r) :=
  (groupSlot_keeps _ _).after ((c0Slot_keeps _ _).after ((wakeCut_keeps _ _).after ((c0Restore_keeps _ _).after (d.setRad_keeps _ _))))

/-! ### The wired ports (R270) -/

theorem gateEnter_keeps (d : Dev) (p i : Nat) : KeepsBeat d (d.gateEnter p i) := by
  unfold gateEnter
  split
  · exact .ite (fun _ => ((KeepsBeat.refl d).put _ _ (hk := far_key)).put _ _ (hk := far_key)) fun _ => .refl d
  · exact ((KeepsBeat.refl d).put _ _ (hk := far_key)).put _ _ (hk := far_key)

theorem wiredBoundary_keeps (d : Dev) (p : Nat) : KeepsBeat d (d.wiredBoundary p) := by
  unfold wiredBoundary
  extract_lets w d1 due
  have h1 : KeepsBeat d d1 := (gateEnter_keeps _ _ _).after (d.setTrk_keeps _ _)
  exact .ite (fun _ => .put _ _ ((h1.trans (setTrk_keeps _ _ _)).foldl _ fun x _ => (KeepsBeat.refl x).offer _ _) (hk := far_key))
    fun _ => h1.put _ _ (hk := far_key)

/-! ### Events of the radio links (R208, R212) -/

theorem endEvent_keeps (d : Dev) (r idx : Nat) : KeepsBeat d (d.endEvent r idx) := (updLink_keeps _ _ _ _).after (d.setRad_keeps _ _)

theorem eventAir_keeps (d : Dev) (r : Nat) (ev : EventRun) (p : RadPlan) (psdu : Bytes) : KeepsBeat d (d.eventAir r ev p psdu).2 := by
  unfold eventAir
  split
  · exact .refl d
  · have h := d.tryAir_keeps r ev.channel p.mode p.preamble psdu
    split
    next d1 he => rw [he] at h; exact h.trans (cnt_keeps _ _ _ _)
    next d1 _ he => rw [he] at h; exact h

theorem loseLink_keeps (d : Dev) (md idx cause : Nat) : KeepsBeat d (d.loseLink md idx cause) := by
  unfold loseLink
  split
  · exact .refl d
  refine .ite (fun _ => .refl d) fun _ => ?_
  extract_lets d1
  have h1 : KeepsBeat d d1 := (d.updLink_keeps _ _ _).offer _ _
  exact .ite (fun _ => (setRad_keeps _ _ _).after (h1.raise _ (hk := far_key))) fun _ => h1.raise _ (hk := far_key)

theorem eventAck_keeps (d : Dev) (r : Nat) (l : Link) (ev : EventRun) (p : RadPlan) (poll more : Bool) :
    KeepsBeat d (d.eventAck r l ev p poll more).2 := by
  unfold eventAck
  split
  · exact d.loseLink_keeps _ _ _
  next b l' _ =>
    have h := d.eventAir_keeps r ev p b
    split
    next d1 he => rw [he] at h; exact h.trans (updLink_keeps _ _ _ _)
    next => exact h

theorem when_keeps (d : Dev) (c : Bool) (f : Dev → Dev) (h : ∀ x, KeepsBeat x (f x)) : KeepsBeat d (d.when c f) :=
  .ite (fun _ => h d) fun _ => .refl d

theorem eventData_keeps (d : Dev) (r : Nat) (l : Link) (ev : EventRun) (p : RadPlan) (f : TxFrame) : KeepsBeat d (d.eventData r l ev p f) := by
  unfold eventData
  refine .ite (fun _ => d.loseLink_keeps _ _ _) fun _ => ?_
  have h := d.eventAir_keeps r ev p f.bytes
  split
  next d1 he => rw [he] at h; exact (when_keeps _ _ _ fun x => x.cnt_keeps _ _ _).after (h.trans (updLink_keeps _ _ _ _))
  next d1 he => rw [he] at h; exact h.trans (endEvent_keeps _ _ _)

/-- What happens later in the beat happens in the same beat. -/
theorem later_keeps (d : Dev) (t : Nat) (f : Dev → Dev) (h : ∀ x, KeepsBeat x (f x)) : KeepsBeat d (d.later t f) :=
  .setBeat _ ((h _).after ((KeepsBeat.refl d).setBeat _))

theorem eventSend_keeps (d : Dev) (r idx : Nat) (poll more : Bool) : KeepsBeat d (d.eventSend r idx poll more) := by
  unfold eventSend
  split
  next l ev p _ _ _ =>
    split
    next f _ =>
      refine .ite (fun _ => d.eventData_keeps _ _ _ _ _) fun _ => ?_
      extract_lets a
      have ha : KeepsBeat d a.2 := d.eventAck_keeps _ _ _ _ _ _
      exact .ite (fun _ => ha.trans (later_keeps _ _ _ fun x => x.eventData_keeps _ _ _ _ _)) fun _ => ha
    next =>
      refine .ite (fun _ => .ite (fun _ => .refl d) fun _ => d.endEvent_keeps _ _) fun _ => ?_
      extract_lets a
      have ha : KeepsBeat d a.2 := d.eventAck_keeps _ _ _ _ _ _
      have he : KeepsBeat d (a.2.endEvent r idx) := ha.trans (endEvent_keeps _ _ _)
      exact .ite (fun _ => .ite (fun _ => ha) fun _ => he) fun _ => .ite (fun _ => he) fun _ => ha
  next => exact .refl d

theorem beginEvent_keeps (d : Dev) (r idx ch len : Nat) : KeepsBeat d (d.beginEvent r idx ch len) :=
  (eventSend_keeps _ _ _ _ _).after (d.setRad_keeps _ _)

theorem wakeStep_keeps (d : Dev) (r : Nat) : KeepsBeat d (d.wakeStep r) := by
  unfold wakeStep
  split
  next w _ =>
    refine .ite (fun _ => .refl d) fun _ => ?_
    extract_lets d1
    have h1 : KeepsBeat d d1 := d.setRad_keeps _ _
    clear_value d1
    split
    · exact h1
    · exact .ite (fun _ => h1) fun _ => h1.trans (later_keeps _ _ _ fun x => x.beginEvent_keeps _ _ _ _)
  next => exact .refl d

/-! ### The lights (R488) and the snapshot (R331) -/

theorem showLight_keeps (d : Dev) : KeepsBeat d d.showLight := (((KeepsBeat.refl d).put _ _).put _ _).putB _ _

theorem lightBoundary_keeps (d : Dev) : KeepsBeat d d.lightBoundary :=
  .ite (fun _ => .refl d) fun _ => (showLight_keeps _).after (KeepsBeat.refl d).set

theorem snapBoundary_keeps (d : Dev) : KeepsBeat d d.snapBoundary := by
  unfold snapBoundary
  extract_lets b c n rel ks x0 d1 next x1
  have h1 : KeepsBeat d d1 := (KeepsBeat.refl d).set.foldl _ fun x _ => (KeepsBeat.refl x).set
  exact .ite (fun _ => (KeepsBeat.refl d).put _ _) fun _ => ((h1.set.put _ _).put _ _).put _ _

/-! ### The engine (R116, R119, R124, R151) -/

theorem sampleTime_keeps (d : Dev) : KeepsBeat d d.sampleTime := by
  unfold sampleTime takeSample
  extract_lets off l m x0 d1
  refine .ite (fun _ => ?_) fun _ => .refl d
  have h1 : KeepsBeat d d1 := (KeepsBeat.refl d).set
  clear_value d1
  split
  · exact h1
  · extract_lets old
    exact .foldl _ (fun x _ => (KeepsBeat.refl x).set.offer _ _) (.ite (fun _ => h1.offer _ _) fun _ => h1)

theorem setNode_keeps (d : Dev) (eid : Nat) (f : Node → Node) : KeepsBeat d (d.setNode eid f) := (KeepsBeat.refl d).set

theorem onPage_keeps (d : Dev) (eid : Nat) (f : Page → Page) : KeepsBeat d (d.onPage eid f) := d.setNode_keeps _ _

theorem heading_keeps (d : Dev) (x : PortEntry) (s : NodeStat) : KeepsBeat d (d.heading x s) := by
  unfold heading
  extract_lets z us best d1 x0
  have h1 : KeepsBeat d d1 := by
    simp only [d1]
    clear x0 d1
    clear_value best
    cases best with
    | none => exact d.onPage_keeps _ _
    | some e => exact .ite (fun _ => (KeepsBeat.refl d).set) fun _ => d.onPage_keeps _ _
  exact h1.set

theorem applyPort_keeps (d : Dev) (x : PortEntry) : KeepsBeat d (d.applyPort x) := by
  unfold applyPort
  split
  · exact (KeepsBeat.refl d).bump _
  · refine .ite (fun _ => (KeepsBeat.refl d).bump _) fun _ => ?_
    extract_lets x0 d0
    have h0 : KeepsBeat d d0 := (KeepsBeat.refl d).set
    exact .ite (fun _ => h0.trans (heading_keeps _ _ _)) fun _ => .ite (fun _ => h0.trans (onPage_keeps _ _ _)) fun _ => h0

theorem c1Enter_keeps (d : Dev) (scope id level effect duration : Nat) : KeepsBeat d (d.c1Enter scope id level effect duration) := by
  unfold c1Enter
  extract_lets noexp e o
  exact .ite (fun _ => d.setNode_keeps _ _) fun _ => .ite (fun _ => (KeepsBeat.refl d).set) fun _ =>
    .ite (fun _ => (KeepsBeat.refl d).set) fun _ => (KeepsBeat.refl d).set

theorem applyCmd_keeps (d : Dev) (quiet : Bool) (c : CmdEntry) : KeepsBeat d (d.applyCmd quiet c) := by
  unfold applyCmd
  split
  · extract_lets d1
    have h1 : KeepsBeat d d1 := d.c1Enter_keeps _ _ _ _ _
    exact .ite (fun _ => h1) fun _ => h1.offer _ _
  · have h1 := fun s i => (KeepsBeat.refl d).of_touches (d.c1Remove_touches s i)
    exact .ite (fun _ => .ite (fun _ => h1 _ _) fun _ => (h1 _ _).offer _ _) fun _ => .refl d
  · refine .ite (fun _ => .refl d) fun _ => ?_
    extract_lets rest
    refine .ite (fun _ => ?_) fun _ => (KeepsBeat.refl d).set
    split
    · exact (KeepsBeat.refl d).set
    · exact .refl d
  · exact .refl d

theorem ingest_keeps (d : Dev) (cmds : List CmdEntry) (noted : Nat) (ports : List PortEntry) (refused : List Nat) :
    KeepsBeat d (d.ingest cmds noted ports refused) := by
  unfold ingest
  extract_lets x0 d0 d1 d2 d3
  have h1 : KeepsBeat d d1 := (KeepsBeat.refl d).set.foldl _ fun x _ => x.setNode_keeps _ _
  have h2 : KeepsBeat d d2 := h1.foldl _ fun x _ => x.applyCmd_keeps _ _
  have h3 : KeepsBeat d d3 := h2.foldl _ fun x _ => x.applyPort_keeps _
  exact (showFill_keeps _).after h3.set

theorem engineBoundary_keeps (d : Dev) : KeepsBeat d d.engineBoundary := by
  unfold engineBoundary
  refine .ite (fun _ => ?_) fun _ => .ite (fun _ => ?_) fun _ => .refl d
  · exact (mirror_keeps _ _).after (KeepsBeat.refl d).set
  · extract_lets cmds ports d1 x0 d2 d3 x
    have h1 : KeepsBeat d d1 := d.mirror_keeps _
    have h2 : KeepsBeat d d2 := h1.set
    have h3 : KeepsBeat d d3 := h2.trans (ingest_keeps _ _ _ _ _)
    clear_value d3
    have hx : KeepsBeat d x := .ite (fun _ => h3.trans (sendImage_keeps _)) fun _ => h3
    clear_value x
    exact .ite (fun _ => h3.set.put _ _) fun _ => (hx.of_touches (carry_touches _)).set

end Dev
end Sys2Proof.Machine
end

section
/-! PROOFS. The boundary of a running beat, COMMIT and OVERRUN (R47, R52, R55-R58). -/

-- One proof at a time: a side condition left to `decide` waits for every declaration before it, each in a thread of its own.
set_option Elab.async false

namespace Sys2Proof.Machine

/-- A beat of count `n` has begun at `base`, with no step left to take, in a module of no pair that runs no test. -/
structure Begun (n base : Nat) (d : Dev) : Prop where
  count : d.beat.count = n
  base : d.beat.base = base
  step : d.beat.step = none
  cfg : d.pair.cfg = none
  test : d.bst.test = none

/-- What keeps the beat keeps that it has begun, and the interrupt of the boundary. -/
theorem Begun.keeps {n base : Nat} {d d' : Dev} (h : Begun n base d) (hk : KeepsBeat d d') :
    Begun n base d' ∧ d'.get Reg.BEAT_IRQ_STATUS.boundary = d.get Reg.BEAT_IRQ_STATUS.boundary := by
  have hv := hk h.test
  simp only [Dev.beatView, Prod.mk.injEq] at hv
  obtain ⟨hc, hb, hs, hp, ht, hr⟩ := hv
  exact ⟨⟨hc.trans h.count, hb.trans h.base, hs.trans h.step, hp.trans h.cfg, ht.trans h.test⟩,
    congrArg (fun w : W32 => bits w.toNat 0 0) hr⟩

namespace Dev

/-- The beat that ends is reported on, its bundle closed; the beat itself stays (R173, R200, R392). -/
theorem endBeat_keeps (d : Dev) : KeepsBeat d d.endBeat := by
  unfold endBeat
  extract_lets d1 d2 x x0 d3 closed
  have h1 : KeepsBeat d d1 :=
    .ite (fun _ => .refl d) fun _ => .ite (fun _ => .refl d) fun _ => (KeepsBeat.refl d).set.offer _ _
  have h2 : KeepsBeat d d2 := .ite (fun _ => h1) fun _ => h1.offer _ _
  have hx : KeepsBeat d x := h2.set.foldl _ fun y _ => (KeepsBeat.refl y).offer _ _
  clear_value x
  have h3 : KeepsBeat d d3 := hx.set
  exact .ite (fun _ => h3.trans (closeBundle_keeps _ _)) fun _ => h3

/-- A plain boundary begins the next beat where the last one ended (R47). -/
theorem plainBoundary_begun (d : Dev) (base : Nat) (hs : d.beat.step = none) (hp : d.pair.cfg = none) (ht : d.bst.test = none) :
    Begun (d.beat.count + 1) base (d.plainBoundary base) := by
  unfold plainBoundary
  extract_lets period x0 d1 d2
  have h1 : Begun (d.beat.count + 1) base d1 := ⟨rfl, rfl, hs, hp, ht⟩
  have h2 : KeepsBeat d1 d2 := .ite (fun _ => (KeepsBeat.refl d1).put _ _) fun _ => .refl d1
  exact (h1.keeps ((showSlew_keeps _).after ((h2.put _ _).put _ _))).1

/-- A step boundary begins it at the instant decided, and the step is taken (R52, R282). -/
theorem stepBoundary_begun (d : Dev) (base : Nat) (r : StepReq) (hp : d.pair.cfg = none) (ht : d.bst.test = none) :
    Begun (d.beat.count + 1) (if r.absolute then r.value.toNat else ((base : Int) + r.value).toNat) (d.stepBoundary base r) := by
  unfold stepBoundary
  extract_lets now p next perSec x0 x1 d1 d2 d3 step d4
  have h1 : Begun (d.beat.count + 1) now d1 := ⟨rfl, rfl, rfl, hp, ht⟩
  have h2 : KeepsBeat d1 d2 := (showSlew_keeps _).after (((KeepsBeat.refl d1).put _ _).put _ _)
  have h3 : KeepsBeat d1 d3 := h2.offer _ _
  have h4 : KeepsBeat d1 d4 := .ite (fun _ => h3) fun _ => h3.offer _ _
  refine (h1.keeps ((mapRecord_keeps _).after ?_)).1
  split
  · exact h4.trans (setUtc_keeps _ _ _)
  · exact h4

/-- The machine once the next beat has begun, and its interrupt is set. -/
def begunBeat (d : Dev) : Dev :=
  let d0 := (({ d with cyc := CycleSt.start } : Dev).endBeat).put Reg.BEAT_STATUS.phase 0
  (match d.beat.step with
  | some r => d0.stepBoundary (d.beat.base + d.beat.len) r
  | none => d0.plainBoundary (d.beat.base + d.beat.len)).raise Reg.BEAT_IRQ_STATUS.boundary

theorem begunBeat_irq (d : Dev) : d.begunBeat.get Reg.BEAT_IRQ_STATUS.boundary = 1 := get_raise _ _ (by decide) (by decide)

section
variable {d : Dev} (hp : d.pair.cfg = none) (ht : d.bst.test = none)
include ht

/-- The beat that has ended is as it was, when the next one begins. -/
theorem endedBeat_view : ((({ d with cyc := CycleSt.start } : Dev).endBeat).put Reg.BEAT_STATUS.phase 0).beatView = d.beatView := by
  have h0 : KeepsBeat d { d with cyc := CycleSt.start } := (KeepsBeat.refl d).set
  have h : KeepsBeat d ((({ d with cyc := CycleSt.start } : Dev).endBeat).put Reg.BEAT_STATUS.phase 0) := (h0.trans (endBeat_keeps _)).put _ _
  exact h ht

include hp

theorem begunBeat_of_plain (hs : d.beat.step = none) : Begun (d.beat.count + 1) (d.beat.base + d.beat.len) d.begunBeat := by
  have hv := endedBeat_view ht
  simp only [beatView, Prod.mk.injEq] at hv
  obtain ⟨hc, -, hs', hp', ht', -⟩ := hv
  unfold begunBeat
  extract_lets d0
  rw [hs]
  obtain ⟨h1, h2, h3, h4, h5⟩ := d0.plainBoundary_begun (d.beat.base + d.beat.len) (hs'.trans hs) (hp'.trans hp) (ht'.trans ht)
  exact ⟨by rw [raise_beat, h1, hc], by rw [raise_beat, h2], by rw [raise_beat, h3], by rw [raise_pair, h4], by rw [raise_bst, h5]⟩

theorem begunBeat_of_step {r : StepReq} (hs : d.beat.step = some r) : Begun (d.beat.count + 1)
    (if r.absolute then r.value.toNat else (((d.beat.base + d.beat.len : Nat) : Int) + r.value).toNat) d.begunBeat := by
  have hv := endedBeat_view ht
  simp only [beatView, Prod.mk.injEq] at hv
  obtain ⟨hc, -, -, hp', ht', -⟩ := hv
  unfold begunBeat
  extract_lets d0
  rw [hs]
  obtain ⟨h1, h2, h3, h4, h5⟩ := d0.stepBoundary_begun (d.beat.base + d.beat.len) r (hp'.trans hp) (ht'.trans ht)
  exact ⟨by rw [raise_beat, h1, hc], by rw [raise_beat, h2], by rw [raise_beat, h3], by rw [raise_pair, h4], by rw [raise_bst, h5]⟩

end

theorem finishTests_of_none {d : Dev} (h : d.bst.test = none) (straps : Nat) : d.finishTests straps = d := by
  unfold finishTests
  rw [h]

/-- A module of no pair has nothing of the pair to do at a boundary. -/
theorem pairBoundary_of_none {d : Dev} (h : d.pair.cfg = none) : d.pairBoundary = d := by
  unfold pairBoundary
  rw [if_pos (by simp [inPair, h])]

/-- What takes effect at the boundary leaves the beat that it has begun (R47). -/
theorem boundary_begun {d : Dev} {n base : Nat} (h : Begun n base d.begunBeat) :
    Begun n base d.boundary ∧ d.boundary.get Reg.BEAT_IRQ_STATUS.boundary = d.begunBeat.get Reg.BEAT_IRQ_STATUS.boundary := by
  unfold boundary
  extract_lets d0 base' d1 d2 d3 d4 d5 d6 d7 d8 d9 d10
  have h2 : KeepsBeat d.begunBeat d2 := (sourceBoundary_keeps _).after ((KeepsBeat.refl d.begunBeat).put Reg.BEAT_TIMING.deadline_us _)
  clear_value d2
  have h3 : KeepsBeat d.begunBeat d3 := .ite (fun _ => h2.trans (mapRecord_keeps _)) fun _ => h2
  have hpair : d3.pairBoundary = d3 := pairBoundary_of_none (h.keeps h3).1.cfg
  have h4 : KeepsBeat d.begunBeat d4 :=
    (passesBoundary_keeps _).after ((startStop_keeps _).after (by rw [hpair]; exact h3))
  have h5 : KeepsBeat d.begunBeat d5 := (activateBoundary_keeps _).after ((patchBoundary_keeps _).after ((patchWaits_keeps _ _).after
    (h4.trans (loadBoundary_keeps _))))
  have h6 : KeepsBeat d.begunBeat d6 := (h5.trans (sendHeld_keeps _)).foldl _ radioBoundary_keeps
  have h7 : KeepsBeat d.begunBeat d7 := h6.foldl _ wiredBoundary_keeps
  have h8 : KeepsBeat d.begunBeat d8 :=
    .foldl _ wakeStep_keeps ((latch_keeps _).after ((keyBoundary_keeps _).after (h7.trans (lightBoundary_keeps _))))
  clear_value d8
  have h9 : KeepsBeat d.begunBeat d9 := .ite (fun _ => h8) fun _ => (sampleTime_keeps _).after (h8.trans (snapBoundary_keeps _))
  have h10 : KeepsBeat d.begunBeat d10 := h9.trans (engineBoundary_keeps _)
  clear_value d10
  have hend : KeepsBeat d.begunBeat (if d10.rft.sweeping then d10 else d10.ledgerCommit) :=
    .ite (fun _ => h10) fun _ => h10.of_touches (ledgerCommit_touches _)
  rw [finishTests_of_none (h.keeps hend).1.test]
  exact h.keeps hend

/-! ### OVERRUN (R11, R56, R58) -/

/-- The beat abandoned: shown and counted; the third in a row lowers the passes, where there are more than one (R56, R58). -/
structure IsOverrun (d d' : Dev) : Prop where
  phase : d'.get Reg.BEAT_STATUS.phase = 3
  overrun : d'.get Reg.BEAT_IRQ_STATUS.overrun = 1
  count : d'.beat.count = d.beat.count
  consec : d'.get Reg.BEAT_OVR_STATE.consec =
    if d.get Reg.BEAT_OVR_STATE.consec < 2 then d.get Reg.BEAT_OVR_STATE.consec + 1 else 0
  kept : d.get Reg.BEAT_OVR_STATE.consec < 2 → d'.beat.nextPasses = d.beat.nextPasses
  lowered : 2 ≤ d.get Reg.BEAT_OVR_STATE.consec → 1 < d.get Reg.BEAT_PASSES.passes_now →
    d'.beat.nextPasses = some (d.get Reg.BEAT_PASSES.passes_now - 1)

/-- A change of other components and of no word changes nothing of it. -/
theorem IsOverrun.of_touches {d x y : Dev} {ps : List Part} (h : IsOverrun d x) (ht : Touches ps [] x y) (hp : .beat ∉ ps := by decide) :
    IsOverrun d y := by
  have hb := ht.beat_eq hp
  refine ⟨?_, ?_, ?_, ?_, fun hc => ?_, fun hc hp => ?_⟩
  · rw [ht.get Reg.BEAT_STATUS.phase, h.phase]
  · rw [ht.get Reg.BEAT_IRQ_STATUS.overrun, h.overrun]
  · rw [hb, ← h.count]
  · rw [ht.get Reg.BEAT_OVR_STATE.consec, h.consec]
  · rw [hb, ← h.kept hc]
  · rw [hb, ← h.lowered hc hp]

theorem overrunBeat_isOverrun (d : Dev) (pass : Nat) : IsOverrun d (d.overrunBeat pass) := by
  unfold overrunBeat
  extract_lets carried n now d1 d2 low x x1 d3
  have h1 : Touches [.rft, .pair, .sil] [] d d1 :=
    ((((Touches.refl d).andThen (d.runSweep_touches _ _)).andThen (closeBundle_touches _ 1)).andThen (carry_touches _)).setSil _
  have hn' : n = d.get Reg.BEAT_OVR_STATE.consec + 1 := rfl
  have hnow' : now = d.get Reg.BEAT_PASSES.passes_now := rfl
  clear_value d1 n now
  have hb2 : d2.beat = d1.beat := by simp [d2]
  have hcount : d2.beat.count = d.beat.count := by rw [hb2, h1.beat_eq]
  have hnext : d2.beat.nextPasses = d.beat.nextPasses := by rw [hb2, h1.beat_eq]
  have hphase : d2.get Reg.BEAT_STATUS.phase = 3 := by
    simp (disch := decide) only [d2, offer_get, get_put]
    rfl
  have hover : d2.get Reg.BEAT_IRQ_STATUS.overrun = 1 := by
    simp (disch := decide) only [d2, offer_get, get_put_of_ne, get_raise]
  clear_value d2
  refine .of_touches ?_ (patchWindow_touches d3)
  by_cases hn : n < 3
  · have hc : d.get Reg.BEAT_OVR_STATE.consec < 2 := by omega
    have h3 : d3 = d2.put Reg.BEAT_OVR_STATE.consec n := if_pos hn
    rw [h3]
    refine ⟨?_, ?_, by rw [put_beat, hcount], ?_, fun _ => by rw [put_beat, hnext], fun hc' => absurd hc (Nat.not_lt.2 hc')⟩
    · rw [get_put_of_ne _ _ _ _ (by decide) (by decide) (by decide) (by decide), hphase]
    · rw [get_put_of_ne _ _ _ _ (by decide) (by decide) (by decide) (by decide), hover]
    · rw [get_put _ _ _ (by decide) (by decide), if_pos hc, Nat.mod_eq_of_lt (Nat.lt_trans hn (by decide)), hn']
  · have hc : ¬ d.get Reg.BEAT_OVR_STATE.consec < 2 := by omega
    have hx : x.get Reg.BEAT_STATUS.phase = 3 ∧ x.get Reg.BEAT_IRQ_STATUS.overrun = 1 ∧ x.get Reg.BEAT_OVR_STATE.consec = 0 := by
      simp (disch := decide) only [x, offer_get, get_raise_of_ne, get_put_of_ne, get_put, hphase, hover, Nat.zero_mod, and_self]
    obtain ⟨hxp, hxo, hxc⟩ := hx
    have hxb : x.beat = d2.beat := by simp [x]
    clear_value x
    by_cases hnow : 1 < now
    · have h3 : d3 = ({ x with beat := { x.beat with nextPasses := some low } } : Dev).bump Reg.BEAT_OVR_STATE.lowered :=
        (if_neg hn).trans (if_pos hnow)
      have hget : ∀ f : Fld, f.lo ≤ f.hi → Reg.BEAT_OVR_STATE.lowered.key ≠ f.key ∨ Reg.BEAT_OVR_STATE.lowered.hi < f.lo ∨
          f.hi < Reg.BEAT_OVR_STATE.lowered.lo → d3.get f = x.get f := fun f hf h => by
        rw [h3, get_bump_of_ne _ _ _ hf (by decide) (by decide) h, get, get]
      refine ⟨?_, ?_, ?_, ?_, fun hc' => absurd hc' hc, fun _ _ => ?_⟩
      · rw [hget _ (by decide) (by decide), hxp]
      · rw [hget _ (by decide) (by decide), hxo]
      · rw [h3, bump_beat, ← hcount, ← hxb]
      · rw [hget _ (by decide) (by decide), hxc, if_neg hc]
      · rw [h3, bump_beat, ← hnow']
        exact congrArg some (Nat.max_eq_right (Nat.le_sub_one_of_lt hnow))
    · have h3 : d3 = x := (if_neg hn).trans (if_neg hnow)
      rw [h3]
      exact ⟨hxp, hxo, by rw [hxb, hcount], by rw [hxc, if_neg hc], fun hc' => absurd hc' hc, fun _ hp => absurd (hnow' ▸ hp) hnow⟩

end Dev

/-- Settles O24: what takes effect at a boundary keeps the beat that it began, COMMIT ends it, and OVERRUN abandons and counts it. -/
theorem beatCommandsComplete : Obligations.BeatCommandsComplete := by
  unfold Obligations.BeatCommandsComplete
  refine ⟨fun s hr hs hp ht => ?_, fun s r hr hs hp ht => ?_, fun s hr => ?_, fun t s hsw hr hd => ?_, fun t pass s hsw hr hf => ?_⟩
  · refine completes_of_run (Eq.refl (execBeatBoundary s)) ?_
    obtain ⟨hb, hirq⟩ := Dev.boundary_begun (Dev.begunBeat_of_plain hp ht hs)
    simp only [hr, if_true]
    rw [Dev.settleOffers_beat, Dev.settleOffers_get _ _ (by decide), hirq, Dev.begunBeat_irq]
    exact ⟨hb.count, hb.base, rfl⟩
  · refine completes_of_run (Eq.refl (execBeatBoundary s)) ?_
    obtain ⟨hb, -⟩ := Dev.boundary_begun (Dev.begunBeat_of_step hp ht hs)
    simp only [hr, if_true]
    rw [Dev.settleOffers_beat, hb.base]
    refine ⟨hb.count, ?_, hb.step⟩
    split <;> rw [Int.toNat_eq_max, max_comm]
  · refine completes_of_run (Eq.refl (execBeatBoundary s)) ?_
    simp only [hr, Bool.false_eq_true, if_false, Dev.settleOffers_beat]
  · refine completes_of_runAt (Eq.refl (execCommit t s)) ?_
    have hgo : (!((s.dev.atTime t).rft.sweeping && (s.dev.atTime t).beats)) = false := by
      rw [Dev.atTime_rft, hsw, show (s.dev.atTime t).beats = true from hr]; rfl
    have hin : ¬ (s.dev.atTime t).deadline < (s.dev.atTime t).beat.sinceBase := Nat.not_lt.2 hd
    obtain ⟨htouch, hphase, hdone, hconsec⟩ := (s.dev.atTime t).commitBeat_spec
    simp only [hgo, Bool.false_eq_true, if_false, hin]
    rw [Dev.settleOffers_get _ _ (by decide), Dev.settleOffers_get _ _ (by decide), Dev.settleOffers_get _ _ (by decide),
      Dev.settleOffers_beat, htouch.beat_eq]
    exact ⟨hphase, hdone, hconsec, rfl⟩
  · refine completes_of_runAt (Eq.refl (execOverrun t pass s)) ?_
    have hgo : ((s.dev.atTime t).rft.sweeping && (s.dev.atTime t).beats && !(s.dev.atTime t).commitFits) = true := by
      rw [Dev.atTime_rft, hsw, show (s.dev.atTime t).beats = true from hr, hf]; rfl
    simp only [hgo, if_true]
    have ho := ((s.dev.atTime t).overrunBeat_isOverrun pass).of_touches (ps := []) (Touches.refl _).settleOffers
    exact ⟨ho.phase, ho.overrun, ho.count, ho.consec, ho.kept, ho.lowered⟩

end Sys2Proof.Machine
end

section
/-! PROOFS. Every command answers a next state: a queue of commands is served to its end (R27, R67). -/

-- One proof at a time: a side condition left to `decide` waits for every declaration before it, each in a thread of its own.
set_option Elab.async false

namespace Sys2Proof.Machine

/-- The command is REGISTER_WRITE. -/
def isRegisterWrite : Instr → Bool
  | .registerWrite .. => true
  | _ => false

/-- What a write to a register with a row of its own may be: another command, a write that acts on nothing, or one that the ledger's
post answers. -/
inductive ActsAsRow (t : Nat) (m : Master) (s : State) : Host.Outcome State Fault Refusal → Prop where
  | command (c : Instr) (h : isRegisterWrite c = false) : ActsAsRow t m s (exec c s)
  | idle : ActsAsRow t m s (s.runAt t id)
  | post : ActsAsRow t m s (s.runAt t fun d => d.post (bankOf m) 0)

namespace ActsAsRow

variable {t : Nat} {m : Master} {s : State} {o : Host.Outcome State Fault Refusal}

theorem of_some (c : Instr) (h : some (exec c s) = some o) (hc : isRegisterWrite c = false := by rfl) : ActsAsRow t m s o :=
  Option.some.inj h ▸ .command c hc

theorem of_ite {b : Bool} (c : Instr) (h : some (if b then exec c s else s.runAt t id) = some o) (hc : isRegisterWrite c = false := by rfl) :
    ActsAsRow t m s o := by
  cases b
  · exact Option.some.inj h ▸ .idle
  · exact of_some c h hc

theorem of_abandon {b : Bool} {x : Bool} (c c' : Instr) (h : (if b then some (exec c s) else some (if x then exec c' s else s.runAt t id)) = some o)
    (hc : isRegisterWrite c = false := by rfl) (hc' : isRegisterWrite c' = false := by rfl) : ActsAsRow t m s o := by
  cases b
  · exact of_ite c' h hc'
  · exact of_some c h hc

/-- The three operations of a link register (R246, R275). -/
theorem of_linkOp {n : Nat} (c₁ c₂ c₃ : Instr)
    (h : (match n with | 1 => some (exec c₁ s) | 2 => some (exec c₂ s) | 3 => some (exec c₃ s) | _ => some (s.runAt t id)) = some o)
    (h₁ : isRegisterWrite c₁ = false := by rfl) (h₂ : isRegisterWrite c₂ = false := by rfl) (h₃ : isRegisterWrite c₃ = false := by rfl) :
    ActsAsRow t m s o := by
  split at h
  · exact of_some c₁ h h₁
  · exact of_some c₂ h h₂
  · exact of_some c₃ h h₃
  · exact Option.some.inj h ▸ .idle

end ActsAsRow

/-- A register that has a row of its own is written by that row's command. -/
theorem rowWrite_actsAsRow {t : Nat} {m : Master} {key : Nat} {v : W32} {s : State} {o : Host.Outcome State Fault Refusal}
    (h : rowWrite t m key v s = some o) : ActsAsRow t m s o := by
  unfold rowWrite at h
  extract_lets p w rad port gbe linkOp when_ at h
  split at h
  · cases h
  split at h
  · exact .of_some (.rftIngestW0 t m v) h
  · exact .of_some (.rftIngestWord t m 0 v) h
  · exact .of_some (.rftIngestWord t m 1 v) h
  · exact .of_some (.rftIngestCommit t m v) h
  · exact .of_some (.rftSpeedSel t m v) h
  · exact .of_some (.rftBattenSel t m v) h
  · exact .of_some (.jstDone t m v) h
  · exact .of_some (.jstPushOpen t m v) h
  · exact .of_abandon (.jstPushAbandon t m) (.jstPushCommit t m) h
  · exact .of_ite (.jstTmrArm t m) h
  · exact .of_some (.jstTmrCancel t m v) h
  · exact .of_ite (.jstFlush t m _) h
  · exact .of_linkOp (.radLinkOpen t rad m) (.radLinkClose t rad m _) (.radLinkResume t rad m) h
  · exact .of_linkOp (.trkLinkOpen t port m) (.trkLinkClose t port m _) (.trkLinkResume t port m) h
  · split at h
    · exact .of_some (.rawCfgWrite t gbe v) h
    · cases h
  · split at h
    · exact .of_some (.rawSlotFree t gbe v) h
    · cases h
  · exact .of_ite (.mdioCmd t v) h
  · exact .of_ite (.calLoad t m) h
  · exact .of_some (.tickAlarmArm t m v) h
  · split at h
    · exact .of_some (.addEnergy t m) h
    · exact .of_some (.addRun t m) h
    · exact .of_some (.setCredit t m) h
    · exact Option.some.inj h ▸ .post
  · exact .of_some (.silJwWrite t m v) h
  · exact .of_some (.arcFetch t m v) h
  · exact .of_ite (.evrFlush t m) h
  · exact .of_some (.evrRdSeq t m v) h
  · exact .of_ite (.resendGo t m) h
  · exact .of_linkOp (.libWrite t m _) (.libRead t m _) (.libDelete t m _) h
  · exact .of_some (.strLevelWrite t m v) h
  · exact .of_some (.lampReturned t m v) h
  · exact .of_some (.hlUpData t m v) h
  · exact .of_abandon (.hlUpAbandon t m) (.hlUpCommit t m) h
  · split at h
    · exact .of_some (.jstPushWord t m _ v) h
    · split at h
      · exact .of_some (.signPixWrite t m _ _ v) h
      · cases h

/-- The machine answers a next state, with the queue as it was. -/
def Answers (s : State) (o : Host.Outcome State Fault Refusal) : Prop := ∃ u : State, o = .next u ∧ u.pending = s.pending

theorem answers_runAt (s : State) (t : Nat) (f : Dev → Dev) : Answers s (s.runAt t f) := ⟨_, rfl, rfl⟩

/-- A command other than REGISTER_WRITE runs one change of the machine. -/
theorem exec_answers_of_not_registerWrite (s : State) (c : Instr) (h : isRegisterWrite c = false) : Answers s (exec c s) := by
  cases c
  case registerWrite => cases h
  all_goals exact ⟨_, rfl, rfl⟩

theorem execRegisterWrite_answers (t : Nat) (m : Master) (addr : Nat) (v : W32) (s : State) :
    Answers s (execRegisterWrite t m addr v s) := by
  unfold execRegisterWrite
  extract_lets key
  split
  · exact answers_runAt s t _
  split
  · exact answers_runAt s t _
  split
  · exact answers_runAt s t _
  split
  · rename_i o ho
    cases rowWrite_actsAsRow ho with
    | command c h => exact exec_answers_of_not_registerWrite s c h
    | idle => exact answers_runAt s t _
    | post => exact answers_runAt s t _
  · exact answers_runAt s t _

/-- No command of any kind stops the machine (R27, R67). -/
theorem exec_answers (c : Instr) (s : State) : Answers s (exec c s) := by
  cases h : isRegisterWrite c
  · exact exec_answers_of_not_registerWrite s c h
  · cases c
    case registerWrite t m addr v => exact execRegisterWrite_answers t m addr v s
    all_goals cases h

theorem step_cons {s : State} {c : Instr} {rest : List Instr} (h : s.pending = c :: rest) :
    ∃ u : State, step s = .next u ∧ u.pending = rest := by
  obtain ⟨u, hu, hp⟩ := exec_answers c { s with pending := rest }
  exact ⟨u, by rw [step, h]; exact hu, hp⟩

/-- Settles O2, by induction on the number of commands that wait. -/
theorem queueServed : Obligations.QueueServed := by
  unfold Obligations.QueueServed
  intro s
  generalize hl : List.range s.pending.length = l
  have hn : s.pending.length = l.length := by rw [← hl, List.length_range]
  clear hl
  induction l generalizing s with
  | nil => exact ⟨s, List.eq_nil_of_length_eq_zero hn, rfl⟩
  | cons _ r ih =>
    obtain ⟨c, rest, hp⟩ := List.exists_cons_of_length_eq_add_one hn
    obtain ⟨v, hv, hr⟩ := step_cons hp
    simp only [List.foldl_cons, hv]
    exact ih v (by rw [hr]; simpa [hp] using hn)

end Sys2Proof.Machine
end

section
/-! PROOFS. The Joist's push: opening, filling, committing and abandoning an item, and the checks that refuse one (R181, R182). -/

-- One proof at a time: a side condition left to `decide` waits for every declaration before it, each in a thread of its own.
set_option Elab.async false

namespace Sys2Proof.Machine

/-- A command whose effect `o` lifts `f` meets what `f` meets at its instant. -/
theorem completes_of_exec {c : Instr} {s : State} {P : Dev → Prop} {t : Nat} {f : Dev → Dev} (o : Host.Outcome State Fault Refusal)
    (h : exec c s = o) (ho : o = s.runAt t f) (hp : P (f (s.dev.atTime t)).settleOffers) : Completes c s P := ⟨_, h.trans ho, rfl, hp⟩

/-! ### Registers banked per master (R29) -/

/-- The event recorder's words are not banked. -/
theorem not_mem_eventKeys_of_banked {k : Nat} (h : 0x1000000 ≤ k) : k ∉ eventKeys := fun m =>
  absurd h (Nat.not_le.2 ((by decide : ∀ k ∈ eventKeys, k < 0x1000000) k m))

namespace Dev

/-- What a command's end shows of a banked field. -/
theorem settleOffers_get_banked (d : Dev) (f : Fld) (h : 0x1000000 ≤ f.key) : d.settleOffers.get f = d.get f :=
  d.settleOffers_get f (not_mem_eventKeys_of_banked h)

theorem settleOffers_stageOf (d : Dev) (b : Nat) : d.settleOffers.stageOf b = d.stageOf b := by
  rw [stageOf, settleOffers_jst]; rfl

theorem get_withJst (d : Dev) (j : JstSt) (f : Fld) : ({ d with jst := j } : Dev).get f = d.get f := rfl

/-! ### The staging of a master (R181) -/

theorem stageOf_dropStage (d : Dev) (b : Nat) : (d.dropStage b).stageOf b = none := by
  simp [stageOf, dropStage]

@[simp] theorem dropStage_items (d : Dev) (b : Nat) : (d.dropStage b).jst.items = d.jst.items := rfl

@[simp] theorem dropStage_atTime_jst (d : Dev) (t b : Nat) : ((d.atTime t).dropStage b).jst = (d.dropStage b).jst := rfl

theorem stageOf_of_staging {d d' : Dev} (h : d'.jst.staging = d.jst.staging) (b : Nat) : d'.stageOf b = d.stageOf b := by
  unfold stageOf; rw [h]

/-- A new item is the master's open item when it had none. -/
theorem stageOf_append {d d' : Dev} {b : Nat} {st : PushStage} (h : d.stageOf b = none) (hb : st.bank = b)
    (hd : d'.jst.staging = d.jst.staging ++ [st]) : d'.stageOf b = some st := by
  rw [stageOf] at h ⊢
  rw [hd, List.find?_append, h]
  simp [hb]

theorem bank_of_stageOf {d : Dev} {b : Nat} {st : PushStage} (h : d.stageOf b = some st) : st.bank = b := by
  simpa using List.find?_some h

/-- What replaces the item of a master is its open item. -/
theorem stageOf_replace {d d' : Dev} {b : Nat} {st st' : PushStage} (h : d.stageOf b = some st) (hb : st'.bank = b)
    (hd : d'.jst.staging = d.jst.staging.map (fun x => if x.bank = b then st' else x)) : d'.stageOf b = some st' := by
  rw [stageOf] at h ⊢
  rw [hd]
  clear hd
  generalize d.jst.staging = l at h
  induction l with
  | nil => cases h
  | cons x r ih =>
    by_cases hx : x.bank = b
    · simp [hx, hb]
    · rw [List.find?_cons_of_neg (by simpa using hx)] at h
      rw [List.map_cons, if_neg hx, List.find?_cons_of_neg (by simpa using hx), ih h]

/-! ### The answer to a commit (R182, R204) -/

theorem get_pushStatus_open (d : Dev) (b st : Nat) (pool : Bool) : (d.pushStatus b st pool).get (Reg.JST_PUSH_STATUS.open_f b) = 0 :=
  get_put _ _ _ (Nat.le_refl _) (show 8 < 32 by decide)

theorem get_pushStatus_status (d : Dev) (b st : Nat) (pool : Bool) (h : st < 256 := by decide) :
    (d.pushStatus b st pool).get (Reg.JST_PUSH_STATUS.status b) = st := by
  let f := Reg.JST_PUSH_STATUS.status b
  have hf : f.lo ≤ f.hi := Nat.zero_le 7
  calc (d.pushStatus b st pool).get f
      = ((d.put f st).putB (Reg.JST_PUSH_STATUS.pool b) pool).get f :=
        get_put_of_ne _ _ _ _ hf (Nat.le_refl 8) (show 8 < 32 by decide) (.inr (.inr (show 7 < 8 by decide)))
    _ = (d.put f st).get f := get_put_of_ne _ _ _ _ hf (Nat.le_refl 9) (show 9 < 32 by decide) (.inr (.inr (show 7 < 9 by decide)))
    _ = st % 2 ^ 8 := get_put _ _ _ hf (show 7 < 32 by decide)
    _ = st := Nat.mod_eq_of_lt h

/-- A field that is not banked reads as before. -/
theorem get_pushStatus_of_lt (d : Dev) (b st : Nat) (pool : Bool) (f : Fld) (h : f.key < 0x1000000) :
    (d.pushStatus b st pool).get f = d.get f := by
  have hk : ∀ n, n + (b + 1) * 0x1000000 ≠ f.key := fun n => by omega
  unfold pushStatus putB
  rw [get, put_regs_get _ _ _ _ (hk _), put_regs_get _ _ _ _ (hk _), put_regs_get _ _ _ _ (hk _), get]

/-- A refusal for room raises the interrupt (R182). -/
theorem get_pushRefused_refused (d : Dev) (q producer : Nat) (pool : Bool) :
    (d.pushRefused q producer pool).get Reg.JST_IRQ_STATUS.refused = 1 := by
  unfold pushRefused
  rw [get_offer, get_raise _ _ rfl (by decide)]

/-! ### The checks of a commit (R182) -/

theorem joistState_of_runs {d : Dev} (h : d.joistRuns = true) : d.joistState = ST_OK := if_pos h

theorem joistState_of_not_runs {d : Dev} (h : d.joistRuns = false) :
    d.joistState = if d.sys.mstate = .test then ST_BUSY_TEST else ST_ILLEGAL_STATE := if_neg (by simp [h])

theorem joistState_ne_ok {d : Dev} (h : d.joistRuns = false) : d.joistState ≠ ST_OK := by
  rw [joistState_of_not_runs h]
  split <;> decide

/-- A flush found the item, or is under way for its queue (R194, R195). -/
def itemFlushed (d : Dev) (st : PushStage) : Bool := st.flushed || d.flushing st.queue

/-- The push of the open item, once the checks that come before its own pass. -/
def stagedPush (d : Dev) (b : Nat) (st : PushStage) : Dev × Nat × Bool :=
  (d.dropStage b).push st.queue st.flow b (st.words.take st.count)

theorem pushCommit_of_not_runs {d : Dev} (b : Nat) (h : d.joistRuns = false) :
    d.pushCommit b = (d.dropStage b).pushStatus b d.joistState false := by
  unfold pushCommit
  exact if_pos (joistState_ne_ok h)

variable {d : Dev} {b : Nat} {st : PushStage} (hs : d.stageOf b = some st) (hr : d.joistRuns = true)
include hs hr

theorem pushCommit_of_flushed (hf : d.itemFlushed st = true) : d.pushCommit b = (d.dropStage b).pushStatus b ST_FLUSHED false := by
  unfold pushCommit
  rw [hs]
  exact (if_neg (not_not.2 (joistState_of_runs hr))).trans (if_pos hf)

theorem pushCommit_of_reserved (hf : d.itemFlushed st = false) (hw : flowReserved st.flow = true) :
    d.pushCommit b = ((d.dropStage b).pushStatus b ST_BAD_ARGUMENT false).offer Ev.PUSH_BAD [b, st.queue, st.flow] := by
  unfold pushCommit
  rw [hs]
  exact (if_neg (not_not.2 (joistState_of_runs hr))).trans ((if_neg (Bool.eq_false_iff.1 hf)).trans (if_pos hw))

theorem pushCommit_of_push (hf : d.itemFlushed st = false) (hw : flowReserved st.flow = false) :
    d.pushCommit b = (d.stagedPush b st).1.pushStatus b (d.stagedPush b st).2.1 (d.stagedPush b st).2.2 := by
  unfold pushCommit
  rw [hs]
  exact (if_neg (not_not.2 (joistState_of_runs hr))).trans ((if_neg (Bool.eq_false_iff.1 hf)).trans (if_neg (Bool.eq_false_iff.1 hw)))

variable (hf : d.itemFlushed st = false) (hw : flowReserved st.flow = false) {c : QCfg} (hc : d.qcfgOf st.queue = some c)
include hf hw hc

omit hs in
/-- The room that the push of the open item finds (R179, R182). -/
theorem stagedPush_eq : d.stagedPush b st =
    if c.depth ≤ d.fill st.queue then ((d.dropStage b).pushRefused st.queue b false, ST_REFUSED_FULL, false)
    else if (!d.slotFree st.queue c) = true then ((d.dropStage b).pushRefused st.queue b true, ST_REFUSED_FULL, true)
    else ((d.dropStage b).enqueue st.queue st.flow b (st.words.take st.count) [], ST_OK, false) := by
  have hf' : d.flushing st.queue = false := (Bool.or_eq_false_iff.1 hf).2
  unfold stagedPush push
  refine (if_neg (not_not.2 (joistState_of_runs hr))).trans ((if_neg (Bool.eq_false_iff.1 hf')).trans ((if_neg (Bool.eq_false_iff.1 hw)).trans ?_))
  rw [show (d.dropStage b).qcfgOf st.queue = some c from hc]
  rfl

omit hs in
theorem stagedPush_of_room (hd : d.fill st.queue < c.depth) (hp : d.slotFree st.queue c = true) :
    d.stagedPush b st = ((d.dropStage b).enqueue st.queue st.flow b (st.words.take st.count) [], ST_OK, false) := by
  rw [stagedPush_eq hr hf hw hc, if_neg (Nat.not_le.2 hd), if_neg (by simp [hp])]

omit hs in
theorem stagedPush_of_full (hp : c.depth ≤ d.fill st.queue ∨ d.slotFree st.queue c = false) :
    ∃ pool, d.stagedPush b st = ((d.dropStage b).pushRefused st.queue b pool, ST_REFUSED_FULL, pool) := by
  rw [stagedPush_eq hr hf hw hc]
  by_cases hd : c.depth ≤ d.fill st.queue
  · exact ⟨false, if_pos hd⟩
  · exact ⟨true, (if_neg hd).trans (if_pos (by rw [hp.resolve_left hd]; rfl))⟩

/-- A refusal for room leaves the open item's queue and raises the interrupt (R182). -/
theorem pushCommit_of_full (hp : c.depth ≤ d.fill st.queue ∨ d.slotFree st.queue c = false) :
    ∃ pool, d.pushCommit b = ((d.dropStage b).pushRefused st.queue b pool).pushStatus b ST_REFUSED_FULL pool := by
  obtain ⟨pool, h⟩ := stagedPush_of_full hr hf hw hc hp
  exact ⟨pool, by rw [pushCommit_of_push hs hr hf hw, h]⟩

end Dev

namespace Dev

theorem get_put_open (d : Dev) (b v : Nat) (h : v < 2) : (d.put (Reg.JST_PUSH_STATUS.open_f b) v).get (Reg.JST_PUSH_STATUS.open_f b) = v :=
  (d.get_put _ _ (Nat.le_refl 8) (show 8 < 32 by decide)).trans (Nat.mod_eq_of_lt h)

theorem get_put_halfWord (d : Dev) (b i v : Nat) (h : v < 2 ^ 32) :
    (d.put (Reg.JST_PUSH_W.word b i) v).get (Reg.JST_PUSH_W.word b i) = v :=
  (d.get_put _ _ (Nat.zero_le 31) (show 31 < 32 by decide)).trans (Nat.mod_eq_of_lt h)

/-- JST_PUSH_STATUS is banked. -/
theorem settleOffers_get_open (d : Dev) (b : Nat) :
    d.settleOffers.get (Reg.JST_PUSH_STATUS.open_f b) = d.get (Reg.JST_PUSH_STATUS.open_f b) :=
  d.settleOffers_get_banked _ (by simp only [Reg.JST_PUSH_STATUS.open_f]; omega)

theorem settleOffers_get_status (d : Dev) (b : Nat) :
    d.settleOffers.get (Reg.JST_PUSH_STATUS.status b) = d.get (Reg.JST_PUSH_STATUS.status b) :=
  d.settleOffers_get_banked _ (by simp only [Reg.JST_PUSH_STATUS.status]; omega)

theorem settleOffers_get_halfWord (d : Dev) (b i : Nat) :
    d.settleOffers.get (Reg.JST_PUSH_W.word b i) = d.get (Reg.JST_PUSH_W.word b i) :=
  d.settleOffers_get_banked _ (by simp only [Reg.JST_PUSH_W.word]; omega)

/-- The upper halves written ahead are cleared and nothing else of the Joist (R181). -/
theorem clearHalves_jst (b : Nat) (l : List Nat) (d : Dev) :
    (l.foldl (fun (d : Dev) k => d.put (Reg.JST_PUSH_W.word b (2 * k + 1)) 0) d).jst = d.jst := by
  induction l generalizing d with
  | nil => rfl
  | cons k r ih => exact (ih _).trans (d.put_jst _ _)

end Dev

/-! ### The commands -/

theorem jstPushOpen_completes (t : Nat) (m : Master) (v : W32) (s : State) : Completes (.jstPushOpen t m v) s fun d =>
    d.stageOf (bankOf m) = some ⟨bankOf m, bits v.toNat 25 20, bits v.toNat 19 0, bits v.toNat 28 26 + 1, List.replicate 8 0, false⟩ ∧
    d.get (Reg.JST_PUSH_STATUS.open_f (bankOf m)) = 1 := by
  refine completes_of_exec (execJstPushOpen t m v s) rfl rfl ?_
  extract_lets b d0 st d1
  have hd : d1.stageOf b = none :=
    (Dev.stageOf_of_staging (congrArg (·.staging) (d0.clearHalves_jst b _)) b).trans ((s.dev.atTime t).stageOf_dropStage b)
  clear_value d1
  refine ⟨?_, ?_⟩
  · rw [Dev.settleOffers_stageOf]
    exact Dev.stageOf_append hd rfl (by rw [Dev.put_jst])
  · rw [Dev.settleOffers_get_open]
    exact Dev.get_put_open _ b 1 (by decide)

theorem jstPushWord_completes (t : Nat) (m : Master) (i : Fin 16) (v : W32) (s : State) (st : PushStage)
    (hs : s.dev.stageOf (bankOf m) = some st) (hf : st.flushed = false) :
    Completes (.jstPushWord t m i v) s fun d =>
      if i.val % 2 = 1 then d.get (Reg.JST_PUSH_W.word (bankOf m) i.val) = v.toNat ∧ d.stageOf (bankOf m) = some st
      else d.stageOf (bankOf m) = some { st with words := modifyAt st.words (i.val / 2) (fun _ =>
          s.dev.get (Reg.JST_PUSH_W.word (bankOf m) (i.val + 1)) * 2 ^ 32 + v.toNat) } ∧
        d.get (Reg.JST_PUSH_W.word (bankOf m) (i.val + 1)) = 0 := by
  refine completes_of_exec (execJstPushWord t m i v s) rfl rfl ?_
  dsimp only
  rw [show (s.dev.atTime t).stageOf (bankOf m) = some st from hs]
  dsimp only
  rw [if_neg (Bool.eq_false_iff.1 hf), Dev.get_atTime]
  by_cases hu : i.val % 2 = 1
  · rw [if_pos hu, if_pos hu, Dev.settleOffers_get_halfWord, Dev.settleOffers_stageOf]
    exact ⟨Dev.get_put_halfWord _ _ _ _ v.isLt, (Dev.stageOf_of_staging (by rw [Dev.put_jst]; rfl) _).trans hs⟩
  · rw [if_neg hu, if_neg hu, Dev.settleOffers_get_halfWord, Dev.settleOffers_stageOf]
    exact ⟨Dev.stageOf_replace hs (show st.bank = _ from Dev.bank_of_stageOf hs) (by simp only [Dev.put_jst]; rfl),
      (Dev.get_withJst _ _ _).trans ((s.dev.atTime t).get_put_halfWord (bankOf m) (i.val + 1) 0 (by decide))⟩

theorem jstPushAbandon_completes (t : Nat) (m : Master) (s : State) : Completes (.jstPushAbandon t m) s fun d =>
    d.stageOf (bankOf m) = none ∧ d.get (Reg.JST_PUSH_STATUS.open_f (bankOf m)) = 0 ∧ d.jst.items = s.dev.jst.items := by
  refine completes_of_exec (execJstPushAbandon t m s) rfl rfl ⟨?_, ?_, ?_⟩
  · rw [Dev.settleOffers_stageOf]
    exact (Dev.stageOf_of_staging (by rw [Dev.put_jst]) _).trans (Dev.stageOf_dropStage _ _)
  · rw [Dev.settleOffers_get_open]
    exact Dev.get_put_open _ _ 0 (by decide)
  · rw [Dev.settleOffers_jst, Dev.put_jst]
    rfl

/-- The end of a commit shows the answer, and the item is no longer open (R182, R204). -/
theorem completes_of_pushCommit {t : Nat} {m : Master} {s : State} {x : Dev} {st : Nat} {pool : Bool}
    (h : (s.dev.atTime t).pushCommit (bankOf m) = x.pushStatus (bankOf m) st pool)
    (hx : x.jst.staging = (s.dev.dropStage (bankOf m)).jst.staging) (hst : st < 256) {P : Dev → Prop}
    (hP : ∀ d : Dev, d.jst = x.jst → d.stageOf (bankOf m) = none → d.get (Reg.JST_PUSH_STATUS.status (bankOf m)) = st →
      d.get (Reg.JST_PUSH_STATUS.open_f (bankOf m)) = 0 →
      (∀ f : Fld, f.key < 0x1000000 → f.key ∉ eventKeys → d.get f = x.get f) → P d) : Completes (.jstPushCommit t m) s P := by
  refine completes_of_exec (execJstPushCommit t m s) rfl rfl ?_
  rw [h]
  refine hP _ (by simp) ?_ ?_ ?_ fun f hf he => ?_
  · rw [Dev.settleOffers_stageOf]
    exact (Dev.stageOf_of_staging (by rw [Dev.pushStatus_jst, hx]) _).trans (s.dev.stageOf_dropStage _)
  · rw [Dev.settleOffers_get_status, Dev.get_pushStatus_status _ _ _ _ hst]
  · rw [Dev.settleOffers_get_open, Dev.get_pushStatus_open]
  · rw [Dev.settleOffers_get _ _ he, Dev.get_pushStatus_of_lt _ _ _ _ _ hf]

theorem jstPushCommit_of_not_runs {t : Nat} {m : Master} {s : State} (hr : s.dev.joistRuns = false) : Completes (.jstPushCommit t m) s fun d =>
    d.jst.items = s.dev.jst.items ∧ d.stageOf (bankOf m) = none ∧
    d.get (Reg.JST_PUSH_STATUS.status (bankOf m)) = if s.dev.sys.mstate = .test then ST_BUSY_TEST else ST_ILLEGAL_STATE := by
  have hst : s.dev.joistState < 256 := by
    rw [Dev.joistState_of_not_runs hr]
    split <;> decide
  refine completes_of_pushCommit (Dev.pushCommit_of_not_runs _ hr) rfl hst fun d hj hn hg _ _ => ?_
  exact ⟨by rw [hj]; rfl, hn, hg.trans (Dev.joistState_of_not_runs hr)⟩

section
variable {t : Nat} {m : Master} {s : State} {st : PushStage} (hs : s.dev.stageOf (bankOf m) = some st)
include hs

theorem jstPushCommit_of_flushed (hr : s.dev.joistRuns = true) (hf : s.dev.itemFlushed st = true) :
    Completes (.jstPushCommit t m) s fun d =>
      d.jst.items = s.dev.jst.items ∧ d.stageOf (bankOf m) = none ∧
      d.get (Reg.JST_PUSH_STATUS.status (bankOf m)) = ST_FLUSHED := by
  refine completes_of_pushCommit (Dev.pushCommit_of_flushed hs hr hf) rfl (by decide) fun d hj hn hg _ _ => ?_
  exact ⟨by rw [hj]; rfl, hn, hg⟩

theorem jstPushCommit_of_reserved (hr : s.dev.joistRuns = true) (hf : s.dev.itemFlushed st = false) (hw : flowReserved st.flow = true) :
    Completes (.jstPushCommit t m) s fun d =>
      d.jst.items = s.dev.jst.items ∧ d.stageOf (bankOf m) = none ∧
      d.get (Reg.JST_PUSH_STATUS.status (bankOf m)) = ST_BAD_ARGUMENT := by
  refine completes_of_exec (execJstPushCommit t m s) rfl rfl ?_
  rw [Dev.pushCommit_of_reserved (d := s.dev.atTime t) hs hr hf hw]
  refine ⟨by simp, ?_, ?_⟩
  · rw [Dev.settleOffers_stageOf]
    exact (Dev.stageOf_of_staging (by simp) _).trans (s.dev.stageOf_dropStage _)
  · rw [Dev.settleOffers_get_status, Dev.get_offer]
    exact Dev.get_pushStatus_status _ _ _ _

theorem jstPushCommit_of_full {c : QCfg} (hr : s.dev.joistRuns = true) (hf : s.dev.itemFlushed st = false)
    (hw : flowReserved st.flow = false) (hc : s.dev.qcfgOf st.queue = some c)
    (hp : c.depth ≤ s.dev.fill st.queue ∨ s.dev.slotFree st.queue c = false) :
    Completes (.jstPushCommit t m) s fun d =>
      d.jst.items = s.dev.jst.items ∧ d.stageOf (bankOf m) = none ∧
      d.get (Reg.JST_PUSH_STATUS.status (bankOf m)) = ST_REFUSED_FULL ∧ d.get Reg.JST_IRQ_STATUS.refused = 1 := by
  obtain ⟨pool, h⟩ := Dev.pushCommit_of_full (d := s.dev.atTime t) hs hr hf hw hc hp
  refine completes_of_pushCommit h (by simp) (by decide) fun d hj hn hg _ hk => ⟨by rw [hj]; simp, hn, hg, ?_⟩
  rw [hk _ (by decide) (by decide), Dev.get_pushRefused_refused]

theorem jstPushCommit_of_room {c : QCfg} (hr : s.dev.joistRuns = true) (hf : s.dev.itemFlushed st = false)
    (hw : flowReserved st.flow = false) (hc : s.dev.qcfgOf st.queue = some c) (hd : s.dev.fill st.queue < c.depth)
    (hp : s.dev.slotFree st.queue c = true) : Completes (.jstPushCommit t m) s fun d =>
      d.jst.items = s.dev.jst.items ++ [JItem.mk st.queue st.flow (bankOf m) ((s.dev.jst.pushCount + 1) % 65536)
        (st.words.take st.count) [] s.dev.beat.count] ∧
      d.jst.pushCount = s.dev.jst.pushCount + 1 ∧ d.stageOf (bankOf m) = none ∧
      d.get (Reg.JST_PUSH_STATUS.status (bankOf m)) = ST_OK ∧ d.get (Reg.JST_PUSH_STATUS.open_f (bankOf m)) = 0 := by
  have h := Dev.pushCommit_of_push (d := s.dev.atTime t) hs hr hf hw
  rw [Dev.stagedPush_of_room (d := s.dev.atTime t) hr hf hw hc hd hp] at h
  exact completes_of_pushCommit (st := ST_OK) h rfl (by decide) fun d hj hn hg ho _ => ⟨by rw [hj]; rfl, by rw [hj]; rfl, hn, hg, ho⟩

end

/-- Settles O11, each command from its staging and, for a commit, the checks of R182 that pass. -/
theorem pushingCompletes : Obligations.PushingCompletes := by
  unfold Obligations.PushingCompletes
  exact ⟨jstPushOpen_completes, jstPushWord_completes,
    fun _ _ _ _ _ hs hr hf hq hw hc hd hp => jstPushCommit_of_room hs hr (Bool.or_eq_false_iff.2 ⟨hf, hq⟩) hw hc hd hp,
    jstPushAbandon_completes⟩

/-- Settles O12, one case for each check of R182 that refuses. -/
theorem pushRefusals : Obligations.PushRefusals := by
  unfold Obligations.PushRefusals
  exact fun _ _ _ _ hs => ⟨jstPushCommit_of_not_runs, jstPushCommit_of_flushed hs, jstPushCommit_of_reserved hs,
    fun _ hr hf hw hc hp => jstPushCommit_of_full hs hr hf hw hc hp⟩

end Sys2Proof.Machine
end

section
/-! PROOFS. Latched reads, access faults and serial transfers: what each leads to, and what it leaves (R27, R34, R278, R541). -/

-- One proof at a time: a side condition left to `decide` waits for every declaration before it, each in a thread of its own.
set_option Elab.async false

namespace Sys2Proof.Machine
namespace Dev

/-! ### Latched reads (R34, R278) -/

theorem readHi_setLatch (d : Dev) (bank key v : Nat) : (d.setLatch bank key v).readHi bank key = v := by
  simp [readHi, setLatch]

theorem readHi_setLatch_of_ne (d : Dev) (bank key key' v : Nat) (h : key ≠ key') :
    (d.setLatch bank key v).readHi bank key' = d.readHi bank key' := by
  have hp : (fun x : HiLatch => decide ((!(x.bank == bank && x.key == key)) = true ∧ (x.bank == bank && x.key == key') = true)) =
      fun x => x.bank == bank && x.key == key' := by
    funext x
    by_cases hx : x.key = key'
    · simp [hx, Ne.symm h]; rfl
    · simp [hx]
  unfold readHi setLatch
  rw [List.find?_cons_of_neg (by simp [h]), List.find?_filter, hp]

theorem readLo_of_pair (d : Dev) {bank key : Nat} (hk : loRegs.contains key = true) (ht : d.blockTested (regPlace key) = false)
    (hn : key ≠ 0x070004) : d.readLo bank key = d.setLatch bank (key + 4) (d.readReg bank (key + 4)) := by
  unfold readLo
  rw [hk, ht]
  exact if_neg hn

theorem settleOffers_readHi (d : Dev) (bank key : Nat) : d.settleOffers.readHi bank key = d.readHi bank key := by
  rw [readHi, settleOffers_latches]; rfl

/-! ### Access faults (R27) -/

theorem accessFault_mem (d : Dev) (m : Master) (a : Access) : (d.accessFault m a).mem = d.mem := by
  unfold accessFault Dev.when
  dsimp only
  split <;> rfl

/-- A fault touches what the cores saw, and offers the event. -/
theorem accessFault_touches (d : Dev) (m : Master) (a : Access) : Touches [.sys] [] d (d.accessFault m a) := by
  unfold accessFault Dev.when
  exact (Touches.ite (fun _ => (Touches.refl d).setSys _) fun _ => .refl d).offer _ _

theorem accessFault_coreFaults (d : Dev) (m : Master) (a : Access) : (d.accessFault m a).sys.coreFaults =
    if isCore m = true then ⟨bankOf m, a.kind, a.addr, 0⟩ :: d.sys.coreFaults.filter (fun x => x.core != bankOf m)
    else d.sys.coreFaults := by
  unfold accessFault Dev.when
  dsimp only
  split <;> rfl

/-! ### The serial controllers (R541) -/

/-- The machine once SYS_SER_DESC_LO is written. -/
def serWritten (d : Dev) (bank lo : Nat) : Dev := d.commitPair bank (Reg.SYS_SER_DESC_LO.word bank) (Reg.SYS_SER_DESC_HI.word bank) lo

/-- The address of the descriptor: the staged upper half and the low half written. -/
def serAddr (d : Dev) (bank lo : Nat) : Nat := bits (d.stagedHi bank (Reg.SYS_SER_DESC_HI.word bank)) 7 0 * 2 ^ 32 + lo

theorem get_serWritten_hi (d : Dev) (bank lo : Nat) (h : d.stagedHi bank (Reg.SYS_SER_DESC_HI.word bank) < 2 ^ 32) :
    (d.serWritten bank lo).get (Reg.SYS_SER_DESC_HI.word bank) = d.stagedHi bank (Reg.SYS_SER_DESC_HI.word bank) :=
  (get_put _ _ _ (Nat.zero_le 31) (show 31 < 32 by decide)).trans (Nat.mod_eq_of_lt h)

theorem serDesc_of_mem {d d' : Dev} (h : d'.mem = d.mem) (a : Nat) : d'.serDesc a = d.serDesc a := by
  unfold serDesc; rw [h]

theorem serWritten_mem (d : Dev) (bank lo : Nat) : (d.serWritten bank lo).mem = d.mem := by
  simp [serWritten, commitPair]

theorem serWritten_lnd (d : Dev) (bank lo : Nat) : (d.serWritten bank lo).lnd = d.lnd := by
  simp [serWritten, commitPair]

/-- The transfer that a descriptor asks for, begun. -/
def beginSerial (d : Dev) (bank : Nat) (x : Nat × Nat × Nat × Nat) : Dev :=
  ({ d with lnd := { d.lnd with serial := some ⟨bank, ST_PENDING, x.2.2.2 + x.2.1, x.2.2.1, x.1⟩ } } : Dev).put (Reg.SYS_SER_STATUS.busy bank) 1

theorem serialTransfer_of_running (d : Dev) (bank lo : Nat) (hr : d.lnd.serial.isSome = true) :
    d.serialTransfer bank lo = (d.serWritten bank lo).put (Reg.SYS_SER_STATUS.status bank) ST_REFUSED_FULL := if_pos hr

section
variable {d : Dev} {bank lo : Nat} (h : d.stagedHi bank (Reg.SYS_SER_DESC_HI.word bank) < 2 ^ 32) (hr : d.lnd.serial = none)
include h hr

omit hr in
/-- The judgement of the descriptor, at the address as SYS_SER_DESC_HI then reads. -/
theorem serWritten_serDesc {y : Option (Nat × Nat × Nat × Nat)} (hd : d.serDesc (d.serAddr bank lo) = y) :
    (d.serWritten bank lo).serDesc (bits ((d.serWritten bank lo).get (Reg.SYS_SER_DESC_HI.word bank)) 7 0 * 2 ^ 32 + lo) = y := by
  rw [get_serWritten_hi d bank lo h, ← serAddr]
  exact (serDesc_of_mem (d.serWritten_mem bank lo) _).trans hd

theorem serialTransfer_of_fault (hd : d.serDesc (d.serAddr bank lo) = none) :
    d.serialTransfer bank lo = (d.serWritten bank lo).put (Reg.SYS_SER_STATUS.status bank) ST_BAD_ARGUMENT := by
  unfold serialTransfer
  rw [← serWritten]
  refine (if_neg (by rw [hr]; decide)).trans ?_
  rw [serWritten_serDesc h hd]

theorem serialTransfer_of_start {x : Nat × Nat × Nat × Nat} (hd : d.serDesc (d.serAddr bank lo) = some x) (hi : d.cut.image.isSome = true)
    (hl : (if x.1 = 1 then [16, 17] else [18, 19, 20, 21]).all (fun i => d.landDedicated i) = true) :
    d.serialTransfer bank lo = (d.serWritten bank lo).beginSerial bank x := by
  obtain ⟨bus, w, r, buf⟩ := x
  unfold serialTransfer
  rw [← serWritten]
  refine (if_neg (by rw [hr]; decide)).trans ?_
  rw [serWritten_serDesc h hd]
  have hi' : d.cut.image.isNone = false := by rw [← Option.not_isSome, hi]; rfl
  exact if_neg (by rw [hi', hl]; decide)

end

/-- The end of a transfer: the bytes read follow the write bytes in its buffer, unless an I²C target timed out. -/
theorem serialDone_eq {d : Dev} {r : SerRun} (h : d.lnd.serial = some r) (timeout : Bool) (data : Bytes) :
    d.serialDone timeout data = (({ d with
        mem := if (timeout && r.bus == 1) = true then d.mem
          else d.mem.writeN r.dest (data.take r.readLen ++ List.replicate (r.readLen - data.length) 0)
        lnd := { d.lnd with serial := none } } : Dev).put (Reg.SYS_SER_STATUS.busy r.bank) 0).put (Reg.SYS_SER_STATUS.status r.bank)
        (if (timeout && r.bus == 1) = true then ST_TIMEOUT else ST_OK) := by
  unfold serialDone
  rw [h]

/-- What is read is padded with 0 to the length asked. -/
theorem getD_padded (l : Bytes) (n i : Nat) (h : i < n) : (l.take n ++ List.replicate (n - l.length) 0).getD i 0 = l.getD i 0 := by
  by_cases hi : i < l.length
  · rw [List.getD_append _ _ _ _ (by simp [h, hi]), List.getD_eq_getElem?_getD, List.getElem?_take_of_lt h, List.getD_eq_getElem?_getD]
  · rw [List.getD_append_right _ _ _ _ (by simp; omega), List.getD_replicate _ (by simp; omega), List.getD_eq_default _ _ (by omega)]

/-! ### The status of a serial transfer -/

theorem get_put_serStatus (d : Dev) (b st : Nat) (h : st < 256) :
    (d.put (Reg.SYS_SER_STATUS.status b) st).get (Reg.SYS_SER_STATUS.status b) = st :=
  (d.get_put _ _ (Nat.zero_le 7) (show 7 < 32 by decide)).trans (Nat.mod_eq_of_lt h)

theorem get_put_serBusy (d : Dev) (b v : Nat) (h : v < 2) :
    (d.put (Reg.SYS_SER_STATUS.busy b) v).get (Reg.SYS_SER_STATUS.busy b) = v :=
  (d.get_put _ _ (Nat.le_refl 8) (show 8 < 32 by decide)).trans (Nat.mod_eq_of_lt h)

theorem get_serBusy_put_status (d : Dev) (b st : Nat) :
    (d.put (Reg.SYS_SER_STATUS.status b) st).get (Reg.SYS_SER_STATUS.busy b) = d.get (Reg.SYS_SER_STATUS.busy b) :=
  d.get_put_of_ne _ _ _ (Nat.le_refl 8) (Nat.zero_le 7) (show 7 < 32 by decide) (.inr (.inl (show 7 < 8 by decide)))

theorem settleOffers_get_serStatus (d : Dev) (b : Nat) :
    d.settleOffers.get (Reg.SYS_SER_STATUS.status b) = d.get (Reg.SYS_SER_STATUS.status b) :=
  d.settleOffers_get_banked _ (by simp only [Reg.SYS_SER_STATUS.status]; omega)

theorem settleOffers_get_serBusy (d : Dev) (b : Nat) :
    d.settleOffers.get (Reg.SYS_SER_STATUS.busy b) = d.get (Reg.SYS_SER_STATUS.busy b) :=
  d.settleOffers_get_banked _ (by simp only [Reg.SYS_SER_STATUS.busy]; omega)

end Dev

/-! ### The commands -/

theorem readLoLatch_completes (t key : Nat) (m : Master) (s : State) (hk : loRegs.contains key = true)
    (ht : s.dev.blockTested (regPlace key) = false) (hn : key ≠ 0x070004) : Completes (.readLoLatch t m key) s fun d =>
      d.readHi (bankOf m) (key + 4) = (s.dev.atTime t).readReg (bankOf m) (key + 4) ∧ d.regs.get key = s.dev.regs.get key := by
  refine completes_of_exec (execReadLoLatch t m key s) rfl rfl ?_
  rw [Dev.readLo_of_pair (s.dev.atTime t) hk ht hn]
  refine ⟨?_, ?_⟩
  · rw [Dev.settleOffers_readHi, Dev.readHi_setLatch]
  · have he : ∀ k ∈ loRegs, k ∉ eventKeys := by decide
    exact Dev.settleOffers_regs _ key (he key (List.contains_iff_mem.1 hk))

/-- TIME_NOW latches its seconds and nanoseconds together (R278). -/
theorem readTimeNow_completes (t : Nat) (m : Master) (s : State) : Completes (.readLoLatch t m 0x070004) s fun d =>
    d.readHi (bankOf m) 0x070008 = (s.dev.atTime t).nowSec / 2 ^ 32 ∧
    d.readHi (bankOf m) 0x07000C = (s.dev.atTime t).now % 1000000000 := by
  refine completes_of_exec (execReadLoLatch t m 0x070004 s) rfl rfl ?_
  have h : ∀ d : Dev, d.readLo (bankOf m) 0x070004 =
      ((d.fresh.2.setLatch (bankOf m) 0x070008 (d.nowSec / 2 ^ 32)).setLatch (bankOf m) 0x07000C (d.now % 1000000000)).setLatch
        (bankOf m) 0x070010 (d.fresh.1 % 65536) := fun d => rfl
  rw [h, Dev.settleOffers_readHi, Dev.settleOffers_readHi, Dev.readHi_setLatch_of_ne _ _ _ _ _ (by decide),
    Dev.readHi_setLatch_of_ne _ _ _ _ _ (by decide), Dev.readHi_setLatch, Dev.readHi_setLatch_of_ne _ _ _ _ _ (by decide), Dev.readHi_setLatch]
  exact ⟨rfl, rfl⟩

/-- What an access that is no register's does to memory and to what the cores saw (R26, R27). -/
theorem accessFault_completes (t : Nat) (m : Master) (a : Access) (s : State) :
    Completes (.accessFault t m a.addr a.toAccessForm) s fun d => KeepsRegs s.dev d eventKeys ∧ d.jst = s.dev.jst ∧ d.lnd = s.dev.lnd ∧
      d.mem = (if s.dev.accessOk a = true ∧ a.kind = .store ∧ a.addr < regBase then s.dev.mem.writeN a.addr (toLE a.size a.value.toNat)
        else s.dev.mem) ∧
      d.sys.coreFaults = (if s.dev.accessOk a = false ∧ isCore m = true then
          ⟨bankOf m, a.kind, a.addr, 0⟩ :: s.dev.sys.coreFaults.filter (fun x => x.core != bankOf m)
        else s.dev.sys.coreFaults) := by
  refine completes_of_exec (execAccessFault t m a.addr a.toAccessForm s) rfl rfl ?_
  dsimp only
  rw [show (s.dev.atTime t).accessOk a = s.dev.accessOk a from rfl]
  cases ha : s.dev.accessOk a
  · have ht : Touches [.sys] [] s.dev _ := (((Touches.refl s.dev).atTime t).trans ((s.dev.atTime t).accessFault_touches m a)).settleOffers
    rw [if_pos (by rfl), if_neg (by simp)]
    exact ⟨fun k hk => ht.regs k (by simp) hk, ht.parts .jst (by decide), ht.parts .lnd (by decide), ht.parts .mem (by decide), by
      rw [Dev.settleOffers_sys, Dev.accessFault_coreFaults]; simp⟩
  · rw [if_neg (by decide)]
    by_cases hs : a.kind = .store ∧ a.addr < regBase
    · rw [if_pos (by simpa using hs), if_pos ⟨rfl, hs⟩, if_neg (by simp)]
      exact ⟨fun k hk => Dev.settleOffers_regs _ k hk, by simp [Dev.storeBytes], by simp [Dev.storeBytes], by simp [Dev.storeBytes],
        by simp [Dev.storeBytes]⟩
    · rw [if_neg (by simpa using hs), if_neg (fun h => hs h.2), if_neg (by simp)]
      exact ⟨fun k hk => Dev.settleOffers_regs _ k hk, by simp, by simp, by simp, by simp⟩

section
variable {t : Nat} {m : Master} {lo : W32} {s : State}

theorem serialTransfer_running (hr : s.dev.lnd.serial.isSome = true) : Completes (.serialTransfer t m lo) s fun d =>
    d.lnd.serial = s.dev.lnd.serial ∧ d.get (Reg.SYS_SER_STATUS.status (bankOf m)) = ST_REFUSED_FULL := by
  refine completes_of_exec (execSerialTransfer t m lo s) rfl rfl ?_
  rw [Dev.serialTransfer_of_running (s.dev.atTime t) _ _ hr, Dev.settleOffers_get_serStatus, Dev.get_put_serStatus _ _ _ (by decide),
    Dev.settleOffers_lnd, Dev.put_lnd, Dev.serWritten_lnd]
  exact ⟨rfl, rfl⟩

variable (h : s.dev.stagedHi (bankOf m) (Reg.SYS_SER_DESC_HI.word (bankOf m)) < 2 ^ 32) (hr : s.dev.lnd.serial = none)
include h hr

theorem serialTransfer_faults (hd : s.dev.serDesc (s.dev.serAddr (bankOf m) lo.toNat) = none) :
    Completes (.serialTransfer t m lo) s fun d => d.lnd.serial = none ∧
      d.get (Reg.SYS_SER_STATUS.status (bankOf m)) = ST_BAD_ARGUMENT := by
  refine completes_of_exec (execSerialTransfer t m lo s) rfl rfl ?_
  rw [Dev.serialTransfer_of_fault (d := s.dev.atTime t) h hr hd, Dev.settleOffers_get_serStatus, Dev.get_put_serStatus _ _ _ (by decide),
    Dev.settleOffers_lnd, Dev.put_lnd, Dev.serWritten_lnd]
  exact ⟨hr, rfl⟩

theorem serialTransfer_starts {x : Nat × Nat × Nat × Nat} (hd : s.dev.serDesc (s.dev.serAddr (bankOf m) lo.toNat) = some x)
    (hi : s.dev.cut.image.isSome = true)
    (hl : (if x.1 = 1 then [16, 17] else [18, 19, 20, 21]).all (fun i => s.dev.landDedicated i) = true) :
    Completes (.serialTransfer t m lo) s fun d =>
      d.lnd.serial = some ⟨bankOf m, ST_PENDING, x.2.2.2 + x.2.1, x.2.2.1, x.1⟩ ∧
      d.get (Reg.SYS_SER_STATUS.busy (bankOf m)) = 1 := by
  refine completes_of_exec (execSerialTransfer t m lo s) rfl rfl ?_
  rw [Dev.serialTransfer_of_start (d := s.dev.atTime t) h hr hd hi hl, Dev.settleOffers_get_serBusy, Dev.settleOffers_lnd]
  exact ⟨by rw [Dev.beginSerial, Dev.put_lnd], Dev.get_put_serBusy _ _ _ (by decide)⟩

end

theorem serialDone_completes (t : Nat) (timeout : Bool) (data : Bytes) (s : State) (r : SerRun) (h : s.dev.lnd.serial = some r) :
    Completes (.serialDone t timeout data) s fun d => d.lnd.serial = none ∧ d.get (Reg.SYS_SER_STATUS.busy r.bank) = 0 ∧
      (if timeout = true ∧ r.bus = 1 then d.get (Reg.SYS_SER_STATUS.status r.bank) = ST_TIMEOUT ∧ d.mem = s.dev.mem
       else d.get (Reg.SYS_SER_STATUS.status r.bank) = ST_OK ∧
         (∀ i, i < r.readLen → d.mem.read (r.dest + i) = data.getD i 0) ∧
         (∀ a, a < r.dest ∨ r.dest + r.readLen ≤ a → d.mem.read a = s.dev.mem.read a)) := by
  have hc : (timeout && r.bus == 1) = true ↔ timeout = true ∧ r.bus = 1 := by simp
  have hlen : (data.take r.readLen ++ List.replicate (r.readLen - data.length) 0).length = r.readLen := by simp; omega
  refine completes_of_exec (execSerialDone t timeout data s) rfl rfl ?_
  rw [Dev.serialDone_eq (d := s.dev.atTime t) h, Dev.settleOffers_get_serBusy, Dev.settleOffers_get_serStatus, Dev.settleOffers_lnd,
    Dev.settleOffers_mem, Dev.get_serBusy_put_status, Dev.get_put_serBusy _ _ _ (by decide), Dev.put_lnd, Dev.put_lnd, Dev.put_mem, Dev.put_mem]
  refine ⟨rfl, rfl, ?_⟩
  by_cases hl : timeout = true ∧ r.bus = 1
  · rw [if_pos hl, if_pos (hc.2 hl), if_pos (hc.2 hl), Dev.get_put_serStatus _ _ _ (by decide)]
    exact ⟨rfl, rfl⟩
  · rw [if_neg hl, if_neg (fun e => hl (hc.1 e)), if_neg (fun e => hl (hc.1 e)), Dev.get_put_serStatus _ _ _ (by decide)]
    refine ⟨rfl, fun i hi => ?_, fun a ha => ?_⟩
    · rw [Memory.read_writeN _ _ _ _ (by rw [hlen]; exact hi), Dev.getD_padded _ _ _ hi]
    · exact Memory.read_writeN_of_outside _ _ _ _ (by rw [hlen]; exact ha)

/-- Settles O39: the latch, the fault and the transfer each by what its operation is shown to do. -/
theorem registerCommandsComplete : Obligations.RegisterCommandsComplete := by
  unfold Obligations.RegisterCommandsComplete
  exact ⟨readLoLatch_completes, readTimeNow_completes, accessFault_completes,
    fun _ _ _ _ _ h => ⟨serialTransfer_running, serialTransfer_faults h, fun hr hd hi hl => serialTransfer_starts h hr hd hi hl⟩, serialDone_completes⟩

end Sys2Proof.Machine
end

section
/-! PROOFS. A write to a register that has no row of its own: the fields of its table's rows, each by its access type (R31-R35, R313). -/

-- One proof at a time: a side condition left to `decide` waits for every declaration before it, each in a thread of its own.
set_option Elab.async false

namespace Sys2Proof.Machine

/-! ### Which writes reach a register (R26, R29, R30) -/

/-- An aligned word of the register blocks may be stored. -/
theorem storeWord_allowed {key : Nat} (v : W32) (h4 : key % 4 = 0) (hk : key + 4 ≤ 0x150000) :
    (Access.storeWord (regBase + key) v).allowed = true := by
  have hr : (⟨0x1000000000, 0x150000, true, false⟩ : AddrRange) ∈ ranges := by decide
  have ha : (regBase + key) % 4 = 0 := by simp only [regBase]; omega
  have hl : 0x1000000000 ≤ regBase + key := Nat.le_add_right _ _
  have hu : regBase + key + 4 ≤ 0x1000000000 + 0x150000 := by simp only [regBase]; omega
  simp only [Access.allowed, Access.storeWord, Bool.and_eq_true, List.any_eq_true, Bool.or_eq_true, beq_iff_eq]
  exact ⟨⟨_, hr, ⟨decide_eq_true hl, decide_eq_true hu⟩, rfl⟩, .inr ⟨ha, trivial⟩⟩

section
variable {t key : Nat} {m : Master} {v : W32} {s : State}

/-- A word that no register takes is that of ACCESS_FAULT. -/
theorem registerWrite_of_fault {addr : Nat} (h : (Access.storeWord addr v).allowed = false ∨ addr < regBase) :
    execRegisterWrite t m addr v s = execAccessFault t m addr (Access.storeWord addr v).toAccessForm s := by
  unfold execRegisterWrite
  exact if_pos (by rcases h with h | h <;> simp [h])

variable (h4 : key % 4 = 0) (hk : key + 4 ≤ 0x150000)
include h4 hk

/-- A block under test takes no write, nor does a module that is off. -/
theorem registerWrite_of_idle (hb : (s.dev.blockTested (regPlace key) || s.dev.sys.mstate == .off) = true) :
    execRegisterWrite t m (regBase + key) v s = s.runAt t id := by
  unfold execRegisterWrite
  rw [if_neg (by simp [storeWord_allowed v h4 hk]), Nat.add_sub_cancel_left]
  exact if_pos hb

variable (ht : s.dev.blockTested (regPlace key) = false) (ho : s.dev.sys.mstate ≠ .off) (hn : key ≠ 0x000220)
include ht ho hn

/-- A register with a row of its own acts by that row. -/
theorem registerWrite_of_row {o : Host.Outcome State Fault Refusal} (hr : rowWrite t m key v s = some o) :
    execRegisterWrite t m (regBase + key) v s = o := by
  unfold execRegisterWrite
  rw [if_neg (by simp [storeWord_allowed v h4 hk]), Nat.add_sub_cancel_left]
  refine (if_neg (by simp [ht, ho])).trans ((if_neg hn).trans ?_)
  rw [hr]

/-- Every other register takes the write. -/
theorem registerWrite_of_fields (hr : rowWrite t m key v s = none) : execRegisterWrite t m (regBase + key) v s =
    s.runAt t fun d => (d.writeReg (bankOf m) key v.toNat).actOnWrite key v.toNat := by
  unfold execRegisterWrite
  rw [if_neg (by simp [storeWord_allowed v h4 hk]), Nat.add_sub_cancel_left]
  refine (if_neg (by simp [ht, ho])).trans ((if_neg hn).trans ?_)
  rw [hr]

end

/-- A write that its register takes ends with what the register's rows and acts make of it. -/
theorem registerWrite_completes {t key : Nat} {m : Master} {v : W32} {s : State} {P : Dev → Prop}
    (ht : s.dev.blockTested (regPlace key) = false) (ho : s.dev.sys.mstate ≠ .off) (hr : rowWrite t m key v s = none)
    (hP : P (((s.dev.atTime t).writeReg (bankOf m) key v.toNat).actOnWrite key v.toNat).settleOffers)
    (h4 : key % 4 = 0 := by decide) (hk : key + 4 ≤ 0x150000 := by decide) (hn : key ≠ 0x000220 := by decide) :
    Completes (.registerWrite t m (regBase + key) v) s P :=
  completes_of_exec (execRegisterWrite t m (regBase + key) v s) rfl (registerWrite_of_fields h4 hk ht ho hn hr) hP

namespace Dev

/-! ### One field (R31, R33, R35) -/

theorem writeField_rw (d : Dev) (key held v : Nat) (r : FieldRow) (h : r.acc = .rw) :
    d.writeField key held v r = d.put ⟨held, r.hi, r.lo⟩ (bits v r.hi r.lo) := by
  unfold writeField; rw [h]

theorem writeField_ro (d : Dev) (key held v : Nat) (r : FieldRow) (h : r.acc = .ro) : d.writeField key held v r = d := by
  unfold writeField; rw [h]

theorem writeField_w1c (d : Dev) (key held v : Nat) (r : FieldRow) (h : r.acc = .w1c) :
    d.writeField key held v r = d.put ⟨held, r.hi, r.lo⟩
      (clearBits (d.get ⟨held, r.hi, r.lo⟩) (clearBits (bits v r.hi r.lo) (d.raisedNow ⟨held, r.hi, r.lo⟩))) := by
  unfold writeField; rw [h]

theorem writeField_rwl_unframed (d : Dev) (key held v : Nat) (r : FieldRow) (h : r.acc = .rwl) (hs : d.sys.mstate = .unframed) :
    d.writeField key held v r = d.put ⟨held, r.hi, r.lo⟩ (bits v r.hi r.lo) := by
  unfold writeField; rw [h]; exact if_pos hs

theorem writeField_rwl_locked (d : Dev) (key held v : Nat) (r : FieldRow) (h : r.acc = .rwl) (hs : d.sys.mstate ≠ .unframed) :
    d.writeField key held v r = d.raise Reg.SYS_STATUS.lock_viol := by
  unfold writeField; rw [h]; exact if_neg hs

/-! ### One register -/

/-- The register is no half of a pair, none of the backup domain or of a wired port, and none whose whole word acts by a rule of its own
(R34, R74, R275, R292, R313, R351). -/
abbrev ActsByRows (key : Nat) : Prop :=
  (∀ x ∈ pairLos, x.1 + 4 ≠ key ∧ x.1 ≠ key) ∧ (regPlace key).block ≠ 6 ∧ key / 65536 ≠ 8 ∧ key ≠ 0x0B0010 ∧
    ¬ ((regPlace key).block = 1 ∧ (regPlace key).off = 0x1C) ∧
    ¬ ((regPlace key).block = 7 ∧ 0x74 ≤ (regPlace key).off ∧ (regPlace key).off ≤ 0x84)

/-- The rows of the register's word, written one after the other. -/
def writeRows (d : Dev) (bank key v : Nat) : Dev :=
  (rowsAt (regPlace key)).foldl (fun d r => d.writeField key (heldKey key bank (rowsAt (regPlace key))) v r) d

theorem applyWrite_of_rows (d : Dev) (bank v : Nat) {key : Nat} (h : ActsByRows key) :
    d.applyWrite bank key v = (d.writeRows bank key v).fixWritten (regPlace key) := by
  obtain ⟨-, h6, h8, hB, h1, h7⟩ := h
  have h54 : key ≠ 0x080054 := fun e => h8 (by rw [e])
  unfold applyWrite writeRows
  generalize regPlace key = p at *
  refine (if_neg (by simpa using h1)).trans ((if_neg ?_).trans ((if_neg (by simp [h6])).trans ((if_neg h54).trans ((if_neg hB).trans
    (if_neg (by simp [h6]))))))
  simpa [and_assoc] using h7

theorem writeReg_of_rows (d : Dev) (bank v : Nat) {key : Nat} (h : ActsByRows key) :
    d.writeReg bank key v = (d.writeRows bank key v).fixWritten (regPlace key) := by
  have hhi : pairLos.find? (fun x => x.1 + 4 == key) = none := List.find?_eq_none.2 fun x hx => by simpa using (h.1 x hx).1
  have hlo : pairLos.find? (fun x => x.1 == key) = none := List.find?_eq_none.2 fun x hx => by simpa using (h.1 x hx).2
  rw [← applyWrite_of_rows d bank v h]
  unfold writeReg
  rw [hhi, hlo]
  exact if_neg (by simp [h.2.2.1])

/-- Fields that only keep what is written into them. -/
theorem fixWritten_of_kept (d : Dev) (p : RegPlace)
    (h : (p.block, p.off) ∉ [(1, 0x00), (1, 0x2C), (6, 0x14), (7, 0x20), (7, 0x14), (7, 0x30), (7, 0x34), (19, 0x08), (19, 0x0C)]) :
    d.fixWritten p = d := by
  unfold fixWritten
  split
  case h_10 => rfl
  all_goals simp_all

theorem actOnWrite_of_kept (d : Dev) (key v : Nat) (h : key ∉ [0x070084, 0x120020, 0x120024]) : d.actOnWrite key v = d := by
  unfold actOnWrite
  split
  case h_4 => rfl
  all_goals simp_all

theorem heldKey_of_not_banked (key bank : Nat) {rows : List FieldRow} (h : ∀ r ∈ rows, r.banked = false) : heldKey key bank rows = key :=
  if_neg (by simpa using h)

/-- What a write makes of a register with only the one row. -/
theorem writeRows_of_row (d : Dev) (bank key v : Nat) (r : FieldRow) (h : rowsAt (regPlace key) = [r]) (hb : r.banked = false) :
    d.writeRows bank key v = d.writeField key key v r := by
  unfold writeRows
  rw [h]
  simp [heldKey, hb]

/-! ### Fields of one word -/

/-- The whole word once a field of it has been put. -/
theorem get_word_put (d : Dev) (k v hi lo : Nat) (h : lo ≤ hi) (h' : hi < 32) :
    (d.put ⟨k, hi, lo⟩ v).get ⟨k, 31, 0⟩ = putBits (d.get ⟨k, 31, 0⟩) v hi lo := by
  have hw : ∀ n < 2 ^ 32, bits n 31 0 = n := fun n hn => by
    rw [bits, Nat.pow_zero, Nat.div_one]
    exact Nat.mod_eq_of_lt hn
  have hp : putBits (d.regs.get k).toNat v hi lo < 2 ^ 32 := putBits_lt (d.regs.get k).isLt h h'
  simp only [get, put, RegFile.get_set, if_true, BitVec.toNat_ofNat]
  rw [hw _ (d.regs.get k).isLt, Nat.mod_eq_of_lt hp, hw _ hp]

end Dev

/-- A write to a register that acts by its rows alone. -/
theorem writeRows_completes {t key : Nat} {m : Master} {v : W32} {s : State} {P : Dev → Prop}
    (ht : s.dev.blockTested (regPlace key) = false) (ho : s.dev.sys.mstate ≠ .off) (hr : rowWrite t m key v s = none)
    (hP : P ((s.dev.atTime t).writeRows (bankOf m) key v.toNat).settleOffers) (ha : Dev.ActsByRows key := by decide)
    (hf : ((regPlace key).block, (regPlace key).off) ∉
      [(1, 0x00), (1, 0x2C), (6, 0x14), (7, 0x20), (7, 0x14), (7, 0x30), (7, 0x34), (19, 0x08), (19, 0x0C)] := by decide)
    (hk : key ∉ [0x070084, 0x120020, 0x120024] := by decide) (h4 : key % 4 = 0 := by decide) (hu : key + 4 ≤ 0x150000 := by decide)
    (hn : key ≠ 0x000220 := by decide) : Completes (.registerWrite t m (regBase + key) v) s P := by
  refine registerWrite_completes ht ho hr ?_ h4 hu hn
  rwa [Dev.writeReg_of_rows _ _ _ ha, Dev.fixWritten_of_kept _ _ hf, Dev.actOnWrite_of_kept _ _ _ hk]

/-! ### The bits of a write-one-to-clear word (R31, R35) -/

namespace Dev

theorem raisedNow_writeField_w1c (d : Dev) (key v : Nat) (r : FieldRow) (f : Fld) (hr : r.acc = .w1c) :
    (d.writeField key key v r).raisedNow f = d.raisedNow f := by
  rw [d.writeField_w1c _ _ _ _ hr, raisedNow, put_cyc]; rfl

/-- The row leaves the field: it is read-only, or has other bits. -/
abbrev Leaves (hi lo : Nat) (r : FieldRow) : Prop :=
  r.acc = .ro ∨ r.acc = .w1c ∧ r.lo ≤ r.hi ∧ r.hi < 32 ∧ (r.hi < lo ∨ hi < r.lo)

/-- Rows that leave a field, and what this cycle has set. -/
theorem writeOthers_get (key v hi lo : Nat) (hf : lo ≤ hi) (l : List FieldRow) (h : ∀ r ∈ l, Leaves hi lo r) (d : Dev) :
    (l.foldl (fun d r => d.writeField key key v r) d).get ⟨key, hi, lo⟩ = d.get ⟨key, hi, lo⟩ ∧
    ∀ f, (l.foldl (fun d r => d.writeField key key v r) d).raisedNow f = d.raisedNow f := by
  induction l generalizing d with
  | nil => exact ⟨rfl, fun _ => rfl⟩
  | cons r l ih =>
    obtain ⟨h1, h2⟩ := ih (fun x hx => h x (List.mem_cons_of_mem r hx)) (d.writeField key key v r)
    rcases h r List.mem_cons_self with ha | ⟨ha, hl, hu, hd⟩
    · rw [List.foldl_cons, d.writeField_ro _ _ _ _ ha] at *
      exact ⟨h1, h2⟩
    · have hg : (d.writeField key key v r).get ⟨key, hi, lo⟩ = d.get ⟨key, hi, lo⟩ := by
        rw [d.writeField_w1c _ _ _ _ ha]
        exact d.get_put_of_ne _ _ _ hf hl hu (.inr hd)
      exact ⟨h1.trans hg, fun f => (h2 f).trans (d.raisedNow_writeField_w1c key v r f ha)⟩

/-- Its own row clears a bit by a 1, unless hardware sets it in the same cycle. -/
theorem get_writeField_w1c_bit (d : Dev) (key v off count i : Nat) (hi : i < 32) :
    (d.writeField key key v ⟨off, count, i, i, .w1c, false⟩).get ⟨key, i, i⟩ =
      if bit v i = true ∧ d.raisedNow ⟨key, i, i⟩ = 0 then 0 else d.get ⟨key, i, i⟩ := by
  have hb : ∀ w, bits w i i < 2 := fun w => by simpa using bits_lt w i i
  have hv : bit v i = true ↔ bits v i i = 1 := by simp [bit, bits]
  have hc : ∀ g < 2, ∀ x < 2, ∀ n < 2, clearBits g (clearBits x n) % 2 = if x = 1 ∧ n = 0 then 0 else g := by decide
  rw [d.writeField_w1c _ _ _ _ rfl, d.get_put _ _ (Nat.le_refl i) hi]
  simp only [Nat.add_sub_cancel_left, Nat.pow_one, hv]
  exact hc _ (hb _) _ (hb v) _ (hb _)

/-- A bit among the write-one-to-clear bits of its word. -/
theorem get_foldl_w1c (key v off count i : Nat) (hi : i < 32) (l r : List FieldRow) (h : ∀ x ∈ l ++ r, Leaves i i x) (d : Dev) :
    ((l ++ ⟨off, count, i, i, .w1c, false⟩ :: r).foldl (fun d x => d.writeField key key v x) d).get ⟨key, i, i⟩ =
      if bit v i = true ∧ d.raisedNow ⟨key, i, i⟩ = 0 then 0 else d.get ⟨key, i, i⟩ := by
  obtain ⟨hg, hn⟩ := writeOthers_get key v i i (Nat.le_refl i) l (fun x hx => h x (List.mem_append_left r hx)) d
  rw [List.foldl_append, List.foldl_cons, (writeOthers_get key v i i (Nat.le_refl i) r (fun x hx => h x (List.mem_append_right l hx)) _).1,
    get_writeField_w1c_bit _ _ _ _ _ _ hi, hg, hn]

end Dev

/-! ### The registers of the statement -/

section
variable {t : Nat} {m : Master} {v : W32} {s : State} (ho : s.dev.sys.mstate ≠ .off)
include ho

/-- A read-write field takes its bits (R31). -/
theorem write_beatIrqEnable : Completes (.registerWrite t m (regBase + 0x010038) v) s fun d =>
    d.get Reg.BEAT_IRQ_ENABLE.word = putBits (s.dev.get Reg.BEAT_IRQ_ENABLE.word) (bits v.toNat 4 0) 4 0 := by
  refine writeRows_completes rfl ho rfl ?_
  rw [Dev.settleOffers_get _ _ (by decide), Dev.writeRows_of_row _ _ _ _ ⟨0x38, 1, 4, 0, .rw, false⟩ (by decide) rfl,
    Dev.writeField_rw _ _ _ _ _ rfl]
  exact Dev.get_word_put _ _ _ _ _ (by decide) (by decide)

/-- A write-one-to-clear bit is cleared by a 1 unless hardware sets it in the same cycle (R31, R35). -/
theorem write_beatIrqStatus : Completes (.registerWrite t m (regBase + 0x010034) v) s fun d =>
    d.get Reg.BEAT_IRQ_STATUS.commit_done =
      if bit v.toNat 1 = true ∧ (s.dev.atTime t).raisedNow Reg.BEAT_IRQ_STATUS.commit_done = 0 then 0
      else s.dev.get Reg.BEAT_IRQ_STATUS.commit_done := by
  have hrows : rowsAt (regPlace 0x010034) = [⟨0x34, 1, 4, 4, .w1c, false⟩, ⟨0x34, 1, 3, 3, .w1c, false⟩, ⟨0x34, 1, 2, 2, .w1c, false⟩] ++
    ⟨0x34, 1, 1, 1, .w1c, false⟩ :: [⟨0x34, 1, 0, 0, .w1c, false⟩] := by decide
  refine writeRows_completes rfl ho rfl ?_
  rw [Dev.settleOffers_get _ _ (by decide), Dev.writeRows, hrows]
  exact Dev.get_foldl_w1c 0x010034 _ _ _ 1 (by decide) _ _ (by decide) _

/-- A read-only field keeps its value (R31). -/
theorem write_sysStatus : Completes (.registerWrite t m (regBase + 0) v) s fun d =>
    d.get Reg.SYS_STATUS.state = s.dev.get Reg.SYS_STATUS.state := by
  refine writeRows_completes rfl ho rfl ?_
  rw [Dev.settleOffers_get _ _ (by decide), Dev.writeRows, Dev.heldKey_of_not_banked 0 (bankOf m) (by decide)]
  exact (Dev.writeOthers_get 0 _ 2 0 (by decide) _ (by decide) _).1

/-- BEAT_CFG's only field; a code out of range is written as 1 (R74). -/
theorem write_beatCfg {P : Dev → Prop} {x : Dev} (hx : (s.dev.atTime t).writeField 0x010000 0x010000 v.toNat ⟨0x00, 1, 2, 0, .rwl, false⟩ = x)
    (hP : P (if 4 < x.get Reg.BEAT_CFG.period then x.put Reg.BEAT_CFG.period 1 else x).settleOffers) :
    Completes (.registerWrite t m (regBase + 0x010000) v) s P := by
  refine registerWrite_completes rfl ho rfl ?_
  rw [Dev.writeReg_of_rows _ _ _ (by decide), Dev.actOnWrite_of_kept _ _ _ (by decide),
    Dev.writeRows_of_row _ _ _ _ ⟨0x00, 1, 2, 0, .rwl, false⟩ (by decide) rfl, hx]
  exact hP

/-- A locked field keeps its bits outside UNFRAMED, and the write sets lock_viol (R31, R33). -/
theorem write_beatCfg_locked (hs : s.dev.sys.mstate ≠ .unframed) : Completes (.registerWrite t m (regBase + 0x010000) v) s fun d =>
    d.get Reg.SYS_STATUS.lock_viol = 1 ∧ (s.dev.get Reg.BEAT_CFG.period ≤ 4 → d.get Reg.BEAT_CFG.period = s.dev.get Reg.BEAT_CFG.period) := by
  refine write_beatCfg ho (Dev.writeField_rwl_locked _ _ _ _ _ rfl hs) ?_
  rw [Dev.settleOffers_get _ _ (by decide), Dev.settleOffers_get _ _ (by decide)]
  have hp : ((s.dev.atTime t).raise Reg.SYS_STATUS.lock_viol).get Reg.BEAT_CFG.period = s.dev.get Reg.BEAT_CFG.period :=
    Dev.get_raise_of_ne _ _ _ (by decide) (by decide) (by decide) (by decide)
  have hv : ((s.dev.atTime t).raise Reg.SYS_STATUS.lock_viol).get Reg.SYS_STATUS.lock_viol = 1 := Dev.get_raise _ _ rfl (by decide)
  refine ⟨?_, fun h => ?_⟩
  · split
    · rw [Dev.get_put_of_ne _ _ _ _ (by decide) (by decide) (by decide) (by decide), hv]
    · exact hv
  · rw [hp, if_neg (Nat.not_lt.2 h), hp]

/-- In UNFRAMED a locked field takes its bits (R31, R33). -/
theorem write_beatCfg_unframed (hs : s.dev.sys.mstate = .unframed) : Completes (.registerWrite t m (regBase + 0x010000) v) s fun d =>
    d.get Reg.BEAT_CFG.period = if bits v.toNat 2 0 ≤ 4 then bits v.toNat 2 0 else 1 := by
  refine write_beatCfg ho (x := (s.dev.atTime t).put Reg.BEAT_CFG.period (bits v.toNat 2 0)) (Dev.writeField_rwl_unframed _ _ _ _ _ rfl hs) ?_
  rw [Dev.settleOffers_get _ _ (by decide)]
  have hp : ((s.dev.atTime t).put Reg.BEAT_CFG.period (bits v.toNat 2 0)).get Reg.BEAT_CFG.period = bits v.toNat 2 0 :=
    (Dev.get_put _ _ _ (by decide) (by decide)).trans (Nat.mod_eq_of_lt (bits_lt v.toNat 2 0))
  rw [hp]
  by_cases h : bits v.toNat 2 0 ≤ 4
  · rw [if_neg (Nat.not_lt.2 h), if_pos h, hp]
  · rw [if_pos (Nat.lt_of_not_le h), if_neg h, Dev.get_put _ _ _ (by decide) (by decide)]
    rfl

/-- The high half of a pair waits for the low half (R34). -/
theorem write_gpioOutHi : Completes (.registerWrite t m (regBase + 0x00020C) v) s fun d =>
    d.stagedHi (bankOf m) Reg.SYS_GPIO_OUT_HI.word = bits v.toNat 9 0 ∧ d.get Reg.SYS_GPIO_OUT_HI.word = s.dev.get Reg.SYS_GPIO_OUT_HI.word := by
  have hrows : rowsAt (regPlace 0x00020C) = [⟨0x020C, 1, 9, 0, .rw, false⟩] := by decide
  have hd : definedBits (rowsAt (regPlace 0x00020C)) v.toNat = bits v.toNat 9 0 := by
    rw [hrows]
    simp [definedBits, sumOf]
  have hw : ∀ d : Dev, d.writeReg (bankOf m) 0x00020C v.toNat =
      d.stageHi (bankOf m) Reg.SYS_GPIO_OUT_HI.word (definedBits (rowsAt (regPlace 0x00020C)) v.toNat) := fun _ => rfl
  refine registerWrite_completes rfl ho rfl ?_
  rw [hw, hd, Dev.actOnWrite_of_kept _ _ _ (by decide), Dev.settleOffers_get _ _ (by decide)]
  refine ⟨?_, rfl⟩
  rw [Dev.stagedHi, Dev.settleOffers_staged]
  simp [Dev.stageHi]

/-- The low half of a pair commits both (R34). -/
theorem write_gpioOutLo (h : s.dev.stagedHi (bankOf m) Reg.SYS_GPIO_OUT_HI.word < 2 ^ 32) :
    Completes (.registerWrite t m (regBase + 0x000208) v) s fun d =>
      d.get Reg.SYS_GPIO_OUT_LO.word = v.toNat ∧ d.get Reg.SYS_GPIO_OUT_HI.word = s.dev.stagedHi (bankOf m) Reg.SYS_GPIO_OUT_HI.word := by
  have hw : ∀ d : Dev, d.writeReg (bankOf m) 0x000208 v.toNat =
      d.commitPair (bankOf m) Reg.SYS_GPIO_OUT_LO.word Reg.SYS_GPIO_OUT_HI.word v.toNat := fun _ => rfl
  refine registerWrite_completes rfl ho rfl ?_
  rw [hw, Dev.actOnWrite_of_kept _ _ _ (by decide), Dev.settleOffers_get _ _ (by decide), Dev.settleOffers_get _ _ (by decide), Dev.commitPair,
    Dev.get_put _ Reg.SYS_GPIO_OUT_HI.word _ (by decide) (by decide), Dev.get_put_of_ne _ _ _ _ (by decide) (by decide) (by decide) (by decide),
    Dev.get_put _ _ _ (by decide) (by decide)]
  exact ⟨Nat.mod_eq_of_lt v.isLt, Nat.mod_eq_of_lt h⟩

/-- A write into the backup domain is posted (R313). -/
theorem write_rtcCurve : Completes (.registerWrite t m (regBase + 0x080054) v) s fun d => d.rtc.curve = s.dev.rtc.curve ∧
    d.rtc.posted = s.dev.rtc.posted.filter (fun x => x.key != 0x080054) ++ [⟨0x080054, v.toNat⟩] := by
  have hw : ∀ d : Dev, d.writeReg (bankOf m) 0x080054 v.toNat =
      { d with rtc := { d.rtc with posted := d.rtc.posted.filter (fun x => x.key != 0x080054) ++ [⟨0x080054, v.toNat⟩] } } := fun _ => rfl
  refine registerWrite_completes rfl ho rfl ?_
  rw [hw, Dev.actOnWrite_of_kept _ _ _ (by decide), Dev.settleOffers_rtc]
  exact ⟨rfl, rfl⟩

end

/-- Settles O40: the faults and the rows by the write's own cases, the fields by their access types. -/
theorem registerWriteActs : Obligations.RegisterWriteActs := by
  unfold Obligations.RegisterWriteActs
  refine ⟨fun t addr m v s h => registerWrite_of_fault h, fun t m v s ho => ⟨?_, ?_, write_beatIrqEnable ho, write_beatIrqStatus ho,
    fun _ => write_sysStatus ho, write_beatCfg_locked ho, write_beatCfg_unframed ho, write_gpioOutHi ho, write_gpioOutLo ho, write_rtcCurve ho⟩⟩
  · exact registerWrite_of_row (by decide) (by decide) rfl ho (by decide) rfl
  · exact registerWrite_of_row (by decide) (by decide) rfl ho (by decide) rfl

end Sys2Proof.Machine
end

section
/-! PROOFS. What the commands of the light outputs and of the registers leave unchanged (R27, R31, R34, R490-R499, R541). -/

-- One proof at a time: a side condition left to `decide` waits for every declaration before it, each in a thread of its own.
set_option Elab.async false

namespace Sys2Proof.Machine
namespace Dev

/-! ### The light outputs' state -/

theorem setStr_touches (d : Dev) (n : Nat) (f : StringSt → StringSt) : Touches [.lgt] [] d (d.setStr n f) := (Touches.refl d).setLgt _

theorem setMat_touches (d : Dev) (k : Nat) (f : MatrixSt → MatrixSt) : Touches [.lgt] [] d (d.setMat k f) := (Touches.refl d).setLgt _

theorem rewriteUnits_touches (d : Dev) : Touches [.sil] [] d d.rewriteUnits := by
  unfold rewriteUnits noteUnits noteData
  exact .ite (fun _ => d.commit_touches _) fun _ => .refl d

theorem returnLamp_touches (d : Dev) (n k : Nat) : Touches [.sil, .lgt] [] d (d.returnLamp n k) :=
  ((d.setStr_touches n _).offer _ _).mono.andThen (rewriteUnits_touches _)

/-! ### A string's frame (R490, R492-R495) -/

/-- The interrupt of the light outputs. -/
def lightKeys : List Nat := keysOf [Reg.LGT_IRQ_STATUS.word]

theorem confirmOpen_touches (d : Dev) (n k : Nat) : Touches [.sil, .lgt] lightKeys d (d.confirmOpen n k) := by
  unfold confirmOpen
  extract_lets d1 d2
  have h1 : Touches [.sil, .lgt] lightKeys d d1 := (d.setStr_touches n _).mono
  have h2 : Touches [.sil, .lgt] lightKeys d d2 := ((h1.raise _).offer _ _).andThen (rewriteUnits_touches _)
  exact .ite (fun _ => h2.andThen (d2.returnLamp_touches n k)) fun _ => h2

theorem observe_touches (d : Dev) (n k mv : Nat) (c : StringCfg) : Touches [.sil, .lgt] lightKeys d (d.observe n k mv c) := by
  have h (f : StringSt → StringSt) : Touches [.sil, .lgt] lightKeys d (d.setStr n f) := (d.setStr_touches n f).mono
  unfold observe
  exact .ite (fun _ => .ite (fun _ => d.confirmOpen_touches n k) fun _ => ((h _).raise _).offer _ _) fun _ =>
    .ite (fun _ => .ite (fun _ => ((h _).raise _).offer _ _) fun _ => h _) fun _ => h _

theorem stringFrame_touches (d : Dev) (n m : Nat) (mv : List Nat) : Touches [.sil, .lgt] lightKeys d (d.stringFrame n m mv) := by
  unfold stringFrame
  split
  · exact .refl d
  · rename_i c hc
    extract_lets d0 s u cnt d1 d0'
    have h0 : Touches [.sil, .lgt] lightKeys d d0 := .ite (fun _ => .refl d) fun _ => (d.setStr_touches n _).mono
    have h1 : Touches [.sil, .lgt] lightKeys d d1 := h0.andThen (d0.setStr_touches n _)
    have h0' : Touches [.sil, .lgt] lightKeys d d0' := h0.andThen (d0.setStr_touches n _)
    clear_value d0 d1 d0'
    refine .ite (fun _ => .ite (fun _ => h1) fun _ => (h1.raise _).offer _ _) fun _ => ?_
    extract_lets
    exact .ite (fun _ => (h0'.andThen (setStr_touches _ n _)).trans (observe_touches _ _ _ _ _)) fun _ =>
      (h0'.andThen (setStr_touches _ n _)).foldl _ fun x i _ => x.observe_touches _ _ _ _

/-! ### A matrix's frame (R497, R498) -/

/-- The pages shown. -/
def shownKeys : List Nat := keysOf [Reg.LGT_SGA_CTRL.word, Reg.LGT_SGB_CTRL.word]

theorem putShown_touches (d : Dev) (k v : Nat) : Touches [] shownKeys d (d.putShown k v) := by
  unfold putShown
  exact .ite (fun _ => (Touches.refl d).put _ _) fun _ => (Touches.refl d).put _ _

theorem matrixFrame_touches (d : Dev) (k : Nat) : Touches [.lgt] shownKeys d (d.matrixFrame k) := by
  unfold matrixFrame
  split
  · exact .refl d
  · extract_lets d0
    have h0 : Touches [.lgt] shownKeys d d0 := .ite (fun _ => (d.setMat_touches k _).mono.andThen (putShown_touches _ _ _)) fun _ => .refl d
    exact h0.andThen (setMat_touches _ k _)

/-! ### Readings and shorts (R491, R499) -/

theorem noteDerating_touches (d : Dev) : Touches [.lgt] lightKeys d d.noteDerating :=
  ((Touches.refl d).setLgt _).foldl _ fun x _ _ => ((Touches.refl x).raise _).offer _ _

/-- The lands held off. -/
def heldKeys : List Nat := keysOf [Reg.LGT_SGA_HELD.word, Reg.LGT_SGB_HELD.word, Reg.LGT_SG_HELD_LINES.word]

theorem holdLand_touches (d : Dev) (x : Nat) : Touches [] heldKeys d (d.holdLand x) := by
  unfold holdLand
  exact .ite (fun _ => (Touches.refl d).put _ _) fun _ => .ite (fun _ => (Touches.refl d).put _ _) fun _ =>
    .ite (fun _ => (Touches.refl d).put _ _) fun _ => .ite (fun _ => (Touches.refl d).put _ _) fun _ => .refl d

end Dev

/-- A command whose effect lifts an operation has what the operation touches as its frame. -/
theorem frame_of_exec {c : Instr} {t : Nat} {f : Dev → Dev} {ps : List Part} {ks : List Nat} {regs : Nat → Prop}
    (o : State → Host.Outcome State Fault Refusal) (hc : ∀ s, exec c s = o s) (ho : ∀ s, o s = s.runAt t f)
    (h : ∀ d, Touches ps ks d (f d)) (hk : ∀ k ∈ ks, regs k) : Frame c ps regs :=
  frame_of_touches (fun s => (hc s).trans (ho s)) h hk

theorem no_keys {regs : Nat → Prop} : ∀ k ∈ ([] : List Nat), regs k := fun _ h => nomatch h

/-! ### The light outputs' commands -/

theorem stringFrame_frame (t : Nat) (mv : List (List Nat)) :
    Frame (.stringFrame t mv) [.sil, .lgt] (fun k => k ∈ Dev.keysOf [Reg.LGT_IRQ_STATUS.word]) := by
  refine frame_of_exec (ks := Dev.lightKeys) (execStringFrame t mv) (fun _ => rfl) (fun _ => rfl) (fun d => ?_) fun _ h => h
  have h1 (l : LgtSt) : Touches [.sil, .lgt] Dev.lightKeys d { d with lgt := l } := (Touches.refl d).setLgt l
  extract_lets m x d1 y
  exact .ite (fun _ => .refl d) fun _ => .ite (fun _ => h1 _) fun _ => .ite (fun _ => (h1 _).setLgt _) fun _ =>
    (h1 _).foldl _ fun x n _ => x.stringFrame_touches n _ _

theorem matrixFrame_frame (t : Nat) :
    Frame (.matrixFrame t) [.lgt] (fun k => k ∈ Dev.keysOf [Reg.LGT_SGA_CTRL.word, Reg.LGT_SGB_CTRL.word]) := by
  refine frame_of_exec (ks := Dev.shownKeys) (execMatrixFrame t) (fun _ => rfl) (fun _ => rfl) (fun d => ?_) fun _ h => h
  extract_lets x d1 y
  have h1 : Touches [.lgt] Dev.shownKeys d d1 := (Touches.refl d).setLgt _
  exact .ite (fun _ => .refl d) fun _ => .ite (fun _ => h1) fun _ => .ite (fun _ => h1.setLgt _) fun _ =>
    (h1.trans (d1.matrixFrame_touches 0)).trans (Dev.matrixFrame_touches _ 1)

theorem ntcRead_frame (t : Nat) (n : Fin 4) (temp : Int) :
    Frame (.ntcRead t n temp) [.lgt] (fun k => k ∈ Dev.keysOf [Reg.LGT_IRQ_STATUS.word, Reg.LGT_NTC.word n.val]) := by
  let ks := Dev.keysOf [Reg.LGT_IRQ_STATUS.word, Reg.LGT_NTC.word n.val]
  have hi : Reg.LGT_IRQ_STATUS.word.key ∈ ks ++ eventKeys := .head _
  have hn : (Reg.LGT_NTC.word n.val).key ∈ ks ++ eventKeys := .tail _ (.head _)
  have hd : ∀ d : Dev, Touches [.lgt] ks d d.noteDerating := fun d => d.noteDerating_touches.mono (hk := fun _ h => by
    rw [List.mem_singleton.1 h]; exact .head _)
  refine frame_of_exec (ks := ks) (execNtcRead t n temp) (fun _ => rfl) (fun _ => rfl) (fun d => ?_) fun _ h => h
  split
  · exact .refl d
  · extract_lets d0 d1 d2 x f
    have h0 : Touches [.lgt] ks d d0 := .put _ _ (.refl d) hn
    have h1 : Touches [.lgt] ks d d1 := .put _ _ (.put _ _ h0 hn) hn
    have h2 : Touches [.lgt] ks d d2 := .ite (fun _ => h1) fun _ => .offer _ _ (.raise _ h1 hi)
    refine .ite (fun _ => h2.trans (hd d2)) fun _ => .trans ?_ (hd _)
    exact .put _ _ (.put _ _ (h0.setLgt _) hn) hn

theorem neighbourShort_frame (t : Nat) (k : Fin 2) (pairs : List (Nat × Nat)) : Frame (.neighbourShort t k pairs) [.lgt]
    (fun k => k ∈ Dev.keysOf [Reg.LGT_IRQ_STATUS.word, Reg.LGT_SGA_HELD.word, Reg.LGT_SGB_HELD.word, Reg.LGT_SG_HELD_LINES.word]) := by
  refine frame_of_exec (ks := Dev.lightKeys ++ Dev.heldKeys) (execNeighbourShort t k pairs) (fun _ => rfl) (fun _ => rfl) (fun d => ?_) fun _ h => h
  exact (d.setMat_touches k.val _).mono.foldl _ fun x p _ =>
    (((x.holdLand_touches p.1).mono.andThen (Dev.holdLand_touches _ p.2)).raise _).offer _ _

theorem lampReturned_frame (t : Nat) (m : Master) (v : W32) : Frame (.lampReturned t m v) [.sil, .lgt] (fun _ => False) := by
  refine frame_of_exec (ks := []) (execLampReturned t m v) (fun _ => rfl) (fun _ => rfl) (fun d => ?_) no_keys
  exact ((Touches.refl d).note _ d.evr).foldl _ fun x k _ => x.returnLamp_touches _ k

theorem strLevelWrite_frame (t : Nat) (m : Master) (v : W32) : Frame (.strLevelWrite t m v) [.lgt] (fun _ => False) := by
  refine frame_of_exec (ks := []) (execStrLevelWrite t m v) (fun _ => rfl) (fun _ => rfl) (fun d => ?_) no_keys
  exact .ite (fun _ => .refl d) fun _ => d.setStr_touches _ _

theorem signPixWrite_frame (t : Nat) (m : Master) (k : Fin 2) (i : Fin 128) (v : W32) :
    Frame (.signPixWrite t m k i v) [.lgt] (fun _ => False) :=
  frame_of_exec (ks := []) (execSignPixWrite t m k i v) (fun _ => rfl) (fun _ => rfl) (fun d => d.setMat_touches k.val _) no_keys

theorem signFlip_frame (t : Nat) (m : Master) (k : Fin 2) : Frame (.signFlip t m k) [.lgt] (fun _ => False) :=
  frame_of_exec (ks := []) (execSignFlip t m k) (fun _ => rfl) (fun _ => rfl) (fun d => d.setMat_touches k.val _) no_keys

/-! ### The register commands -/

namespace Dev

theorem setLatch_touches (d : Dev) (bank key v : Nat) : Touches [.latches] [] d (d.setLatch bank key v) :=
  (Touches.refl d).update (fun p hp => by cases p <;> simp_all [Part.same, setLatch]) rfl

theorem fresh_touches (d : Dev) : Touches [.freeCtr] [] d d.fresh.2 :=
  (Touches.refl d).update (fun p hp => by cases p <;> simp_all [Part.same, fresh]) rfl

theorem readLo_touches (d : Dev) (bank key : Nat) : Touches [.latches, .freeCtr] [] d (d.readLo bank key) := by
  unfold readLo
  exact .ite (fun _ => .refl d) fun _ => .ite (fun _ => ((d.fresh_touches.mono.andThen (setLatch_touches _ _ _ _)).andThen
    (setLatch_touches _ _ _ _)).andThen (setLatch_touches _ _ _ _)) fun _ => (d.setLatch_touches _ _ _).mono

/-- The words of a master's serial transfer (R541). -/
def serKeys (bank : Nat) : List Nat :=
  keysOf [Reg.SYS_SER_DESC_HI.word bank, Reg.SYS_SER_DESC_LO.word bank, Reg.SYS_SER_STATUS.word bank]

theorem setStaged_touches (d : Dev) (l : List HiLatch) : Touches [.staged] [] d { d with staged := l } :=
  (Touches.refl d).update (fun p hp => by cases p <;> simp_all [Part.same]) rfl

theorem serWritten_touches (d : Dev) (bank lo : Nat) : Touches [.staged, .lnd] (serKeys bank) d (d.serWritten bank lo) :=
  (((d.setStaged_touches _).mono (hk := List.nil_subset _)).put _ _ (.tail _ (.head _))).put _ _ (.head _)

theorem serialTransfer_touches (d : Dev) (bank lo : Nat) : Touches [.staged, .lnd] (serKeys bank) d (d.serialTransfer bank lo) := by
  have h := d.serWritten_touches bank lo
  have hs : (Reg.SYS_SER_STATUS.word bank).key ∈ serKeys bank ++ eventKeys := .tail _ (.tail _ (.head _))
  unfold serialTransfer
  rw [← serWritten]
  refine .ite (fun _ => h.put _ _ hs) fun _ => ?_
  split
  · exact h.put _ _ hs
  · exact .ite (fun _ => h.put _ _ hs) fun _ => (h.setLnd _).put _ _ hs

end Dev

theorem readLoLatch_frame (t : Nat) (m : Master) (key : Nat) : Frame (.readLoLatch t m key) [.latches, .freeCtr] (fun _ => False) :=
  frame_of_exec (ks := []) (execReadLoLatch t m key) (fun _ => rfl) (fun _ => rfl) (fun d => d.readLo_touches _ _) no_keys

theorem accessFault_frame (t : Nat) (m : Master) (addr : Nat) (f : AccessForm) :
    Frame (.accessFault t m addr f) [.mem, .sys] (fun _ => False) := by
  refine frame_of_exec (ks := []) (execAccessFault t m addr f) (fun _ => rfl) (fun _ => rfl) (fun d => ?_) no_keys
  exact .ite (fun _ => (d.accessFault_touches m _).mono) fun _ => .ite (fun _ => (Touches.refl d).setMem _) fun _ => .refl d

theorem serialTransfer_frame (t : Nat) (m : Master) (lo : W32) : Frame (.serialTransfer t m lo) [.staged, .lnd] (fun k =>
    k ∈ Dev.keysOf [Reg.SYS_SER_DESC_HI.word (bankOf m), Reg.SYS_SER_DESC_LO.word (bankOf m), Reg.SYS_SER_STATUS.word (bankOf m)]) :=
  frame_of_exec (execSerialTransfer t m lo) (fun _ => rfl) (fun _ => rfl) (fun d => d.serialTransfer_touches _ _) fun _ h => h

theorem serialDone_frame (t : Nat) (timeout : Bool) (data : Bytes) :
    Frame (.serialDone t timeout data) [.mem, .lnd] (fun k => ∃ b, k = (Reg.SYS_SER_STATUS.word b).key) := by
  intro s
  refine completes_of_exec (execSerialDone t timeout data s) rfl rfl ?_
  cases hr : (s.dev.atTime t).lnd.serial with
  | none =>
    have h : Touches [.mem, .lnd] [] s.dev ((s.dev.atTime t).serialDone timeout data).settleOffers := by
      unfold Dev.serialDone
      rw [hr]
      exact ((Touches.refl s.dev).atTime t).settleOffers
    exact ⟨h.parts, fun k _ he => h.regs k (by simp) he⟩
  | some r =>
    have h : Touches [.mem, .lnd] [(Reg.SYS_SER_STATUS.word r.bank).key] s.dev ((s.dev.atTime t).serialDone timeout data).settleOffers := by
      have hu (x : Dev) (v : Memory) (w : LndSt) : Touches [.mem, .lnd] [(Reg.SYS_SER_STATUS.word r.bank).key] x { x with mem := v, lnd := w } :=
        (Touches.refl x).update (fun p hp => by cases p <;> simp_all [Part.same]) rfl
      rw [Dev.serialDone_eq hr]
      exact .settleOffers (.put _ _ (.put _ _ (.trans (.atTime t (.refl s.dev)) (hu _ _ _)) (.head _)) (.head _))
    exact ⟨h.parts, fun k hk he => h.regs k (fun m => hk ⟨r.bank, List.mem_singleton.1 m⟩) he⟩

namespace Dev

/-- Rows that only keep what is written, and are not banked, touch the register's own word. -/
theorem writeRows_touches (d : Dev) (bank key v : Nat)
    (h : ∀ r ∈ rowsAt (regPlace key), (r.acc = .rw ∨ r.acc = .ro ∨ r.acc = .w1c) ∧ r.banked = false) :
    Touches [] [key] d (d.writeRows bank key v) := by
  unfold writeRows
  rw [heldKey_of_not_banked key bank fun r hr => (h r hr).2]
  refine (Touches.refl d).foldl _ fun x r hr => ?_
  rcases (h r hr).1 with ha | ha | ha
  · rw [x.writeField_rw _ _ _ _ ha]; exact (Touches.refl x).put _ _ (.head _)
  · rw [x.writeField_ro _ _ _ _ ha]; exact .refl x
  · rw [x.writeField_w1c _ _ _ _ ha]; exact (Touches.refl x).put _ _ (.head _)

end Dev

/-- The registers of the statement: none has a row of its own, and every field of theirs only keeps what is written into it. -/
def keptKeys : List Nat := [0x010034, 0x010038, 0x040144, 0x0700B4, 0x090014, 0x0A001C, 0x0B0054, 0x0D002C]

theorem rowWrite_of_keptKeys {key : Nat} (h : key ∈ keptKeys) (t : Nat) (m : Master) (v : W32) (s : State) : rowWrite t m key v s = none := by
  simp only [keptKeys, List.mem_cons, List.not_mem_nil, or_false] at h
  rcases h with rfl | rfl | rfl | rfl | rfl | rfl | rfl | rfl <;> rfl

theorem registerWrite_frame (t key : Nat) (m : Master) (v : W32) (h : key ∈ keptKeys) :
    Frame (.registerWrite t m (regBase + key) v) [] (fun k => k = key) := by
  intro s
  obtain ⟨⟨h4, hu⟩, hn⟩ := (by decide : ∀ k ∈ keptKeys, (k % 4 = 0 ∧ k + 4 ≤ 0x150000) ∧ k ≠ 0x000220) key h
  have hx : ∀ x : Dev, Touches [] [key] s.dev x.settleOffers → (∀ p, p ∉ ([] : List Part) → p.same s.dev x.settleOffers) ∧
      ∀ k, ¬ k = key → k ∉ eventKeys → x.settleOffers.regs.get k = s.dev.regs.get k := fun x ht =>
    ⟨ht.parts, fun k hk he => ht.regs k (fun m => hk (List.mem_singleton.1 m)) he⟩
  by_cases hb : (s.dev.blockTested (regPlace key) || s.dev.sys.mstate == .off) = true
  · exact completes_of_exec _ rfl (registerWrite_of_idle h4 hu hb) (hx _ ((Touches.refl s.dev).atTime t).settleOffers)
  · simp only [Bool.or_eq_true, not_or, Bool.not_eq_true, beq_iff_eq] at hb
    exact writeRows_completes hb.1 hb.2 (rowWrite_of_keptKeys h t m v s)
      (hx _ (((Touches.refl s.dev).atTime t).trans (Dev.writeRows_touches _ _ key _
        ((by decide : ∀ k ∈ keptKeys, ∀ r ∈ rowsAt (regPlace k), (r.acc = .rw ∨ r.acc = .ro ∨ r.acc = .w1c) ∧ r.banked = false) key h))).settleOffers)
      ((by decide : ∀ k ∈ keptKeys, Dev.ActsByRows k) key h)
      ((by decide : ∀ k ∈ keptKeys, ((regPlace k).block, (regPlace k).off) ∉
        [(1, 0x00), (1, 0x2C), (6, 0x14), (7, 0x20), (7, 0x14), (7, 0x30), (7, 0x34), (19, 0x08), (19, 0x0C)]) key h)
      ((by decide : ∀ k ∈ keptKeys, k ∉ [0x070084, 0x120020, 0x120024]) key h) h4 hu hn

/-- Settles O59: each command touches the components and words named. -/
theorem lightAndRegisterFrames : Obligations.LightAndRegisterFrames := by
  unfold Obligations.LightAndRegisterFrames
  exact ⟨stringFrame_frame, matrixFrame_frame, ntcRead_frame, neighbourShort_frame, lampReturned_frame, strLevelWrite_frame,
    signPixWrite_frame, signFlip_frame, readLoLatch_frame, accessFault_frame, serialTransfer_frame, serialDone_frame, registerWrite_frame⟩

end Sys2Proof.Machine
end

section
/-! PROOFS. Time: PPS edges, PTP's messages and timeouts, leap seconds, time-stamp queues, the PPS output and the timed outputs
(R48-R53, R276-R292). -/

-- One proof at a time: a side condition left to `decide` waits for every declaration before it, each in a thread of its own.
set_option Elab.async false

namespace Sys2Proof.Machine

/-! ### One entry of a list -/

/-- The entry that is modified. -/
theorem modifyAt_self {α : Type} {l : List α} {i : Nat} {x : α} (f : α → α) (h : l[i]? = some x) : (modifyAt l i f)[i]? = some (f x) := by
  simp [modifyAt, h]

namespace Dev

theorem setPtp_self {d : Dev} {p : Nat} {x : PtpPort} (f : PtpPort → PtpPort) (h : d.tim.ptp[p]? = some x) :
    (d.setPtp p f).settleOffers.tim.ptp[p]? = some (f x) := by
  rw [settleOffers_tim]
  exact modifyAt_self f h

theorem setTpo_self {d : Dev} {k : Nat} {x : Tpo} (f : Tpo → Tpo) (h : d.tim.tpo[k]? = some x) :
    (d.setTpo k f).settleOffers.tim.tpo[k]? = some (f x) := by
  rw [settleOffers_tim]
  exact modifyAt_self f h

theorem tpoAt_of_get {d : Dev} {k : Nat} {x : Tpo} (h : d.tim.tpo[k]? = some x) : d.tpoAt k = x := by
  rw [tpoAt, List.getD_eq_getElem?_getD, h]; rfl

/-- The queues of time-stamps with one of them changed. -/
theorem setTsq_self {d : Dev} {p : Nat} {q : TsQueue} (f : TsQueue → TsQueue) (h : d.tim.tsq[p]? = some q) :
    ({ d with tim := { d.tim with tsq := modifyAt d.tim.tsq p f } } : Dev).settleOffers.tim.tsq[p]? = some (f q) := by
  rw [settleOffers_tim]
  exact modifyAt_self f h

theorem trkAt_setTrk_self {d : Dev} {p : Nat} (f : TrkSt → TrkSt) (h : p < d.trk.length) : (d.setTrk p f).trkAt p = f (d.trkAt p) := by
  have hx : d.trk[p]? = some d.trk[p] := List.getElem?_eq_getElem h
  have hs : (d.setTrk p f).trk[p]? = some (f d.trk[p]) := modifyAt_self f hx
  rw [trkAt, trkAt, List.getD_eq_getElem?_getD, List.getD_eq_getElem?_getD, hs, hx]; rfl

/-! ### A PPS edge (R49, R51, R282) -/

theorem showSlew_tim (d : Dev) : d.showSlew.tim = d.tim := by simp only [showSlew, putB_tim, put_tim]

theorem showSlew_beat (d : Dev) : d.showSlew.beat = d.beat := by simp only [showSlew, putB_beat, put_beat]

theorem slewTo_tim (d : Dev) (c : Int) (source : Nat) (continues : Bool) : (d.slewTo c source continues).tim = d.tim := by
  unfold slewTo
  split
  · exact showSlew_tim _
  · split
    · exact (raise_tim _ _).trans (showSlew_tim _)
    · exact (offer_tim _ _ _).trans ((raise_tim _ _).trans (showSlew_tim _))

/-- A correction changes nothing of the beat but the slew asked. -/
theorem slewTo_beat (d : Dev) (c : Int) (source : Nat) (continues : Bool) :
    (d.slewTo c source continues).beat = { d.beat with slew := c + d.slewDone } := by
  unfold slewTo
  split
  · exact showSlew_beat _
  · split
    · exact (raise_beat _ _).trans (showSlew_beat _)
    · exact (offer_beat _ _ _).trans ((raise_beat _ _).trans (showSlew_beat _))

/-- What an accepted edge leaves: the time sources, and of the beat all but the counts of edges, the slew and the next source. -/
structure AcceptsEdge (d d' : Dev) : Prop where
  tim : d'.tim = d.tim
  count : d'.beat.count = d.beat.count
  base : d'.beat.base = d.beat.base
  accepted : d'.beat.ppsAccepted = d.beat.ppsAccepted + 1
  rejected : d'.beat.ppsRejected = 0

theorem disciplineFreq_tim (d : Dev) : d.disciplineFreq.tim = d.tim := by simp only [disciplineFreq, put_tim]; rfl

theorem disciplineFreq_beat (d : Dev) : d.disciplineFreq.beat = d.beat := by simp only [disciplineFreq, put_beat]; rfl

/-- The correction that follows an accepted edge. -/
theorem AcceptsEdge.slewTo {d x : Dev} (h : AcceptsEdge d x) (c : Int) (source : Nat) (continues : Bool) :
    AcceptsEdge d (x.disciplineFreq.slewTo c source continues) := by
  obtain ⟨ht, hc, hb, ha, hj⟩ := h
  have e : (x.disciplineFreq.slewTo c source continues).beat = { x.beat with slew := c + x.disciplineFreq.slewDone } := by
    rw [slewTo_beat, disciplineFreq_beat]
  exact ⟨((slewTo_tim _ _ _ _).trans x.disciplineFreq_tim).trans ht, by rw [e]; exact hc, by rw [e]; exact hb, by rw [e]; exact ha,
    by rw [e]; exact hj⟩

theorem AcceptsEdge.nextSource {d x : Dev} (h : AcceptsEdge d x) (v : Option BeatSource) :
    AcceptsEdge d { x with beat := { x.beat with nextSource := v } } := ⟨h.tim, h.count, h.base, h.accepted, h.rejected⟩

theorem AcceptsEdge.ppsOffsets {d x : Dev} (h : AcceptsEdge d x) (l : List Int) :
    AcceptsEdge d { x with beat := { x.beat with ppsOffsets := l } } := ⟨h.tim, h.count, h.base, h.accepted, h.rejected⟩

/-- An edge counted, and shown. -/
theorem acceptsEdge_counted (d : Dev) (usable : Bool) (f g h : Fld) (b : Bool) (v : Nat) : AcceptsEdge d
    (((({ d with beat := { d.beat with ppsRejected := 0, ppsAccepted := d.beat.ppsAccepted + 1, ppsUsable := usable } } : Dev).bump f).putB
      g b).put h v) := by
  constructor <;> simp only [put_tim, put_beat, putB_tim, putB_beat, bump_tim, bump_beat]

theorem ppsAccept_acceptsEdge (d : Dev) (off : Int) : AcceptsEdge d (d.ppsAccept off) := by
  unfold ppsAccept
  extract_lets n usable b d1 d1' d2
  have h1 : AcceptsEdge d d1' := acceptsEdge_counted d usable _ _ _ _ _
  clear_value d1'
  split
  · exact h1
  · split
    · exact h1.slewTo _ _ _
    · exact (h1.slewTo _ _ _).nextSource _

theorem ppsEdge_of_not_running {d : Dev} (h : d.beat.running = false) : d.ppsEdge = d := if_pos (by simp [h])

/-- An edge within 50 µs of the second, with PPS the source. -/
theorem ppsEdge_acceptsEdge {d : Dev} (hr : d.beat.running = true) (hd : d.alwaysDedicated [40] = true) (hf : d.sys.mstate ≠ .failsafe)
    (hs : d.beat.source = .pps) (ho : mag d.secondOffset ≤ 50000) : AcceptsEdge d d.ppsEdge := by
  have e : d.ppsEdge = { d.ppsAccept d.secondOffset with beat := { (d.ppsAccept d.secondOffset).beat with ppsOffsets := [] } } := by
    unfold ppsEdge
    rw [if_neg (by simp [hr, hd, hf]), if_pos hs, if_pos ho]
  rw [e]
  exact (d.ppsAccept_acceptsEdge _).ppsOffsets []

/-! ### PTP's messages (R284, R285) -/

section ptpRx
variable {d : Dev} {port : Nat} {x : PtpPort} (he : d.ptpEnabled port = true) (hl : port < 8 → d.plcaRole port = 1)
  (hr : d.beat.running = true) (hf : d.sys.mstate ≠ .failsafe) (hx : d.tim.ptp[port]? = some x) (h4 : x.state = 4)
include he hl hr hf hx h4

theorem ptpRx_delayResp (t3 t4 : Nat) (h : d.get Reg.TIME_PTP_CFG.p2p = 1) : d.ptpRx port (.delayResp t3 t4) =
    d.setPtp port (fun p => { p with delay := some (((t4 : Int) - (t3 : Int)) / 2) }) := by
  have hp : d.flag Reg.TIME_PTP_CFG.p2p = true := by rw [flag, h]; rfl
  unfold ptpRx
  rw [if_neg (by simpa [he, hr, hf] using hl)]
  simp only [hx]
  rw [if_neg (by simp [h4]), if_pos hp]

theorem ptpRx_sync (t1 t2 : Nat) (h : x.delay = none) : d.ptpRx port (.sync t1 t2) =
    d.setPtp port (fun p => { p with lastSync := some (t1, t2) }) := by
  unfold ptpRx
  rw [if_neg (by simpa [he, hr, hf] using hl)]
  simp only [hx, h]
  rw [if_neg (by simp [h4])]

end ptpRx

/-! ### The port locked to (R285) -/

theorem mapRecord_tim (d : Dev) : d.mapRecord.tim = d.tim := by
  unfold mapRecord
  split
  · rfl
  · have hr : d.rtcTicks.2.tim = d.tim := by unfold rtcTicks; split <;> rfl
    exact (((journal_touches _ _ _ _).parts .tim (by decide))).trans hr

theorem setQuality_tim (d : Dev) (q : Nat) : (d.setQuality q).tim = d.tim := by
  unfold setQuality
  split
  · rfl
  · rw [mapRecord_tim, put_tim]

theorem loseSource_tim (d : Dev) : d.loseSource.tim = d.tim := by
  unfold loseSource
  extract_lets next d1
  split
  · rw [setQuality_tim]
  · rfl

theorem ptpUnlock_lockedPort {d : Dev} {port : Nat} (h : d.tim.lockedPort = some port) (cause : Nat) :
    (d.ptpUnlock port cause).tim.lockedPort = none := by
  unfold ptpUnlock
  rw [if_neg (by simpa using h)]
  rw [loseSource_tim, offer_tim, raise_tim, put_tim, put_tim]

theorem showGm_lockedPort (d : Dev) (g : Nat) : (d.showGm g).tim.lockedPort = d.tim.lockedPort := by
  unfold showGm
  split
  · rfl
  · rw [offer_tim, put_tim, put_tim]

/-- The BMCA locks to no port. -/
theorem bmca_lockedPort {d : Dev} (h : d.tim.lockedPort = none) : d.bmca.tim.lockedPort = none := by
  unfold bmca
  rw [h]
  rw [showPtp, put_tim, showGm_lockedPort]
  exact h

/-! ### Outputs of module time (R277, R291, R292) -/

theorem setUtc_utcOffset (d : Dev) (v : Int) (cause : Nat) : (d.setUtc v cause).tim.utcOffset = v := by
  unfold setUtc
  split
  · assumption
  · rfl

/-- The notices of a leap second cleared. -/
def clearLeap (d : Dev) : Dev := ((d.put Reg.TIME_UTC.leap61 0).put Reg.TIME_UTC.leap59 0).put Reg.TIME_STATUS.leap_pending 0

theorem get_clearLeap_leap61 (d : Dev) : d.clearLeap.get Reg.TIME_UTC.leap61 = 0 := by
  rw [clearLeap, get_put_of_ne _ _ _ _ (by decide) (by decide) (by decide) (by decide),
    get_put_of_ne _ _ _ _ (by decide) (by decide) (by decide) (by decide), get_put _ _ _ (by decide) (by decide)]
  decide

theorem get_clearLeap_leap59 (d : Dev) : d.clearLeap.get Reg.TIME_UTC.leap59 = 0 := by
  rw [clearLeap, get_put_of_ne _ _ _ _ (by decide) (by decide) (by decide) (by decide), get_put _ _ _ (by decide) (by decide)]
  decide

theorem get_clearLeap_pending (d : Dev) : d.clearLeap.get Reg.TIME_STATUS.leap_pending = 0 := by
  rw [clearLeap, get_put _ _ _ (by decide) (by decide)]
  decide

end Dev

/-! ### The commands -/

theorem ppsEdge_still (t : Nat) (s : State) (h : s.dev.beat.running = false) : Completes (.ppsEdge t) s fun d => d.tim = s.dev.tim := by
  refine completes_of_exec (execPpsEdge t s) rfl rfl ?_
  rw [Dev.settleOffers_tim, Dev.ppsEdge_of_not_running (d := s.dev.atTime t) h, Dev.atTime_tim]

theorem ppsEdge_accepted (t : Nat) (s : State) (hr : s.dev.beat.running = true) (hd : s.dev.alwaysDedicated [40] = true)
    (hf : s.dev.sys.mstate ≠ .failsafe) (hs : s.dev.beat.source = .pps) (ho : mag (s.dev.atTime t).secondOffset ≤ 50000) :
    Completes (.ppsEdge t) s fun d => d.tim = s.dev.tim ∧ d.beat.count = s.dev.beat.count ∧
      d.beat.base = s.dev.beat.base ∧ d.beat.ppsAccepted = s.dev.beat.ppsAccepted + 1 ∧ d.beat.ppsRejected = 0 := by
  obtain ⟨ht, hc, hb, ha, hj⟩ := Dev.ppsEdge_acceptsEdge (d := s.dev.atTime t) hr hd hf hs ho
  refine completes_of_exec (execPpsEdge t s) rfl rfl ?_
  rw [Dev.settleOffers_tim, Dev.settleOffers_beat]
  exact ⟨ht, hc, hb, ha, hj⟩

theorem ptpMessageTx_sent (t : Nat) (port : Fin 10) (k : PtpKind) (s : State) (h : s.dev.ptpMaySend port.val k = true)
    (hl : s.dev.trk.length = 10) :
    Completes (.ptpMessageTx t port k) s fun d => (d.trkAt port.val).ptpOut = (s.dev.trkAt port.val).ptpOut ++ [ptpCode k] := by
  refine completes_of_exec (execPtpMessageTx t port k s) rfl rfl ?_
  have hs : (s.dev.atTime t).ptpMaySend port.val k = true := h
  rw [if_pos hs, Dev.trkAt, Dev.settleOffers_trk, ← Dev.trkAt, Dev.trkAt_setTrk_self (d := s.dev.atTime t) _ (port.isLt.trans_eq hl.symm)]
  rfl

theorem ptpSyncTimeout_unlocks (t : Nat) (port : Fin 10) (x : PtpPort) (s : State) (hp : s.dev.tim.lockedPort = some port.val)
    (hx : s.dev.tim.ptp[port.val]? = some x)
    (ho : (s.dev.atTime t).ptpOver x.measuredAt 8 (sext 4 (s.dev.get Reg.TIME_PTP_INTV.log_sync)) = true) :
    Completes (.ptpSyncTimeout t port) s fun d => d.tim.lockedPort = none := by
  refine completes_of_exec (execPtpSyncTimeout t port s) rfl rfl ?_
  rw [if_pos (by rw [Dev.atTime_tim, hx]; exact ho), Dev.settleOffers_tim]
  exact Dev.ptpUnlock_lockedPort (d := s.dev.atTime t) hp 2

theorem ptpAnnounceTimeout_unlocks (t : Nat) (port : Fin 10) (x : PtpPort) (s : State) (hp : s.dev.tim.lockedPort = some port.val)
    (hx : s.dev.tim.ptp[port.val]? = some x) (he : s.dev.ptpEnabled port.val = true)
    (ho : (s.dev.atTime t).ptpOver x.announcedAt (s.dev.get Reg.TIME_PTP_INTV.ann_timeout)
      (sext 4 (s.dev.get Reg.TIME_PTP_INTV.log_announce)) = true) :
    Completes (.ptpAnnounceTimeout t port) s fun d => d.tim.lockedPort = none := by
  refine completes_of_exec (execPtpAnnounceTimeout t port s) rfl rfl ?_
  have he' : (s.dev.atTime t).ptpEnabled port.val = true := he
  rw [if_neg (by simp only [Dev.atTime_tim, hx, he', Dev.get_atTime, ho]; decide), Dev.settleOffers_tim]
  exact Dev.bmca_lockedPort (Dev.ptpUnlock_lockedPort (d := s.dev.atTime t) hp 0)

/-- The UTC day ends with a leap second announced. -/
theorem leapSecond_clears (t : Nat) (s : State) {up : Bool} (hu : s.dev.flag Reg.TIME_UTC.leap61 = up)
    (h : up = true ∨ s.dev.flag Reg.TIME_UTC.leap59 = true) : Completes (.leapSecond t) s fun d =>
      d.tim.utcOffset = s.dev.tim.utcOffset + (if up then 1 else -1) ∧ d.get Reg.TIME_UTC.leap61 = 0 ∧
      d.get Reg.TIME_UTC.leap59 = 0 ∧ d.get Reg.TIME_STATUS.leap_pending = 0 := by
  refine completes_of_exec (execLeapSecond t s) rfl rfl ?_
  have hu' : (s.dev.atTime t).flag Reg.TIME_UTC.leap61 = up := hu
  have h' : up = true ∨ (s.dev.atTime t).flag Reg.TIME_UTC.leap59 = true := h
  dsimp only
  rw [hu', if_neg (by rcases h' with h | h <;> simp [h]), ← Dev.clearLeap, Dev.settleOffers_tim,
    Dev.settleOffers_get _ _ (by decide), Dev.settleOffers_get _ _ (by decide), Dev.settleOffers_get _ _ (by decide)]
  exact ⟨Dev.setUtc_utcOffset _ _ _, Dev.get_clearLeap_leap61 _, Dev.get_clearLeap_leap59 _, Dev.get_clearLeap_pending _⟩

/-- No entry of this very cycle stands in the queue selected. -/
theorem tsqLatch_latches (t : Nat) (m : Master) (s : State) (q : TsQueue) (hq : s.dev.tim.tsq[s.dev.get Reg.TIME_TSQ_SEL.port]? = some q)
    (h : s.dev.get Reg.TIME_TSQ_SEL.port ∉ (s.dev.atTime t).cyc.stamped) :
    Completes (.tsqLatch t m) s fun d => d.tim.tsq[s.dev.get Reg.TIME_TSQ_SEL.port]? =
      some { q with latched := q.entries.headD ⟨0, 0, 0, 0⟩ } := by
  refine completes_of_exec (execTsqLatch t m s) rfl rfl ?_
  have hn : ((s.dev.atTime t).cyc.stamped.filter (· == s.dev.get Reg.TIME_TSQ_SEL.port)).length = 0 := by
    rw [List.length_eq_zero_iff, List.filter_eq_nil_iff]
    intro a ha e
    exact h (eq_of_beq e ▸ ha)
  have e := Dev.setTsq_self (d := s.dev.atTime t) (fun q =>
    { q with latched := (q.entries.take (q.entries.length - 0)).headD ⟨0, 0, 0, 0⟩ }) hq
  simp only [Dev.get_atTime, hn]
  rw [e]
  simp

theorem tsqPop_pops (t : Nat) (m : Master) (s : State) (q : TsQueue) (hq : s.dev.tim.tsq[s.dev.get Reg.TIME_TSQ_SEL.port]? = some q)
    (h : q.entries.head? = some q.latched) : Completes (.tsqPop t m) s fun d => d.tim.tsq[s.dev.get Reg.TIME_TSQ_SEL.port]? =
      some { q with entries := q.entries.drop 1, latched := ⟨0, 0, 0, 0⟩ } := by
  refine completes_of_exec (execTsqPop t m s) rfl rfl ?_
  refine (Dev.setTsq_self (d := s.dev.atTime t) _ hq).trans ?_
  rw [if_pos h]

theorem ppsOut_rises (t : Nat) (s : State) (hr : s.dev.beat.running = true) (he : s.dev.get Reg.TIME_PPS_OUT.pps_en = 1)
    (hl : s.dev.tim.lastStep = none) (hq : s.dev.quiet = false) (hn : (s.dev.atTime t).now % nsPerSec < 4) :
    Completes (.ppsOut t) s fun d => d.tim.ppsOutHigh = true ∧ d.tim.ppsOutAt = (s.dev.atTime t).now := by
  refine completes_of_exec (execPpsOut t s) rfl rfl ?_
  have hr' : (s.dev.atTime t).beat.running = true := hr
  have he' : (s.dev.atTime t).flag Reg.TIME_PPS_OUT.pps_en = true := by rw [Dev.flag, Dev.get_atTime, he]; rfl
  have hq' : (s.dev.atTime t).quiet = false := hq
  dsimp only
  rw [Dev.atTime_tim, hl, if_neg (by simpa [hr', he', hq'] using hn), Dev.settleOffers_tim]
  exact ⟨rfl, rfl⟩

theorem ppsOutEnd_falls (t : Nat) (s : State)
    (h : s.dev.tim.ppsOutAt + s.dev.get Reg.TIME_PPS_OUT.width_ms * 1000000 ≤ (s.dev.atTime t).now) :
    Completes (.ppsOutEnd t) s fun d => d.tim.ppsOutHigh = false := by
  refine completes_of_exec (execPpsOutEnd t s) rfl rfl ?_
  rw [Dev.atTime_tim, Dev.get_atTime, if_pos h, Dev.settleOffers_tim]

theorem tpoArm_arms (t : Nat) (m : Master) (s : State) (x : Tpo) (hx : s.dev.tim.tpo[s.dev.get Reg.TIME_TPO_SEL.tpo]? = some x)
    (h : (4 ≤ x.width && x.period % 4 = 0 && x.period ≤ 4294967292 && (x.period = 0 || x.width < x.period)) = true) :
    Completes (.tpoArm t m) s fun d => ∃ y, d.tim.tpo[s.dev.get Reg.TIME_TPO_SEL.tpo]? = some y ∧ y.armed = true ∧ y.bad = false := by
  refine completes_of_exec (execTpoArm t m s) rfl rfl ?_
  unfold Dev.tpoArm
  rw [Dev.get_atTime, Dev.tpoAt_of_get (d := s.dev.atTime t) hx]
  simp only [h]
  exact ⟨_, Dev.setTpo_self (d := s.dev.atTime t) _ hx, rfl, rfl⟩

theorem tpoPulse_rises (t : Nat) (k : Fin 4) (s : State) (x : Tpo) (hx : s.dev.tim.tpo[k.val]? = some x) (ha : x.armed = true)
    (hd : (s.dev.atTime t).tpoDue x = true) (hq : s.dev.quiet = false) : Completes (.tpoPulse t k) s fun d =>
      d.tim.tpo[k.val]? = some { x with pulsing := true, rose := (s.dev.atTime t).now } := by
  refine completes_of_exec (execTpoPulse t k s) rfl rfl ?_
  have hq' : (s.dev.atTime t).quiet = false := hq
  dsimp only
  rw [Dev.tpoAt_of_get (d := s.dev.atTime t) hx, if_neg (by simp [ha, hd, hq'])]
  exact Dev.setTpo_self (d := s.dev.atTime t) _ hx

theorem tpoPulseEnd_ends (t : Nat) (k : Fin 4) (s : State) (x : Tpo) (hx : s.dev.tim.tpo[k.val]? = some x) (hp : x.pulsing = true)
    (h : x.rose + x.width ≤ (s.dev.atTime t).now + 4) : Completes (.tpoPulseEnd t k) s fun d =>
      d.tim.tpo[k.val]? = some { x with pulsing := false, armed := x.armed && x.period != 0 } := by
  refine completes_of_exec (execTpoPulseEnd t k s) rfl rfl ?_
  refine (Dev.setTpo_self (d := s.dev.atTime t) _ hx).trans ?_
  rw [if_pos (by simp [hp, h])]

end Sys2Proof.Machine

namespace Sys2Proof

open Machine

/-- Settles O26: each clause is its command's lemma; a PPS edge accepted moves nothing of the beat but its counts, its slew and the
source to come, and no run of the BMCA locks to a port. -/
theorem timeEventsComplete : Obligations.TimeEventsComplete := by
  unfold Obligations.TimeEventsComplete
  refine ⟨ppsEdge_still, ppsEdge_accepted, fun t port x t3 t4 s he hl hr hf hx h4 hp => ?_, fun t port x t1 t2 s he hl hr hf hx h4 hd => ?_,
    ptpMessageTx_sent, fun t port x s hp hx => ⟨ptpSyncTimeout_unlocks t port x s hp hx, ptpAnnounceTimeout_unlocks t port x s hp hx⟩,
    fun t s h => ?_, fun t s h h' => ?_, fun t m s q hq => ⟨tsqLatch_latches t m s q hq, tsqPop_pops t m s q hq⟩, ppsOut_rises,
    ppsOutEnd_falls, fun t m s x hx => ⟨?_, tpoArm_arms t m s x hx⟩, tpoPulse_rises, tpoPulseEnd_ends⟩
  · refine completes_of_exec (execPtpMessageRx t port _ s) rfl rfl ?_
    rw [Dev.ptpRx_delayResp (d := s.dev.atTime t) he hl hr hf hx h4 t3 t4 hp]
    exact Dev.setPtp_self _ hx
  · refine completes_of_exec (execPtpMessageRx t port _ s) rfl rfl ?_
    rw [Dev.ptpRx_sync (d := s.dev.atTime t) he hl hr hf hx h4 t1 t2 hd]
    exact Dev.setPtp_self _ hx
  · obtain ⟨u, hu, hp, ho, h61, -, hl⟩ := leapSecond_clears t s (up := true) (by rw [Dev.flag, h]; rfl) (.inl rfl)
    exact ⟨u, hu, hp, ho, h61, hl⟩
  · obtain ⟨u, hu, hp, ho, -, h59, -⟩ := leapSecond_clears t s (up := false) (by rw [Dev.flag, h]; rfl) (.inr (by rw [Dev.flag, h']; rfl))
    exact ⟨u, hu, hp, by rw [ho]; rfl, h59⟩
  · refine completes_of_exec (execTpoDisarm t m s) rfl rfl ?_
    exact Dev.setTpo_self (d := s.dev.atTime t) _ hx

end Sys2Proof

end

section
/-! PROOFS. The canonical form of registers and memory (R26, R29, R30): the rules that keep it, and the operations every block shares; the Joist,
the host link, the key slots, the command port and the module's states. -/

-- One proof at a time: a side condition left to `decide` waits for every declaration before it, each in a thread of its own.
set_option Elab.async false

namespace Sys2Proof.Machine

/-- The words of some keys alone. -/
theorem RegFile.filter_wf (p : Nat → Bool) {f : RegFile} (h : f.wf = true) : RegFile.wf (f.filter fun e => p e.1) = true := by
  simp only [RegFile.wf, Bool.and_eq_true, List.all_eq_true] at h ⊢
  obtain ⟨hr, hz⟩ := h
  refine ⟨?_, fun e he => hz e (List.mem_of_mem_filter he)⟩
  have e : (f.filter fun e => p e.1).map (·.1) = (f.map (·.1)).filter p := (List.filter_map ..).symm
  rw [e]
  exact rising_filter p _ hr

/-- A command's own effect keeps registers and memory in canonical form. -/
def CmdSpec.KeepsCanonical (c : CmdSpec) : Prop := ∀ d e, d.canonical → (c.effect d e).dev.canonical

namespace Dev

variable {d x y : Dev}

/-! ### The rules -/

/-- A change of other components. -/
theorem canonical.update (h : x.canonical) {latches staged freeCtr cyc sys beat evr sil key cut rft lin jst tim rtc hlk rad trk pwr bst fwu
    mtr pair lgt lnd} : canonical ⟨x.regs, x.mem, latches, staged, freeCtr, cyc, sys, beat, evr, sil, key, cut, rft, lin, jst, tim, rtc,
      hlk, rad, trk, pwr, bst, fwu, mtr, pair, lgt, lnd⟩ := h

theorem canonical.of_eq (e : x = y) (h : x.canonical) : y.canonical := e ▸ h

theorem canonical.ite {c : Prop} [Decidable c] (hx : x.canonical) (hy : y.canonical) : (if c then x else y).canonical := by
  split
  · exact hx
  · exact hy

theorem canonical.ite_snd {α : Type} {c : Prop} [Decidable c] {x y : α × Dev} (hx : x.2.canonical) (hy : y.2.canonical) :
    (if c then x else y).2.canonical := by
  split
  · exact hx
  · exact hy

theorem canonical.ite_dev {c : Prop} [Decidable c] {x y : Done} (hx : x.dev.canonical) (hy : y.dev.canonical) :
    (if c then x else y).dev.canonical := by
  split
  · exact hx
  · exact hy

theorem canonical.foldl {α : Type} {f : Dev → α → Dev} {l : List α} (h : x.canonical) (hf : ∀ x a, x.canonical → (f x a).canonical) :
    (l.foldl f x).canonical :=
  List.foldlRecOn l f h fun x hx a _ => hf x a hx

/-- A memory that is lost. -/
theorem canonical.clearMem (h : x.canonical) {latches staged freeCtr cyc sys beat evr sil key cut rft lin jst tim rtc hlk rad trk pwr bst fwu
    mtr pair lgt lnd} : canonical ⟨x.regs, [], latches, staged, freeCtr, cyc, sys, beat, evr, sil, key, cut, rft, lin, jst, tim, rtc,
      hlk, rad, trk, pwr, bst, fwu, mtr, pair, lgt, lnd⟩ := ⟨h.1, rfl⟩

/-- A change of the whole register file. -/
theorem canonical.mapRegs (h : x.canonical) {g : RegFile → RegFile} (hg : ∀ f : RegFile, f.wf = true → (g f).wf = true) {latches staged
    freeCtr cyc sys beat evr sil key cut rft lin jst tim rtc hlk rad trk pwr bst fwu mtr pair lgt lnd} : canonical ⟨g x.regs, x.mem,
      latches, staged, freeCtr, cyc, sys, beat, evr, sil, key, cut, rft, lin, jst, tim, rtc, hlk, rad, trk, pwr, bst, fwu, mtr, pair,
      lgt, lnd⟩ := ⟨hg _ h.1, h.2⟩

/-- Bytes stored, with a change of other components. -/
theorem canonical.writeN (h : x.canonical) {k : Nat} {b : Bytes} {latches staged freeCtr cyc sys beat evr sil key cut rft lin jst tim rtc
    hlk rad trk pwr bst fwu mtr pair lgt lnd} : canonical ⟨x.regs, x.mem.writeN k b, latches, staged, freeCtr, cyc, sys, beat, evr, sil,
      key, cut, rft, lin, jst, tim, rtc, hlk, rad, trk, pwr, bst, fwu, mtr, pair, lgt, lnd⟩ :=
  ⟨h.1, Memory.writeN_wf b x.mem k h.2⟩

/-! ### Shared operations -/

theorem canonical.put (h : d.canonical) {f : Fld} {v : Nat} : (d.put f v).canonical := ⟨d.put_wf f v h.1, h.2⟩

theorem canonical.bump (h : d.canonical) {f : Fld} {k : Nat} : (d.bump f k).canonical := h.put

theorem canonical.putB (h : d.canonical) {f : Fld} {b : Bool} : (d.putB f b).canonical := h.put

theorem canonical.raiseBits (h : d.canonical) {f : Fld} {v : Nat} : (d.raiseBits f v).canonical := h.put.update

theorem canonical.raise (h : d.canonical) {f : Fld} : (d.raise f).canonical := h.raiseBits

theorem canonical.when (h : d.canonical) {c : Bool} {f : Dev → Dev} (hf : ∀ x, x.canonical → (f x).canonical) : (d.when c f).canonical :=
  .ite (hf d h) h

theorem canonical.fresh (h : d.canonical) : d.fresh.2.canonical := h.update

theorem canonical.freshBytes (h : d.canonical) {n : Nat} : (d.freshBytes n).2.canonical := h.update

theorem canonical.atTime (h : d.canonical) {t : Nat} : (d.atTime t).canonical := h.update

theorem canonical.startFlush (h : d.canonical) : d.startFlush.canonical := .ite h.update (.ite h.update.raise h.update)

theorem canonical.acceptEvent (h : d.canonical) {e : EvCode} {args : List Nat} : (d.acceptEvent e args).canonical := by
  unfold Dev.acceptEvent
  extract_lets _ _ _ d1 d2
  have hd1 : d1.canonical := h.update
  have hd2 : d2.canonical := .ite hd1.raise hd1
  exact .ite h.update.bump.raise (.ite hd2.startFlush hd2)

theorem canonical.suppressEvent (h : d.canonical) {code : Nat} : (d.suppressEvent code).canonical := h.update.bump

theorem canonical.offerNow (h : d.canonical) {e : EvCode} {args : List Nat} : (d.offerNow e args).canonical := by
  unfold Dev.offerNow
  refine .ite h.update ?_
  refine .ite h.acceptEvent ?_
  split
  · exact h.acceptEvent
  · exact .ite h.update.acceptEvent h.suppressEvent

theorem canonical.offer (h : d.canonical) {e : EvCode} {args : List Nat} : (d.offer e args).canonical := h.update

theorem canonical.settleOffers (h : d.canonical) : d.settleOffers.canonical := h.update.foldl fun _ _ h => h.offerNow

theorem canonical.writeSuppressed (h : d.canonical) : d.writeSuppressed.canonical := h.settleOffers.foldl fun _ _ h => h.update.offerNow

theorem canonical.commit (h : d.canonical) {v : JVal} : (d.commit v).canonical := .ite h h.update

theorem canonical.commitChecked (h : d.canonical) {v : JVal} : (d.commitChecked v).1.canonical := by
  unfold Dev.commitChecked
  split
  · exact h.commit
  · exact h.raise.offer

theorem canonical.journalStart (h : d.canonical) : d.journalStart.canonical := by
  unfold Dev.journalStart
  split
  · exact h.update
  · exact h

theorem canonical.journal (h : d.canonical) {p : JPrio} {v : JVal} {bank : Nat} : (d.journal p v bank).canonical :=
  h.update.journalStart

theorem canonical.stageHi (h : d.canonical) {bank : Nat} {hi : Fld} {v : Nat} : (d.stageHi bank hi v).canonical := h.update

theorem canonical.commitPair (h : d.canonical) {bank : Nat} {lo hi : Fld} {v : Nat} : (d.commitPair bank lo hi v).canonical :=
  h.update.put.put

/-! ### The Joist -/

theorem canonical.pushRefused (h : d.canonical) {q producer : Nat} {pool : Bool} : (d.pushRefused q producer pool).canonical :=
  h.bump.raise.offer

theorem canonical.enqueue (h : d.canonical) {q flow producer : Nat} {words eids : List Nat} :
    (d.enqueue q flow producer words eids).canonical :=
  h.update

theorem canonical.push (h : d.canonical) {q flow producer : Nat} {words eids : List Nat} :
    (d.push q flow producer words eids).1.canonical := by
  unfold Dev.push
  split
  · exact h
  split
  · exact h
  split
  · exact h
  split
  · exact h
  split
  · exact h.pushRefused
  split
  · exact h.pushRefused
  · exact h.enqueue

theorem canonical.reloadCredit (h : d.canonical) {cls : Nat} : (d.reloadCredit cls).canonical := h.update

theorem canonical.noteTake (h : d.canonical) {cls q : Nat} : (d.noteTake cls q).canonical := h.update

theorem canonical.selectIn (h : d.canonical) {consumer cls : Nat} {core : Option Nat} {r : JItem × Dev}
    (e : d.selectIn consumer core cls = some r) : r.2.canonical := by
  unfold Dev.selectIn at e
  dsimp only at e
  split at e
  · cases e
    exact h.noteTake
  split at e
  · cases e
  · cases e
    exact h.reloadCredit.noteTake

theorem canonical.select (h : d.canonical) {consumer : Nat} {core : Option Nat} {r : JItem × Dev} (e : d.select consumer core = some r) :
    r.2.canonical := by
  obtain ⟨cls, -, e'⟩ := List.exists_of_findSome?_eq_some e
  exact h.selectIn e'

theorem canonical.unqueue (h : d.canonical) {i : JItem} : (d.unqueue i).canonical := h.update

theorem canonical.deliver (h : d.canonical) {core buf : Nat} {i : JItem} : (d.deliver core buf i).canonical :=
  h.unqueue.update.put.put.put

theorem canonical.takeFor (h : d.canonical) {core : Nat} {r : Dev} (e : d.takeFor core = some r) : r.canonical := by
  unfold Dev.takeFor at e
  split at e
  · rename_i e0 _
    cases e
    exact (h.select e0).deliver
  · cases e

theorem canonical.answerIdle (h : d.canonical) {bank : Nat} : (d.answerIdle bank).canonical := h.put

theorem canonical.takeForConsumer (h : d.canonical) {consumer : Nat} {r : JItem × Dev} (e : d.takeForConsumer consumer = some r) :
    r.2.canonical := by
  unfold Dev.takeForConsumer at e
  split at e
  · rename_i e0
    cases e
    exact (h.select e0).unqueue.update
  · cases e

theorem canonical.endService (h : d.canonical) {consumer : Nat} {i : JItem} : (d.endService consumer i).canonical := h.update

theorem canonical.releaseHeld (h : d.canonical) {core : Nat} : (d.releaseHeld core).canonical := .ite h h.update.put.raise.offer

theorem canonical.endWaits (h : d.canonical) : d.endWaits.canonical := h.update.foldl fun _ _ h => h.answerIdle

theorem canonical.joistReset (h : d.canonical) : d.joistReset.canonical := h.update

theorem canonical.discardQueue (h : d.canonical) {q : Nat} : (d.discardQueue q).canonical := .ite h.update h.update.bump.raise

theorem canonical.flushQueue (h : d.canonical) {q : Nat} : (d.flushQueue q).canonical := h.update.put.put.discardQueue

theorem canonical.dropStage (h : d.canonical) {bank : Nat} : (d.dropStage bank).canonical := h.update

theorem canonical.pushStatus (h : d.canonical) {bank st : Nat} {pool : Bool} : (d.pushStatus bank st pool).canonical := h.put.putB.put

theorem canonical.pushCommit (h : d.canonical) {bank : Nat} : (d.pushCommit bank).canonical := by
  unfold Dev.pushCommit
  refine .ite h.dropStage.pushStatus ?_
  split
  · exact h.pushStatus.offer
  · exact .ite h.dropStage.pushStatus (.ite h.dropStage.pushStatus.offer h.dropStage.push.pushStatus)

theorem canonical.armRefused (h : d.canonical) {bank st : Nat} : (d.armRefused bank st).canonical := h.put.put

theorem canonical.armTimer (h : d.canonical) {bank : Nat} : (d.armTimer bank).canonical :=
  .ite h.armRefused (.ite h.armRefused (.ite h.armRefused.offer h.update.put.put.put))

theorem canonical.dropTimer (h : d.canonical) {t : Timer} : (d.dropTimer t).canonical := h.update.put

theorem canonical.cancelTimer (h : d.canonical) {bank id : Nat} : (d.cancelTimer bank id).canonical := by
  unfold Dev.cancelTimer
  split
  · exact h.dropTimer.put
  · exact h.put

theorem canonical.newReleases (h : d.canonical) : d.newReleases.canonical := h.update

/-! ### The host link -/

theorem canonical.hlSignals (h : d.canonical) : d.hlSignals.canonical := h.update.putB.putB.put.put

theorem canonical.hlDrop (h : d.canonical) {n cause : Nat} : (d.hlDrop n cause).canonical := h.update.bump.raise.offer

theorem canonical.upAppend (h : d.canonical) {items : List Nat} {r : Dev} (e : d.upAppend items = some r) : r.canonical := by
  unfold Dev.upAppend at e
  split at e
  · cases e
    exact h.update.hlSignals
  · cases e

theorem canonical.hlReset (h : d.canonical) : d.hlReset.canonical := h.update.hlSignals

theorem canonical.usbShow (h : d.canonical) : d.usbShow.canonical := .ite h (canonical.ite h.putB h.putB.put.put).raise.offer

/-! ### The key slots -/

theorem canonical.showSlots (h : d.canonical) : d.showSlots.canonical := h.put.put

theorem canonical.loadKey (h : d.canonical) {b : Blob} {r : Nat × Dev} (e : d.loadKey b = some r) : r.2.canonical := by
  unfold Dev.loadKey at e
  split at e
  · cases e
    exact h.update
  split at e
  · cases e
    exact h.update.showSlots.bump
  split at e
  · cases e
    exact h.update.showSlots.bump
  · cases e

theorem canonical.loadKeys (h : d.canonical) {l : List Nat} : (d.loadKeys l).canonical := by
  refine h.foldl fun x k hx => ?_
  split
  · split
    · rename_i e0
      exact hx.loadKey e0
    · exact hx
  · exact hx

theorem canonical.keyRefused (h : d.canonical) {id master usage : Nat} : (d.keyRefused id master usage).canonical :=
  .ite h.bump.raise.offer.offer h.bump.raise.offer

theorem canonical.useKey (h : d.canonical) {id master usage : Nat} : (d.useKey id master usage).2.2.canonical := by
  unfold Dev.useKey
  split
  · split
    · rename_i e0
      exact h.loadKey e0
    · exact h
  · exact h.keyRefused

theorem canonical.orphanSlots {dv : Dev} (h : dv.canonical) {byLcs : Bool} : (dv.orphanSlots byLcs).canonical :=
  .ite h.update h.update.update.raise

/-! ### The command port and the module's states -/

theorem canonical.pushItems (h : d.canonical) {l : List (Nat × List Nat)} : (d.pushItems l).canonical :=
  h.foldl fun _ _ h => .ite h.update (.ite h.push.update h.push)

theorem canonical.send (h : d.canonical) {a : Answer} : (d.send a).canonical := by
  unfold Dev.send
  extract_lets _ d1
  have hd1 : d1.canonical := h.update
  split
  · split
    · rename_i e0
      exact hd1.upAppend e0
    · exact hd1.update
  · exact hd1.pushItems
  · exact hd1

theorem canonical.sendHeld (h : d.canonical) : d.sendHeld.canonical := by
  unfold Dev.sendHeld
  extract_lets _ d'
  have hd' : d'.canonical := h.update.pushItems
  refine hd'.foldl fun x a hx => ?_
  split
  · refine .ite ?_ hx
    split
    · rename_i e0
      exact (hx.upAppend e0).update
    · exact hx
  · exact hx

theorem canonical.recordSeq (h : d.canonical) {a : Answer} {mac : Nat} : (d.recordSeq a mac).canonical := .ite h h.commit

theorem canonical.illegalEvent (h : d.canonical) {e : Envelope} {code : Nat} : (d.illegalEvent e code).canonical := h.offer

theorem canonical.releaseCarrier (h : d.canonical) {e : Envelope} : (d.releaseCarrier e).canonical := by
  unfold Dev.releaseCarrier
  split
  · split
    · rename_i e0
      exact (h.takeForConsumer e0).endService
    · exact h
  · exact h.update
  · exact h.put
  · exact h

theorem canonical.refuseRecorded (h : d.canonical) {e : Envelope} {code status : Nat} : (d.refuseRecorded e code status).canonical :=
  h.recordSeq.send

theorem canonical.judge (h : d.canonical) {c : CmdSpec} (hc : c.KeepsCanonical) {e : Envelope} : (d.judge c e).canonical := by
  unfold Dev.judge
  refine .ite h.refuseRecorded ?_
  refine .ite h.refuseRecorded ?_
  refine .ite h.illegalEvent.refuseRecorded ?_
  refine .ite h.refuseRecorded ?_
  refine .ite h.refuseRecorded ?_
  exact .ite (hc d e h).recordSeq.send (hc d e h).recordSeq

theorem canonical.macCheck (h : d.canonical) {e : Envelope} {code : Nat} : (d.macCheck e code).2.canonical := by
  unfold Dev.macCheck
  split
  · exact h
  split
  · rename_i d' e0
    have hd' : d'.canonical := .of_eq (congrArg (·.2.2) e0) h.useKey
    exact hd'

theorem canonical.command (h : d.canonical) {c : CmdSpec} (hc : c.KeepsCanonical) {e : Envelope} : (d.command c e).canonical := by
  unfold Dev.command
  refine .ite h ?_
  refine .ite h.releaseCarrier.bump ?_
  refine .ite h.releaseCarrier.send ?_
  refine .ite h.releaseCarrier.send ?_
  split
  · rename_i d1 e0
    have hd1 : d1.canonical := .of_eq (congrArg (·.2) e0) h.releaseCarrier.macCheck
    exact hd1.offer.send
  rename_i d1 e0
  have hd1 : d1.canonical := .of_eq (congrArg (·.2) e0) h.releaseCarrier.macCheck
  refine .ite (hd1.judge hc) ?_
  split
  · exact hd1.judge hc
  · exact .ite (hd1.judge hc) (.ite hd1.send hd1.send)

theorem canonical.showLands (h : d.canonical) : d.showLands.canonical := h.update

theorem canonical.goto (h : d.canonical) {s : ModState} {cause : Nat} : (d.goto s cause).canonical :=
  .ite h.update.put.offer.putB.showLands h.update.put.offer.putB.showLands.endWaits

theorem canonical.setRole (h : d.canonical) {r : Role} : (d.setRole r).canonical := (h.update.put.when (fun _ h => h.put)).showLands

theorem canonical.setSuspended (h : d.canonical) {media : Nat} : (d.setSuspended media).canonical := h.put.putB

end Dev
end Sys2Proof.Machine
end

section
/-! PROOFS. The canonical form (R26): the light outputs, the event recorder, the Sill and the engine. -/

-- One proof at a time: a side condition left to `decide` waits for every declaration before it, each in a thread of its own.
set_option Elab.async false

namespace Sys2Proof.Machine

namespace Dev

variable {d x y : Dev}

/-! ### The light outputs -/

theorem canonical.setStr (h : d.canonical) {n : Nat} {f : StringSt → StringSt} : (d.setStr n f).canonical := h.update

theorem canonical.setMat (h : d.canonical) {k : Nat} {f : MatrixSt → MatrixSt} : (d.setMat k f).canonical := h.update

theorem canonical.noteData (h : d.canonical) {n path : Nat} {holds : List Nat} : (d.noteData n path holds).canonical := .ite h.commit h

theorem canonical.noteUnits (h : d.canonical) {path : Nat} : (d.noteUnits path).canonical := h.noteData

theorem canonical.rewriteUnits (h : d.canonical) : d.rewriteUnits.canonical := h.noteUnits

theorem canonical.returnLamp (h : d.canonical) {n k : Nat} : (d.returnLamp n k).canonical := h.setStr.offer.rewriteUnits

theorem canonical.confirmOpen (h : d.canonical) {n k : Nat} : (d.confirmOpen n k).canonical :=
  .ite h.setStr.raise.offer.rewriteUnits.returnLamp h.setStr.raise.offer.rewriteUnits

theorem canonical.observe (h : d.canonical) {n k mv : Nat} {c : StringCfg} : (d.observe n k mv c).canonical := by
  unfold Dev.observe
  extract_lets _ d1
  have hd1 : d1.canonical := h.setStr
  exact .ite (.ite h.confirmOpen h.setStr.raise.offer) (.ite (.ite hd1.raise.offer hd1) h.setStr)

theorem canonical.stringFrame (h : d.canonical) {n m : Nat} {mv : List Nat} : (d.stringFrame n m mv).canonical := by
  unfold Dev.stringFrame
  extract_lets d0 _ _ _ d1 d0'
  have hd0 : d0.canonical := .ite h h.setStr
  have hd1 : d1.canonical := hd0.setStr
  have hd0' : d0'.canonical := hd0.setStr
  split
  · exact h
  extract_lets _ d1' _ _ d1''
  have hd1' : d1'.canonical := hd0'.setStr
  have hd1'' : d1''.canonical := hd0'.setStr
  exact .ite (.ite hd1 hd1.raise.offer) (.ite hd1'.observe (hd1''.foldl fun _ _ h3 => h3.observe))

theorem canonical.putShown (h : d.canonical) {k v : Nat} : (d.putShown k v).canonical := .ite h.put h.put

theorem canonical.matrixFrame (h : d.canonical) {k : Nat} : (d.matrixFrame k).canonical := by
  unfold Dev.matrixFrame
  extract_lets d0
  have hd0 : d0.canonical := .ite h.setMat.putShown h
  split
  · exact h
  · exact hd0.setMat

theorem canonical.noteDerating (h : d.canonical) : d.noteDerating.canonical := h.update.foldl fun _ _ h => h.raise.offer

theorem canonical.holdLand (h : d.canonical) {x : Nat} : (d.holdLand x).canonical := .ite h.put (.ite h.put (.ite h.put (.ite h.put h)))

theorem canonical.showLight (h : d.canonical) : d.showLight.canonical := h.put.put.putB

theorem canonical.lightBoundary (h : d.canonical) : d.lightBoundary.canonical := .ite h h.update.showLight

theorem canonical.lightReady (h : d.canonical) : d.lightReady.canonical := h.update

theorem canonical.lightLoad (h : d.canonical) {sec : Option LightSec} {owned : List Nat} : (d.lightLoad sec owned).canonical :=
  h.update.showLight

theorem canonical.lightSafe (h : d.canonical) : d.lightSafe.canonical := h.update.showLight

/-! ### The event recorder -/

theorem canonical.ringWrite (h : d.canonical) {r : EvRec} : (d.ringWrite r).canonical := by
  unfold Dev.ringWrite
  extract_lets _ _ d1 d2
  have hd1 : d1.canonical := h.update
  have hd2 : d2.canonical := hd1.bump.raise
  refine .ite h.update ?_
  split
  · exact h.update
  · exact hd2.offer

theorem canonical.slotWritten (h : d.canonical) : d.slotWritten.canonical := by
  unfold Dev.slotWritten
  split
  · exact .ite (.ite (h.update.ringWrite.raise.update).startFlush h.update.ringWrite.raise) h.update.ringWrite
  · exact h

theorem canonical.drainBuffer (h : d.canonical) : d.drainBuffer.canonical :=
  (h.settleOffers.update.foldl fun _ _ h => h.ringWrite).update

theorem canonical.recorderReset (h : d.canonical) : d.recorderReset.canonical := h.update

theorem canonical.startRecorder (h : d.canonical) {clean : Bool} : (d.startRecorder clean).canonical :=
  h.update.acceptEvent.foldl fun _ _ h => h.offerNow

/-! ### The Sill -/

theorem canonical.mirror (h : d.canonical) {f : Bundle → Bundle} : (d.mirror f).canonical := .ite h h.update

theorem canonical.addReported (h : d.canonical) {eid amount : Nat} : (d.addReported eid amount).canonical := by
  unfold Dev.addReported
  split
  · exact h
  · exact h.update

theorem canonical.recountReported (h : d.canonical) : d.recountReported.canonical := h.update

theorem canonical.applyPost (h : d.canonical) {kind eid value : Nat} : (d.applyPost kind eid value).canonical :=
  .ite h.writeN.addReported h.writeN

theorem canonical.post (h : d.canonical) {bank kind : Nat} : (d.post bank kind).canonical :=
  .ite h (.ite h.put (.ite h.put h.applyPost.mirror.put))

theorem canonical.takeChunk (h : d.canonical) {n k : Nat} : (d.takeChunk n k).1.canonical := h.update

theorem canonical.snapBoundary (h : d.canonical) : d.snapBoundary.canonical :=
  .ite h.put (h.update.foldl fun _ _ h => h.takeChunk.update).update.put.put.put

theorem canonical.ledgerCommit (h : d.canonical) : d.ledgerCommit.canonical := h.update.foldl fun _ _ h => h.journal

theorem canonical.dropLedgerCommit (h : d.canonical) : d.dropLedgerCommit.canonical := h.update

theorem canonical.finishSnapshot (h : d.canonical) : d.finishSnapshot.canonical :=
  .ite h ((h.update.foldl fun _ _ h => h.commit).foldl fun _ _ h => h.takeChunk.commit)

theorem canonical.fullSnapshot (h : d.canonical) {n : Nat} : (d.fullSnapshot n).canonical := h.foldl fun _ _ h => h.takeChunk.commit

theorem canonical.restoreLedger (h : d.canonical) {w : List (Nat × Nat)} {n : Nat} {finalSnapshot : Bool} {stop : Nat} :
    (d.restoreLedger w n finalSnapshot stop).1.canonical := by
  unfold Dev.restoreLedger
  extract_lets rs mem chunks gaps used failed _ d1 d2
  have hm : mem.wf = true := by
    refine List.foldlRecOn (motive := fun m : Memory => m.wf = true) _ _ h.2 fun m hm x _ => ?_
    split
    · exact Memory.writeN_wf _ _ _ hm
    · exact hm
  have h1 : d1.canonical := ⟨h.1, hm⟩
  exact (h1.foldl fun _ _ hx => hx.commit).offer

theorem canonical.setLedgerBase (h : d.canonical) {v : Nat} : (d.setLedgerBase v).canonical := by
  unfold Dev.setLedgerBase
  extract_lets d1 m
  have h1 : d1.canonical := h.put
  refine .ite h1 ⟨h1.1, List.foldlRecOn (motive := fun m : Memory => m.wf = true) _ _ h1.2 fun m hm x _ => ?_⟩
  split
  · exact hm
  · exact Memory.writeN_wf _ _ _ hm

theorem canonical.recordDone (h : d.canonical) : d.recordDone.canonical := by
  unfold Dev.recordDone
  split
  · exact h
  extract_lets x' x'' _ d1
  have hx' : x'.1.canonical := h.commitChecked
  have hx'' : x''.canonical := hx'
  have hd1 : d1.canonical := hx''.update.journalStart
  split
  · exact hd1.put.put.raise
  · exact hd1

theorem canonical.spoilLine (h : d.canonical) {line : Nat} : (d.spoilLine line).canonical := h.update.foldl fun _ _ h => h.offer

/-! ### The engine -/

theorem canonical.setNode (h : d.canonical) {eid : Nat} {f : Node → Node} : (d.setNode eid f).canonical := h.update

theorem canonical.mapNodes (h : d.canonical) {f : Nat → Node → Node} : (d.mapNodes f).canonical := h.update

theorem canonical.onPage (h : d.canonical) {eid : Nat} {f : Page → Page} : (d.onPage eid f).canonical := h.setNode

theorem canonical.setPending (h : d.canonical) {eid : Nat} : (d.setPending eid).canonical := h.setNode

theorem canonical.showBudget (h : d.canonical) : d.showBudget.canonical :=
  .ite h.put.put.put.putB.put.raise.offer h.put.put.put.putB.put

theorem canonical.takeSample (h : d.canonical) {sec : Nat} {off : Option Nat × Int} : (d.takeSample sec off).canonical := by
  unfold Dev.takeSample
  extract_lets _ _ _ d1 d2
  have hd1 : d1.canonical := h.update
  have hd2 : d2.canonical := .ite hd1.offer hd1
  split
  · exact hd1
  · exact hd2.foldl fun _ _ h2 => h2.update.offer

theorem canonical.sampleTime (h : d.canonical) : d.sampleTime.canonical := .ite h.takeSample h

theorem canonical.c1SetEvent (h : d.canonical) {scope id level effect duration : Nat} :
    (d.c1SetEvent scope id level effect duration).canonical :=
  h.offer

theorem canonical.c1ClearedEvent (h : d.canonical) {scope id cause : Nat} : (d.c1ClearedEvent scope id cause).canonical := h.offer

theorem canonical.c1Remove (h : d.canonical) {scope id : Nat} : (d.c1Remove scope id).canonical :=
  .ite h.setNode (.ite h.update (.ite h.update h.update))

theorem canonical.c1Enter (h : d.canonical) {scope id level effect duration : Nat} :
    (d.c1Enter scope id level effect duration).canonical :=
  .ite h.setNode (.ite h.update (.ite h.update h.update))

theorem canonical.applyCmd (h : d.canonical) {quiet : Bool} {c : CmdEntry} : (d.applyCmd quiet c).canonical := by
  unfold Dev.applyCmd
  split
  · exact .ite h.c1Enter h.c1Enter.c1SetEvent
  · exact .ite (.ite h.c1Remove h.c1Remove.c1ClearedEvent) h
  · refine .ite h ?_
    refine .ite ?_ h.update
    split
    · exact h.update
    · exact h
  · exact h

theorem canonical.heading (h : d.canonical) {x : PortEntry} {s : NodeStat} : (d.heading x s).canonical := by
  unfold Dev.heading
  refine canonical.update ?_
  split
  · exact h.onPage
  · exact .ite h.onPage.update h.onPage

theorem canonical.applyPort (h : d.canonical) {x : PortEntry} : (d.applyPort x).canonical := by
  unfold Dev.applyPort
  extract_lets _ d0
  have hd0 : d0.canonical := h.update
  split
  · exact h.bump
  · exact .ite h.bump (.ite hd0.heading (.ite hd0.onPage hd0))

theorem canonical.showFill (h : d.canonical) : d.showFill.canonical := h.put.put

theorem canonical.ingest (h : d.canonical) {cmds : List CmdEntry} {noted : Nat} {ports : List PortEntry} {refused : List Nat} :
    (d.ingest cmds noted ports refused).canonical := by
  unfold Dev.ingest
  extract_lets _ d0 d1 d2 d3
  have hd0 : d0.canonical := h.update
  have hd1 : d1.canonical := hd0.foldl fun _ _ h1 => h1.setPending
  have hd2 : d2.canonical := by
    refine hd1.foldl fun x a hx => ?_
    split
    · exact hx.applyCmd
  have hd3 : d3.canonical := hd2.foldl fun _ _ h1 => h1.applyPort
  exact hd3.mapNodes.showFill

theorem canonical.startSweep (h : d.canonical) {passes : Nat} : (d.startSweep passes).canonical := h.update

theorem canonical.runSweep (h : d.canonical) {passes k : Nat} : (d.runSweep passes k).canonical := (canonical.ite h h.mapNodes).update

theorem canonical.applyStaged (h : d.canonical) : d.applyStaged.canonical := h.update

theorem canonical.expireC1 (h : d.canonical) {b : Nat} : (d.expireC1 b).canonical := h.foldl fun _ _ h => h.c1Remove.c1ClearedEvent

theorem canonical.localLevels (h : d.canonical) : d.localLevels.canonical := by
  unfold Dev.localLevels
  refine h.foldl fun x a hx => ?_
  split
  · exact .ite hx.setNode.setStr hx

theorem groupStep_canonical {c : CsBuild} (h : c.dev.canonical) {z : Nat} {zn : Zone} : (groupStep c z zn).dev.canonical := by
  unfold groupStep
  dsimp only
  split
  · split
    · split
      · exact h
      · exact h.foldl fun _ _ hx => hx.setNode
    · exact h
  · exact h

theorem unicastStep_canonical {c : CsBuild} (h : c.dev.canonical) {last : Option Nat} {i : Nat} :
    (unicastStep c last i).1.dev.canonical := by
  unfold unicastStep
  split
  · split
    · split
      · exact h.setNode
      · exact h
    · exact h
  · exact h

theorem groupSteps_canonical {c : CsBuild} (h : c.dev.canonical) {l : List (Zone × Nat)} :
    (l.foldl (fun c (zn, z) => groupStep c z zn) c).dev.canonical := by
  induction l generalizing c with
  | nil => exact h
  | cons a r ih => exact ih (groupStep_canonical h)

theorem unicastSteps_canonical {x : CsBuild × Option Nat} (h : x.1.dev.canonical) {l : List Nat} :
    (l.foldl (fun (x : CsBuild × Option Nat) i => unicastStep x.1 x.2 i) x).1.dev.canonical := by
  induction l generalizing x with
  | nil => exact h
  | cons i r ih => exact ih (unicastStep_canonical h)

theorem canonical.changeSet (h : d.canonical) {b : Nat} : (d.changeSet b).1.canonical := by
  unfold Dev.changeSet
  extract_lets c1 n order r c2 full waiting cursor left x0 x1 d1 d2
  have hr : c2.dev.canonical := unicastSteps_canonical (x := (c1, none)) (groupSteps_canonical (c := CsBuild.mk d [] 0 []) h)
  have h1 : d1.canonical := hr.update.put.put.put.put
  show d2.canonical
  exact .ite h1.bump.raise.offer h1

theorem canonical.showDigest (h : d.canonical) {b : Nat} : (d.showDigest b).canonical := h.put.put.put.put

theorem canonical.commitEngine (h : d.canonical) {b : Nat} : (d.commitEngine b).1.canonical :=
  h.update.put.mapNodes.applyStaged.expireC1.mapNodes.localLevels.changeSet.showDigest.put.update.showFill

theorem canonical.itemRefused (h : d.canonical) {x : CsItem} : (d.itemRefused x).canonical := h.update.bump.raise

theorem canonical.pushItem (h : d.canonical) {x : CsItem} : (d.pushItem x).canonical := .ite h.push h.push.itemRefused

theorem canonical.reportRefused (h : d.canonical) {b : Nat} : (d.reportRefused b).canonical := .ite h h.update.offer

theorem canonical.engineReset (h : d.canonical) {cause : Nat} : (d.engineReset cause).canonical := h.update.put.offer

theorem canonical.discardPort (h : d.canonical) : d.discardPort.canonical := h.update.bump.showFill

theorem canonical.setIngest (h : d.canonical) {b : Nat} {s : Option IngestStage} : (d.setIngest b s).canonical := h.update

theorem canonical.ingestCommit (h : d.canonical) {b : Nat} {w : List W32} : (d.ingestCommit b w).canonical :=
  .ite h.put.bump (.ite h.put.bump.offer (.ite h.put.bump.raise.offer h.update.put.bump.showFill))

theorem reevaluate_canonical (h : d.canonical) {eid : Nat} : (reevaluate d eid).canonical := .ite h h.setNode

end Dev
end Sys2Proof.Machine
end

section
/-! PROOFS. The canonical form (R26): the media and the Lintel. -/

-- One proof at a time: a side condition left to `decide` waits for every declaration before it, each in a thread of its own.
set_option Elab.async false

namespace Sys2Proof.Machine

namespace Dev

variable {d x y : Dev}

/-! ### Links -/

theorem canonical.setRad (h : d.canonical) {r : Nat} {f : RadSt → RadSt} : (d.setRad r f).canonical := h.update

theorem canonical.setTrk (h : d.canonical) {p : Nat} {f : TrkSt → TrkSt} : (d.setTrk p f).canonical := h.update

theorem canonical.cnt (h : d.canonical) {md i k : Nat} : (d.cnt md i k).canonical := .ite h.bump h.bump

theorem canonical.setLinks (h : d.canonical) {md : Nat} {l : List Link} : (d.setLinks md l).canonical := .ite h.setRad h.setTrk

theorem canonical.updLink (h : d.canonical) {md idx : Nat} {f : Link → Link} : (d.updLink md idx f).canonical := h.setLinks

theorem canonical.setRing (h : d.canonical) {md : Nat} {l : List RingEntry} : (d.setRing md l).canonical :=
  .ite h.setRad.put h.setTrk.put

theorem canonical.releaseRing (h : d.canonical) {md : Nat} {p : RingEntry → Bool} : (d.releaseRing md p).canonical := h.setRing

theorem canonical.pushRing (h : d.canonical) {md : Nat} {link : Option Nat} {number n : Nat} :
    (d.pushRing md link number n).canonical :=
  h.setRing.update

theorem canonical.loseLink (h : d.canonical) {md idx cause : Nat} : (d.loseLink md idx cause).canonical := by
  unfold Dev.loseLink
  split
  · exact h
  · exact .ite h (.ite h.updLink.offer.raise.setRad h.updLink.offer.raise)

theorem canonical.place (h : d.canonical) {md idx : Nat} {payload : Bytes} {eids : List Nat} :
    (d.place md idx payload eids).canonical := by
  unfold Dev.place
  split
  · exact h
  · exact .ite h.loseLink h.updLink.pushRing

theorem canonical.rewind (h : d.canonical) {md idx : Nat} : (d.rewind md idx).canonical := h.updLink

theorem canonical.creditUpdate (h : d.canonical) {md idx ackSeq credit fc32 : Nat} :
    (d.creditUpdate md idx ackSeq credit fc32).canonical := by
  unfold Dev.creditUpdate
  extract_lets
  split
  · exact h
  · exact h.updLink.releaseRing

theorem canonical.refuseEids (h : d.canonical) {eids : List Nat} : (d.refuseEids eids).canonical := h.update

theorem canonical.linkStatus (h : d.canonical) {md b st : Nat} : (d.linkStatus md b st).canonical := .ite h.put h.put

theorem canonical.showLinks (h : d.canonical) {md : Nat} : (d.showLinks md).canonical := .ite h.put h

theorem canonical.closeLink (h : d.canonical) {md idx : Nat} {report : Bool} : (d.closeLink md idx report).canonical := by
  unfold Dev.closeLink
  extract_lets _ d1 d2
  have hd1 : d1.canonical := h.setLinks.releaseRing
  have hd2 : d2.canonical := .ite hd1.setRad hd1.setTrk
  split
  · exact h
  · exact (canonical.ite hd2.refuseEids hd2).showLinks.offer

theorem canonical.openLink (h : d.canonical) {md b : Nat} {resume : Bool} : (d.openLink md b resume).canonical := by
  unfold Dev.openLink
  refine .ite h.linkStatus ?_
  refine .ite h.linkStatus ?_
  refine .ite h.linkStatus ?_
  split
  · rename_i d' e0
    have hd' : d'.canonical := .of_eq (congrArg (·.2.2) e0) h.useKey
    exact .ite hd'.linkStatus hd'.setLinks.showLinks.linkStatus.offer

theorem canonical.closeOp (h : d.canonical) {md b : Nat} {report : Bool} : (d.closeOp md b report).canonical :=
  .ite h.linkStatus (.ite h.linkStatus h.closeLink.linkStatus)

theorem canonical.delivered (h : d.canonical) {md idx seq : Nat} : (d.delivered md idx seq).canonical := h.updLink.cnt

/-! ### Radios -/

theorem canonical.later (h : d.canonical) {t : Nat} {f : Dev → Dev} (hf : ∀ x, x.canonical → (f x).canonical) : (d.later t f).canonical :=
  (hf _ h.update).update

theorem canonical.dwellDefer (h : d.canonical) {r : Nat} {a : DwellAcc} : (d.dwellDefer r a).canonical :=
  .ite h.cnt.raise h.cnt.raise.setRad.offer

theorem canonical.transmit (h : d.canonical) {r ch mode preamble t : Nat} {bytes : Bytes} :
    (d.transmit r ch mode preamble t bytes).canonical :=
  h.setRad

theorem canonical.tryAir (h : d.canonical) {r ch mode preamble : Nat} {psdu : Bytes} :
    (d.tryAir r ch mode preamble psdu).2.canonical := by
  unfold Dev.tryAir
  extract_lets
  split
  · exact h
  split
  · exact h.dwellDefer
  · exact h.transmit

theorem canonical.endEvent (h : d.canonical) {r idx : Nat} : (d.endEvent r idx).canonical := h.setRad.rewind

theorem canonical.eventAir (h : d.canonical) {r : Nat} {ev : EventRun} {p : RadPlan} {psdu : Bytes} :
    (d.eventAir r ev p psdu).2.canonical := by
  unfold Dev.eventAir
  split
  · exact h
  split
  · rename_i d1 e0
    have hd1 : d1.canonical := .of_eq (congrArg (·.2) e0) h.tryAir
    exact hd1.cnt
  rename_i d1 _ e0
  have hd1 : d1.canonical := .of_eq (congrArg (·.2) e0) h.tryAir
  exact hd1

theorem canonical.eventAck (h : d.canonical) {r : Nat} {l : Link} {ev : EventRun} {p : RadPlan} {poll more : Bool} :
    (d.eventAck r l ev p poll more).2.canonical := by
  unfold Dev.eventAck
  split
  · exact h.loseLink
  split
  · rename_i d1 e0
    have hd1 : d1.canonical := .of_eq (congrArg (·.2) e0) h.eventAir
    exact hd1.updLink
  · exact h.eventAir

theorem canonical.eventData (h : d.canonical) {r : Nat} {l : Link} {ev : EventRun} {p : RadPlan} {f : TxFrame} :
    (d.eventData r l ev p f).canonical := by
  unfold Dev.eventData
  refine .ite h.loseLink ?_
  split
  · rename_i d1 e0
    have hd1 : d1.canonical := .of_eq (congrArg (·.2) e0) h.eventAir
    exact hd1.updLink.when (fun _ h1 => h1.cnt)
  rename_i d1 e0
  have hd1 : d1.canonical := .of_eq (congrArg (·.2) e0) h.eventAir
  exact hd1.endEvent

theorem canonical.eventSend (h : d.canonical) {r idx : Nat} {poll more : Bool} : (d.eventSend r idx poll more).canonical := by
  unfold Dev.eventSend
  split
  · extract_lets a a'
    have ha : a.2.canonical := h.eventAck
    have ha' : a'.2.canonical := h.eventAck
    split
    · exact .ite h.eventData (.ite (ha.later (fun _ h3 => h3.eventData)) ha)
    · exact .ite (.ite h h.endEvent) (.ite (.ite ha' ha'.endEvent) (.ite ha'.endEvent ha'))
  · exact h

theorem canonical.skipEvent (h : d.canonical) {r : Nat} : (d.skipEvent r).canonical := h.cnt

theorem canonical.beginEvent (h : d.canonical) {r idx ch len : Nat} : (d.beginEvent r idx ch len).canonical := h.setRad.eventSend

theorem canonical.linkEvent (h : d.canonical) {r idx : Nat} : (d.linkEvent r idx).canonical := by
  unfold Dev.linkEvent
  extract_lets d1
  have hd1 : d1.canonical := h.updLink
  split
  · refine .ite h ?_
    refine .ite hd1.skipEvent ?_
    split
    · split
      · exact hd1.later (fun _ h5 => h5.dwellDefer.skipEvent)
      · exact hd1.later (fun _ h5 => h5.transmit.setRad)
    · exact hd1.later (fun _ h4 => h4.beginEvent)
  · exact h

theorem canonical.wakeCut (h : d.canonical) {r : Nat} : (d.wakeCut r).canonical := by
  unfold Dev.wakeCut
  split
  · exact .ite h.setRad.skipEvent h
  · exact h

theorem canonical.wakeStep (h : d.canonical) {r : Nat} : (d.wakeStep r).canonical := by
  unfold Dev.wakeStep
  extract_lets d1
  have hd1 : d1.canonical := h.setRad
  split
  · refine .ite h ?_
    split
    · exact hd1
    · exact .ite hd1 (hd1.later (fun _ h3 => h3.beginEvent))
  · exact h

theorem canonical.broadcast (h : d.canonical) {md : Nat} {key : Bytes} {fc : Nat} {payload : Bytes} :
    (d.broadcast md key fc payload).2.canonical :=
  .ite h.setRad h.setTrk

theorem canonical.beacon (h : d.canonical) {r : Nat} : (d.beacon r).canonical := by
  unfold Dev.beacon
  extract_lets d0
  have hd0 : d0.canonical := h.setRad
  split
  · exact h
  refine .ite h ?_
  split
  · rename_i d' e0
    have hd' : d'.canonical := .of_eq (congrArg (·.2.2) e0) hd0.useKey
    refine .ite hd' ?_
    refine .ite hd'.cnt.offer ?_
    extract_lets
    split
    · rename_i d2 e0
      have hd2 : d2.canonical := .of_eq (congrArg (·.2) e0) hd'.tryAir
      exact hd2.setRad.cnt
    · rename_i d2 e0
      have hd2 : d2.canonical := .of_eq (congrArg (·.2) e0) hd'.tryAir
      exact hd2.cnt.offer
    rename_i d2 e0
    have hd2 : d2.canonical := .of_eq (congrArg (·.2) e0) hd'.tryAir
    exact hd2.cnt.offer

theorem canonical.suspendC0 (h : d.canonical) {md : Nat} {b : Bool} : (d.suspendC0 md b).canonical := h.setSuspended

theorem canonical.c0Unqueued (h : d.canonical) {r : Nat} {waited : Bool} : (d.c0Unqueued r waited).canonical := .ite h h.suspendC0.offer

theorem canonical.c0Slot (h : d.canonical) {r : Nat} : (d.c0Slot r).canonical := by
  unfold Dev.c0Slot
  split
  · refine .ite h ?_
    extract_lets
    split
    · exact .ite h.bump.dwellDefer.raise h.bump.dwellDefer.raise.put.suspendC0.offer
    · exact h.transmit.setRad.bump.cnt.c0Unqueued
  · exact h

theorem canonical.c0Restore (h : d.canonical) {r : Nat} : (d.c0Restore r).canonical := .ite h.put.suspendC0.offer h

theorem canonical.groupSlot (h : d.canonical) {r : Nat} : (d.groupSlot r).canonical := by
  unfold Dev.groupSlot
  split
  · refine .ite h ?_
    split
    · rename_i d1 e0
      have hd1 : d1.canonical := .of_eq (congrArg (·.2) e0) h.tryAir
      exact .ite hd1.cnt.setRad.releaseRing hd1.cnt.setRad
    rename_i d1 _ e0
    have hd1 : d1.canonical := .of_eq (congrArg (·.2) e0) h.tryAir
    exact hd1
  · exact h

theorem canonical.radioBoundary (h : d.canonical) {r : Nat} : (d.radioBoundary r).canonical :=
  h.setRad.c0Restore.wakeCut.c0Slot.groupSlot

theorem canonical.txDrop (h : d.canonical) {md handle cause : Nat} {i : JItem} : (d.txDrop md handle cause i).canonical := by
  unfold Dev.txDrop
  extract_lets d1 d2
  have hd1 : d1.canonical := h.cnt.offer
  have hd2 : d2.canonical := .ite hd1.raise hd1.raise
  exact .ite hd2.refuseEids hd2

theorem canonical.placeRadio (h : d.canonical) {r : Nat} {i : JItem} : (d.placeRadio r i).canonical := by
  unfold Dev.placeRadio
  extract_lets
  split
  · exact h
  refine .ite ?_ ?_
  · refine .ite h.txDrop ?_
    split
    · rename_i d' e0
      have hd' : d'.canonical := .of_eq (congrArg (·.2.2) e0) h.useKey
      exact .ite hd'.txDrop hd'.broadcast.setRad.pushRing
  · split
    · exact h.txDrop
    refine .ite h.txDrop ?_
    split
    · exact h.txDrop
    · exact .ite h.txDrop (.ite h.txDrop h.place)

theorem canonical.takeRadio (h : d.canonical) {r : Nat} : (d.takeRadio r).canonical := by
  unfold Dev.takeRadio
  refine .ite h ?_
  split
  · exact h
  rename_i e0
  exact .ite h (h.takeForConsumer e0).placeRadio.endService

theorem canonical.deliverRx (h : d.canonical) {q flow producer : Nat} {words : List Nat} :
    (d.deliverRx q flow producer words).1.canonical :=
  h.push

theorem canonical.radioRx (h : d.canonical) {r : Nat} {f : RadioRx} : (d.radioRx r f).canonical := by
  unfold Dev.radioRx
  extract_lets
  split
  · exact h
  extract_lets x'
  have hx' : x'.1.canonical := h.deliverRx
  refine .ite h ?_
  refine .ite h.cnt ?_
  refine .ite h.cnt ?_
  refine .ite h.cnt ?_
  refine .ite h.cnt ?_
  refine .ite (.ite hx'.cnt hx'.cnt) ?_
  split
  · exact h.cnt
  · exact .ite h.cnt.updLink.creditUpdate.eventSend h.cnt.updLink.creditUpdate
  extract_lets x''
  have hx'' : x''.1.canonical := h.deliverRx
  refine .ite (.ite (.ite (canonical.ite hx''.creditUpdate.delivered hx''.creditUpdate).eventSend (.ite hx''.creditUpdate.delivered hx''.creditUpdate)) hx''.cnt) ?_
  refine .ite (canonical.ite h.creditUpdate.delivered h.creditUpdate).eventSend ?_
  exact .ite h.creditUpdate.delivered h.creditUpdate

/-! ### Wired ports -/

theorem canonical.gateEnter (h : d.canonical) {p i : Nat} : (d.gateEnter p i).canonical := by
  unfold Dev.gateEnter
  split
  · exact .ite h.put.put h
  · exact h.put.put

theorem canonical.endPause (h : d.canonical) {p : Nat} : (d.endPause p).canonical :=
  .ite h (.ite h.setTrk.put.put.suspendC0.offer h.setTrk.put)

theorem canonical.beginPause (h : d.canonical) {p q : Nat} : (d.beginPause p q).canonical :=
  .ite h.setTrk (.ite h.setTrk.put.raise.put.raise.suspendC0.offer h.setTrk.put.raise)

theorem canonical.pauseRx (h : d.canonical) {p q : Nat} : (d.pauseRx p q).canonical :=
  .ite h.cnt (.ite h.setTrk.endPause (.ite h.setTrk h.beginPause))

theorem canonical.pfcRx (h : d.canonical) {p enabled : Nat} {quanta : List Nat} : (d.pfcRx p enabled quanta).canonical :=
  h.foldl fun _ _ h => .ite h.cnt h.setTrk

theorem canonical.tsPush (h : d.canonical) {p tag : Nat} {e : TsEntry} : (d.tsPush p tag e).canonical :=
  .ite h.update h.update.bump.put.raise

theorem canonical.stampOf (h : d.canonical) {at_ tag : Nat} {late : Bool} : (d.stampOf at_ tag late).2.canonical := h.fresh

theorem canonical.placeOpens (h : d.canonical) {p : Nat} : (d.placeOpens p).canonical := by
  unfold Dev.placeOpens
  extract_lets d1 _ d2
  have hd1 : d1.canonical := by
    refine h.foldl fun x a hx => ?_
    split
    · exact hx
    · exact .ite hx hx.setTrk.place
  have hd2 : d2.canonical := by
    simp only [d2]
    split
    · exact .ite hd1.update.place hd1
    · exact hd1
  exact hd2.update

theorem canonical.emit (h : d.canonical) {p : Nat} {frame : Bytes} : (d.emit p frame).canonical := h.setTrk

theorem canonical.busy (h : d.canonical) {p : Nat} {x : Sending} : (d.busy p x).canonical := .ite h h.setTrk

theorem canonical.startRaw (h : d.canonical) {p : Nat} {r : RawTx} : (d.startRaw p r).canonical := by
  unfold Dev.startRaw
  extract_lets _ d1 e d2
  have hd1 : d1.canonical := h.setTrk.cnt.emit
  have he : e.2.canonical := hd1.stampOf
  have hd2 : d2.canonical := .ite he.tsPush hd1
  exact .ite hd2.raise.offer hd2

theorem eq_some_of_orElse {α : Type} {o : Option α} {f : Unit → Option α} {r : α} (e : o.orElse f = some r) : o = some r ∨ f () = some r := by
  cases o
  · exact .inr e
  · exact .inl e

theorem canonical.sendAck (h : d.canonical) {p : Nat} {r : Dev} (e : d.sendAck p = some r) : r.canonical := by
  obtain ⟨l, -, e⟩ := Option.bind_eq_some_iff.1 e
  split at e
  · cases e
    exact h.loseLink
  dsimp only at e
  split at e
  · cases e
    exact h.updLink.cnt.emit.busy
  · cases e

theorem canonical.sendGroup (h : d.canonical) {p : Nat} {done : List Nat} {r : Nat × Dev} (e : d.sendGroup p done = some r) :
    r.2.canonical := by
  obtain ⟨g, -, e⟩ := Option.bind_eq_some_iff.1 e
  split at e
  · cases e
  · cases e
    exact .ite h.cnt.emit.busy.setTrk.releaseRing h.cnt.emit.busy.setTrk

theorem canonical.sendData (h : d.canonical) {p : Nat} {again : Bool} {r : Dev} (e : d.sendData p again = some r) : r.canonical := by
  obtain ⟨x, -, rfl⟩ := Option.map_eq_some_iff.1 e
  exact .ite h.loseLink (h.updLink.cnt.when fun _ hx => hx.cnt).emit.busy

theorem canonical.sendPtp (h : d.canonical) {p : Nat} {r : Dev} (e : d.sendPtp p = some r) : r.canonical := by
  unfold Dev.sendPtp at e
  split at e
  · cases e
  split at e
  · cases e
    exact h.setTrk.update.cnt.busy
  · cases e

/-- The kinds that follow an acknowledgement and a GROUP frame. -/
theorem canonical.sendRest (h : d.canonical) {p : Nat} {r : Dev} (e : ((((d.sendData p true).orElse fun _ => d.sendData p false).orElse
    fun _ => d.sendPtp p).orElse fun _ => if p < 8 then none else (d.nextRaw p).map (fun r => d.startRaw p r)) = some r) : r.canonical := by
  rcases eq_some_of_orElse e with e | e
  · rcases eq_some_of_orElse e with e | e
    · rcases eq_some_of_orElse e with e | e
      · exact h.sendData e
      · exact h.sendData e
    · exact h.sendPtp e
  · split at e
    · cases e
    · obtain ⟨x, -, rfl⟩ := Option.map_eq_some_iff.1 e
      exact h.startRaw

theorem canonical.sendOne (h : d.canonical) {p : Nat} {done : List Nat} {r : List Nat × Dev} (e : d.sendOne p done = some r) :
    r.2.canonical := by
  rcases eq_some_of_orElse e with e | e
  · obtain ⟨x, e', rfl⟩ := Option.map_eq_some_iff.1 e
    exact h.sendAck e'
  rcases eq_some_of_orElse e with e | e
  · obtain ⟨x, e', rfl⟩ := Option.map_eq_some_iff.1 e
    exact h.sendGroup e'
  · obtain ⟨x, e', rfl⟩ := Option.map_eq_some_iff.1 e
    exact h.sendRest e'

theorem canonical.sendUpTo (h : d.canonical) {p : Nat} {done : List Nat} {n : Nat} : (d.sendUpTo p done n).canonical := by
  induction n generalizing d done with
  | zero => exact h
  | succ n ih =>
    unfold Dev.sendUpTo
    split
    · rename_i e0
      exact ih (h.sendOne e0)
    · exact h

theorem canonical.sendC0 (h : d.canonical) {p : Nat} {l : List C0Send} : (d.sendC0 p l).canonical :=
  h.foldl fun _ _ h => h.setTrk.cnt.emit

theorem canonical.opportunity (h : d.canonical) {p : Nat} : (d.opportunity p).canonical := by
  unfold Dev.opportunity
  extract_lets _ _ _ d1
  have hd1 : d1.canonical := .ite h.placeOpens h
  refine .ite h ?_
  refine .ite (.ite h (.ite hd1.sendC0.put hd1.sendUpTo)) ?_
  refine .ite h ?_
  split
  · exact h.sendC0.put.busy
  refine .ite h.placeOpens.sendUpTo ?_
  split
  · exact h.startRaw
  · exact h

theorem canonical.wiredBoundary (h : d.canonical) {p : Nat} : (d.wiredBoundary p).canonical :=
  .ite (h.setTrk.gateEnter.setTrk.foldl fun _ _ h => h.offer).put h.setTrk.gateEnter.put

theorem canonical.takeRaw (h : d.canonical) {p : Nat} {i : JItem} : (d.takeRaw p i).canonical :=
  .ite h.txDrop.endService (.ite h.tsPush.endService.raise.offer (.ite h.setTrk h.setTrk))

theorem canonical.appendRecord (h : d.canonical) {p idx : Nat} {rec : Bytes} {eids : List Nat} :
    (d.appendRecord p idx rec eids).canonical :=
  .ite h.setTrk.place h.setTrk

theorem canonical.wiredGroup (h : d.canonical) {p : Nat} {key : Option Bytes} {payload : Bytes} :
    (d.wiredGroup p key payload).2.canonical := by
  unfold Dev.wiredGroup
  extract_lets _ b
  have hb : b.2.canonical := h.freshBytes
  split
  · exact h.broadcast
  · exact hb.setTrk

theorem canonical.groupTx (h : d.canonical) {p : Nat} {b : Bytes} {n : Nat} : (d.groupTx p b n).canonical := h.setTrk.pushRing

theorem canonical.placeWired (h : d.canonical) {p : Nat} {i : JItem} : (d.placeWired p i).canonical := by
  unfold Dev.placeWired
  extract_lets _ _ _ _ b
  have hb : b.2.canonical := h.wiredGroup
  refine .ite ?_ ?_
  · split
    · split
      · rename_i d' e0
        have hd' : d'.canonical := .of_eq (congrArg (·.2.2) e0) h.useKey
        exact .ite hd'.txDrop hd'.wiredGroup.groupTx
    · exact hb.groupTx
  · split
    · exact h.txDrop
    refine .ite h.txDrop ?_
    split
    · exact h.txDrop
    · exact .ite h.txDrop (.ite h.appendRecord (.ite h.txDrop h.place))

theorem canonical.takeWired (h : d.canonical) {p : Nat} : (d.takeWired p).canonical := by
  unfold Dev.takeWired
  refine .ite h ?_
  split
  · exact h
  rename_i d1 e0
  have hd1 : d1.canonical := h.takeForConsumer e0
  exact .ite h (.ite (.ite h hd1.takeRaw) (.ite h hd1.placeWired.endService))

theorem canonical.rawRx (h : d.canonical) {p : Nat} {f : WiredRx} : (d.rawRx p f).canonical := by
  unfold Dev.rawRx
  extract_lets
  split
  · exact h.cnt
  · exact .ite h.cnt (.ite h.deliverRx.setTrk.writeN.put.cnt h.deliverRx.cnt)

theorem canonical.nymtilRx (h : d.canonical) {p : Nat} {f : WiredRx} {b src : Bytes} : (d.nymtilRx p f b src).canonical := by
  unfold Dev.nymtilRx
  extract_lets
  refine .ite h.cnt ?_
  refine .ite h.cnt ?_
  refine .ite (.ite h.cnt (.ite h.deliverRx.cnt h.deliverRx.cnt)) ?_
  split
  · exact h.cnt
  refine .ite h.cnt ?_
  split
  · exact h.cnt
  · exact h.cnt.updLink.creditUpdate
  · refine .ite (.ite (.ite h.creditUpdate.delivered h.creditUpdate) (.ite ?_ h.cnt)) ?_
    · exact .ite h.update.creditUpdate.delivered h.update.creditUpdate
    · refine .ite (.ite h.creditUpdate.delivered h.creditUpdate) (.ite h.cnt (.ite ?_ h.deliverRx.cnt))
      exact .ite h.deliverRx.creditUpdate.delivered h.deliverRx.creditUpdate

theorem canonical.wiredRx (h : d.canonical) {p : Nat} {f : WiredRx} : (d.wiredRx p f).canonical := by
  unfold Dev.wiredRx
  refine .ite h ?_
  refine .ite h.cnt ?_
  refine .ite h.cnt ?_
  refine .ite (.ite h.pauseRx (.ite h.pfcRx h)) ?_
  refine .ite h ?_
  refine .ite ?_ (.ite h (.ite h.nymtilRx (.ite h.cnt h.rawRx)))
  split
  · exact h.cnt
  · exact h.raiseBits.put.raise.offer

/-! ### The Lintel -/

theorem canonical.abortTests (h : d.canonical) {tests : List Nat} {cause : Nat} : (d.abortTests tests cause).canonical := by
  unfold Dev.abortTests
  extract_lets
  split
  · exact h
  · exact .ite h.update h.update.raise.offer

theorem canonical.loadC0 (h : d.canonical) {f : SafetyFrame} {md seq : Nat} {fresh : Bool} : (d.loadC0 f md seq fresh).canonical := by
  unfold Dev.loadC0
  refine .ite h ?_
  split
  · rename_i d' e0
    have hd' : d'.canonical := .of_eq (congrArg (·.2.2) e0) h.useKey
    exact .ite hd' (.ite hd'.setRad hd'.setTrk)

theorem canonical.nextC0Seq (h : d.canonical) : d.nextC0Seq.2.canonical := h.update

theorem canonical.loadFrame (h : d.canonical) {f : SafetyFrame} {media : List Nat} {fresh : Bool} :
    (d.loadFrame f media fresh).canonical :=
  h.nextC0Seq.foldl fun _ _ h => h.loadC0

theorem canonical.cmdEntry (h : d.canonical) {c : CmdEntry} : (d.cmdEntry c).canonical := .ite h.update h

theorem canonical.mapC0 (h : d.canonical) {md : Nat} {f : List C0Send → List C0Send} : (d.mapC0 md f).canonical :=
  .ite h.setRad h.setTrk

theorem canonical.reloadC0 (h : d.canonical) {f : SafetyFrame} : (d.reloadC0 f).canonical := by
  unfold Dev.reloadC0
  extract_lets _ x
  have hx : x.2.canonical := h.nextC0Seq
  refine .ite h ?_
  refine hx.foldl fun x a hx1 => ?_
  split
  · exact hx1
  · exact hx1.mapC0.loadC0.mapC0

theorem canonical.setSafety (h : d.canonical) {sec : Option Safety} : (d.setSafety sec).canonical := by
  unfold Dev.setSafety
  extract_lets _ _ _ _ _ d1 d2 d3 _ d4
  have hd1 : d1.canonical := h.update
  have hd2 : d2.canonical := (canonical.ite hd1.cmdEntry hd1).foldl fun _ _ h1 => h1.offer
  have hd3 : d3.canonical := .ite hd2.setSuspended hd2
  have hd4 : d4.canonical := hd3.foldl fun _ _ h1 => h1.put.put
  refine hd4.foldl fun x a hx => ?_
  split
  · exact hx.reloadC0
  · exact hx

theorem canonical.lightC0 (h : d.canonical) : d.lightC0.canonical := h.update

theorem canonical.showAck (h : d.canonical) {on : Bool} : (d.showAck on).canonical := h.update.putB

theorem canonical.queueC0 (h : d.canonical) {come : List Nat} {r : Nat} : (d.queueC0 come r).canonical :=
  h.foldl fun _ _ h => h.setRad.suspendC0.offer

theorem canonical.latch (h : d.canonical) : d.latch.canonical := by
  unfold Dev.latch
  extract_lets _ _ _ _ _ d1 d2 _ d3 d4 d4' d5
  have hd1 : d1.canonical := h.foldl fun _ _ h1 => h1.offer
  have hd2 : d2.canonical := hd1.foldl fun _ _ h1 => h1.offer
  have hd3 : d3.canonical := hd2.update
  have hd4 : d4.canonical := hd3.foldl fun _ _ h1 => h1.abortTests.loadFrame
  have hd4' : d4'.canonical := hd4.foldl fun _ _ h1 => h1.queueC0
  have hd5 : d5.canonical := hd4'.showAck.lightC0
  exact .ite h hd5.update

theorem canonical.class0 (h : d.canonical) {index : Nat} {activate : Bool} : (d.class0 index activate).dev.canonical := by
  unfold Dev.class0
  extract_lets
  split
  · exact h
  split
  · split
    · exact h.offer
    split
    · exact h
    · exact h.update.cmdEntry
  split
  · exact h.offer
  split
  · exact h
  · exact h.update.cmdEntry

theorem canonical.emgEdge (h : d.canonical) {b active : Bool} : (d.emgEdge b active).canonical := by
  unfold Dev.emgEdge
  extract_lets _ _ d1 d2 _ d3
  have hd1 : d1.canonical := h.update
  have hd2 : d2.canonical := hd1.putB.putB
  have hd3 : d3.canonical := .ite hd2.update hd2
  exact .ite hd3 (.ite hd3 hd3.update.cmdEntry)

end Dev
end Sys2Proof.Machine
end

section
/-! PROOFS. The canonical form (R26): the meters, the vault, the Cut List and time. -/

-- One proof at a time: a side condition left to `decide` waits for every declaration before it, each in a thread of its own.
set_option Elab.async false

namespace Sys2Proof.Machine

namespace Dev

variable {d x y : Dev}

/-! ### The meters -/

theorem canonical.setCh (h : d.canonical) {c : Nat} {f : MeterCh → MeterCh} : (d.setCh c f).canonical := h.update

theorem canonical.showPulses (h : d.canonical) : d.showPulses.canonical := h.put.put.put.put

theorem canonical.countWraps (h : d.canonical) {c n : Nat} : (d.countWraps c n).canonical := .ite h h.update

theorem canonical.meterCycle (h : d.canonical) {c : Nat} {x : MeterCycle} : (d.meterCycle c x).canonical := by
  unfold Dev.meterCycle
  split
  · refine .ite h ?_
    extract_lets seg run ac before _ d0 vClip iClip
    split
    extract_lets mag e d1 d2 d3 d4 d5 d6
    have h1 : d1.canonical := h.update.setCh
    have h3 : d3.canonical := h1.countWraps.put.put.put.put.put
    have h5 : d5.canonical := h3.put.bump.bump.put
    exact canonical.showPulses (.ite h5 h5.setCh.raise.offer)
  · exact h

theorem canonical.openInterval (h : d.canonical) {c : Nat} : (d.openInterval c).canonical := h.setCh

theorem canonical.closeInterval (h : d.canonical) {c : Nat} : (d.closeInterval c).canonical := by
  unfold Dev.closeInterval
  split
  · exact h
  · refine .ite h (.ite h.openInterval ?_)
    extract_lets m meas rep r _ d1 d2 d3 x d4 d5
    have h3 : d3.canonical := h.update.put.put.raise.offer
    have hx : x.1.canonical := h3.push
    have h4 : d4.canonical := .ite hx hx.bump.raise.offer
    exact h4.openInterval.journal

theorem canonical.meterRestore (h : d.canonical) {sec : Option MeterSec} {w : List (Nat × Nat)} {n : Nat} :
    (d.meterRestore sec w n).canonical := by
  unfold Dev.meterRestore
  extract_lets
  split
  · exact h.update.offer
  · exact h

theorem canonical.meterStart (h : d.canonical) : d.meterStart.canonical := by
  unfold Dev.meterStart
  refine h.foldl fun x a hx => ?_
  split
  · exact hx
  extract_lets _ d1
  have hd1 : d1.canonical := hx.put
  exact .ite hd1.offer (.ite hd1 (.ite hd1.openInterval (.ite hd1 hd1.setCh.offer)))

theorem canonical.pulseRestart (h : d.canonical) : d.pulseRestart.canonical := (h.foldl fun _ _ h => .ite h h.update.offer).showPulses

/-! ### The vault -/

theorem canonical.commitBlob (h : d.canonical) {b : Blob} : (d.commitBlob b).1.canonical := by
  unfold Dev.commitBlob
  extract_lets
  split
  · exact h
  extract_lets d1
  have hd1 : d1.canonical := h.update
  split
  · rename_i d2 _ e0
    have hd2 : d2.canonical := .of_eq (congrArg (·.1) e0) hd1.commitChecked
    extract_lets
    split
    · exact hd2
    · exact hd2.update

theorem canonical.keyUpdate (h : d.canonical) {e : Envelope} : (d.keyUpdate e).dev.canonical := by
  unfold Dev.keyUpdate
  refine .ite_dev (.ite_dev h h.update) ?_
  extract_lets device parent
  have hp : parent.2.2.canonical := by
    simp only [parent]
    split
    · split
      · exact h
      · exact h
    · exact h.useKey
  clear_value parent
  split
  rename_i d1
  have h1 : d1.canonical := hp
  refine .ite_dev h1 ?_
  extract_lets kek key
  clear_value key
  split
  · exact h1
  refine .ite_dev h1 ?_
  split
  · exact h1.update
  split
  rename_i d2 _ e0
  have h2 : d2.canonical := .of_eq (congrArg (·.1) e0) h1.commitBlob
  exact .ite_dev h2 h2.offer

theorem canonical.keyInvalidate (h : d.canonical) {e : Envelope} : (d.keyInvalidate e).dev.canonical := by
  unfold Dev.keyInvalidate
  extract_lets
  split
  · exact h
  split
  · exact h
  split
  · exact h
  split
  · exact h
  split
  · exact h
  split
  · rename_i d2 _ e0
    have hd2 : d2.canonical := .of_eq (congrArg (·.1) e0) h.commitChecked
    extract_lets _ d2'
    have hd2' : d2'.canonical := by
      refine hd2.foldl fun x a hx => ?_
      split
      · exact hx.commitChecked
      · exact hx
    split
    · exact hd2
    · exact hd2'.orphanSlots.offer

theorem canonical.showKeys (h : d.canonical) : d.showKeys.canonical := h.put.putB.showSlots

theorem canonical.lifecycleStep (h : d.canonical) : d.lifecycleStep.canonical := by
  unfold Dev.lifecycleStep
  extract_lets
  split
  · exact h
  · exact (canonical.ite h.update.update h.update).orphanSlots.showKeys.raise.offer

theorem canonical.keyBoundary (h : d.canonical) : d.keyBoundary.canonical := by
  unfold Dev.keyBoundary
  extract_lets d1 _ _ d2 _ d3 d4
  have hd1 : d1.canonical := h.lifecycleStep
  have hd2 : d2.canonical := hd1.foldl fun _ _ h1 => h1.closeLink
  have hd3 : d3.canonical := hd2.update
  have hd4 : d4.canonical := .ite hd3 hd3.showSlots
  exact .ite hd4 hd4.offer

theorem canonical.keyOp (h : d.canonical) {m : Master} {secure : Bool} {op : Nat} {lo : W32} : (d.keyOp m secure op lo).canonical := by
  unfold Dev.keyOp
  extract_lets _ d0
  have hd0 : d0.canonical := h.commitPair
  refine .ite hd0 ?_
  refine .ite hd0.put ?_
  refine .ite hd0.update.put ?_
  split
  · exact hd0.put.keyRefused
  split
  · rename_i e0
    exact (hd0.loadKey e0).update.put
  · exact hd0.update.put

theorem canonical.keyOpDone (h : d.canonical) {bank : Nat} : (d.keyOpDone bank).canonical := by
  unfold Dev.keyOpDone
  split
  · exact h
  refine .ite ?_ h.writeN.put.put.raise
  split
  · split
    · rename_i e0
      exact (h.loadKey e0).update.offer
    · exact h
  · exact h.update.put.put.raise

/-! ### The Cut List -/

theorem canonical.checkHeader (h : d.canonical) {c : Bytes} {patch : Bool} : (d.checkHeader c patch).2.canonical := by
  unfold Dev.checkHeader
  extract_lets hd no
  have hno (k st off : Nat) : (no k st off).2.canonical := h
  clear_value no
  iterate 8 refine .ite_snd (hno _ _ _) ?_
  split
  rename_i e0
  have h1 := canonical.of_eq (congrArg (·.2.2) e0) h.useKey
  exact .ite_snd h1 (.ite_snd h1 (.ite_snd h1 h1))

theorem canonical.checkFull (h : d.canonical) {c : Bytes} : (d.checkFull c).2.canonical := by
  unfold Dev.checkFull
  split
  · rename_i d1 e0
    have hd1 : d1.canonical := .of_eq (congrArg (·.2) e0) h.checkHeader
    exact hd1
  rename_i d1 e0
  have hd1 : d1.canonical := .of_eq (congrArg (·.2) e0) h.checkHeader
  split
  · exact hd1
  extract_lets
  split
  · exact hd1
  split
  · exact hd1
  · exact hd1

theorem canonical.checkAPatch (h : d.canonical) {c : Bytes} : (d.checkAPatch c).2.canonical := by
  unfold Dev.checkAPatch
  split
  · rename_i d1 e0
    have hd1 : d1.canonical := .of_eq (congrArg (·.2) e0) h.checkHeader
    exact hd1
  · rename_i d1 e0 _
    have hd1 : d1.canonical := .of_eq (congrArg (·.2) e0) h.checkHeader
    exact hd1
  rename_i d1 _ e0 _
  have hd1 : d1.canonical := .of_eq (congrArg (·.2) e0) h.checkHeader
  split
  · exact hd1
  extract_lets
  split
  · exact hd1
  split
  · exact hd1
  · exact hd1

theorem canonical.cutRefused (h : d.canonical) {r : CutRefusal} {patch : Bool} {seq : Nat} : (d.cutRefused r patch seq).canonical :=
  h.put.put.put.put.offer

theorem canonical.cutPassed (h : d.canonical) : d.cutPassed.canonical := h.put.put

theorem canonical.startLoad (h : d.canonical) {c : Bytes} {seq : Nat} : (d.startLoad c seq).1.canonical := by
  unfold Dev.startLoad
  split
  · rename_i d1 e0
    have hd1 : d1.canonical := .of_eq (congrArg (·.2) e0) h.checkFull
    exact hd1.cutRefused
  rename_i d1 e0
  have hd1 : d1.canonical := .of_eq (congrArg (·.2) e0) h.checkFull
  exact hd1.update.put.put

theorem canonical.clearOverrides (h : d.canonical) {keep : Nat → Nat → Bool} {cause : Nat} : (d.clearOverrides keep cause).canonical :=
  .ite h.update h.update.offer

theorem canonical.judgeLedger (h : d.canonical) : d.judgeLedger.canonical := .ite h h.putB.offer

theorem canonical.moveLedger (h : d.canonical) {old : List Bytes} : (d.moveLedger old).canonical := by
  unfold Dev.moveLedger
  refine ⟨h.1, List.foldlRecOn (motive := fun m : Memory => m.wf = true) _ _ h.2 fun m hm x _ => ?_⟩
  split
  · exact Memory.writeN_wf _ _ _ hm
  · exact hm

theorem canonical.applyQueues (h : d.canonical) {l : List QCfg} : (d.applyQueues l).canonical :=
  (h.foldl fun _ _ h => .ite h h.discardQueue.raise.offer).update

theorem canonical.applyLinks (h : d.canonical) {x : CutImage} {p q : Nat} : (d.applyLinks x p q).canonical := by
  unfold Dev.applyLinks
  extract_lets d1 d2
  have hd1 : d1.canonical := h.update
  have hd2 : d2.canonical := by
    refine hd1.foldl fun x a hx => ?_
    split
    · exact hx.put.put.put
    · exact hx.put
  refine hd2.foldl fun x a hx => ?_
  split
  · exact hx.put.put.put.put
  · exact hx.put.put

theorem canonical.showCut (h : d.canonical) {x : CutImage} {slot generation patches : Nat} {fallback skipped : Bool} :
    (d.showCut x slot generation patches fallback skipped).canonical :=
  h.put.put.putB.putB.put.put.put.put.put.put.put.put.foldl fun _ _ h => h.put

theorem canonical.applyPins (h : d.canonical) {l : List Nat} : (d.applyPins l).canonical := h.update.put.put

theorem canonical.applyImage (h : d.canonical) {x : CutImage} {fb : Option Fallback} {skipped : List (Nat × Nat)} {slot : Nat} {boot :
    Bool} :
    (d.applyImage x fb skipped slot boot).canonical := by
  unfold Dev.applyImage
  extract_lets _ _ _ _ _ _ _ _ d1 _ _ _ _ d2 d3 d4 d5 d6 _ _ d7
  have hd1 : d1.canonical := h.clearOverrides
  have hd2 : d2.canonical := hd1.update
  have hd3 : d3.canonical := .ite hd2 hd2.moveLedger
  have hd4 : d4.canonical := hd3.applyQueues.applyLinks.applyPins
  have hd5 : d5.canonical := hd4.put.put.put.put
  have hd6 : d6.canonical := hd5.lightLoad
  have hd7 : d7.canonical := hd6.update
  exact hd7.engineReset.showCut

theorem canonical.copyDone (h : d.canonical) : d.copyDone.canonical := by
  unfold Dev.copyDone
  split
  · exact .ite h h.applyImage.meterStart.put.commit.update
  · exact h

theorem canonical.enterHold (h : d.canonical) {run : LoadRun} : (d.enterHold run).canonical := h.update.put.goto

theorem canonical.leaveHold (h : d.canonical) {run : LoadRun} : (d.leaveHold run).canonical :=
  (canonical.ite h.setSafety.goto.lightReady h.setSafety.goto).update.put.put.put.offer.showBudget.judgeLedger

theorem canonical.loadBoundary (h : d.canonical) : d.loadBoundary.canonical := by
  unfold Dev.loadBoundary
  extract_lets
  split
  · exact h
  split
  · exact h
  · exact .ite h.update.put (.ite h.enterHold.mirror h)
  · exact .ite h.update h
  · exact .ite h h.leaveHold.mirror

theorem canonical.applyPatch (h : d.canonical) {x : PatchImage} : (d.applyPatch x).canonical := h.clearOverrides.update.update

theorem canonical.startPatch (h : d.canonical) {c : Bytes} {a : Answer} : (d.startPatch c a).1.canonical := by
  unfold Dev.startPatch
  split
  · rename_i d1 e0
    have hd1 : d1.canonical := .of_eq (congrArg (·.2) e0) h.checkAPatch
    exact hd1.cutRefused
  rename_i d1 e0
  have hd1 : d1.canonical := .of_eq (congrArg (·.2) e0) h.checkAPatch
  exact hd1.update.put.put

theorem canonical.patchReady (h : d.canonical) {run : PatchRun} : (d.patchReady run).canonical := by
  unfold Dev.patchReady
  extract_lets _ _ _ d1
  have hd1 : d1.canonical := h.update
  split
  · exact hd1.commit.cutPassed
  · exact hd1

theorem canonical.patchWindow (h : d.canonical) : d.patchWindow.canonical := by
  unfold Dev.patchWindow
  extract_lets
  split
  · exact .ite (.ite h.update h) h
  · exact h

theorem canonical.answerPatch (h : d.canonical) {a : Answer} {status : Nat} : (d.answerPatch a status).canonical := by
  unfold Dev.answerPatch
  refine .ite h ?_
  split
  · exact (canonical.ite h.recordSeq h).send
  · exact h.send

theorem canonical.patchWaits (h : d.canonical) {len : Nat} : (d.patchWaits len).canonical := by
  unfold Dev.patchWaits
  extract_lets
  split
  · exact h
  · exact .ite h.update.answerPatch h.update

theorem canonical.patchBoundary (h : d.canonical) : d.patchBoundary.canonical := by
  unfold Dev.patchBoundary
  extract_lets
  split
  · exact h
  extract_lets d1 _ _ d2 d3
  have hd1 : d1.canonical := h.applyPatch
  have hd2 : d2.canonical := hd1.update.put.bump.put.put
  have hd3 : d3.canonical := hd2.offer.showBudget.mirror
  split
  · exact h
  · exact h.update
  · exact .ite hd3 hd3.answerPatch

theorem canonical.cutStage (h : d.canonical) {p : Bytes} : (d.cutStage p).canonical := .ite h.update.put h.update.put

theorem canonical.overrideC1 (h : d.canonical) {p : Bytes} : (d.overrideC1 p).dev.canonical := by
  unfold Dev.overrideC1
  extract_lets
  split
  · exact h
  · exact h.cmdEntry

/-! ### Time -/

theorem canonical.showSlew (h : d.canonical) : d.showSlew.canonical := h.put.putB.putB

theorem canonical.slewTo (h : d.canonical) {corr : Int} {source : Nat} {continues : Bool} :
    (d.slewTo corr source continues).canonical :=
  .ite h.update.showSlew (.ite h.update.showSlew.raise h.update.showSlew.raise.offer)

theorem canonical.rtcTicks (h : d.canonical) : d.rtcTicks.2.canonical := by
  unfold Dev.rtcTicks
  extract_lets f _ x
  have hf : f.2.canonical := h.fresh
  have hx : x.canonical := hf
  split
  · exact h
  · exact hx.update

theorem canonical.mapRecord (h : d.canonical) : d.mapRecord.canonical := .ite h h.rtcTicks.journal

theorem canonical.setQuality (h : d.canonical) {q : Nat} : (d.setQuality q).canonical := .ite h h.put.mapRecord

theorem canonical.setUtc (h : d.canonical) {v : Int} {cause : Nat} : (d.setUtc v cause).canonical := .ite h h.update.put.offer

theorem canonical.decideStep (h : d.canonical) {r : StepReq} : (d.decideStep r).canonical := h.update

theorem canonical.timeSet (h : d.canonical) {e : Envelope} : (d.timeSet e).dev.canonical := by
  unfold Dev.timeSet
  extract_lets _ _ d1
  have hd1 : d1.canonical := .ite h.setUtc h
  split
  · exact h.illegalEvent
  split
  · exact hd1.decideStep.setQuality
  · exact hd1.slewTo

theorem canonical.forceTime (h : d.canonical) {e : Envelope} : (d.forceTime e).dev.canonical := by
  unfold Dev.forceTime
  extract_lets _ d1
  have hd1 : d1.canonical := h.decideStep
  split
  · exact h.illegalEvent
  · exact .ite hd1.setQuality hd1

theorem canonical.disciplineFreq (h : d.canonical) : d.disciplineFreq.canonical := h.fresh.put

theorem canonical.loseSource (h : d.canonical) : d.loseSource.canonical := .ite h.update.setQuality h.update

theorem canonical.ppsAccept (h : d.canonical) {off : Int} : (d.ppsAccept off).canonical := by
  unfold Dev.ppsAccept
  extract_lets _ _ _ d1 d1' d2
  have hd1 : d1.canonical := h.update.bump.putB
  have hd1' : d1'.canonical := hd1.put
  have hd2 : d2.canonical := hd1'.disciplineFreq.slewTo
  exact .ite hd1' (.ite hd2 hd2.update)

theorem canonical.ppsReject (h : d.canonical) {off : Int} : (d.ppsReject off).canonical := by
  unfold Dev.ppsReject
  extract_lets _ _ d1 _ d2
  have hd1 : d1.canonical := h.update.bump.raise.offer
  have hd2 : d2.canonical := hd1.update.putB
  exact .ite hd1 (.ite hd2.loseSource hd2)

theorem canonical.ppsMeasure (h : d.canonical) {off : Int} : (d.ppsMeasure off).canonical :=
  .ite h.update (.ite h.update.update.putB.offer.decideStep h.update.update.putB.offer.slewTo)

theorem canonical.ppsEdge (h : d.canonical) : d.ppsEdge.canonical := by
  unfold Dev.ppsEdge
  extract_lets _ d1
  have hd1 : d1.canonical := .ite h.ppsAccept h.ppsReject
  exact .ite h (.ite hd1.update hd1.ppsMeasure)

theorem canonical.showPtp (h : d.canonical) : d.showPtp.canonical := h.put

theorem canonical.setPtp (h : d.canonical) {p : Nat} {f : PtpPort → PtpPort} : (d.setPtp p f).canonical := h.update

theorem canonical.ptpUnlock (h : d.canonical) {port cause : Nat} : (d.ptpUnlock port cause).canonical :=
  .ite h h.update.put.put.raise.offer.loseSource

theorem canonical.showGm (h : d.canonical) {g : Nat} : (d.showGm g).canonical := .ite h h.update.put.put.offer

theorem canonical.bmca (h : d.canonical) : d.bmca.canonical := by
  unfold Dev.bmca
  extract_lets _ _ d1 d2
  have hd1 : d1.canonical := h.update
  have hd2 : d2.canonical := by
    simp only [d2]
    split
    · exact .ite hd1 hd1.ptpUnlock
    · exact hd1
  exact hd2.showGm.showPtp

theorem canonical.takeUtc (h : d.canonical) {port : Nat} : (d.takeUtc port).canonical := by
  unfold Dev.takeUtc
  split
  · exact .ite h (canonical.ite h.setUtc h).putB.putB.putB
  · exact h

theorem canonical.ptpMeasure (h : d.canonical) {port : Nat} {off : Int} : (d.ptpMeasure port off).canonical := by
  unfold Dev.ptpMeasure
  extract_lets _ d1 _ _ _ _ d2 d3
  have hd1 : d1.canonical := h.setPtp.showPtp.put
  have hd2 : d2.canonical := hd1.update.put.putB.raise.offer.setQuality
  have hd3 : d3.canonical := hd2.takeUtc.put
  exact .ite hd1.putB.put.disciplineFreq.slewTo (.ite hd1 (.ite hd3.decideStep hd3.disciplineFreq.slewTo))

theorem canonical.ptpRx (h : d.canonical) {port : Nat} {m : PtpMsg} : (d.ptpRx port m).canonical := by
  unfold Dev.ptpRx
  refine .ite h ?_
  split
  · exact h.setPtp.bmca.takeUtc
  · extract_lets d1
    have hd1 : d1.canonical := h.setPtp
    split
    · refine .ite h ?_
      split
      · exact hd1.ptpMeasure
      · exact hd1
    · exact h
  split
  · refine .ite h ?_
    refine .ite h.setPtp ?_
    split
    · exact h.setPtp
    · exact h
  · exact h

theorem canonical.setTpo (h : d.canonical) {k : Nat} {f : Tpo → Tpo} : (d.setTpo k f).canonical := h.update

theorem canonical.tpoArm (h : d.canonical) {k : Nat} : (d.tpoArm k).canonical := .ite h.setTpo h.setTpo

theorem canonical.rtcEvent (h : d.canonical) {e : EvCode} {args : List Nat} : (d.rtcEvent e args).canonical := .ite h h.offer

theorem canonical.tickFire (h : d.canonical) : d.tickFire.canonical := .ite h.update.put.raise.rtcEvent h

theorem canonical.putCal (h : d.canonical) {c : Cal} : (d.putCal c).canonical := h.put.put.put.put.put.put.put

theorem canonical.calSecond (h : d.canonical) : d.calSecond.canonical :=
  .ite h ((canonical.ite h.update h.update.putCal).foldl fun _ _ h => .ite h.raise.rtcEvent h).tickFire

theorem canonical.calLoad (h : d.canonical) {master : Nat} : (d.calLoad master).canonical :=
  .ite h.update.putCal.rtcEvent (h.update.putCal.rtcEvent.foldl fun _ _ h => .ite h.raise.rtcEvent h)

theorem canonical.compTick (h : d.canonical) {temp : Int} : (d.compTick temp).canonical := .ite h h.update.put.put.put.tickFire

theorem canonical.rtcClear (h : d.canonical) : d.rtcClear.canonical := by
  unfold Dev.rtcClear
  extract_lets keep _ d1
  have h1 : d1.canonical := ⟨RegFile.filter_wf (fun k => !((0x080000 ≤ k && k < 0x090000) || k == Reg.BST_EARLY.word.key) ||
    (k == Reg.RTC_VALID.word.key && d.raisedNow Reg.RTC_VALID.word != 0)) h.1, h.2⟩
  exact h1.put.put.put.put.put.put.put.put.raise.put

end Dev
end Sys2Proof.Machine
end

section
/-! PROOFS. The canonical form (R26): the supply and the entries into BOOT, the pair, and the firmware slots. -/

-- One proof at a time: a side condition left to `decide` waits for every declaration before it, each in a thread of its own.
set_option Elab.async false

namespace Sys2Proof.Machine

namespace Dev

variable {d x y : Dev}

/-! ### The supply and the entries into BOOT -/

theorem canonical.safeOutputs (h : d.canonical) : d.safeOutputs.canonical := h.lightSafe.update.put.put.put.put.showLands

theorem canonical.setMux (h : d.canonical) {m source : Nat} : (d.setMux m source).canonical := h.update

theorem canonical.forceMux (h : d.canonical) {m source : Nat} : (d.forceMux m source).canonical := h.setMux.raise.bump.offer

theorem canonical.endTests (h : d.canonical) {cause : Nat} : (d.endTests cause).canonical := h.abortTests.update.put

theorem canonical.stopWrites (h : d.canonical) {cause : Nat} {commanded : Bool} : (d.stopWrites cause commanded).canonical := by
  unfold Dev.stopWrites
  extract_lets d1 _ d2 d3
  have hd1 : d1.canonical := .ite h.writeSuppressed.finishSnapshot h
  have hd2 : d2.canonical := hd1.update.recordDone
  have hd3 : d3.canonical := .ite hd2 (hd2.foldl fun _ _ h1 => h1.commit)
  exact .ite h hd3.drainBuffer.commit

theorem canonical.noteStep (h : d.canonical) {n phase path consec cause : Nat} : (d.noteStep n phase path consec cause).canonical :=
  .ite h.update.commit (.ite h.update.put (.ite h.update.put h.update))

theorem canonical.startStep (h : d.canonical) {n : Nat} : (d.startStep n).canonical :=
  .ite h.update.put.noteStep.put.raise.offer h.update.put.noteStep

theorem bootRegs_wf (warm : Bool) {f : RegFile} (h : f.wf = true) : (bootRegs warm f).wf = true := by
  unfold bootRegs
  refine List.foldlRecOn (motive := fun f : RegFile => f.wf = true) _ _ (RegFile.filter_wf (keptReg warm) h) fun f hf e _ => ?_
  split
  · exact hf
  · exact RegFile.set_wf _ _ _ hf

theorem canonical.keepMedia (h : d.canonical) {old : Dev} : (d.keepMedia old).canonical :=
  (h.foldl fun _ _ h => h.put).foldl fun _ _ h => h.put.put

theorem canonical.dropVolatile (h : d.canonical) {warm : Bool} : (d.dropVolatile warm).canonical := by
  unfold Dev.dropVolatile
  exact (canonical.ite h.recorderReset h.recorderReset.update).mapRegs (g := bootRegs warm) fun _ => bootRegs_wf warm

theorem canonical.announce (h : d.canonical) {to_ : ModState} {cause : Nat} : (d.announce to_ cause).canonical :=
  (canonical.ite h.clearOverrides h).offer

theorem canonical.beginBoot {dv : Dev} (h : dv.canonical) {warm : Bool} {straps : Nat} : (dv.beginBoot warm straps).canonical := by
  unfold Dev.beginBoot
  extract_lets d _ d1 _ _ _ _ d2 d3 d4 d5 d6
  have hd : d.canonical := .ite h.drainBuffer h.settleOffers
  have hd1 : d1.canonical := hd.dropVolatile.joistReset.hlReset
  have hd2 : d2.canonical := hd1.update
  have hd3 : d3.canonical := hd2.put.put.put.putB.put.put.when (fun _ h1 => h1.keepMedia)
  have hd4 : d4.canonical := .ite hd3 hd3.offer
  have hd5 : d5.canonical := (canonical.ite hd4 hd4.setRole.setSuspended).showLands
  have hd6 : d6.canonical := .ite (hd5.foldl fun _ _ h1 => h1.update) hd5
  exact .ite hd5 hd6.startStep

theorem canonical.enterBoot (h : d.canonical) {cause : Nat} {warm : Bool} {straps : Nat} : (d.enterBoot cause warm straps).canonical :=
  h.announce.beginBoot

theorem canonical.goOff {dv : Dev} (h : dv.canonical) : dv.goOff.canonical := by
  unfold Dev.goOff
  extract_lets d
  have hd : d.canonical := .ite h.drainBuffer h.settleOffers
  exact hd.update.put.put.endWaits.safeOutputs.recorderReset.clearMem.put

theorem canonical.leaveOff {dv : Dev} (h : dv.canonical) {straps : Nat} : (dv.leaveOff straps).canonical :=
  .ite h.update.put.put.put.put h.update.put.put.put.put.enterBoot

theorem canonical.pfEnd (h : d.canonical) {r : PfRun} {step : Nat} : (d.pfEnd r step).canonical := by
  unfold Dev.pfEnd
  extract_lets _ _ d1 d2 _ d3
  have hd1 : d1.canonical := h.put.put.bump
  have hd2 : d2.canonical := hd1.goOff
  have hd3 : d3.canonical := hd2.update
  split
  · exact hd3.leaveOff
  · exact hd3

theorem canonical.pfAdvance (h : d.canonical) : d.pfAdvance.canonical := by
  unfold Dev.pfAdvance
  split
  · exact h
  refine .ite h (.ite h.update ?_)
  extract_lets todo
  clear_value todo
  split
  · exact h.update.journal
  · exact h.pfEnd

theorem canonical.powerFail (h : d.canonical) {vin vhold : Nat} : (d.powerFail vin vhold).canonical := by
  unfold Dev.powerFail
  extract_lets _ d0 _ d1 _ _ _ _ _ _ d2
  have hd0 : d0.canonical := h.update.put.put
  have hd1 : d1.canonical := hd0.offer.endTests.settleOffers.announce.setSuspended
  have hd2 : d2.canonical := hd1.update
  exact .ite hd0.update (.ite h (.ite hd0.goOff (.ite hd0.put.goOff hd2.settleOffers.pfAdvance)))

theorem canonical.vholdLow (h : d.canonical) : d.vholdLow.canonical := by
  unfold Dev.vholdLow
  split
  · exact h.update.pfEnd
  · exact h

theorem canonical.mainClockFail (h : d.canonical) {pll : Bool} : (d.mainClockFail pll).canonical := by
  unfold Dev.mainClockFail
  extract_lets d1 _ d2 d3 _ _ d4 d5 d6 _ _ _ _ _ d7
  have hd1 : d1.canonical := .ite h.put.raise h.put.put.raise
  have hd2 : d2.canonical := hd1.update.bump
  have hd3 : d3.canonical := hd2.safeOutputs
  have hd4 : d4.canonical := hd3.offer
  have hd5 : d5.canonical := (hd4.foldl fun _ _ h1 => h1.forceMux).put
  have hd6 : d6.canonical := hd5.setSuspended.stopWrites
  have hd7 : d7.canonical := hd6.update
  exact .ite h (.ite hd3.update (.ite hd5 hd7.put.goto.startFlush))

theorem canonical.mainClockReturned (h : d.canonical) {straps : Nat} : (d.mainClockReturned straps).canonical := by
  unfold Dev.mainClockReturned
  extract_lets d1
  have hd1 : d1.canonical := h.put.put
  split
  · exact h
  · exact .ite h (.ite hd1.update hd1.put.offer.offer.enterBoot)

theorem canonical.rcTrim (h : d.canonical) {reference cycles : Nat} : (d.rcTrim reference cycles).canonical :=
  .ite h (canonical.ite h.put.put.put.put h.put.put.put.put.offer).usbShow

theorem canonical.judgeHoldup (h : d.canonical) {cap esr : Nat} : (d.judgeHoldup cap esr).canonical := h.putB.judgeLedger

theorem canonical.holdupMeasured {dv : Dev} (h : dv.canonical) {cap esr : Nat} : (dv.holdupMeasured cap esr).canonical :=
  .ite h.update.put.put.put.raise.offer.judgeHoldup h.update.put.put.put.raise.offer.judgeHoldup.raise.offer

/-! ### The pair -/

theorem canonical.showPair (h : d.canonical) : d.showPair.canonical := h.put.putB.putB.putB.putB.putB.putB.putB.put.put.put

theorem canonical.noteSent (h : d.canonical) {x : Nat × Bytes} : (d.noteSent x).canonical := h.update

theorem canonical.tieSend (h : d.canonical) {l : List Bytes} : (d.tieSend l).canonical :=
  .ite (h.foldl fun _ _ h => h.noteSent) (h.foldl fun _ _ h => h.noteSent).update

theorem canonical.leaseSend (h : d.canonical) {kind member : Nat} {unmirrored : Bool} :
    (d.leaseSend kind member unmirrored).canonical := by
  unfold Dev.leaseSend
  extract_lets _ _ d1
  have hd1 : d1.canonical := h.update
  split
  · exact hd1.noteSent
  · exact hd1

theorem canonical.pairRecord (h : d.canonical) : d.pairRecord.canonical := by
  unfold Dev.pairRecord
  split
  · exact h.journal
  · exact h

theorem canonical.setEpoch (h : d.canonical) {n : Nat} : (d.setEpoch n).canonical := h.update.commit.put.put.pairRecord

theorem canonical.adoptEpoch (h : d.canonical) {n : Nat} : (d.adoptEpoch n).canonical := .ite h (.ite h.update h.setEpoch.offer)

theorem canonical.allPending (h : d.canonical) : d.allPending.canonical := h.foldl fun _ _ h => .ite h.setPending h

theorem canonical.takeRole (h : d.canonical) {r : Role} {cause : Nat} : (d.takeRole r cause).canonical :=
  .ite h h.setRole.raise.offer.pairRecord.judgeLedger

theorem canonical.ineligible (h : d.canonical) {cause : Nat} : (d.ineligible cause).canonical := .ite h h.update.offer

theorem canonical.askResync (h : d.canonical) : d.askResync.canonical := .ite h h.update.tieSend

theorem canonical.setMark (h : d.canonical) {m : Nat × Nat} : (d.setMark m).canonical := h.update

theorem canonical.closeBundle (h : d.canonical) {outcome : Nat} : (d.closeBundle outcome).canonical :=
  .ite h (h.foldl fun _ _ h => h.setMark).mirror.tieSend

theorem canonical.becomeUnmirrored (h : d.canonical) : d.becomeUnmirrored.canonical := .ite h h.update.raise.offer.judgeLedger

theorem canonical.skipCounters (h : d.canonical) : d.skipCounters.canonical := h.foldl fun _ _ h => .ite h.setRad h.setTrk

theorem canonical.becomeActive (h : d.canonical) {whole : Bool} {cause : Nat} : (d.becomeActive whole cause).canonical :=
  (canonical.ite h.takeRole.pulseRestart.update h.takeRole.pulseRestart.setEpoch.allPending).skipCounters.offer.update

theorem canonical.decideTakeover (h : d.canonical) {left : Nat} {whole : Bool} {cause : Nat} :
    (d.decideTakeover left whole cause).canonical :=
  h.update

theorem canonical.leaveTest (h : d.canonical) {cause : Nat} : (d.leaveTest cause).canonical := by
  unfold Dev.leaveTest
  extract_lets x
  have hx : x.canonical := h.endTests.goto
  split
  · exact .ite hx.update h
  · exact h

theorem canonical.handOver (h : d.canonical) : d.handOver.canonical := by
  unfold Dev.handOver
  extract_lets
  split
  · exact .ite h h.update.tieSend
  · exact h

theorem canonical.askHandover (h : d.canonical) : d.askHandover.canonical := h.update.leaseSend

theorem canonical.bothActive (h : d.canonical) {hb : Heartbeat} : (d.bothActive hb).canonical :=
  .ite h.offer.ineligible.askResync (.ite h.offer.setEpoch.allPending h.offer)

theorem canonical.followTime (h : d.canonical) {off : Int} : (d.followTime off).canonical :=
  .ite h.put.offer.decideStep h.put.update.showSlew

theorem canonical.heartbeatRx (h : d.canonical) {hb : Heartbeat} : (d.heartbeatRx hb).canonical := by
  unfold Dev.heartbeatRx
  extract_lets _ _ _ d1 _ d2 d3 _ d4 _ d5 _ d6 d7
  have hd1 : d1.canonical := h.update
  have hd2 : d2.canonical := .ite hd1.put (.ite hd1.update hd1)
  have hd3 : d3.canonical := hd2.adoptEpoch
  have hd4 : d4.canonical := .ite hd3.update.followTime hd3
  have hd5 : d5.canonical := .ite hd4.bothActive (.ite hd4.update.askResync (.ite hd4 (.ite hd4.ineligible (.ite hd4.update.ineligible (.ite hd4.ineligible.askResync hd4)))))
  have hd6 : d6.canonical := .ite hd5.update hd5
  have hd7 : d7.canonical := .ite hd6.leaveTest hd6
  exact (canonical.ite hd7 hd7.judgeLedger).showPair

theorem canonical.heartbeatMissed {dv : Dev} (h : dv.canonical) : dv.heartbeatMissed.canonical := by
  unfold Dev.heartbeatMissed
  extract_lets _ d _ d1 _ d2 d3
  have hd : d.canonical := h.update
  have hd1 : d1.canonical := hd.put
  have hd2 : d2.canonical := .ite hd1.update.raise.offer.judgeLedger hd1
  have hd3 : d3.canonical := .ite hd2.becomeUnmirrored hd2
  exact (canonical.ite hd3.leaveTest hd3).showPair

theorem canonical.watchInstance (h : d.canonical) {r : Nat} {f : Option RadioRx} : (d.watchInstance r f).canonical := by
  unfold Dev.watchInstance
  extract_lets d' _ _ d1 d2 d3
  have hd' : d'.canonical := h.setRad
  have hd1 : d1.canonical := hd'.put
  have hd2 : d2.canonical := .ite hd1.put hd1
  have hd3 : d3.canonical := .ite hd2.put.raise.offer hd2
  split
  · exact h
  refine .ite h ?_
  split
  · extract_lets d1' d2' d3'
    have hd1' : d1'.canonical := hd'.setRad.bump.put
    have hd2' : d2'.canonical := .ite hd1'.put hd1'
    have hd3' : d3'.canonical := .ite hd2'.put.offer hd2'
    exact (canonical.ite hd3' hd3'.raise.offer).showPair
  · exact .ite hd' (canonical.ite hd3.leaveTest hd3).showPair

theorem canonical.carry (h : d.canonical) : d.carry.canonical := h.update

theorem canonical.bundleRx (h : d.canonical) {beat : Nat} {recs : List BundleRec} : (d.bundleRx beat recs).canonical := h.update

theorem canonical.control (h : d.canonical) {c : PairCtl} : (d.control c).canonical := by
  unfold Dev.control
  extract_lets d1
  have hd1 : d1.canonical := h.copyDone
  split
  · exact h.put.showBudget
  · exact h.put.showBudget
  · split
    · exact .ite h.enterHold h.ineligible
    · exact h.ineligible
  · split
    · exact .ite hd1.leaveHold hd1.ineligible
    · exact hd1.ineligible
  · split
    · rename_i d1 e0
      have hd1 : d1.canonical := .of_eq (congrArg (·.2) e0) h.checkAPatch
      extract_lets _ _ _ _ d2 d3
      have hd2 : d2.canonical := hd1.update
      have hd3 : d3.canonical := by
        simp only [d3]
        split
        · exact hd2.commit
        · exact hd2
      exact hd3.applyPatch.put.bump.offer.showBudget
    rename_i d1 e0
    have hd1 : d1.canonical := .of_eq (congrArg (·.2) e0) h.checkAPatch
    exact hd1.ineligible
  · exact .ite h.startLoad h.startLoad.ineligible
  · exact h
  · exact .ite h.setEpoch.offer h

theorem canonical.digestMismatch (h : d.canonical) {beat own theirs : Nat} : (d.digestMismatch beat own theirs).canonical :=
  h.bump.raise.offer.ineligible.update.askResync

theorem canonical.resyncDone (h : d.canonical) : d.resyncDone.canonical := by
  unfold Dev.resyncDone
  extract_lets
  split
  · exact h
  · exact .ite h h.update.bump.offer

theorem canonical.replayCommit (h : d.canonical) {b : Nat} : (d.replayCommit b).canonical := h.startSweep.runSweep.commitEngine.update

theorem canonical.replay (h : d.canonical) {b : Bundle} {c : BundleClose} : (d.replay b c).canonical := by
  unfold Dev.replay
  extract_lets _ _ _ d0 d1 _ d2 _ d3 _ d3' d4 d5 d6 _ d7
  have hd0 : d0.canonical := h.update
  have hd1 : d1.canonical := hd0.foldl fun _ _ h1 => h1.control
  have hd2 : d2.canonical := hd1.takeSample
  have hd3 : d3.canonical := .ite hd2.update hd2.ingest
  have hd3' : d3'.canonical := hd3.update
  have hd4 : d4.canonical := .ite hd3' (.ite hd3'.replayCommit hd3'.carry)
  have hd5 : d5.canonical := hd4.foldl fun _ _ h1 => h1.applyPost
  have hd6 : d6.canonical := (canonical.ite hd5.snapBoundary.dropLedgerCommit hd5.snapBoundary.ledgerCommit).foldl fun _ _ h1 => h1.setMark
  have hd7 : d7.canonical := hd6.update.put.put
  exact .ite (.ite hd7.resyncDone hd7.digestMismatch) hd7

theorem canonical.replayAll (h : d.canonical) : d.replayAll.canonical := by
  unfold Dev.replayAll
  refine h.foldl fun x a hx => ?_
  split
  · exact .ite hx.replay hx
  · exact hx

theorem canonical.bundleCloseRx (h : d.canonical) {beat : Nat} {c : BundleClose} : (d.bundleCloseRx beat c).canonical := by
  unfold Dev.bundleCloseRx
  extract_lets d1 _ _ d2 _ d3
  have hd1 : d1.canonical := h.bundleRx
  have hd2 : d2.canonical := hd1.update
  have hd3 : d3.canonical := .ite hd2.replayAll hd2
  refine .ite h ?_
  exact .ite h.update.ineligible.askResync.showPair (canonical.ite hd3.ineligible.askResync hd3).showPair

theorem canonical.pairStart (h : d.canonical) : d.pairStart.canonical := by
  unfold Dev.pairStart
  extract_lets
  split
  · exact (canonical.ite h.update.setEpoch h.update.put).showPair
  · exact h

theorem canonical.handshakeRole (h : d.canonical) {r : Role} : (d.handshakeRole r).canonical := .ite h.takeRole h.update

theorem canonical.helloRx (h : d.canonical) {hb : Heartbeat} {pairId unit : Nat} : (d.helloRx hb pairId unit).canonical := by
  unfold Dev.helloRx
  extract_lets d0 _ found
  have h0 : d0.canonical := h.tieSend
  refine .ite (canonical.ite (.ite h0.adoptEpoch.bothActive h0.adoptEpoch) h0).showPair (canonical.showPair ?_)
  clear_value found
  split
  · exact h0.update.offer.adoptEpoch.handshakeRole.update.askResync
  · exact h0.update.offer.update.adoptEpoch.handshakeRole
  · exact h0.update.offer.handshakeRole.offer
  · exact h0.update.offer.update.handshakeRole.offer

theorem canonical.loadResync (h : d.canonical) {b : Bytes} : (d.loadResync b).canonical :=
  (h.writeN.put.put.foldl fun _ _ hx => .ite hx hx.writeN).recountReported

theorem canonical.sendImage (h : d.canonical) : d.sendImage.canonical := h.tieSend

theorem canonical.resyncChunk (h : d.canonical) {c : ResyncChunk} : (d.resyncChunk c).canonical := by
  unfold Dev.resyncChunk
  extract_lets
  split
  · exact h
  extract_lets _ _ d1 d2 _ d3
  have hd1 : d1.canonical := h.update
  have hd2 : d2.canonical := hd1.loadResync
  have hd3 : d3.canonical := hd2.update
  exact .ite h (.ite hd1 (.ite hd3.replayAll.showPair hd3.showPair))

theorem canonical.witnessHeard (h : d.canonical) {r : LeaseReq} : (d.witnessHeard r).canonical := h.update

theorem canonical.badLease (h : d.canonical) : d.badLease.canonical := h.bump.showPair

theorem canonical.leaseGrant (h : d.canonical) {m : Bytes} : (d.leaseGrant m).canonical := by
  unfold Dev.leaseGrant
  extract_lets
  split
  · exact h.badLease
  extract_lets d1 _ d2 d3 d4
  have hd1 : d1.canonical := h.witnessHeard
  have hd2 : d2.canonical := hd1.update
  have hd3 : d3.canonical := .ite hd2 hd2.pairRecord
  have hd4 : d4.canonical := .ite hd3.becomeUnmirrored hd3
  exact .ite (canonical.ite hd4.replayAll.decideTakeover hd4).showPair (canonical.ite hd1.update hd1).showPair

theorem canonical.askResend (h : d.canonical) : d.askResend.canonical := .ite h.update h

theorem canonical.startResend (h : d.canonical) : d.startResend.canonical := by
  unfold Dev.startResend
  extract_lets _ d1
  have hd1 : d1.canonical := h.update
  refine .ite h ?_
  split
  · exact .ite hd1 hd1.update.put
  · exact hd1

theorem canonical.resendBeat (h : d.canonical) {placed : Nat} : (d.resendBeat placed).canonical := by
  unfold Dev.resendBeat
  extract_lets room step r total
  have hr : r.1.canonical := by
    refine List.foldlRecOn (motive := fun acc : Dev × Nat × Nat => acc.1.canonical) _ _ h fun acc hacc x _ => ?_
    simp only [step]
    split
    · exact hacc
    · split
      · exact hacc.pushItem
      · exact hacc
  exact .ite h (.ite hr.update.put.raise.offer hr.update.put)

theorem canonical.heartbeatDecide (h : d.canonical) : d.heartbeatDecide.canonical :=
  .ite h (.ite h.leaveTest.replayAll.decideTakeover h.leaveTest)

theorem canonical.takeoverBoundary (h : d.canonical) : d.takeoverBoundary.canonical := by
  unfold Dev.takeoverBoundary
  extract_lets
  split
  · exact h.heartbeatDecide
  · exact h.heartbeatDecide
  · exact .ite h.update.handOver h
  · exact h.handOver
  · refine .ite h.update.takeRole.update ?_
    exact .ite h.update (.ite h.replayAll.update (.ite h.becomeActive.update h.update))

theorem canonical.pairBoundary (h : d.canonical) : d.pairBoundary.canonical := by
  unfold Dev.pairBoundary
  extract_lets _ d1 d1' _ d2 _ d3 _ d4 d5
  have hd1 : d1.canonical := .ite h.put h
  have hd1' : d1'.canonical := .ite hd1.becomeUnmirrored hd1
  have hd2 : d2.canonical := hd1'.update.startResend
  have hd3 : d3.canonical := by
    simp only [d3]
    split
    · exact .ite hd2.update.takeRole.replayAll hd2.update.takeRole
    · exact hd2
  have hd4 : d4.canonical := by
    simp only [d4]
    split
    · exact .ite hd3.update hd3.update.setEpoch.offer.mirror
    · exact hd3
  have hd5 : d5.canonical := hd4.takeoverBoundary
  exact .ite h hd5.update.showPair

/-! ### The pair's frames -/

theorem canonical.sendHello (h : d.canonical) {gap : Nat} : (d.sendHello gap).canonical := .ite h h.update.tieSend

/-! ### Firmware and library -/

theorem canonical.setSlot (h : d.canonical) {s : Nat} {b : Bytes} : (d.setSlot s b).canonical := h.update

theorem canonical.showFw (h : d.canonical) : d.showFw.canonical := h.put.putB.put.put.putB.putB.put.put.put.put.put

theorem canonical.fwChunk (h : d.canonical) {p : Bytes} : (d.fwChunk p).canonical := h.setSlot.update.showFw

theorem canonical.fwAbandon (h : d.canonical) : d.fwAbandon.canonical := h.setSlot.update.showFw

theorem canonical.fwChecks (h : d.canonical) {b : Bytes} : (d.fwChecks b).2.canonical := by
  unfold Dev.fwChecks
  extract_lets cosigned digest r
  have hr : r.2.2.canonical := by
    simp only [r]
    split
    · exact h.useKey
    · exact h
  clear_value r
  iterate 7 refine .ite_snd h ?_
  exact .ite_snd hr (.ite_snd hr (.ite_snd hr (.ite_snd hr hr)))

theorem canonical.fwCommitDone (h : d.canonical) : d.fwCommitDone.canonical := by
  unfold Dev.fwCommitDone
  extract_lets _ _ d0
  have hd0 : d0.canonical := h.update
  split
  · exact h
  split
  · rename_i d1 e0
    have hd1 : d1.canonical := .of_eq (congrArg (·.2) e0) hd0.fwChecks
    exact hd1.update.put.put.raise.showFw.offer
  rename_i d1 e0
  have hd1 : d1.canonical := .of_eq (congrArg (·.2) e0) hd0.fwChecks
  exact hd1.update.commit.put.put.raise.showFw.offer

theorem canonical.slotCheckDone (h : d.canonical) : d.slotCheckDone.canonical := h.update.showFw

theorem canonical.activate (h : d.canonical) {e : Envelope} : (d.activate e).dev.canonical := by
  unfold Dev.activate
  extract_lets _ _ _ _ d1
  have hd1 : d1.canonical := h.update
  split
  · exact h
  split
  · exact h
  · exact (canonical.ite hd1.askHandover hd1).showFw

theorem canonical.activateBoundary (h : d.canonical) : d.activateBoundary.canonical := by
  unfold Dev.activateBoundary
  extract_lets
  split
  · exact h
  · exact .ite h h.update.goto

theorem canonical.activateStopped (h : d.canonical) {r : ActRun} {straps : Nat} : (d.activateStopped r straps).canonical :=
  h.announce.stopWrites.commit.update.beginBoot

theorem canonical.showLib (h : d.canonical) : d.showLib.canonical := h.put.put

theorem canonical.libStart (h : d.canonical) {bank op id : Nat} : (d.libStart bank op id).canonical := .ite h (.ite h.put h.update.put)

theorem canonical.libDone (h : d.canonical) {bank : Nat} : (d.libDone bank).canonical := by
  unfold Dev.libDone
  split
  · exact h
  refine .ite h (canonical.showLib (canonical.raise (canonical.put (canonical.put ?_))))
  exact .ite h.update.writeN (.ite h.update (.ite h.update.update.offer h.update.update.offer))

end Dev
end Sys2Proof.Machine
end

section
/-! PROOFS. The canonical form (R26): the boot steps, the boundary and the registers. -/

-- One proof at a time: a side condition left to `decide` waits for every declaration before it, each in a thread of its own.
set_option Elab.async false

namespace Sys2Proof.Machine

namespace Dev

variable {d x y : Dev}

/-! ### The boot steps and the self-test -/

theorem canonical.releaseCores (h : d.canonical) : d.releaseCores.canonical := .ite h.update h

theorem canonical.bringUpLintel (h : d.canonical) : d.bringUpLintel.canonical := by
  unfold Dev.bringUpLintel
  split
  · exact h.applyLinks.applyPins.setSafety.latch.loadKeys
  · exact h

theorem canonical.bootFailsafe (h : d.canonical) {n : Nat} : (d.bootFailsafe n).canonical := by
  unfold Dev.bootFailsafe
  extract_lets _ _ d1 d2 d3
  have hd1 : d1.canonical := h.update.put.offer
  have hd2 : d2.canonical := (canonical.ite hd1.engineReset hd1).goto
  have hd3 : d3.canonical := .ite hd2.bringUpLintel hd2.setSuspended.offer
  exact hd3.startFlush

theorem canonical.stepFailed (h : d.canonical) {n cause : Nat} : (d.stepFailed n cause).canonical :=
  .ite h.noteStep.offer.bootFailsafe h.noteStep.offer.startStep

theorem canonical.stepPower (h : d.canonical) : d.stepPower.canonical := by
  unfold Dev.stepPower
  extract_lets d1 _ _ r
  have hd1 : d1.canonical := h.put.put.put.put
  have hr : r.2.canonical := hd1.rtcTicks
  refine .ite ?_ hd1.update.put.put.offer
  split
  · exact hr.update.put.put
  · exact hd1.update.put.put.offer

theorem canonical.judgeSteps (h : d.canonical) {prev : Nat} {excused : Bool} : (d.judgeSteps prev excused).canonical := by
  unfold Dev.judgeSteps
  refine h.foldl fun x a hx => ?_
  extract_lets
  split
  · exact .ite hx.commit.offer hx
  · exact hx

theorem canonical.stepMount (h : d.canonical) {path : Nat} : (d.stepMount path).canonical := by
  unfold Dev.stepMount
  extract_lets _ _ _ _ _ _ _ d1 d2 d3 d4 d5 _ _ _ _ _ d6 d7 d8 _ d9 _ d10
  have hd1 : d1.canonical := h.update
  have hd2 : d2.canonical := hd1.commit.put.put.put
  have hd3 : d3.canonical := hd2.putB.putB
  have hd4 : d4.canonical := .ite (hd3.foldl fun _ _ h1 => h1.commit) hd3.commit.put
  have hd5 : d5.canonical := hd4.judgeSteps.noteStep
  have hd6 : d6.canonical := hd5.restoreLedger.meterRestore
  have hd7 : d7.canonical := hd6.startRecorder.foldl fun _ _ h1 => h1.offer
  have hd8 : d8.canonical := .ite hd7 hd7.bump.offer
  have hd9 : d9.canonical := .ite hd8.update.offer hd8
  have hd10 : d10.canonical := by
    simp only [d10]
    split
    · exact hd9.update.offer
    · exact hd9
  exact hd10.update

theorem canonical.storeResult (h : d.canonical) {test index result code : Nat} : (d.storeResult test index result code).canonical :=
  h.update

theorem canonical.unitFaults (h : d.canonical) {t : Nat} {units : List Nat} {code : Nat} : (d.unitFaults t units code).canonical :=
  .ite (h.foldl fun _ _ h => h.storeResult.offer) h

theorem canonical.unitMap (h : d.canonical) {quick : List (Nat × Nat)} {discard : Bool} : (d.unitMap quick discard).canonical := by
  unfold Dev.unitMap
  extract_lets _ d1
  have hd1 : d1.canonical := by
    refine h.put.put.foldl fun x a hx1 => ?_
    refine hx1.foldl fun x a hx3 => ?_
    split
    · exact hx3.put
    · exact hx3.put.raise.offer
    · exact hx3.put.put.offer
  exact hd1.put.putB

theorem canonical.storeQuick (h : d.canonical) {quick : List (Nat × Nat)} {discard : Bool} : (d.storeQuick quick discard).canonical :=
  (canonical.ite h.update h).foldl fun _ _ h => .ite h (h.foldl fun _ _ h1 => h1.storeResult)

theorem canonical.checkSettings (h : d.canonical) {schema : Nat} : (d.checkSettings schema).canonical := by
  unfold Dev.checkSettings
  extract_lets
  split
  · exact h
  · exact .ite h h.update.update.offer

theorem canonical.stepFirmware (h : d.canonical) {path : Nat} : (d.stepFirmware path).canonical :=
  (canonical.ite h.commit.raise.offer h).update.checkSettings.showFw.showLib

theorem canonical.loadSlot (h : d.canonical) {s : Nat} {x : CutImage} {patches : List Bytes} {generation : Nat} :
    (d.loadSlot s x patches generation).canonical := by
  unfold Dev.loadSlot
  extract_lets _ d1 _ _ d2 d2' d3
  have hd1 : d1.canonical := h.applyImage.setSafety.latch
  have hd2 : d2.canonical := by
    refine hd1.foldl fun x a hx => ?_
    split
    · exact hx.applyPatch
    · exact hx
  have hd2' : d2'.canonical := .ite hd2 hd2.offer
  have hd3 : d3.canonical := hd2'.put.put
  exact hd3.loadKeys

theorem canonical.announceLoad (h : d.canonical) {unknown : List Nat} {skipped : List (Nat × Nat)} {fallback : Option Fallback} :
    (d.announceLoad unknown skipped fallback).canonical := by
  unfold Dev.announceLoad
  extract_lets d1 d2 d3
  have hd1 : d1.canonical := h.foldl fun _ _ h1 => h1.offer
  have hd2 : d2.canonical := hd1.foldl fun _ _ h1 => h1.offer
  have hd3 : d3.canonical := by
    simp only [d3]
    split
    · exact hd2.offer
    · exact hd2
  exact hd3.update

theorem canonical.noCutList (h : d.canonical) : d.noCutList.canonical := h.update.engineReset

theorem canonical.stepCut (h : d.canonical) {f : Dev.CutFound} : (d.stepCut f).canonical := by
  unfold Dev.stepCut
  split
  · split
    · exact .ite h.loadSlot.announceLoad.commit.offer h.loadSlot.announceLoad
    · exact h.goto
  · exact h.noCutList.setSafety.goto.setSuspended

theorem canonical.stepService (h : d.canonical) : d.stepService.canonical := by
  unfold Dev.stepService
  extract_lets _ _ d1 _ x d2 d3 d4 _ _ d5 d6
  have hd1 : d1.canonical := h.put.put
  have hx : x.canonical := by
    simp only [x]
    split
    · exact .ite hd1.setRole hd1
    · exact hd1
  have hd2 : d2.canonical := .ite hd1.showBudget hx.goto.lightReady.meterStart.showBudget.judgeLedger
  have hd3 : d3.canonical := .ite hd2.fullSnapshot hd2
  have hd4 : d4.canonical := hd3.offer
  have hd5 : d5.canonical := .ite hd4.commit hd4
  have hd6 : d6.canonical := .ite hd5.offer hd5
  split
  · exact hd6.update.raise.showFw.offer
  · exact hd6.showFw

theorem canonical.stepDone (h : d.canonical) {n path : Nat} : (d.stepDone n path).canonical :=
  .ite h.noteStep (.ite h.noteStep.startStep.pairStart h.noteStep.startStep)

theorem canonical.bootStep (h : d.canonical) {quick : List (Nat × Nat)} : (d.bootStep quick).canonical := by
  unfold Dev.bootStep
  refine .ite h ?_
  split
  · exact .ite h.stepPower.stepDone h
  · extract_lets
    split
    · exact h.stepMount.noteStep.bootFailsafe
    · exact h.stepMount.stepDone
  · exact .ite h.offer.bootFailsafe h.loadKeys.stepDone
  · exact .ite h.stepFailed h.storeQuick.unitMap.noteUnits.stepDone
  · exact h.update.noteData.stepDone
  · exact .ite h h.releaseCores.stepFirmware.stepDone
  · split
    · exact h.stepFailed
    · exact h.stepCut.stepDone
  · exact h.noteData.stepDone
  · exact .ite h.setRole.stepDone (.ite h.takeRole.offer.stepDone (.ite h.stepDone h))
  · exact h.stepDone.stepService
  · exact h

theorem canonical.startTests (h : d.canonical) : d.startTests.canonical := by
  unfold Dev.startTests
  extract_lets
  split
  · exact h
  · exact h.update

theorem canonical.enterTest (h : d.canonical) {r : ShutReq} : (d.enterTest r).canonical := h.goto.put.update.startTests

theorem canonical.finishTests (h : d.canonical) {straps : Nat} : (d.finishTests straps).canonical := by
  unfold Dev.finishTests
  extract_lets
  split
  · exact h
  extract_lets d1 d2 x'
  have hd1 : d1.canonical := h.update.put.offer
  have hd2 : d2.canonical := hd1.put.put
  have hx' : x'.canonical := hd2.announce.writeSuppressed.goOff
  exact .ite h (.ite hd2.announce.writeSuppressed.beginBoot hx'.update)

theorem canonical.testFinished (h : d.canonical) {t : Nat} {failed : List Nat} {code straps : Nat} :
    (d.testFinished t failed code straps).canonical := by
  unfold Dev.testFinished
  extract_lets d1
  have hd1 : d1.canonical := h.foldl fun _ _ h1 => h1.storeResult
  split
  · exact h.unitFaults
  · exact .ite h (canonical.ite hd1.update.judgeHoldup hd1.update).startTests.finishTests

theorem canonical.resetCmd (h : d.canonical) {clear : Bool} {chan straps : Nat} : (d.resetCmd clear chan straps).canonical :=
  (canonical.ite (h.endTests.foldl fun _ _ h => h.commit).put.put.offer h.endTests).announce.stopWrites.beginBoot

theorem canonical.stopWritesDone (h : d.canonical) {straps : Nat} : (d.stopWritesDone straps).canonical := by
  unfold Dev.stopWritesDone
  extract_lets _ d0
  have hd0 : d0.canonical := h.update
  split
  · exact .ite hd0 (.ite hd0.stopWrites.enterTest hd0.offer.announce.stopWrites.goOff.update)
  · exact .ite h.activateStopped h
  · exact h

/-! ### The boundary -/

theorem canonical.plainBoundary (h : d.canonical) {base : Nat} : (d.plainBoundary base).canonical :=
  (canonical.ite h.update.put h.update).put.put.showSlew

theorem canonical.stepBoundary (h : d.canonical) {base : Nat} {r : StepReq} : (d.stepBoundary base r).canonical := by
  unfold Dev.stepBoundary
  extract_lets _ _ _ _ _ _ d1 d2 d3 _ d4
  have hd1 : d1.canonical := h.update
  have hd2 : d2.canonical := hd1.put.put.showSlew
  have hd3 : d3.canonical := hd2.offer
  have hd4 : d4.canonical := .ite hd3 hd3.offer
  split
  · exact hd4.setUtc.mapRecord
  · exact hd4.mapRecord

theorem canonical.sourceBoundary (h : d.canonical) : d.sourceBoundary.canonical := by
  unfold Dev.sourceBoundary
  extract_lets
  split
  · exact h
  extract_lets d1 d2
  have hd1 : d1.canonical := h.update.put
  have hd2 : d2.canonical := .ite hd1 hd1.offer
  exact .ite hd2.setQuality hd2

theorem canonical.endBeat (h : d.canonical) : d.endBeat.canonical := by
  unfold Dev.endBeat
  extract_lets d1 d2 x _ d3
  have hd1 : d1.canonical := .ite h h.reportRefused
  have hd2 : d2.canonical := .ite hd1 hd1.offer
  have hx : x.canonical := hd2.newReleases.foldl fun _ _ h1 => h1.offer
  have hd3 : d3.canonical := hx.update
  exact .ite hd3.closeBundle hd3

theorem canonical.startStop (h : d.canonical) : d.startStop.canonical := .ite h.update.goto (.ite h.update.goto.discardPort h.update)

theorem canonical.passesBoundary (h : d.canonical) : d.passesBoundary.canonical := by
  unfold Dev.passesBoundary
  extract_lets
  split
  · exact h
  · exact h.update.put.showBudget.mirror

theorem canonical.engineBoundary (h : d.canonical) : d.engineBoundary.canonical := by
  unfold Dev.engineBoundary
  extract_lets _ d1 _ _ d1' _ d2 d3 x x'
  have hd1 : d1.canonical := h.update
  have hd1' : d1'.canonical := h.mirror
  have hd2 : d2.canonical := hd1'.update
  have hd3 : d3.canonical := hd2.ingest
  have hx : x.canonical := .ite hd3.sendImage hd3
  have hx' : x'.canonical := hx.carry
  exact .ite hd1.mirror (.ite (.ite hd3.startSweep.put hx'.update) h)

theorem canonical.boundary (h : d.canonical) : d.boundary.canonical := by
  unfold Dev.boundary
  extract_lets d0 _ d1 d2 d3 d4 d5 d6 d7 d8 d9 d10
  have hd0 : d0.canonical := h.update.endBeat.put
  have hd1 : d1.canonical := by
    simp only [d1]
    split
    · exact hd0.stepBoundary
    · exact hd0.plainBoundary
  have hd2 : d2.canonical := hd1.raise.put.sourceBoundary
  have hd3 : d3.canonical := .ite hd2.mapRecord hd2
  have hd4 : d4.canonical := hd3.pairBoundary.startStop.passesBoundary
  have hd5 : d5.canonical := hd4.loadBoundary.patchWaits.patchBoundary.activateBoundary
  have hd6 : d6.canonical := hd5.sendHeld.foldl fun _ _ h1 => h1.radioBoundary
  have hd7 : d7.canonical := hd6.foldl fun _ _ h1 => h1.wiredBoundary
  have hd8 : d8.canonical := hd7.lightBoundary.keyBoundary.latch.foldl fun _ _ h1 => h1.wakeStep
  have hd9 : d9.canonical := .ite hd8 hd8.snapBoundary.sampleTime
  have hd10 : d10.canonical := hd9.engineBoundary
  exact (canonical.ite hd10 hd10.ledgerCommit).finishTests

theorem canonical.commitBeat (h : d.canonical) : d.commitBeat.canonical := by
  unfold Dev.commitBeat
  extract_lets _ r _ _ x d1 d2 _ _ d3 d4 _ d5
  have hr : r.1.canonical := h.runSweep.commitEngine
  have hx : x.canonical := hr
  have hd1 : d1.canonical := hx.update
  have hd2 : d2.canonical := hd1.foldl fun _ _ h1 => h1.pushItem
  have hd3 : d3.canonical := .ite hd2.update hd2
  have hd4 : d4.canonical := hd3.resendBeat.closeBundle
  have hd5 : d5.canonical := hd4.put.put.put.raise.put
  exact hd5.ledgerCommit.patchWindow

theorem canonical.overrunBeat (h : d.canonical) {pass : Nat} : (d.overrunBeat pass).canonical := by
  unfold Dev.overrunBeat
  extract_lets _ _ _ d1 d2 _ x _ d3
  have hd1 : d1.canonical := h.runSweep.closeBundle.carry.dropLedgerCommit
  have hd2 : d2.canonical := hd1.bump.put.raise.put.offer
  have hx : x.canonical := hd2.put.raise.offer
  have hd3 : d3.canonical := .ite hd2.put (.ite hx.update.bump hx)
  exact hd3.patchWindow

/-! ### Registers -/

theorem canonical.setLatch (h : d.canonical) {bank key v : Nat} : (d.setLatch bank key v).canonical := h.update

theorem canonical.readLo (h : d.canonical) {bank key : Nat} : (d.readLo bank key).canonical :=
  .ite h (.ite h.fresh.setLatch.setLatch.setLatch h.setLatch)

theorem canonical.writeField (h : d.canonical) {key held v : Nat} {r : FieldRow} : (d.writeField key held v r).canonical := by
  unfold Dev.writeField
  extract_lets
  split
  · exact h.put
  · exact h
  · exact .ite h.put h
  · exact h.put
  · exact h.raiseBits
  · exact .ite h.put h.raise

theorem canonical.fixWritten (h : d.canonical) {p : RegPlace} : (d.fixWritten p).canonical := by
  unfold Dev.fixWritten
  split
  · exact .ite h.put h
  · exact .ite h.put h
  · exact .ite h.put h
  · exact h.put
  · exact h.putB
  · exact h.bmca
  · exact h.bmca
  · exact (canonical.ite h.put h).hlSignals
  · exact (canonical.ite h.put h).hlSignals
  · exact h

theorem canonical.writeTpo (h : d.canonical) {off v : Nat} : (d.writeTpo off v).canonical := h.setTpo

theorem canonical.writeWake (h : d.canonical) {w off v : Nat} : (d.writeWake w off v).canonical := h.setTrk

theorem canonical.applyWrite (h : d.canonical) {bank key v : Nat} : (d.applyWrite bank key v).canonical :=
  .ite (.ite h.put h) (.ite h.writeTpo (.ite h.writeWake (.ite h.update (.ite h.setLedgerBase (.ite (h.foldl fun _ _ h1 =>
    h1.writeField).fixWritten (h.foldl fun _ _ h1 => h1.writeField).fixWritten)))))

theorem canonical.writeReg (h : d.canonical) {bank key v : Nat} : (d.writeReg bank key v).canonical := by
  unfold Dev.writeReg
  extract_lets
  split
  · exact h.stageHi
  split
  · exact h.commitPair
  · exact .ite h.update h.applyWrite

theorem canonical.accessFault (h : d.canonical) {m : Master} {a : Access} : (d.accessFault m a).canonical :=
  (h.when (fun _ h => h.update)).offer

theorem canonical.storeBytes (h : d.canonical) {a : Access} : (d.storeBytes a).canonical := h.writeN

theorem canonical.serWritten (h : d.canonical) {bank lo : Nat} : (d.serWritten bank lo).canonical := h.commitPair

theorem canonical.serialTransfer (h : d.canonical) {bank lo : Nat} : (d.serialTransfer bank lo).canonical := by
  unfold Dev.serialTransfer
  rw [← Dev.serWritten]
  refine .ite h.serWritten.put ?_
  split
  · exact h.serWritten.put
  · exact .ite h.serWritten.put h.serWritten.update.put

theorem canonical.serialDone (h : d.canonical) {timeout : Bool} {data : Bytes} : (d.serialDone timeout data).canonical := by
  unfold Dev.serialDone
  split
  · exact h
  extract_lets late got _ d1
  have h1 : d1.canonical := by
    refine ⟨h.1, ?_⟩
    simp only [d1]
    split
    · exact h.2
    · exact Memory.writeN_wf _ _ _ h.2
  exact h1.put.put

theorem canonical.actOnWrite (h : d.canonical) {key v : Nat} : (d.actOnWrite key v).canonical := by
  unfold Dev.actOnWrite
  extract_lets
  split
  · exact .ite h.tpoArm h.setTpo
  · exact .ite h.setMat h
  · exact .ite h.setMat h
  · exact h

end Dev
end Sys2Proof.Machine
end

section
/-! PROOFS. The canonical form (R26): the commands of the Joist, the host link, the command port, the light outputs, the recorder, the Sill, the
engine and the media. -/

-- One proof at a time: a side condition left to `decide` waits for every declaration before it, each in a thread of its own.
set_option Elab.async false

namespace Sys2Proof.Machine

/-- The state that a command answers has registers and memory in canonical form. -/
def KeepsCanonical (o : Host.Outcome State Fault Refusal) : Prop := ∀ u : State, o = .next u → u.dev.canonical

theorem KeepsCanonical.run {s : State} {f : Dev → Dev} (h : s.dev.canonical) (hf : ∀ d, d.canonical → (f d).canonical) :
    KeepsCanonical (s.run f) := fun u e => by
  cases e
  exact (hf _ h).settleOffers

theorem KeepsCanonical.runAt {s : State} {t : Nat} {f : Dev → Dev} (h : s.dev.canonical) (hf : ∀ d, d.canonical → (f d).canonical) :
    KeepsCanonical (s.runAt t f) := .run h fun _ hd => hf _ hd.atTime

variable {s : State}

/-! ### The Joist -/

theorem execJstPushOpen_canonical (h : s.dev.canonical) {t : Nat} {m : Master} {v : W32} : KeepsCanonical (execJstPushOpen t m v s) :=
  .runAt h fun _ h => (h.dropStage.foldl fun _ _ h => h.put).update.put

theorem execJstPushWord_canonical (h : s.dev.canonical) {t : Nat} {m : Master} {i : Fin 16} {v : W32} :
    KeepsCanonical (execJstPushWord t m i v s) := by
  refine .runAt h fun d h => ?_
  extract_lets _ _ d1
  have hd1 : d1.canonical := h.put
  split
  · exact h
  · exact .ite h (.ite h.put hd1.update)

theorem execJstPushCommit_canonical (h : s.dev.canonical) {t : Nat} {m : Master} : KeepsCanonical (execJstPushCommit t m s) :=
  .runAt h fun _ h => h.pushCommit

theorem execJstPushAbandon_canonical (h : s.dev.canonical) {t : Nat} {m : Master} : KeepsCanonical (execJstPushAbandon t m s) :=
  .runAt h fun _ h => h.dropStage.put

theorem execJstGet_canonical (h : s.dev.canonical) {t : Nat} {m : Master} {irq : Bool} : KeepsCanonical (execJstGet t m irq s) := by
  refine .runAt h fun d h => ?_
  extract_lets
  split
  · exact h.answerIdle
  refine .ite h.answerIdle.raise ?_
  refine .ite h.answerIdle ?_
  refine .ite h.answerIdle ?_
  split
  · rename_i e0
    exact h.takeFor e0
  · exact .ite h h.update

theorem execJstGetDeliver_canonical (h : s.dev.canonical) {t : Nat} : KeepsCanonical (execJstGetDeliver t s) := by
  refine .runAt h fun d h => ?_
  split
  · rename_i e0
    obtain ⟨c, -, e1⟩ := List.exists_of_findSome?_eq_some e0
    obtain ⟨d', e2, e3⟩ := Option.map_eq_some_iff.1 e1
    cases e3
    exact (h.takeFor e2).update
  · exact h

theorem execJstGetInterrupted_canonical (h : s.dev.canonical) {t : Nat} {core : Fin 8} :
    KeepsCanonical (execJstGetInterrupted t core s) :=
  .runAt h fun _ h => .ite h.update.answerIdle h

theorem execJstDone_canonical (h : s.dev.canonical) {t : Nat} {m : Master} {v : W32} : KeepsCanonical (execJstDone t m v s) := by
  refine .runAt h fun d h => ?_
  extract_lets
  split
  · exact h.update.put.put
  · exact h.put.raise.offer

theorem execJstFlush_canonical (h : s.dev.canonical) {t : Nat} {_m : Master} {queue : Fin 64} :
    KeepsCanonical (execJstFlush t _m queue s) :=
  .runAt h fun _ h => .ite h h.flushQueue.put

theorem execJstFlushDone_canonical (h : s.dev.canonical) {t : Nat} : KeepsCanonical (execJstFlushDone t s) :=
  .runAt h fun _ h => .ite h.put.raise.offer h

theorem execJstTmrArm_canonical (h : s.dev.canonical) {t : Nat} {m : Master} : KeepsCanonical (execJstTmrArm t m s) :=
  .runAt h fun _ h => h.armTimer

theorem execJstTmrCancel_canonical (h : s.dev.canonical) {t : Nat} {m : Master} {v : W32} : KeepsCanonical (execJstTmrCancel t m v s) :=
  .runAt h fun _ h => h.cancelTimer

theorem execJstTimerRelease_canonical (h : s.dev.canonical) {t : Nat} : KeepsCanonical (execJstTimerRelease t s) := by
  refine .runAt h fun d h => ?_
  refine .ite h ?_
  split
  · exact h
  · exact .ite h.push.dropTimer.update h.push.bump.raise.update

/-! ### The host link -/

theorem execHlWrite_canonical (h : s.dev.canonical) {t : Nat} {items : List (BitVec 64)} : KeepsCanonical (execHlWrite t items s) :=
  .runAt h fun _ h => h.when (fun _ h => .ite h.update.hlSignals h.update.hlSignals.hlDrop)

theorem execHlRead_canonical (h : s.dev.canonical) {t n : Nat} : KeepsCanonical (execHlRead t n s) :=
  .runAt h fun _ h => h.when (fun _ h => h.update.hlSignals)

theorem execHlMark_canonical (h : s.dev.canonical) {t : Nat} : KeepsCanonical (execHlMark t s) :=
  .runAt h fun _ h => h.when (fun _ h => h.update)

theorem execHlRewind_canonical (h : s.dev.canonical) {t : Nat} : KeepsCanonical (execHlRewind t s) :=
  .runAt h fun _ h => h.when (fun _ h => h.update.hlSignals)

theorem execHlRelease_canonical (h : s.dev.canonical) {t n : Nat} : KeepsCanonical (execHlRelease t n s) :=
  .runAt h fun _ h => h.when (fun _ h => .ite h h.update.hlSignals.raise)

theorem execHlStatus_canonical (h : s.dev.canonical) {t : Nat} : KeepsCanonical (execHlStatus t s) :=
  .runAt h fun _ h => h.when (fun _ h => h.update)

theorem execBadCommand_canonical (h : s.dev.canonical) {t command : Nat} : KeepsCanonical (execBadCommand t command s) :=
  .runAt h fun _ h => h.when (fun _ h => h.bump.raise.offer)

theorem execHlDownFrame_canonical (h : s.dev.canonical) {t : Nat} : KeepsCanonical (execHlDownFrame t s) := by
  refine .runAt h fun d h => ?_
  extract_lets
  split
  · exact h
  split
  · exact h.update.hlSignals.hlDrop
  extract_lets r
  have hr : r.1.canonical := h.push
  refine .ite h ?_
  refine .ite h.update.update.hlSignals ?_
  exact .ite h.update.hlSignals.hlDrop (.ite hr (.ite hr.update.hlSignals hr.update.hlSignals.hlDrop))

theorem execHlUpData_canonical (h : s.dev.canonical) {t : Nat} {m : Master} {v : W32} : KeepsCanonical (execHlUpData t m v s) :=
  .runAt h fun _ h => .ite h.stageHi h.stageHi.update

theorem execHlUpCommit_canonical (h : s.dev.canonical) {t : Nat} {m : Master} : KeepsCanonical (execHlUpCommit t m s) := by
  refine .runAt h fun d h => ?_
  extract_lets _ _ _ d0
  have hd0 : d0.canonical := h.update
  refine .ite h.put ?_
  split
  · rename_i e0
    exact (hd0.upAppend e0).put
  · exact hd0.put

theorem execHlUpAbandon_canonical (h : s.dev.canonical) {t : Nat} {m : Master} : KeepsCanonical (execHlUpAbandon t m s) :=
  .runAt h fun _ h => h.update

theorem execHlUpTimeout_canonical (h : s.dev.canonical) {t : Nat} : KeepsCanonical (execHlUpTimeout t s) :=
  .runAt h fun _ h => .ite h h.update.hlSignals

theorem execUsbAttached_canonical (h : s.dev.canonical) {t : Nat} {attached : Bool} : KeepsCanonical (execUsbAttached t attached s) :=
  .runAt h fun _ h => h.update.usbShow

theorem execUsbSuspend_canonical (h : s.dev.canonical) {t : Nat} {suspended : Bool} : KeepsCanonical (execUsbSuspend t suspended s) :=
  .runAt h fun _ h => .ite h.putB h

/-! ### The command port and the module's states -/

theorem specGetStatus_canonical : specGetStatus.KeepsCanonical := fun _ _ h => h

theorem execGetStatus_canonical (h : s.dev.canonical) {t : Nat} {e : Envelope} : KeepsCanonical (execGetStatus t e s) :=
  .runAt h fun _ h => h.command specGetStatus_canonical

theorem specStart_canonical : specStart.KeepsCanonical := fun _ _ h => h.update

theorem execStart_canonical (h : s.dev.canonical) {t : Nat} {e : Envelope} : KeepsCanonical (execStart t e s) :=
  .runAt h fun _ h => h.command specStart_canonical

theorem specStop_canonical : specStop.KeepsCanonical := fun _ _ h => h.update

theorem execStop_canonical (h : s.dev.canonical) {t : Nat} {e : Envelope} : KeepsCanonical (execStop t e s) :=
  .runAt h fun _ h => h.command specStop_canonical

theorem specSetPasses_canonical : specSetPasses.KeepsCanonical := fun _ _ h => h.update.offer

theorem execSetPasses_canonical (h : s.dev.canonical) {t : Nat} {e : Envelope} : KeepsCanonical (execSetPasses t e s) :=
  .runAt h fun _ h => h.command specSetPasses_canonical

theorem specUndefined_canonical {code : Nat} : (specUndefined code).KeepsCanonical := fun _ _ h => h

theorem execCodeNotDefined_canonical (h : s.dev.canonical) {t code : Nat} {e : Envelope} :
    KeepsCanonical (execCodeNotDefined t code e s) :=
  .runAt h fun _ h => h.command specUndefined_canonical

/-! ### The light outputs -/

theorem execStringFrame_canonical (h : s.dev.canonical) {t : Nat} {mv : List (List Nat)} : KeepsCanonical (execStringFrame t mv s) := by
  refine .runAt h fun d h => ?_
  extract_lets _ _ d1
  have hd1 : d1.canonical := h.update
  exact .ite h (.ite hd1 (.ite hd1.update (hd1.foldl fun _ _ h1 => h1.stringFrame)))

theorem execMatrixFrame_canonical (h : s.dev.canonical) {t : Nat} : KeepsCanonical (execMatrixFrame t s) :=
  .runAt h fun _ h => .ite h (.ite h.update (.ite h.update.update h.update.matrixFrame.matrixFrame))

theorem execNtcRead_canonical (h : s.dev.canonical) {t : Nat} {n : Fin 4} {temp : Int} : KeepsCanonical (execNtcRead t n temp s) := by
  refine .runAt h fun d h => ?_
  extract_lets d0 d1 d2
  have hd0 : d0.canonical := h.put
  have hd1 : d1.canonical := hd0.put.put
  have hd2 : d2.canonical := .ite hd1 hd1.raise.offer
  split
  · exact h
  · exact .ite hd2.noteDerating hd0.update.put.put.noteDerating

theorem execNeighbourShort_canonical (h : s.dev.canonical) {t : Nat} {k : Fin 2} {pairs : List (Nat × Nat)} :
    KeepsCanonical (execNeighbourShort t k pairs s) :=
  .runAt h fun _ h => h.setMat.foldl fun _ _ h => h.holdLand.holdLand.raise.offer

theorem execLampReturned_canonical (h : s.dev.canonical) {t : Nat} {_m : Master} {v : W32} :
    KeepsCanonical (execLampReturned t _m v s) :=
  .runAt h fun _ h => h.update.foldl fun _ _ h => h.returnLamp

theorem execStrLevelWrite_canonical (h : s.dev.canonical) {t : Nat} {_m : Master} {v : W32} :
    KeepsCanonical (execStrLevelWrite t _m v s) :=
  .runAt h fun _ h => .ite h h.setStr

theorem execSignPixWrite_canonical (h : s.dev.canonical) {t : Nat} {_m : Master} {k : Fin 2} {i : Fin 128} {v : W32} :
    KeepsCanonical (execSignPixWrite t _m k i v s) :=
  .runAt h fun _ h => h.setMat

theorem execSignFlip_canonical (h : s.dev.canonical) {t : Nat} {_m : Master} {k : Fin 2} : KeepsCanonical (execSignFlip t _m k s) :=
  .runAt h fun _ h => h.setMat

/-! ### The event recorder -/

theorem specReadEvents_canonical : specReadEvents.KeepsCanonical := fun _ _ h => h

theorem execReadEvents_canonical (h : s.dev.canonical) {t : Nat} {e : Envelope} : KeepsCanonical (execReadEvents t e s) :=
  .runAt h fun _ h => h.command specReadEvents_canonical

theorem execRateTokenTick_canonical (h : s.dev.canonical) {t : Nat} : KeepsCanonical (execRateTokenTick t s) :=
  .runAt h fun _ h => h.update

theorem execSuppressed_canonical (h : s.dev.canonical) {t code : Nat} : KeepsCanonical (execSuppressed t code s) := by
  refine .runAt h fun d h => ?_
  extract_lets
  split
  · exact h
  · exact .ite h h.update.offer

theorem execEvrFlushTimer_canonical (h : s.dev.canonical) {t : Nat} : KeepsCanonical (execEvrFlushTimer t s) :=
  .runAt h fun _ h => .ite h.startFlush h

theorem execEvrFlush_canonical (h : s.dev.canonical) {t : Nat} {_m : Master} : KeepsCanonical (execEvrFlush t _m s) :=
  .runAt h fun _ h => .ite h.startFlush h

theorem execEvrRdSeq_canonical (h : s.dev.canonical) {t : Nat} {_m : Master} {v : W32} : KeepsCanonical (execEvrRdSeq t _m v s) := by
  refine .runAt h fun d h => ?_
  extract_lets d1
  have hd1 : d1.canonical := h.put
  refine .ite hd1.put ?_
  split
  · exact hd1.put
  · exact (hd1.foldl fun _ _ h2 => h2.put).put

/-! ### The Sill -/

theorem execAddEnergy_canonical (h : s.dev.canonical) {t : Nat} {m : Master} : KeepsCanonical (execAddEnergy t m s) :=
  .runAt h fun _ h => h.post

theorem execAddRun_canonical (h : s.dev.canonical) {t : Nat} {m : Master} : KeepsCanonical (execAddRun t m s) :=
  .runAt h fun _ h => h.post

theorem execSetCredit_canonical (h : s.dev.canonical) {t : Nat} {m : Master} : KeepsCanonical (execSetCredit t m s) :=
  .runAt h fun _ h => h.post

theorem execSilJwWrite_canonical (h : s.dev.canonical) {t : Nat} {m : Master} {v : W32} : KeepsCanonical (execSilJwWrite t m v s) :=
  .runAt h fun _ h => .ite h.put h.put.journal

theorem execScrubBlock_canonical (h : s.dev.canonical) {t : Nat} {corrected bad : List Nat} :
    KeepsCanonical (execScrubBlock t corrected bad s) := by
  refine .runAt h fun d h => ?_
  extract_lets _ _ _ d1 d2 d3
  have hd1 : d1.canonical := h.update
  have hd2 : d2.canonical := hd1.bump.bump.put
  have hd3 : d3.canonical := (hd2.foldl fun _ _ h1 => h1.spoilLine).foldl fun _ _ h1 =>
    .ite h1.update.offer
      (.ite (Dev.canonical.ite h1.put.bump.raise.offer.put.offer h1.put.bump.raise.offer).offer
        (.ite h1.put.bump.raise.offer.put.offer h1.put.bump.raise.offer))
  exact .ite h (.ite hd3.put hd3.update.put.put.offer)

theorem execNandRefresh_canonical (h : s.dev.canonical) {t part block : Nat} {retired : Bool} :
    KeepsCanonical (execNandRefresh t part block retired s) :=
  .runAt h fun _ h => .ite h h.bump.put.raise.offer

/-! ### The engine -/

theorem execRftIngestW0_canonical (h : s.dev.canonical) {t : Nat} {m : Master} {v : W32} : KeepsCanonical (execRftIngestW0 t m v s) :=
  .runAt h fun _ h => h.setIngest

theorem execRftIngestWord_canonical (h : s.dev.canonical) {t : Nat} {m : Master} {i : Fin 2} {v : W32} :
    KeepsCanonical (execRftIngestWord t m i v s) := by
  refine .runAt h fun d h => ?_
  split
  · exact h.setIngest
  · exact h

theorem execRftIngestCommit_canonical (h : s.dev.canonical) {t : Nat} {m : Master} {v : W32} :
    KeepsCanonical (execRftIngestCommit t m v s) := by
  refine .runAt h fun d h => ?_
  split
  · exact h.setIngest.ingestCommit
  · exact h

theorem execRftBattenSel_canonical (h : s.dev.canonical) {t : Nat} {_m : Master} {v : W32} :
    KeepsCanonical (execRftBattenSel t _m v s) := by
  refine .runAt h fun d h => ?_
  extract_lets _ d1
  have hd1 : d1.canonical := h.put
  split
  · exact hd1.put.put.put
  · exact hd1.put.put.put

theorem execRftSpeedSel_canonical (h : s.dev.canonical) {t : Nat} {_m : Master} {v : W32} : KeepsCanonical (execRftSpeedSel t _m v s) :=
  .runAt h fun _ h => h.put.put.put

theorem execC1Expired_canonical (h : s.dev.canonical) {t scope id : Nat} : KeepsCanonical (execC1Expired t scope id s) :=
  .runAt h fun _ h => .ite h.c1Remove.c1ClearedEvent h

theorem execRefreshDue_canonical (h : s.dev.canonical) {t eid : Nat} : KeepsCanonical (execRefreshDue t eid s) :=
  .runAt h fun _ h => h.setNode

theorem execWaveHoldExpired_canonical (h : s.dev.canonical) {t eid : Nat} : KeepsCanonical (execWaveHoldExpired t eid s) :=
  .runAt h fun _ h => Dev.reevaluate_canonical h

theorem execEdgeDelayElapsed_canonical (h : s.dev.canonical) {t eid _j : Nat} : KeepsCanonical (execEdgeDelayElapsed t eid _j s) :=
  .runAt h fun _ h => Dev.reevaluate_canonical h

theorem execDaylightStale_canonical (h : s.dev.canonical) {t _eid : Nat} : KeepsCanonical (execDaylightStale t _eid s) :=
  .runAt h fun _ h => h

/-! ### Radios -/

theorem execRadLinkOpen_canonical (h : s.dev.canonical) {t : Nat} {r : Fin 4} {m : Master} : KeepsCanonical (execRadLinkOpen t r m s) :=
  .runAt h fun _ h => h.openLink

theorem execRadLinkClose_canonical (h : s.dev.canonical) {t : Nat} {r : Fin 4} {m : Master} {report : Bool} :
    KeepsCanonical (execRadLinkClose t r m report s) :=
  .runAt h fun _ h => h.closeOp

theorem execRadLinkResume_canonical (h : s.dev.canonical) {t : Nat} {r : Fin 4} {m : Master} :
    KeepsCanonical (execRadLinkResume t r m s) :=
  .runAt h fun _ h => h.openLink

theorem execLinkEvent_canonical (h : s.dev.canonical) {t : Nat} {r : Fin 4} {link : Nat} : KeepsCanonical (execLinkEvent t r link s) :=
  .runAt h fun _ h => h.linkEvent

theorem execLinkEventEnd_canonical (h : s.dev.canonical) {t : Nat} {r : Fin 4} {link : Nat} :
    KeepsCanonical (execLinkEventEnd t r link s) :=
  .runAt h fun _ h => .ite h.endEvent h

theorem execLinkAnswerTimeout_canonical (h : s.dev.canonical) {t : Nat} {r : Fin 4} {link : Nat} :
    KeepsCanonical (execLinkAnswerTimeout t r link s) := by
  refine .runAt h fun d h => ?_
  split
  · exact .ite h.endEvent h
  · exact h

theorem execDwellBinAdvance_canonical (h : s.dev.canonical) {t : Nat} {r : Fin 4} {kind index : Nat} :
    KeepsCanonical (execDwellBinAdvance t r kind index s) :=
  .runAt h fun _ h => h.setRad

theorem execLinkSupervisionTimeout_canonical (h : s.dev.canonical) {t : Nat} {medium : Fin 14} {link : Nat} :
    KeepsCanonical (execLinkSupervisionTimeout t medium link s) := by
  refine .runAt h fun d h => ?_
  split
  · exact .ite h.loseLink h
  · exact h

theorem execRadioFrameRx_canonical (h : s.dev.canonical) {t : Nat} {r : Fin 4} {f : RadioRx} :
    KeepsCanonical (execRadioFrameRx t r f s) :=
  .runAt h fun _ h => h.radioRx

theorem execBeaconTx_canonical (h : s.dev.canonical) {t : Nat} {r : Fin 4} : KeepsCanonical (execBeaconTx t r s) :=
  .runAt h fun _ h => h.beacon

theorem execWake_canonical (h : s.dev.canonical) {t : Nat} {r : Fin 4} {addr rssi : Nat} :
    KeepsCanonical (execWake t r addr rssi s) := by
  refine .runAt h fun d h => ?_
  split
  · exact h
  · exact .ite h (.ite h.setRad.cnt.offer.deliverRx.raise h.setRad.cnt.offer.deliverRx.cnt)

theorem execWakeHoldExpired_canonical (h : s.dev.canonical) {t : Nat} {r : Fin 4} : KeepsCanonical (execWakeHoldExpired t r s) :=
  .runAt h fun _ h => h.setRad

/-! ### Wired ports -/

theorem execTrkLinkOpen_canonical (h : s.dev.canonical) {t : Nat} {p : Fin 10} {m : Master} :
    KeepsCanonical (execTrkLinkOpen t p m s) :=
  .runAt h fun _ h => h.openLink

theorem execTrkLinkClose_canonical (h : s.dev.canonical) {t : Nat} {p : Fin 10} {m : Master} {report : Bool} :
    KeepsCanonical (execTrkLinkClose t p m report s) :=
  .runAt h fun _ h => h.closeOp

theorem execTrkLinkResume_canonical (h : s.dev.canonical) {t : Nat} {p : Fin 10} {m : Master} :
    KeepsCanonical (execTrkLinkResume t p m s) :=
  .runAt h fun _ h => h.openLink

theorem execTxItemTake_canonical (h : s.dev.canonical) {t : Nat} {medium : Fin 14} : KeepsCanonical (execTxItemTake t medium s) :=
  .runAt h fun _ h => .ite h.takeRadio h.takeWired

theorem execWiredFrameRx_canonical (h : s.dev.canonical) {t : Nat} {p : Fin 10} {f : WiredRx} :
    KeepsCanonical (execWiredFrameRx t p f s) :=
  .runAt h fun _ h => h.wiredRx

theorem execPlcaCycleEnd_canonical (h : s.dev.canonical) {t : Nat} {p : Fin 8} {us : Nat} :
    KeepsCanonical (execPlcaCycleEnd t p us s) :=
  .runAt h fun _ h => .ite h (.ite h.put.setTrk h.put)

theorem execTxOpportunity_canonical (h : s.dev.canonical) {t : Nat} {p : Fin 10} : KeepsCanonical (execTxOpportunity t p s) :=
  .runAt h fun _ h => h.opportunity

theorem execPlcaConflict_canonical (h : s.dev.canonical) {t : Nat} {p : Fin 8} {src : Nat} :
    KeepsCanonical (execPlcaConflict t p src s) :=
  .runAt h fun _ h => .ite h.raise.raise.offer h

theorem execPlcaStandin_canonical (h : s.dev.canonical) {t : Nat} {p : Fin 8} : KeepsCanonical (execPlcaStandin t p s) :=
  .runAt h fun _ h => .ite h h.sendC0.setTrk.put.offer

theorem execWiredAckTimeout_canonical (h : s.dev.canonical) {t : Nat} {p : Fin 10} {link : Nat} :
    KeepsCanonical (execWiredAckTimeout t p link s) := by
  refine .runAt h fun d h => ?_
  split
  · exact h
  · exact .ite h (.ite h.loseLink h.rewind)

theorem execKeepalive_canonical (h : s.dev.canonical) {t : Nat} {p : Fin 10} {link : Nat} :
    KeepsCanonical (execKeepalive t p link s) := by
  refine .runAt h fun d h => ?_
  split
  · exact h
  · exact .ite h h.updLink

theorem execGateEntry_canonical (h : s.dev.canonical) {t : Nat} {p : Fin 10} {entry : Nat} :
    KeepsCanonical (execGateEntry t p entry s) :=
  .runAt h fun _ h => .ite h.gateEnter h

theorem execPortLink_canonical (h : s.dev.canonical) {t : Nat} {p : Fin 2} {up : Bool} {speed : Nat} :
    KeepsCanonical (execPortLink t p up speed s) :=
  .runAt h fun _ h => .ite h.putB.put h.putB.put.raise.offer

theorem execPauseRx_canonical (h : s.dev.canonical) {t : Nat} {p : Fin 10} {quanta : Nat} : KeepsCanonical (execPauseRx t p quanta s) :=
  .runAt h fun _ h => h.pauseRx

theorem execPauseExpired_canonical (h : s.dev.canonical) {t : Nat} {p : Fin 10} : KeepsCanonical (execPauseExpired t p s) :=
  .runAt h fun _ h => .ite h.endPause h

theorem execPfcRx_canonical (h : s.dev.canonical) {t : Nat} {p : Fin 10} {enabled : Nat} {quanta : List Nat} :
    KeepsCanonical (execPfcRx t p enabled quanta s) :=
  .runAt h fun _ h => h.pfcRx

theorem execRawSlotFree_canonical (h : s.dev.canonical) {t : Nat} {p : Fin 2} {v : W32} : KeepsCanonical (execRawSlotFree t p v s) :=
  .runAt h fun _ h => h.setTrk.put

theorem execRawCfgWrite_canonical (h : s.dev.canonical) {t : Nat} {p : Fin 2} {v : W32} : KeepsCanonical (execRawCfgWrite t p v s) :=
  .runAt h fun _ h => h.setTrk.put.put

theorem execMdioCmd_canonical (h : s.dev.canonical) {t : Nat} {v : W32} : KeepsCanonical (execMdioCmd t v s) :=
  .runAt h fun _ h => .ite h (.ite h.put.put.setTrk.put h.put.put)

theorem execMdioDone_canonical (h : s.dev.canonical) {t data : Nat} : KeepsCanonical (execMdioDone t data s) :=
  .runAt h fun _ h => .ite h (.ite h.put.put h.put)

theorem execLastByteSent_canonical (h : s.dev.canonical) {t : Nat} {p : Fin 10} : KeepsCanonical (execLastByteSent t p s) := by
  refine .runAt h fun d h => ?_
  extract_lets d1
  have hd1 : d1.canonical := h.setTrk
  split
  · exact h
  extract_lets d2
  have hd2 : d2.canonical := by
    simp only [d2]
    split
    · exact hd1.endService
    · exact hd1
  split
  · exact hd2.beginPause
  · exact hd2

theorem execTimedLaunch_canonical (h : s.dev.canonical) {t : Nat} {port : Fin 10} : KeepsCanonical (execTimedLaunch t port s) := by
  refine .runAt h fun d h => ?_
  split
  · exact h
  · exact .ite h h.startRaw

/-! ### The Lintel -/

theorem specClass0_canonical : specClass0.KeepsCanonical := fun _ _ h => h.class0

theorem execClass0Activate_canonical (h : s.dev.canonical) {t : Nat} {e : Envelope} : KeepsCanonical (execClass0Activate t e s) :=
  .runAt h fun _ h => h.command specClass0_canonical

theorem execClass0Release_canonical (h : s.dev.canonical) {t : Nat} {e : Envelope} : KeepsCanonical (execClass0Release t e s) :=
  .runAt h fun _ h => h.command specClass0_canonical

theorem execC0Refresh_canonical (h : s.dev.canonical) {t index : Nat} : KeepsCanonical (execC0Refresh t index s) := by
  refine .runAt h fun d h => ?_
  split
  · exact h
  · exact .ite h h.loadFrame.update

theorem execEmgEdge_canonical (h : s.dev.canonical) {t : Nat} {b active : Bool} : KeepsCanonical (execEmgEdge t b active s) :=
  .runAt h fun _ h => h.emgEdge

theorem execEmgDisagree_canonical (h : s.dev.canonical) {t ms : Nat} : KeepsCanonical (execEmgDisagree t ms s) :=
  .runAt h fun _ h => .ite h h.update.raise.offer

end Sys2Proof.Machine
end

section
/-! PROOFS. The canonical form (R26): the commands of the meters, the vault, the Cut List, time, the supply, the pair, the firmware, the boot steps,
the boundary and the registers. -/

-- One proof at a time: a side condition left to `decide` waits for every declaration before it, each in a thread of its own.
set_option Elab.async false

namespace Sys2Proof.Machine

variable {s : State}

/-! ### The meters -/

theorem execMeterCycleEnd_canonical (h : s.dev.canonical) {t : Nat} {c : Fin 4} {x : MeterCycle} :
    KeepsCanonical (execMeterCycleEnd t c x s) :=
  .runAt h fun _ h => h.meterCycle

theorem execNoZc_canonical (h : s.dev.canonical) {t : Nat} {c : Fin 4} : KeepsCanonical (execNoZc t c s) :=
  .runAt h fun _ h => .ite h.put h

theorem execPulseEmit_canonical (h : s.dev.canonical) {t : Nat} {n : Fin 2} : KeepsCanonical (execPulseEmit t n s) :=
  .runAt h fun _ h => .ite h h.update.put.showPulses

theorem execPulseEnd_canonical (h : s.dev.canonical) {t : Nat} {n : Fin 2} : KeepsCanonical (execPulseEnd t n s) :=
  .runAt h fun _ h => .ite h h.put

theorem execS0Pulse_canonical (h : s.dev.canonical) {t : Nat} {c : Fin 4} : KeepsCanonical (execS0Pulse t c s) :=
  .runAt h fun _ h => .ite h h.setCh

theorem execReconIntervalEnd_canonical (h : s.dev.canonical) {t : Nat} {c : Fin 4} : KeepsCanonical (execReconIntervalEnd t c s) :=
  .runAt h fun _ h => .ite h h.closeInterval

theorem execAccSave_canonical (h : s.dev.canonical) {t : Nat} : KeepsCanonical (execAccSave t s) :=
  .runAt h fun _ h => .ite h h.update.journal

theorem execMtrFastRead_canonical (h : s.dev.canonical) {t : Nat} {m : Master} {c : Fin 4} : KeepsCanonical (execMtrFastRead t m c s) :=
  .runAt h fun _ h => .ite h.update h.update.raiseBits

theorem execArcFetch_canonical (h : s.dev.canonical) {t : Nat} {m : Master} {v : W32} : KeepsCanonical (execArcFetch t m v s) :=
  .runAt h fun _ h => h.commitPair.put

theorem execArcFetchDone_canonical (h : s.dev.canonical) {t : Nat} : KeepsCanonical (execArcFetchDone t s) := by
  refine .runAt h fun d h => ?_
  extract_lets _ d1
  have hd1 : d1.canonical := h.put.raise
  refine .ite h ?_
  split
  · exact hd1.put
  · exact (hd1.foldl fun _ _ h2 => h2.put).put

theorem specMeterSnapshot_canonical : specMeterSnapshot.KeepsCanonical := fun _ _ h => h

theorem execMeterSnapshot_canonical (h : s.dev.canonical) {t : Nat} {e : Envelope} : KeepsCanonical (execMeterSnapshot t e s) :=
  .runAt h fun _ h => h.command specMeterSnapshot_canonical

/-! ### The vault -/

theorem specKeyUpdate_canonical : specKeyUpdate.KeepsCanonical := fun _ _ h => h.keyUpdate

theorem execKeyUpdateImport_canonical (h : s.dev.canonical) {t : Nat} {e : Envelope} : KeepsCanonical (execKeyUpdateImport t e s) :=
  .runAt h fun _ h => h.command specKeyUpdate_canonical

theorem execKeyUpdateDerive_canonical (h : s.dev.canonical) {t : Nat} {e : Envelope} : KeepsCanonical (execKeyUpdateDerive t e s) :=
  .runAt h fun _ h => h.command specKeyUpdate_canonical

theorem execKeyUpdateLifecycle_canonical (h : s.dev.canonical) {t : Nat} {e : Envelope} :
    KeepsCanonical (execKeyUpdateLifecycle t e s) :=
  .runAt h fun _ h => h.command specKeyUpdate_canonical

theorem specKeyInvalidate_canonical : specKeyInvalidate.KeepsCanonical := fun _ _ h => h.keyInvalidate

theorem execKeyInvalidate_canonical (h : s.dev.canonical) {t : Nat} {e : Envelope} : KeepsCanonical (execKeyInvalidate t e s) :=
  .runAt h fun _ h => h.command specKeyInvalidate_canonical

theorem execKeyUpdateDone_canonical (h : s.dev.canonical) {t : Nat} : KeepsCanonical (execKeyUpdateDone t s) := by
  refine .runAt h fun d h => ?_
  extract_lets
  split
  · exact h
  extract_lets d1
  have hd1 : d1.canonical := h.update
  split
  · rename_i d2 _ e0
    have hd2 : d2.canonical := .of_eq (congrArg (·.1) e0) hd1.commitBlob
    exact .ite hd2.offer hd2.offer

theorem execKeyOpGcmEncrypt_canonical (h : s.dev.canonical) {t : Nat} {m : Master} {secure : Bool} {lo : W32} :
    KeepsCanonical (execKeyOpGcmEncrypt t m secure lo s) :=
  .runAt h fun _ h => h.keyOp

theorem execKeyOpGcmDecrypt_canonical (h : s.dev.canonical) {t : Nat} {m : Master} {secure : Bool} {lo : W32} :
    KeepsCanonical (execKeyOpGcmDecrypt t m secure lo s) :=
  .runAt h fun _ h => h.keyOp

theorem execKeyOpHmac_canonical (h : s.dev.canonical) {t : Nat} {m : Master} {secure : Bool} {lo : W32} :
    KeepsCanonical (execKeyOpHmac t m secure lo s) :=
  .runAt h fun _ h => h.keyOp

theorem execKeyOpEcdsaSign_canonical (h : s.dev.canonical) {t : Nat} {m : Master} {secure : Bool} {lo : W32} :
    KeepsCanonical (execKeyOpEcdsaSign t m secure lo s) :=
  .runAt h fun _ h => h.keyOp

theorem execKeyOpEcdsaVerify_canonical (h : s.dev.canonical) {t : Nat} {m : Master} {secure : Bool} {lo : W32} :
    KeepsCanonical (execKeyOpEcdsaVerify t m secure lo s) :=
  .runAt h fun _ h => h.keyOp

theorem execKeyOpSha256_canonical (h : s.dev.canonical) {t : Nat} {m : Master} {secure : Bool} {lo : W32} :
    KeepsCanonical (execKeyOpSha256 t m secure lo s) :=
  .runAt h fun _ h => h.keyOp

theorem execKeyOpDone_canonical (h : s.dev.canonical) {t bank : Nat} : KeepsCanonical (execKeyOpDone t bank s) :=
  .runAt h fun _ h => h.keyOpDone

/-! ### The Cut List -/

theorem specCutStage_canonical : specCutStage.KeepsCanonical := fun _ _ h => h.cutStage

theorem execCutStage_canonical (h : s.dev.canonical) {t : Nat} {e : Envelope} : KeepsCanonical (execCutStage t e s) :=
  .runAt h fun _ h => h.command specCutStage_canonical

theorem specCutLoad_canonical : specCutLoad.KeepsCanonical := fun _ _ h => h.startLoad

theorem execCutLoad_canonical (h : s.dev.canonical) {t : Nat} {e : Envelope} : KeepsCanonical (execCutLoad t e s) :=
  .runAt h fun _ h => h.command specCutLoad_canonical

theorem specCutPatch_canonical : specCutPatch.KeepsCanonical := fun _ _ h => h.startPatch

theorem execCutPatch_canonical (h : s.dev.canonical) {t : Nat} {e : Envelope} : KeepsCanonical (execCutPatch t e s) :=
  .runAt h fun _ h => h.command specCutPatch_canonical

theorem execCutLoadStored_canonical (h : s.dev.canonical) {t : Nat} {good : Bool} : KeepsCanonical (execCutLoadStored t good s) := by
  refine .runAt h fun d h => ?_
  extract_lets
  split
  · extract_lets _ d1 d2 d3 d4
    have hd1 : d1.canonical := h.update
    have hd2 : d2.canonical := hd1.cutPassed.foldl fun _ _ h3 => h3.offer
    have hd3 : d3.canonical := hd2.foldl fun _ _ h3 => h3.offer
    have hd4 : d4.canonical := by
      simp only [d4]
      split
      · exact hd3.offer
      · exact hd3
    exact .ite h (.ite h.update.put.cutRefused hd4.put.mirror)
  · exact h

theorem execCutCopyDone_canonical (h : s.dev.canonical) {t : Nat} : KeepsCanonical (execCutCopyDone t s) :=
  .runAt h fun _ h => h.copyDone

theorem execPatchReady_canonical (h : s.dev.canonical) {t : Nat} {good : Bool} : KeepsCanonical (execPatchReady t good s) := by
  refine .runAt h fun d h => ?_
  extract_lets
  split
  · extract_lets d1
    have hd1 : d1.canonical := h.update.put.cutRefused
    exact .ite h (.ite h.patchReady (.ite hd1 hd1.answerPatch))
  · exact h

theorem specOverrideC1_canonical : specOverrideC1.KeepsCanonical := fun _ _ h => h.overrideC1

theorem execOverrideC1Set_canonical (h : s.dev.canonical) {t : Nat} {e : Envelope} : KeepsCanonical (execOverrideC1Set t e s) :=
  .runAt h fun _ h => h.command specOverrideC1_canonical

theorem execOverrideC1Clear_canonical (h : s.dev.canonical) {t : Nat} {e : Envelope} : KeepsCanonical (execOverrideC1Clear t e s) :=
  .runAt h fun _ h => h.command specOverrideC1_canonical

/-! ### Time -/

theorem specTimeSet_canonical : specTimeSet.KeepsCanonical := fun _ _ h => h.timeSet

theorem specForceTime_canonical : specForceTime.KeepsCanonical := fun _ _ h => h.forceTime

theorem execTimeSet_canonical (h : s.dev.canonical) {t : Nat} {e : Envelope} : KeepsCanonical (execTimeSet t e s) :=
  .runAt h fun _ h => h.command specTimeSet_canonical

theorem execForceTime_canonical (h : s.dev.canonical) {t : Nat} {e : Envelope} : KeepsCanonical (execForceTime t e s) :=
  .runAt h fun _ h => h.command specForceTime_canonical

theorem execPpsEdge_canonical (h : s.dev.canonical) {t : Nat} : KeepsCanonical (execPpsEdge t s) := .runAt h fun _ h => h.ppsEdge

theorem execPtpMessageRx_canonical (h : s.dev.canonical) {t : Nat} {port : Fin 10} {m : PtpMsg} :
    KeepsCanonical (execPtpMessageRx t port m s) :=
  .runAt h fun _ h => h.ptpRx

theorem execPtpMessageTx_canonical (h : s.dev.canonical) {t : Nat} {port : Fin 10} {k : PtpKind} :
    KeepsCanonical (execPtpMessageTx t port k s) :=
  .runAt h fun _ h => .ite h.setTrk h

theorem execPtpAnnounceTimeout_canonical (h : s.dev.canonical) {t : Nat} {port : Fin 10} :
    KeepsCanonical (execPtpAnnounceTimeout t port s) :=
  .runAt h fun _ h => .ite h h.ptpUnlock.setPtp.bmca

theorem execPtpSyncTimeout_canonical (h : s.dev.canonical) {t : Nat} {port : Fin 10} : KeepsCanonical (execPtpSyncTimeout t port s) :=
  .runAt h fun _ h => .ite h.ptpUnlock.setPtp h

theorem execLeapSecond_canonical (h : s.dev.canonical) {t : Nat} : KeepsCanonical (execLeapSecond t s) :=
  .runAt h fun _ h => .ite h h.setUtc.put.put.put

theorem execTsqLatch_canonical (h : s.dev.canonical) {t : Nat} {_m : Master} : KeepsCanonical (execTsqLatch t _m s) :=
  .runAt h fun _ h => h.update

theorem execTsqPop_canonical (h : s.dev.canonical) {t : Nat} {_m : Master} : KeepsCanonical (execTsqPop t _m s) :=
  .runAt h fun _ h => h.update

theorem execPpsOut_canonical (h : s.dev.canonical) {t : Nat} : KeepsCanonical (execPpsOut t s) := .runAt h fun _ h => .ite h h.update

theorem execPpsOutEnd_canonical (h : s.dev.canonical) {t : Nat} : KeepsCanonical (execPpsOutEnd t s) :=
  .runAt h fun _ h => .ite h.update h

theorem execTpoArm_canonical (h : s.dev.canonical) {t : Nat} {_m : Master} : KeepsCanonical (execTpoArm t _m s) :=
  .runAt h fun _ h => h.tpoArm

theorem execTpoDisarm_canonical (h : s.dev.canonical) {t : Nat} {_m : Master} : KeepsCanonical (execTpoDisarm t _m s) :=
  .runAt h fun _ h => h.setTpo

theorem execTpoPulse_canonical (h : s.dev.canonical) {t : Nat} {k : Fin 4} : KeepsCanonical (execTpoPulse t k s) :=
  .runAt h fun _ h => .ite h h.setTpo

theorem execTpoPulseEnd_canonical (h : s.dev.canonical) {t : Nat} {k : Fin 4} : KeepsCanonical (execTpoPulseEnd t k s) :=
  .runAt h fun _ h => h.setTpo

theorem execRtcCompTick_canonical (h : s.dev.canonical) {t : Nat} {temp : Int} : KeepsCanonical (execRtcCompTick t temp s) :=
  .runAt h fun _ h => h.compTick

theorem execCalSecond_canonical (h : s.dev.canonical) {t : Nat} : KeepsCanonical (execCalSecond t s) := .runAt h fun _ h => h.calSecond

theorem execCalLoad_canonical (h : s.dev.canonical) {t : Nat} {m : Master} : KeepsCanonical (execCalLoad t m s) :=
  .runAt h fun _ h => h.calLoad

theorem execTickAlarmArm_canonical (h : s.dev.canonical) {t : Nat} {m : Master} {v : W32} : KeepsCanonical (execTickAlarmArm t m v s) :=
  .runAt h fun _ h => h.commitPair.update.put.tickFire

theorem execTickAlarm_canonical (h : s.dev.canonical) {t : Nat} : KeepsCanonical (execTickAlarm t s) :=
  .runAt h fun _ h => .ite h.update.tickFire h

theorem execBackupToMain_canonical (h : s.dev.canonical) {t : Nat} : KeepsCanonical (execBackupToMain t s) := .runAt h fun _ h => h.put

theorem execBackupToVbat_canonical (h : s.dev.canonical) {t : Nat} : KeepsCanonical (execBackupToVbat t s) := .runAt h fun _ h => h.put

theorem execRtcLost_canonical (h : s.dev.canonical) {t : Nat} : KeepsCanonical (execRtcLost t s) :=
  .runAt h fun _ h => .ite h.rtcClear h

/-! ### The supply -/

theorem execMainClockFail_canonical (h : s.dev.canonical) {t : Nat} {pll : Bool} : KeepsCanonical (execMainClockFail t pll s) :=
  .runAt h fun _ h => h.mainClockFail

theorem execMainClockReturned_canonical (h : s.dev.canonical) {t : Nat} {straps : Fin 8} :
    KeepsCanonical (execMainClockReturned t straps s) :=
  .runAt h fun _ h => h.mainClockReturned

theorem execXtal32Fail_canonical (h : s.dev.canonical) {t : Nat} : KeepsCanonical (execXtal32Fail t s) :=
  .runAt h fun _ h => h.update.put.raise.put.offer

theorem execXtal32Returned_canonical (h : s.dev.canonical) {t : Nat} : KeepsCanonical (execXtal32Returned t s) :=
  .runAt h fun _ h => h.update.put

theorem execRcFail_canonical (h : s.dev.canonical) {t : Nat} {err : Int} : KeepsCanonical (execRcFail t err s) :=
  .runAt h fun _ h => .ite h h.update.put.raise.put.usbShow.offer

theorem execRcTrimCount_canonical (h : s.dev.canonical) {t : Nat} {reference : Fin 3} {cycles : Nat} :
    KeepsCanonical (execRcTrimCount t reference cycles s) :=
  .runAt h fun _ h => h.rcTrim

theorem execMuxSwitchRequest_canonical (h : s.dev.canonical) {t mux : Nat} {source : Fin 2} :
    KeepsCanonical (execMuxSwitchRequest t mux source s) :=
  .runAt h fun _ h => .ite h.raise (.ite h.setMux h)

theorem execSwForced_canonical (h : s.dev.canonical) {t mux : Nat} {source : Fin 2} : KeepsCanonical (execSwForced t mux source s) :=
  .runAt h fun _ h => .ite h h.forceMux

theorem execPowerOn_canonical (h : s.dev.canonical) {t : Nat} {straps : Fin 8} {vin : Nat} :
    KeepsCanonical (execPowerOn t straps vin s) := by
  refine .runAt h fun d h => ?_
  refine .ite h ?_
  split
  · exact .ite h h.update
  · exact .ite h h.put.leaveOff

theorem execPowerFail_canonical (h : s.dev.canonical) {t vin vhold : Nat} : KeepsCanonical (execPowerFail t vin vhold s) :=
  .runAt h fun _ h => h.powerFail.putB

theorem execVinDip_canonical (h : s.dev.canonical) {t : Nat} : KeepsCanonical (execVinDip t s) :=
  .runAt h fun _ h => .ite h h.bump.raise

theorem execVinRange_canonical (h : s.dev.canonical) {t mv : Nat} : KeepsCanonical (execVinRange t mv s) :=
  .runAt h fun _ h => .ite h (.ite h.put.raise.offer h.put)

theorem execVholdWaitTimeout_canonical (h : s.dev.canonical) {t mv : Nat} : KeepsCanonical (execVholdWaitTimeout t mv s) :=
  .runAt h fun _ h => .ite h h.update.put.raise.put.offer

theorem execVholdOk_canonical (h : s.dev.canonical) {t mv : Nat} : KeepsCanonical (execVholdOk t mv s) :=
  .runAt h fun _ h => .ite h h.put.put.judgeHoldup

theorem execHoldupMeasured_canonical (h : s.dev.canonical) {t cap esr : Nat} : KeepsCanonical (execHoldupMeasured t cap esr s) :=
  .runAt h fun _ h => .ite h.holdupMeasured h

theorem execVholdLow_canonical (h : s.dev.canonical) {t : Nat} : KeepsCanonical (execVholdLow t s) := .runAt h fun _ h => h.vholdLow

theorem execRstNAssert_canonical (h : s.dev.canonical) {t : Nat} : KeepsCanonical (execRstNAssert t s) := by
  refine .runAt h fun d h => ?_
  extract_lets _ d1 d2 _ _ _ d3
  have hd1 : d1.canonical := h.update
  have hd2 : d2.canonical := hd1.endTests.announce.stopWrites.safeOutputs
  have hd3 : d3.canonical := hd2.update
  split
  · exact h.update
  · exact .ite hd1.showLands hd3.put

theorem execRstNRelease_canonical (h : s.dev.canonical) {t : Nat} {straps : Fin 8} : KeepsCanonical (execRstNRelease t straps s) := by
  refine .runAt h fun d h => ?_
  extract_lets _ d1
  have hd1 : d1.canonical := h.update
  refine .ite h ?_
  split
  · exact h.update
  · exact .ite hd1.showLands (.ite hd1.beginBoot hd1.enterBoot)

theorem execWatchdogExpiry_canonical (h : s.dev.canonical) {t : Nat} {straps : Fin 8} :
    KeepsCanonical (execWatchdogExpiry t straps s) :=
  .runAt h fun _ h => .ite h (h.foldl fun _ _ h => h.releaseHeld).announce.stopWrites.beginBoot

/-! ### The pair -/

theorem execJournalRecordDone_canonical (h : s.dev.canonical) {t : Nat} : KeepsCanonical (execJournalRecordDone t s) :=
  .runAt h fun _ h => h.recordDone.pfAdvance

theorem execEvrSlotWritten_canonical (h : s.dev.canonical) {t : Nat} : KeepsCanonical (execEvrSlotWritten t s) :=
  .runAt h fun _ h => h.slotWritten.pfAdvance

theorem specPairTakeover_canonical : specPairTakeover.KeepsCanonical := by
  intro d x h
  have hd1 : (if d.sys.mstate = .test then d.leaveTest 1 else d).canonical := .ite h.leaveTest h
  exact .ite_dev hd1.update.tieSend.showPair hd1

theorem execPairTakeover_canonical (h : s.dev.canonical) {t : Nat} {e : Envelope} : KeepsCanonical (execPairTakeover t e s) :=
  .runAt h fun _ h => h.command specPairTakeover_canonical

theorem specPairDemote_canonical : specPairDemote.KeepsCanonical := fun _ _ h => h.askHandover.showPair

theorem execPairDemote_canonical (h : s.dev.canonical) {t : Nat} {e : Envelope} : KeepsCanonical (execPairDemote t e s) :=
  .runAt h fun _ h => h.command specPairDemote_canonical

theorem execWatchInstance_canonical (h : s.dev.canonical) {t : Nat} {r : Fin 4} {f : Option RadioRx} :
    KeepsCanonical (execWatchInstance t r f s) :=
  .runAt h fun _ h => h.watchInstance

theorem execPlcaBeaconRx_canonical (h : s.dev.canonical) {t : Nat} {p : Fin 8} : KeepsCanonical (execPlcaBeaconRx t p s) :=
  .runAt h fun _ h => .ite h (.ite h.setTrk.update.put.showPair h.setTrk)

theorem execHeartbeatTx_canonical (h : s.dev.canonical) {t : Nat} : KeepsCanonical (execHeartbeatTx t s) :=
  .runAt h fun _ h => .ite h.tieSend h

theorem execHeartbeatRx_canonical (h : s.dev.canonical) {t : Nat} {hb : Heartbeat} : KeepsCanonical (execHeartbeatRx t hb s) :=
  .runAt h fun _ h => .ite h.heartbeatRx h

theorem execHeartbeatMissed_canonical (h : s.dev.canonical) {t : Nat} : KeepsCanonical (execHeartbeatMissed t s) :=
  .runAt h fun _ h => .ite h.heartbeatMissed h

theorem execBundleRx_canonical (h : s.dev.canonical) {t beat : Nat} {recs : List BundleRec} :
    KeepsCanonical (execBundleRx t beat recs s) :=
  .runAt h fun _ h => .ite h.bundleRx h

theorem execBundleCloseRx_canonical (h : s.dev.canonical) {t beat outcome entries sample digest : Nat} :
    KeepsCanonical (execBundleCloseRx t beat outcome entries sample digest s) :=
  .runAt h fun _ h => .ite h.bundleCloseRx h

theorem execBundleAcked_canonical (h : s.dev.canonical) {t beat : Nat} : KeepsCanonical (execBundleAcked t beat s) :=
  .runAt h fun _ h => .ite h h.update.put.put.handOver

theorem execHelloTx_canonical (h : s.dev.canonical) {t : Nat} : KeepsCanonical (execHelloTx t s) :=
  .runAt h fun _ h => .ite h.sendHello h

theorem execHelloRx_canonical (h : s.dev.canonical) {t : Nat} {hb : Heartbeat} {pairId unitId : Nat} :
    KeepsCanonical (execHelloRx t hb pairId unitId s) :=
  .runAt h fun _ h => .ite h.helloRx h

theorem execHandshakeTimeout_canonical (h : s.dev.canonical) {t : Nat} : KeepsCanonical (execHandshakeTimeout t s) :=
  .runAt h fun _ h => .ite h.update.handshakeRole.offer.showPair h

theorem execHandshakeRetry_canonical (h : s.dev.canonical) {t : Nat} : KeepsCanonical (execHandshakeRetry t s) :=
  .runAt h fun _ h => .ite h.sendHello h

theorem execHandoverRx_canonical (h : s.dev.canonical) {t : Nat} {hb : Heartbeat} {pairId unitId : Nat} :
    KeepsCanonical (execHandoverRx t hb pairId unitId s) := by
  refine .runAt h fun d h => ?_
  exact .ite h (.ite (.ite h.askHandover.showPair h) (.ite h.replayAll.decideTakeover.showPair h))

theorem execResyncReqRx_canonical (h : s.dev.canonical) {t : Nat} {hb : Heartbeat} {pairId unitId : Nat} :
    KeepsCanonical (execResyncReqRx t hb pairId unitId s) :=
  .runAt h fun _ h => .ite h h.update.judgeLedger.showPair

theorem execResyncChunkRx_canonical (h : s.dev.canonical) {t : Nat} {ch : ResyncChunk} : KeepsCanonical (execResyncChunkRx t ch s) :=
  .runAt h fun _ h => .ite h.resyncChunk h

theorem execCatchupTimeout_canonical (h : s.dev.canonical) {t : Nat} : KeepsCanonical (execCatchupTimeout t s) :=
  .runAt h fun _ h => .ite h.update.ineligible.showPair h

theorem execResyncRetry_canonical (h : s.dev.canonical) {t : Nat} : KeepsCanonical (execResyncRetry t s) :=
  .runAt h fun _ h => .ite h.update.askResync.showPair h

theorem execLeaseRequest_canonical (h : s.dev.canonical) {t : Nat} : KeepsCanonical (execLeaseRequest t s) :=
  .runAt h fun _ h => .ite h h.leaseSend.showPair

theorem execLeaseGrantRx_canonical (h : s.dev.canonical) {t : Nat} {msg : LeaseMsg} : KeepsCanonical (execLeaseGrantRx t msg s) :=
  .runAt h fun _ h => .ite h.leaseGrant h

theorem execLeaseDenyRx_canonical (h : s.dev.canonical) {t : Nat} {msg : LeaseMsg} : KeepsCanonical (execLeaseDenyRx t msg s) := by
  refine .runAt h fun d h => ?_
  refine .ite h ?_
  split
  · exact h.witnessHeard.showPair
  · exact h.badLease

theorem execLeaseReplyTimeout_canonical (h : s.dev.canonical) {t : Nat} : KeepsCanonical (execLeaseReplyTimeout t s) := by
  refine .runAt h fun d h => ?_
  extract_lets
  split
  · exact h
  extract_lets d1 d2
  have hd1 : d1.canonical := h.update
  have hd2 : d2.canonical := .ite hd1.becomeUnmirrored hd1
  exact .ite h (Dev.canonical.ite hd2.leaveTest hd2).showPair

theorem execLeaseLost_canonical (h : s.dev.canonical) {t : Nat} : KeepsCanonical (execLeaseLost t s) :=
  .runAt h fun _ h => .ite h h.update.offer.showPair

theorem execResendGo_canonical (h : s.dev.canonical) {t : Nat} {_m : Master} : KeepsCanonical (execResendGo t _m s) :=
  .runAt h fun _ h => h.askResend

theorem execResendTimeout_canonical (h : s.dev.canonical) {t : Nat} : KeepsCanonical (execResendTimeout t s) :=
  .runAt h fun _ h => .ite h.askResend h

/-! ### Firmware and library -/

theorem specFwStage_canonical : specFwStage.KeepsCanonical := fun _ _ h =>
  .ite_dev h.fwChunk (.ite_dev h.fwAbandon h.update.showFw)

theorem execFwStageChunk_canonical (h : s.dev.canonical) {t : Nat} {e : Envelope} : KeepsCanonical (execFwStageChunk t e s) :=
  .runAt h fun _ h => h.command specFwStage_canonical

theorem execFwStageCommit_canonical (h : s.dev.canonical) {t : Nat} {e : Envelope} : KeepsCanonical (execFwStageCommit t e s) :=
  .runAt h fun _ h => h.command specFwStage_canonical

theorem execFwStageAbandon_canonical (h : s.dev.canonical) {t : Nat} {e : Envelope} : KeepsCanonical (execFwStageAbandon t e s) :=
  .runAt h fun _ h => h.command specFwStage_canonical

theorem specActivate_canonical : specActivate.KeepsCanonical := fun _ _ h => h.activate

theorem execActivate_canonical (h : s.dev.canonical) {t : Nat} {e : Envelope} : KeepsCanonical (execActivate t e s) :=
  .runAt h fun _ h => h.command specActivate_canonical

theorem execFwCommitDone_canonical (h : s.dev.canonical) {t : Nat} : KeepsCanonical (execFwCommitDone t s) :=
  .runAt h fun _ h => h.fwCommitDone

theorem execSlotCheckDone_canonical (h : s.dev.canonical) {t : Nat} : KeepsCanonical (execSlotCheckDone t s) :=
  .runAt h fun _ h => .ite h h.slotCheckDone

theorem execLibWrite_canonical (h : s.dev.canonical) {t : Nat} {m : Master} {libId : Nat} : KeepsCanonical (execLibWrite t m libId s) :=
  .runAt h fun _ h => h.libStart

theorem execLibRead_canonical (h : s.dev.canonical) {t : Nat} {m : Master} {libId : Nat} : KeepsCanonical (execLibRead t m libId s) :=
  .runAt h fun _ h => h.libStart

theorem execLibDelete_canonical (h : s.dev.canonical) {t : Nat} {m : Master} {libId : Nat} :
    KeepsCanonical (execLibDelete t m libId s) :=
  .runAt h fun _ h => h.libStart

theorem execLibDone_canonical (h : s.dev.canonical) {t bank : Nat} : KeepsCanonical (execLibDone t bank s) :=
  .runAt h fun _ h => h.libDone

/-! ### The boot steps and the self-test -/

theorem specReset_canonical {straps : Nat} : (specReset straps).KeepsCanonical := fun _ _ h => h.resetCmd

theorem execReset_canonical (h : s.dev.canonical) {t : Nat} {e : Envelope} {straps : Fin 8} : KeepsCanonical (execReset t e straps s) :=
  .runAt h fun _ h => h.command specReset_canonical

theorem specShutdown_canonical : specShutdown.KeepsCanonical := fun _ _ h => h.update

theorem execShutdown_canonical (h : s.dev.canonical) {t : Nat} {e : Envelope} : KeepsCanonical (execShutdown t e s) :=
  .runAt h fun _ h => h.command specShutdown_canonical

theorem execBootStepDone_canonical (h : s.dev.canonical) {t : Nat} {quick : List (Nat × Nat)} :
    KeepsCanonical (execBootStepDone t quick s) :=
  .runAt h fun _ h => h.bootStep

theorem execBootStepFailed_canonical (h : s.dev.canonical) {t cause : Nat} : KeepsCanonical (execBootStepFailed t cause s) :=
  .runAt h fun _ h => .ite h.stepFailed h

theorem execBootStepTimeout_canonical (h : s.dev.canonical) {t : Nat} : KeepsCanonical (execBootStepTimeout t s) :=
  .runAt h fun _ h => .ite h.stepFailed h

theorem execXtalStartTimeout_canonical (h : s.dev.canonical) {t : Nat} : KeepsCanonical (execXtalStartTimeout t s) :=
  .runAt h fun _ h => .ite h.stepFailed h

theorem execTestFinished_canonical (h : s.dev.canonical) {t : Nat} {test : Fin 15} {failed : List Nat} {code : Nat} {straps : Fin 8} :
    KeepsCanonical (execTestFinished t test failed code straps s) :=
  .runAt h fun _ h => h.testFinished

theorem execStopWritesDone_canonical (h : s.dev.canonical) {t : Nat} {straps : Fin 8} :
    KeepsCanonical (execStopWritesDone t straps s) :=
  .runAt h fun _ h => h.stopWritesDone

/-! ### The boundary -/

theorem execBeatBoundary_canonical (h : s.dev.canonical) : KeepsCanonical (execBeatBoundary s) := .run h fun _ h => .ite h.boundary h

theorem execCommit_canonical (h : s.dev.canonical) {t : Nat} : KeepsCanonical (execCommit t s) :=
  .runAt h fun _ h => .ite h (.ite h.overrunBeat h.commitBeat)

theorem execOverrun_canonical (h : s.dev.canonical) {t pass : Nat} : KeepsCanonical (execOverrun t pass s) :=
  .runAt h fun _ h => .ite h.overrunBeat h

theorem execBeatDeadline_canonical (h : s.dev.canonical) {t : Nat} : KeepsCanonical (execBeatDeadline t s) :=
  .runAt h fun _ h => .ite h h.patchWindow

/-! ### Registers -/

theorem execReadLoLatch_canonical (h : s.dev.canonical) {t : Nat} {m : Master} {key : Nat} :
    KeepsCanonical (execReadLoLatch t m key s) :=
  .runAt h fun _ h => h.readLo

theorem execAccessFault_canonical (h : s.dev.canonical) {t : Nat} {m : Master} {addr : Nat} {f : AccessForm} :
    KeepsCanonical (execAccessFault t m addr f s) :=
  .runAt h fun _ h => .ite h.accessFault (.ite h.storeBytes h)

theorem execSerialTransfer_canonical (h : s.dev.canonical) {t : Nat} {m : Master} {lo : W32} :
    KeepsCanonical (execSerialTransfer t m lo s) :=
  .runAt h fun _ h => h.serialTransfer

theorem execSerialDone_canonical (h : s.dev.canonical) {t : Nat} {timeout : Bool} {data : Bytes} :
    KeepsCanonical (execSerialDone t timeout data s) :=
  .runAt h fun _ h => h.serialDone

theorem execPostedWriteCrossed_canonical (h : s.dev.canonical) {t key : Nat} : KeepsCanonical (execPostedWriteCrossed t key s) := by
  refine .runAt h fun d h => ?_
  extract_lets
  split
  · exact h
  · exact h.update.applyWrite

end Sys2Proof.Machine
end

section
/-! PROOFS. The canonical form (R26): a register write, every command, and a step. -/

-- One proof at a time: a side condition left to `decide` waits for every declaration before it, each in a thread of its own.
set_option Elab.async false

namespace Sys2Proof.Machine

variable {s : State}

/-- Every command but a register write, each by the lemma about its own effect. -/
theorem exec_canonical_of_not_registerWrite (h : s.dev.canonical) {c : Instr} (hc : isRegisterWrite c = false) :
    KeepsCanonical (exec c s) := by
  cases c with
  | registerWrite => cases hc
  | getStatus => exact execGetStatus_canonical h
  | readEvents => exact execReadEvents_canonical h
  | reset => exact execReset_canonical h
  | start => exact execStart_canonical h
  | stop => exact execStop_canonical h
  | shutdown => exact execShutdown_canonical h
  | cutStage => exact execCutStage_canonical h
  | cutLoad => exact execCutLoad_canonical h
  | cutPatch => exact execCutPatch_canonical h
  | setPasses => exact execSetPasses_canonical h
  | overrideC1Set => exact execOverrideC1Set_canonical h
  | overrideC1Clear => exact execOverrideC1Clear_canonical h
  | class0Activate => exact execClass0Activate_canonical h
  | class0Release => exact execClass0Release_canonical h
  | timeSet => exact execTimeSet_canonical h
  | forceTime => exact execForceTime_canonical h
  | fwStageChunk => exact execFwStageChunk_canonical h
  | fwStageCommit => exact execFwStageCommit_canonical h
  | fwStageAbandon => exact execFwStageAbandon_canonical h
  | activate => exact execActivate_canonical h
  | pairTakeover => exact execPairTakeover_canonical h
  | pairDemote => exact execPairDemote_canonical h
  | keyUpdateImport => exact execKeyUpdateImport_canonical h
  | keyUpdateDerive => exact execKeyUpdateDerive_canonical h
  | keyUpdateLifecycle => exact execKeyUpdateLifecycle_canonical h
  | keyInvalidate => exact execKeyInvalidate_canonical h
  | meterSnapshot => exact execMeterSnapshot_canonical h
  | keyUpdateDone => exact execKeyUpdateDone_canonical h
  | cutLoadStored => exact execCutLoadStored_canonical h
  | cutCopyDone => exact execCutCopyDone_canonical h
  | patchReady => exact execPatchReady_canonical h
  | beatBoundary => exact execBeatBoundary_canonical h
  | commit => exact execCommit_canonical h
  | overrun => exact execOverrun_canonical h
  | c0Refresh => exact execC0Refresh_canonical h
  | ppsEdge => exact execPpsEdge_canonical h
  | c1Expired => exact execC1Expired_canonical h
  | refreshDue => exact execRefreshDue_canonical h
  | waveHoldExpired => exact execWaveHoldExpired_canonical h
  | edgeDelayElapsed _ _ j => exact execEdgeDelayElapsed_canonical h (_j := j)
  | daylightStale _ eid => exact execDaylightStale_canonical h (_eid := eid)
  | rftIngestW0 => exact execRftIngestW0_canonical h
  | rftIngestWord => exact execRftIngestWord_canonical h
  | rftIngestCommit => exact execRftIngestCommit_canonical h
  | rftBattenSel _ m => exact execRftBattenSel_canonical h (_m := m)
  | rftSpeedSel _ m => exact execRftSpeedSel_canonical h (_m := m)
  | jstPushOpen => exact execJstPushOpen_canonical h
  | jstPushWord => exact execJstPushWord_canonical h
  | jstPushCommit => exact execJstPushCommit_canonical h
  | jstPushAbandon => exact execJstPushAbandon_canonical h
  | jstGet => exact execJstGet_canonical h
  | jstGetDeliver => exact execJstGetDeliver_canonical h
  | jstGetInterrupted => exact execJstGetInterrupted_canonical h
  | jstDone => exact execJstDone_canonical h
  | jstFlush _ m => exact execJstFlush_canonical h (_m := m)
  | jstFlushDone => exact execJstFlushDone_canonical h
  | jstTmrArm => exact execJstTmrArm_canonical h
  | jstTmrCancel => exact execJstTmrCancel_canonical h
  | jstTimerRelease => exact execJstTimerRelease_canonical h
  | radLinkOpen => exact execRadLinkOpen_canonical h
  | radLinkClose => exact execRadLinkClose_canonical h
  | radLinkResume => exact execRadLinkResume_canonical h
  | linkEvent => exact execLinkEvent_canonical h
  | linkEventEnd => exact execLinkEventEnd_canonical h
  | linkAnswerTimeout => exact execLinkAnswerTimeout_canonical h
  | dwellBinAdvance => exact execDwellBinAdvance_canonical h
  | linkSupervisionTimeout => exact execLinkSupervisionTimeout_canonical h
  | txItemTake => exact execTxItemTake_canonical h
  | radioFrameRx => exact execRadioFrameRx_canonical h
  | beaconTx => exact execBeaconTx_canonical h
  | watchInstance => exact execWatchInstance_canonical h
  | wake => exact execWake_canonical h
  | wakeHoldExpired => exact execWakeHoldExpired_canonical h
  | trkLinkOpen => exact execTrkLinkOpen_canonical h
  | trkLinkClose => exact execTrkLinkClose_canonical h
  | trkLinkResume => exact execTrkLinkResume_canonical h
  | wiredFrameRx => exact execWiredFrameRx_canonical h
  | plcaCycleEnd => exact execPlcaCycleEnd_canonical h
  | txOpportunity => exact execTxOpportunity_canonical h
  | plcaConflict => exact execPlcaConflict_canonical h
  | plcaStandin => exact execPlcaStandin_canonical h
  | wiredAckTimeout => exact execWiredAckTimeout_canonical h
  | keepalive => exact execKeepalive_canonical h
  | gateEntry => exact execGateEntry_canonical h
  | portLink => exact execPortLink_canonical h
  | pauseRx => exact execPauseRx_canonical h
  | pauseExpired => exact execPauseExpired_canonical h
  | pfcRx => exact execPfcRx_canonical h
  | rawSlotFree => exact execRawSlotFree_canonical h
  | rawCfgWrite => exact execRawCfgWrite_canonical h
  | mdioCmd => exact execMdioCmd_canonical h
  | mdioDone => exact execMdioDone_canonical h
  | readLoLatch => exact execReadLoLatch_canonical h
  | ptpMessageRx => exact execPtpMessageRx_canonical h
  | ptpMessageTx => exact execPtpMessageTx_canonical h
  | ptpAnnounceTimeout => exact execPtpAnnounceTimeout_canonical h
  | ptpSyncTimeout => exact execPtpSyncTimeout_canonical h
  | leapSecond => exact execLeapSecond_canonical h
  | tsqLatch _ m => exact execTsqLatch_canonical h (_m := m)
  | tsqPop _ m => exact execTsqPop_canonical h (_m := m)
  | timedLaunch => exact execTimedLaunch_canonical h
  | ppsOut => exact execPpsOut_canonical h
  | ppsOutEnd => exact execPpsOutEnd_canonical h
  | tpoArm _ m => exact execTpoArm_canonical h (_m := m)
  | tpoDisarm _ m => exact execTpoDisarm_canonical h (_m := m)
  | tpoPulse => exact execTpoPulse_canonical h
  | tpoPulseEnd => exact execTpoPulseEnd_canonical h
  | rtcCompTick => exact execRtcCompTick_canonical h
  | calSecond => exact execCalSecond_canonical h
  | calLoad => exact execCalLoad_canonical h
  | tickAlarmArm => exact execTickAlarmArm_canonical h
  | tickAlarm => exact execTickAlarm_canonical h
  | backupToMain => exact execBackupToMain_canonical h
  | backupToVbat => exact execBackupToVbat_canonical h
  | rtcLost => exact execRtcLost_canonical h
  | mainClockFail => exact execMainClockFail_canonical h
  | mainClockReturned => exact execMainClockReturned_canonical h
  | xtal32Fail => exact execXtal32Fail_canonical h
  | xtal32Returned => exact execXtal32Returned_canonical h
  | rcFail => exact execRcFail_canonical h
  | rcTrimCount => exact execRcTrimCount_canonical h
  | muxSwitchRequest => exact execMuxSwitchRequest_canonical h
  | swForced => exact execSwForced_canonical h
  | powerOn => exact execPowerOn_canonical h
  | powerFail => exact execPowerFail_canonical h
  | vinDip => exact execVinDip_canonical h
  | vinRange => exact execVinRange_canonical h
  | vholdWaitTimeout => exact execVholdWaitTimeout_canonical h
  | holdupMeasured => exact execHoldupMeasured_canonical h
  | rstNAssert => exact execRstNAssert_canonical h
  | rstNRelease => exact execRstNRelease_canonical h
  | watchdogExpiry => exact execWatchdogExpiry_canonical h
  | bootStepDone => exact execBootStepDone_canonical h
  | bootStepFailed => exact execBootStepFailed_canonical h
  | bootStepTimeout => exact execBootStepTimeout_canonical h
  | xtalStartTimeout => exact execXtalStartTimeout_canonical h
  | testFinished => exact execTestFinished_canonical h
  | stopWritesDone => exact execStopWritesDone_canonical h
  | journalRecordDone => exact execJournalRecordDone_canonical h
  | silJwWrite => exact execSilJwWrite_canonical h
  | addEnergy => exact execAddEnergy_canonical h
  | addRun => exact execAddRun_canonical h
  | setCredit => exact execSetCredit_canonical h
  | scrubBlock => exact execScrubBlock_canonical h
  | nandRefresh => exact execNandRefresh_canonical h
  | meterCycleEnd => exact execMeterCycleEnd_canonical h
  | noZc => exact execNoZc_canonical h
  | pulseEmit => exact execPulseEmit_canonical h
  | pulseEnd => exact execPulseEnd_canonical h
  | s0Pulse => exact execS0Pulse_canonical h
  | reconIntervalEnd => exact execReconIntervalEnd_canonical h
  | accSave => exact execAccSave_canonical h
  | mtrFastRead => exact execMtrFastRead_canonical h
  | arcFetch => exact execArcFetch_canonical h
  | arcFetchDone => exact execArcFetchDone_canonical h
  | rateTokenTick => exact execRateTokenTick_canonical h
  | suppressed => exact execSuppressed_canonical h
  | evrFlushTimer => exact execEvrFlushTimer_canonical h
  | evrFlush _ m => exact execEvrFlush_canonical h (_m := m)
  | evrSlotWritten => exact execEvrSlotWritten_canonical h
  | evrRdSeq _ m => exact execEvrRdSeq_canonical h (_m := m)
  | heartbeatTx => exact execHeartbeatTx_canonical h
  | heartbeatRx => exact execHeartbeatRx_canonical h
  | heartbeatMissed => exact execHeartbeatMissed_canonical h
  | bundleRx => exact execBundleRx_canonical h
  | bundleCloseRx => exact execBundleCloseRx_canonical h
  | bundleAcked => exact execBundleAcked_canonical h
  | helloTx => exact execHelloTx_canonical h
  | helloRx => exact execHelloRx_canonical h
  | handshakeTimeout => exact execHandshakeTimeout_canonical h
  | handshakeRetry => exact execHandshakeRetry_canonical h
  | handoverRx => exact execHandoverRx_canonical h
  | resyncReqRx => exact execResyncReqRx_canonical h
  | resyncChunkRx => exact execResyncChunkRx_canonical h
  | catchupTimeout => exact execCatchupTimeout_canonical h
  | resyncRetry => exact execResyncRetry_canonical h
  | leaseRequest => exact execLeaseRequest_canonical h
  | leaseGrantRx => exact execLeaseGrantRx_canonical h
  | leaseDenyRx => exact execLeaseDenyRx_canonical h
  | leaseReplyTimeout => exact execLeaseReplyTimeout_canonical h
  | leaseLost => exact execLeaseLost_canonical h
  | resendGo _ m => exact execResendGo_canonical h (_m := m)
  | resendTimeout => exact execResendTimeout_canonical h
  | keyOpGcmEncrypt => exact execKeyOpGcmEncrypt_canonical h
  | keyOpGcmDecrypt => exact execKeyOpGcmDecrypt_canonical h
  | keyOpHmac => exact execKeyOpHmac_canonical h
  | keyOpEcdsaSign => exact execKeyOpEcdsaSign_canonical h
  | keyOpEcdsaVerify => exact execKeyOpEcdsaVerify_canonical h
  | keyOpSha256 => exact execKeyOpSha256_canonical h
  | keyOpDone => exact execKeyOpDone_canonical h
  | fwCommitDone => exact execFwCommitDone_canonical h
  | slotCheckDone => exact execSlotCheckDone_canonical h
  | libWrite => exact execLibWrite_canonical h
  | libRead => exact execLibRead_canonical h
  | libDelete => exact execLibDelete_canonical h
  | libDone => exact execLibDone_canonical h
  | stringFrame => exact execStringFrame_canonical h
  | matrixFrame => exact execMatrixFrame_canonical h
  | ntcRead => exact execNtcRead_canonical h
  | neighbourShort => exact execNeighbourShort_canonical h
  | lampReturned _ m => exact execLampReturned_canonical h (_m := m)
  | strLevelWrite _ m => exact execStrLevelWrite_canonical h (_m := m)
  | signPixWrite _ m => exact execSignPixWrite_canonical h (_m := m)
  | signFlip _ m => exact execSignFlip_canonical h (_m := m)
  | hlWrite => exact execHlWrite_canonical h
  | hlRead => exact execHlRead_canonical h
  | hlMark => exact execHlMark_canonical h
  | hlRewind => exact execHlRewind_canonical h
  | hlRelease => exact execHlRelease_canonical h
  | hlStatus => exact execHlStatus_canonical h
  | badCommand => exact execBadCommand_canonical h
  | hlDownFrame => exact execHlDownFrame_canonical h
  | hlUpData => exact execHlUpData_canonical h
  | hlUpCommit => exact execHlUpCommit_canonical h
  | hlUpAbandon => exact execHlUpAbandon_canonical h
  | hlUpTimeout => exact execHlUpTimeout_canonical h
  | usbAttached => exact execUsbAttached_canonical h
  | usbSuspend => exact execUsbSuspend_canonical h
  | emgEdge => exact execEmgEdge_canonical h
  | emgDisagree => exact execEmgDisagree_canonical h
  | serialTransfer => exact execSerialTransfer_canonical h
  | serialDone => exact execSerialDone_canonical h
  | accessFault => exact execAccessFault_canonical h
  | plcaBeaconRx => exact execPlcaBeaconRx_canonical h
  | lastByteSent => exact execLastByteSent_canonical h
  | postedWriteCrossed => exact execPostedWriteCrossed_canonical h
  | beatDeadline => exact execBeatDeadline_canonical h
  | vholdLow => exact execVholdLow_canonical h
  | vholdOk => exact execVholdOk_canonical h
  | codeNotDefined => exact execCodeNotDefined_canonical h

/-- A register write acts by its row (`rowWrite_actsAsRow`) or by its fields. -/
theorem execRegisterWrite_canonical (h : s.dev.canonical) {t : Nat} {m : Master} {addr : Nat} {v : W32} :
    KeepsCanonical (execRegisterWrite t m addr v s) := by
  unfold execRegisterWrite
  extract_lets key
  split
  · exact execAccessFault_canonical h
  split
  · exact .runAt h fun _ h => h
  split
  · exact execSerialTransfer_canonical h
  split
  · rename_i o ho
    cases rowWrite_actsAsRow ho with
    | command c hc => exact exec_canonical_of_not_registerWrite h hc
    | idle => exact .runAt h fun _ h => h
    | post => exact .runAt h fun _ h => h.post
  · exact .runAt h fun _ h => h.writeReg.actOnWrite

theorem exec_canonical (h : s.dev.canonical) {c : Instr} : KeepsCanonical (exec c s) := by
  cases hc : isRegisterWrite c
  · exact exec_canonical_of_not_registerWrite h hc
  · cases c
    case registerWrite => exact execRegisterWrite_canonical h
    all_goals cases hc

/-- Settles O5: a step answers the state itself, or what the command at the front makes of it. -/
theorem canonicalKept : Obligations.CanonicalKept := by
  unfold Obligations.CanonicalKept
  intro s u h e
  unfold step at e
  split at e
  · cases e
    exact h
  · rename_i c rest _
    exact exec_canonical (s := { s with pending := rest }) h u e

end Sys2Proof.Machine
end

section
/-! PROOFS. The machine right after reset (R47, R61, R449). -/

-- One proof at a time: a side condition left to `decide` waits for every declaration before it, each in a thread of its own.
set_option Elab.async false

namespace Sys2Proof.Machine

/-- Settles O3: the reset state is a closed term, so every component and register field named is evaluated. -/
theorem resetState : Obligations.ResetState := by
  unfold Obligations.ResetState
  decide

end Sys2Proof.Machine
end

section
/-! PROOFS. What an operation of the machine leaves alone where its words are not a list: the relation, the shared operations of the
Joist, the host link, the key slots and the command port, and the frame of a command in an envelope (R65-R69). -/

-- One proof at a time: a side condition left to `decide` waits for every declaration before it, each in a thread of its own.
set_option Elab.async false

namespace Sys2Proof.Machine

/-- `d'` differs from `d` in the components `ps`, the words of the keys `ks` and of those that `P` holds of, and the event recorder
only. -/
structure Confined (ps : List Part) (ks : List Nat) (P : Nat → Prop) (d d' : Dev) : Prop where
  parts : ∀ p, p ∉ ps → p.same d d'
  regs : ∀ k, k ∉ ks → ¬ P k → k ∉ eventKeys → d'.regs.get k = d.regs.get k

theorem Touches.confined {ps qs : List Part} {ks ls : List Nat} {P : Nat → Prop} {d x : Dev} (h : Touches qs ls d x)
    (hp : qs ⊆ ps := by decide) (hk : ls ⊆ ks := by decide) : Confined ps ks P d x :=
  ⟨fun p hq => h.parts p (fun m => hq (hp m)), fun k hq _ => h.regs k (fun m => hq (hk m))⟩

/-- The words touched may all be among those that the predicate holds of. -/
theorem Touches.within {ps qs : List Part} {ks ls : List Nat} {P : Nat → Prop} {d x : Dev} (h : Touches qs ls d x)
    (hk : ∀ k ∈ ls, k ∈ ks ∨ P k) (hp : qs ⊆ ps := by decide) : Confined ps ks P d x :=
  ⟨fun p hq => h.parts p (fun m => hq (hp m)), fun k hq hP => h.regs k (fun m => (hk k m).elim hq hP)⟩

namespace Confined

variable {ps qs : List Part} {ks ls : List Nat} {P Q : Nat → Prop} {d x y : Dev}

theorem refl (d : Dev) : Confined ps ks P d d := ⟨fun p _ => part_same_refl p d, fun _ _ _ _ => rfl⟩

theorem trans (h : Confined ps ks P d x) (h' : Confined ps ks P x y) : Confined ps ks P d y :=
  ⟨fun p hp => part_same_trans p (h.parts p hp) (h'.parts p hp),
    fun k hk hP he => (h'.regs k hk hP he).trans (h.regs k hk hP he)⟩

theorem mono (h : Confined qs ls Q d x) (hq : ∀ k, Q k → k ∈ ks ∨ P k) (hp : qs ⊆ ps := by decide) (hk : ls ⊆ ks := by decide) :
    Confined ps ks P d x :=
  ⟨fun p m => h.parts p (fun n => m (hp n)), fun k m n => h.regs k (fun l => m (hk l)) (fun l => (hq k l).elim m n)⟩

/-- What follows touches less. -/
theorem andThen (h : Confined ps ks P d x) (h' : Touches qs ls x y) (hp : qs ⊆ ps := by decide) (hk : ls ⊆ ks := by decide) :
    Confined ps ks P d y := h.trans (h'.confined hp hk)

/-- What follows is confined to less. -/
theorem after (h : Confined ps ks P d x) (h' : Confined qs ls P x y) (hp : qs ⊆ ps := by decide) (hk : ls ⊆ ks := by decide) :
    Confined ps ks P d y := h.trans (h'.mono (fun _ => .inr) hp hk)

/-- A step that touches some of the components and words named. -/
theorem step (h : Confined ps ks P d x) (h' : Touches ps ks x y) : Confined ps ks P d y :=
  h.trans (h'.confined (List.Subset.refl _) (List.Subset.refl _))

theorem ite {c : Prop} [Decidable c] (hx : c → Confined ps ks P d x) (hy : ¬ c → Confined ps ks P d y) :
    Confined ps ks P d (if c then x else y) := by
  split
  · exact hx ‹_›
  · exact hy ‹_›

/-- A fold is confined to what each of its steps is. -/
theorem foldl {α : Type} {f : Dev → α → Dev} (l : List α) (hf : ∀ x, ∀ a ∈ l, Confined ps ks P x (f x a)) (h : Confined ps ks P d x) :
    Confined ps ks P d (l.foldl f x) := by
  induction l generalizing x with
  | nil => exact h
  | cons a r ih => exact ih (fun x b hb => hf x b (List.mem_cons_of_mem a hb)) (h.trans (hf x a List.mem_cons_self))

theorem offer (e : EvCode) (args : List Nat) (h : Confined ps ks P d x) : Confined ps ks P d (x.offer e args) :=
  h.step ((Touches.refl x).offer e args)

theorem atTime (t : Nat) (h : Confined ps ks P d x) : Confined ps ks P d (x.atTime t) := h.step ((Touches.refl x).atTime t)

theorem settleOffers (h : Confined ps ks P d x) : Confined ps ks P d x.settleOffers := h.step (Touches.refl x).settleOffers

end Confined

/-- A command that runs, at its instant, an operation confined to these components and words has this frame. -/
theorem frame_of_confined {c : Instr} {t : Nat} {f : Dev → Dev} {ps : List Part} {ks : List Nat} {P : Nat → Prop}
    (o : State → Host.Outcome State Fault Refusal) (hc : ∀ s, exec c s = o s) (ho : ∀ s, o s = s.runAt t f)
    (h : ∀ d, Confined ps ks P d (f d)) : Frame c ps (fun k => k ∈ ks ∨ P k) := by
  intro s
  have ht : Confined ps ks P s.dev (f (s.dev.atTime t)).settleOffers := (((Confined.refl s.dev).atTime t).trans (h _)).settleOffers
  exact completes_of_runAt ((hc s).trans (ho s)) ⟨ht.parts, fun k hr => ht.regs k (fun m => hr (.inl m)) (fun m => hr (.inr m))⟩

namespace Dev

/-! ### The key slots (R434, R438, R439) -/

/-- The words that a use of a key writes. -/
def keyKeys : List Nat := keysOf [Reg.KEY_CNT.word, Reg.KEY_IRQ_STATUS.word, Reg.KEY_STATUS.word]

theorem showSlots_touches (d : Dev) : Touches [] [Reg.KEY_STATUS.word.key] d d.showSlots := ((Touches.refl d).put _ _).put _ _

theorem keyRefused_touches (d : Dev) (id master usage : Nat) : Touches [] keyKeys d (d.keyRefused id master usage) := by
  unfold keyRefused
  extract_lets bad d1
  have h1 : Touches [] keyKeys d d1 := (((Touches.refl d).bump _).raise _).offer _ _
  exact .ite (fun _ => h1.offer _ _) fun _ => h1

theorem loadKey_touches {d : Dev} {b : Blob} {r : Nat × Dev} (e : d.loadKey b = some r) : Touches [.key] keyKeys d r.2 := by
  have hs (v : KeySt) : Touches [.key] keyKeys d { d with key := v } := (Touches.refl d).setKey v
  unfold loadKey at e
  split at e
  · cases e
    exact hs _
  split at e
  · cases e
    exact ((hs _).andThen (showSlots_touches _)).bump _
  split at e
  · cases e
    exact ((hs _).andThen (showSlots_touches _)).bump _
  · cases e

theorem loadKeys_touches (d : Dev) (l : List Nat) : Touches [.key] keyKeys d (d.loadKeys l) := by
  refine (Touches.refl d).foldl _ fun x k _ => ?_
  split
  · split
    · rename_i e
      exact loadKey_touches e
    · exact .refl x
  · exact .refl x

theorem useKey_touches (d : Dev) (id master usage : Nat) : Touches [.key] keyKeys d (d.useKey id master usage).2.2 := by
  unfold useKey
  split
  · split
    · rename_i e
      exact loadKey_touches e
    · exact .refl d
  · exact (d.keyRefused_touches id master usage).mono

theorem orphanSlots_touches (d : Dev) (byLcs : Bool) : Touches [.key] keyKeys d (d.orphanSlots byLcs) :=
  .ite (fun _ => (Touches.refl d).setKey _) fun _ => (((Touches.refl d).setKey _).setKey _).raise _

/-! ### The journal (R328-R331) -/

theorem commitChecked_touches (d : Dev) (v : JVal) : Touches [.sil] [Reg.SIL_IRQ_STATUS.word.key] d (d.commitChecked v).1 := by
  unfold commitChecked
  split
  · exact (d.commit_touches v).mono
  · exact ((Touches.refl d).raise _).offer _ _

theorem recordSeq_touches (d : Dev) (a : Answer) (mac : Nat) : Touches [.sil] [] d (d.recordSeq a mac) :=
  .ite (fun _ => .refl d) fun _ => d.commit_touches _

/-! ### The Joist and the host link (R187, R188, R507, R510) -/

theorem select_touches {d : Dev} {consumer : Nat} {core : Option Nat} {r : JItem × Dev} (e : d.select consumer core = some r) :
    Touches [.jst] [] d r.2 := by
  obtain ⟨cls, -, e'⟩ := List.exists_of_findSome?_eq_some e
  unfold selectIn at e'
  dsimp only at e'
  split at e'
  · cases e'
    exact (Touches.refl d).setJst _
  split at e'
  · cases e'
  · cases e'
    exact ((Touches.refl d).setJst _).setJst _

theorem takeForConsumer_touches {d : Dev} {consumer : Nat} {r : JItem × Dev} (e : d.takeForConsumer consumer = some r) :
    Touches [.jst] [] d r.2 := by
  unfold takeForConsumer at e
  split at e
  · rename_i e'
    cases e
    exact ((select_touches e').setJst _).setJst _
  · cases e

/-- The words of the host link's signals (R510). -/
def signalKeys : List Nat := keysOf [Reg.HLK_FILL.word, Reg.HLK_STATUS.word]

theorem hlSignals_touches (d : Dev) : Touches [.hlk] signalKeys d d.hlSignals := by
  unfold hlSignals
  extract_lets
  exact .put _ _ (.put _ _ (.putB _ _ (.putB _ _ (.setHlk _ (.refl d)))))

theorem upAppend_touches {d d' : Dev} {items : List Nat} (e : d.upAppend items = some d') : Touches [.hlk] signalKeys d d' := by
  unfold upAppend at e
  split at e
  · rw [← Option.some.inj e]
    refine Touches.trans ?_ (hlSignals_touches _)
    exact (Touches.refl d).update (fun p hp => by cases p <;> simp_all [Part.same]) rfl
  · cases e

/-! ### The command port (R65-R69) -/

/-- The counts of refused pushes (R182, R204). -/
def QRefused (k : Nat) : Prop := ∃ i < 64, k = (Reg.JST_QREFUSED.word i).key

theorem push_confined (d : Dev) (q flow producer : Nat) (words eids : List Nat) :
    Confined [.jst] [Reg.JST_IRQ_STATUS.word.key] QRefused d (d.push q flow producer words eids).1 :=
  (d.push_touches q flow producer words eids).within fun k h => by
    rcases List.mem_cons.1 h with rfl | h
    · exact .inl (.head _)
    · obtain ⟨i, hi, rfl⟩ := List.mem_map.1 h
      exact .inr ⟨i, List.mem_range.1 hi, rfl⟩

theorem pushItems_confined (d : Dev) (l : List (Nat × List Nat)) :
    Confined [.sys, .jst] [Reg.JST_IRQ_STATUS.word.key] QRefused d (d.pushItems l) := by
  refine (Confined.refl d).foldl _ fun x a _ => ?_
  extract_lets hold r
  have hr : Confined [.sys, .jst] [Reg.JST_IRQ_STATUS.word.key] QRefused x r.1 := (x.push_confined _ _ _ _ _).mono fun _ => .inr
  clear_value r
  exact .ite (fun _ => (Confined.refl x).step ((Touches.refl x).setSys _)) fun _ =>
    .ite (fun _ => hr.step ((Touches.refl r.1).setSys _)) fun _ => hr

/-- The words that an answer writes, the counts of refused pushes apart. -/
def sendKeys : List Nat := signalKeys ++ keysOf [Reg.JST_IRQ_STATUS.word]

theorem send_confined (d : Dev) (a : Answer) : Confined [.sys, .jst, .hlk] sendKeys QRefused d (d.send a) := by
  unfold send
  extract_lets x d1
  have h1 : Confined [.sys, .jst, .hlk] sendKeys QRefused d d1 := (Confined.refl d).step ((Touches.refl d).setSys _)
  clear_value d1
  split
  · split
    · rename_i e
      exact h1.andThen (upAppend_touches e)
    · exact h1.step ((Touches.refl d1).setSys _)
  · exact h1.after (pushItems_confined _ _)
  · exact h1

theorem releaseCarrier_touches (d : Dev) (e : Envelope) : Touches [.jst, .hlk] [Reg.USB_STATE.word.key] d (d.releaseCarrier e) := by
  unfold releaseCarrier
  split
  · split
    · rename_i h
      exact (takeForConsumer_touches h).mono.setJst _
    · exact .refl d
  · exact (Touches.refl d).setHlk _
  · exact (Touches.refl d).put _ _
  · exact .refl d

theorem macCheck_touches (d : Dev) (e : Envelope) (code : Nat) : Touches [.key] keyKeys d (d.macCheck e code).2 := by
  unfold macCheck
  split
  · exact .refl d
  · exact d.useKey_touches _ _ _

/-- The components and words of an envelope's carrier, checks and answer. -/
def commandParts : List Part := [.sys, .sil, .key, .jst, .hlk]

def commandKeys : List Nat :=
  keysOf [Reg.HLK_FILL.word, Reg.HLK_STATUS.word, Reg.JST_IRQ_STATUS.word, Reg.KEY_CNT.word, Reg.KEY_IRQ_STATUS.word,
    Reg.KEY_STATUS.word, Reg.SYS_CMD_BAD.word, Reg.USB_STATE.word]

theorem refuseRecorded_confined (d : Dev) (e : Envelope) (code status : Nat) :
    Confined commandParts commandKeys QRefused d (d.refuseRecorded e code status) :=
  ((Confined.refl d).andThen (recordSeq_touches _ _ _)).after (send_confined _ _)

section

variable {ps : List Part} {ks : List Nat} {P : Nat → Prop} (hp : commandParts ⊆ ps) (hk : commandKeys ⊆ ks)
  (hq : ∀ k, QRefused k → P k)
include hp hk hq

/-- What the port's own operations write is among the components and words named. -/
theorem port_mono {x y : Dev} (h : Confined commandParts commandKeys QRefused x y) : Confined ps ks P x y :=
  h.mono (fun k m => .inr (hq k m)) hp hk

theorem judge_confined (d : Dev) (c : CmdSpec) (e : Envelope) (hc : ∀ x, Confined ps ks P x (c.effect x e).dev) :
    Confined ps ks P d (d.judge c e) := by
  have hm : ∀ {x y : Dev}, Confined commandParts commandKeys QRefused x y → Confined ps ks P x y := port_mono hp hk hq
  have hr (x : Dev) (st : Nat) : Confined ps ks P x (x.refuseRecorded e c.code st) := hm (x.refuseRecorded_confined e c.code st)
  unfold judge
  refine .ite (fun _ => hr _ _) fun _ => .ite (fun _ => hr _ _) fun _ => .ite (fun _ => ?_) fun _ => .ite (fun _ => hr _ _) fun _ =>
    .ite (fun _ => hr _ _) fun _ => ?_
  · exact ((Confined.refl d).offer _ _).trans (hr _ _)
  · extract_lets r a d1
    have h1 : Confined ps ks P d d1 := (hc d).trans (hm ((recordSeq_touches _ _ _).confined))
    exact .ite (fun _ => h1.trans (hm ((send_confined _ _).mono fun _ => .inr))) fun _ => h1

/-- A command in an envelope writes what its carrier, its checks and its answer write, and what its effect does. -/
theorem command_confined (d : Dev) (c : CmdSpec) (e : Envelope) (hc : ∀ x, Confined ps ks P x (c.effect x e).dev) :
    Confined ps ks P d (d.command c e) := by
  have hm : ∀ {x y : Dev}, Confined commandParts commandKeys QRefused x y → Confined ps ks P x y := port_mono hp hk hq
  have h0 : Confined commandParts commandKeys QRefused d (d.releaseCarrier e) := (d.releaseCarrier_touches e).confined
  have hs (x : Dev) (a : Answer) : Confined commandParts commandKeys QRefused x (x.send a) := (x.send_confined a).mono fun _ => .inr
  have hj (x : Dev) : Confined ps ks P x (x.judge c e) := judge_confined hp hk hq x c e hc
  unfold command
  refine .ite (fun _ => .refl d) fun _ => .ite (fun _ => hm (h0.step ((Touches.refl _).bump _))) fun _ =>
    .ite (fun _ => hm (h0.trans (hs _ _))) fun _ => .ite (fun _ => hm (h0.trans (hs _ _))) fun _ => ?_
  have h1 : Confined commandParts commandKeys QRefused d ((d.releaseCarrier e).macCheck e c.code).2 :=
    h0.andThen (macCheck_touches _ _ _)
  split
  next d1 hd =>
    rw [hd] at h1
    exact hm ((h1.offer _ _).trans (hs _ _))
  next d1 hd =>
    rw [hd] at h1
    refine .ite (fun _ => (hm h1).trans (hj d1)) fun _ => ?_
    split
    · exact (hm h1).trans (hj d1)
    · exact .ite (fun _ => (hm h1).trans (hj d1)) fun _ => .ite (fun _ => hm (h1.trans (hs _ _))) fun _ => hm (h1.trans (hs _ _))

end

end Dev

/-- A command in an envelope has the frame of the port and of its effect. -/
theorem frame_of_command {c : Instr} {t : Nat} {spec : CmdSpec} {e : Envelope} {ps : List Part} {ks : List Nat} {P : Nat → Prop}
    (o : State → Host.Outcome State Fault Refusal) (hc : ∀ s, exec c s = o s) (ho : ∀ s, o s = s.runAt t fun d => d.command spec e)
    (he : ∀ d, Confined ps ks P d (spec.effect d e).dev) (hq : ∀ k, Dev.QRefused k → P k := by exact fun _ h => h)
    (hp : Dev.commandParts ⊆ ps := by decide) (hk : Dev.commandKeys ⊆ ks := by decide) : Frame c ps (fun k => k ∈ ks ∨ P k) :=
  frame_of_confined o hc ho fun d => Dev.command_confined hp hk hq d spec e he

end Sys2Proof.Machine
end

section
/-! PROOFS. The commands in an envelope: what each effect touches, and the frames of the command port (R65-R73, R384). -/

-- One proof at a time: a side condition left to `decide` waits for every declaration before it, each in a thread of its own.
set_option Elab.async false

namespace Sys2Proof.Machine

/-- Either effect is confined. -/
theorem Confined.ite_dev {ps : List Part} {ks : List Nat} {P : Nat → Prop} {d : Dev} {c : Prop} [Decidable c] {x y : Done}
    (hx : c → Confined ps ks P d x.dev) (hy : ¬ c → Confined ps ks P d y.dev) : Confined ps ks P d (if c then x else y).dev := by
  split
  · exact hx ‹_›
  · exact hy ‹_›

/-- Either effect touches what is named. -/
theorem Touches.ite_dev {ps : List Part} {ks : List Nat} {d : Dev} {c : Prop} [Decidable c] {x y : Done}
    (hx : c → Touches ps ks d x.dev) (hy : ¬ c → Touches ps ks d y.dev) : Touches ps ks d (if c then x else y).dev := by
  split
  · exact hx ‹_›
  · exact hy ‹_›

theorem Touches.ite_fst {α : Type} {ps : List Part} {ks : List Nat} {d : Dev} {c : Prop} [Decidable c] {x y : Dev × α}
    (hx : c → Touches ps ks d x.1) (hy : ¬ c → Touches ps ks d y.1) : Touches ps ks d (if c then x else y).1 := by
  split
  · exact hx ‹_›
  · exact hy ‹_›

theorem Touches.ite_snd {α : Type} {ps : List Part} {ks : List Nat} {d : Dev} {c : Prop} [Decidable c] {x y : α × Dev}
    (hx : c → Touches ps ks d x.2) (hy : ¬ c → Touches ps ks d y.2) : Touches ps ks d (if c then x else y).2 := by
  split
  · exact hx ‹_›
  · exact hy ‹_›

theorem Touches.setRtc {ps : List Part} {ks : List Nat} {d x : Dev} (v : RtcSt) (h : Touches ps ks d x) (hp : .rtc ∈ ps := by decide) :
    Touches ps ks d { x with rtc := v } :=
  h.update (fun p hq => by cases p <;> simp_all [Part.same]) rfl

namespace Dev

/-! ### The Cut List (R85-R91, R98-R103) -/

/-- The words of a refused or accepted load or patch (R103). -/
def cutKeys : List Nat := keysOf [Reg.CUT_ERR_OFFSET.word, Reg.CUT_ERR_SECTION.word, Reg.CUT_STATUS.word] ++ keyKeys

theorem checkHeader_touches (d : Dev) (c : Bytes) (patch : Bool) : Touches [.key] keyKeys d (d.checkHeader c patch).2 := by
  have hr : Touches [.key] keyKeys d d := .refl d
  unfold checkHeader
  extract_lets h no
  have hn : ∀ k st off, Touches [.key] keyKeys d (no k st off).2 := fun _ _ _ => hr
  clear_value no
  refine .ite_snd (fun _ => hn _ _ _) fun _ => .ite_snd (fun _ => hn _ _ _) fun _ => .ite_snd (fun _ => hn _ _ _) fun _ =>
    .ite_snd (fun _ => hn _ _ _) fun _ => .ite_snd (fun _ => hn _ _ _) fun _ => .ite_snd (fun _ => hn _ _ _) fun _ =>
    .ite_snd (fun _ => hn _ _ _) fun _ => .ite_snd (fun _ => hn _ _ _) fun _ => ?_
  have hu := d.useKey_touches h.keyId masterSC useCutVerify
  split
  next st key d1 e =>
    rw [e] at hu
    exact .ite_snd (fun _ => hu) fun _ => .ite_snd (fun _ => hu) fun _ => .ite_snd (fun _ => hu) fun _ => hu

theorem checkFull_touches (d : Dev) (c : Bytes) : Touches [.key] keyKeys d (d.checkFull c).2 := by
  have h := d.checkHeader_touches c false
  unfold checkFull
  split
  next e => rw [e] at h; exact h
  next d1 e =>
    rw [e] at h
    split
    · exact h
    · extract_lets x
      split
      · exact h
      · split <;> exact h

theorem checkAPatch_touches (d : Dev) (c : Bytes) : Touches [.key] keyKeys d (d.checkAPatch c).2 := by
  have h := d.checkHeader_touches c true
  unfold checkAPatch
  split
  next e => rw [e] at h; exact h
  next e _ => rw [e] at h; exact h
  next d1 x e _ =>
    rw [e] at h
    split
    · exact h
    · extract_lets p
      split
      · exact h
      · exact .ite_snd (fun _ => h) fun _ => h

theorem cutRefused_touches (d : Dev) (r : CutRefusal) (patch : Bool) (seq : Nat) :
    Touches [] (keysOf [Reg.CUT_ERR_OFFSET.word, Reg.CUT_ERR_SECTION.word, Reg.CUT_STATUS.word]) d (d.cutRefused r patch seq) :=
  (((((Touches.refl d).put _ _).put _ _).put _ _).put _ _).offer _ _

theorem startLoad_touches (d : Dev) (c : Bytes) (seq : Nat) : Touches [.key, .cut] cutKeys d (d.startLoad c seq).1 := by
  have h : Touches [.key, .cut] cutKeys d (d.checkFull c).2 := (d.checkFull_touches c).mono
  unfold startLoad
  split
  next e =>
    rw [e] at h
    exact h.andThen (cutRefused_touches _ _ _ _)
  next e =>
    rw [e] at h
    exact ((h.setCut _).put _ _).put _ _

theorem startPatch_touches (d : Dev) (c : Bytes) (a : Answer) : Touches [.key, .cut] cutKeys d (d.startPatch c a).1 := by
  have h : Touches [.key, .cut] cutKeys d (d.checkAPatch c).2 := (d.checkAPatch_touches c).mono
  unfold startPatch
  split
  next e =>
    rw [e] at h
    exact h.andThen (cutRefused_touches _ _ _ _)
  next e =>
    rw [e] at h
    exact ((h.setCut _).put _ _).put _ _

theorem cutStage_touches (d : Dev) (p : Bytes) :
    Touches [.cut] (keysOf [Reg.CUT_STAGE_FILL.word, Reg.CUT_PATCH_FILL.word]) d (d.cutStage p) :=
  .ite (fun _ => ((Touches.refl d).setCut _).put _ _) fun _ => ((Touches.refl d).setCut _).put _ _

/-! ### Overrides and class 0 (R130, R135) -/

theorem cmdEntry_touches (d : Dev) (c : CmdEntry) : Touches [.rft] [] d (d.cmdEntry c) :=
  .ite (fun _ => (Touches.refl d).setRft _) fun _ => .refl d

theorem overrideC1_touches (d : Dev) (p : Bytes) : Touches [.rft] [] d (d.overrideC1 p).dev :=
  .ite_dev (fun _ => .refl d) fun _ => d.cmdEntry_touches _

theorem class0_touches (d : Dev) (index : Nat) (activate : Bool) : Touches [.rft, .lin] [] d (d.class0 index activate).dev :=
  .ite_dev (fun _ => .refl d) fun _ => .ite_dev (fun _ => (Touches.refl d).offer _ _) fun _ => .ite_dev (fun _ => .refl d) fun _ =>
    ((Touches.refl d).setLin _).andThen (cmdEntry_touches _ _)

/-! ### Module time (R277, R279-R283, R544) -/

theorem rtcTicks_touches (d : Dev) : Touches [.freeCtr, .rtc] [] d d.rtcTicks.2 :=
  .ite_snd (fun _ => .refl d) fun _ => d.fresh_touches.mono.setRtc _

theorem mapRecord_touches (d : Dev) : Touches [.freeCtr, .sil, .rtc] [] d d.mapRecord :=
  .ite (fun _ => .refl d) fun _ => d.rtcTicks_touches.mono.andThen (journal_touches _ _ _ _)

theorem setQuality_touches (d : Dev) (q : Nat) : Touches [.freeCtr, .sil, .rtc] [Reg.TIME_STATUS.word.key] d (d.setQuality q) :=
  .ite (fun _ => .refl d) fun _ => ((Touches.refl d).put _ _).andThen (mapRecord_touches _)

theorem setUtc_touches (d : Dev) (v : Int) (cause : Nat) : Touches [.tim] [Reg.TIME_UTC.word.key] d (d.setUtc v cause) :=
  .ite (fun _ => .refl d) fun _ => (((Touches.refl d).setTim _).put _ _).offer _ _

/-- The words of a correction that slews (R282, R283). -/
def slewKeys : List Nat := keysOf [Reg.TIME_SLEW.word, Reg.TIME_STATUS.word, Reg.BEAT_STATUS.word, Reg.TIME_IRQ_STATUS.word]

theorem slewTo_touches (d : Dev) (corr : Int) (source : Nat) (continues : Bool) :
    Touches [.beat] slewKeys d (d.slewTo corr source continues) := by
  unfold slewTo
  extract_lets x d1 d2
  have h1 : Touches [.beat] slewKeys d d1 := ((((Touches.refl d).setBeat _).put _ _).putB _ _).putB _ _
  exact .ite (fun _ => h1) fun _ => .ite (fun _ => h1.raise _) fun _ => (h1.raise _).offer _ _

theorem decideStep_touches (d : Dev) (r : StepReq) : Touches [.beat] [] d (d.decideStep r) := (Touches.refl d).setBeat _

theorem timeSet_touches (d : Dev) (e : Envelope) :
    Touches [.freeCtr, .beat, .sil, .tim, .rtc] (Reg.TIME_UTC.word.key :: slewKeys) d (d.timeSet e).dev := by
  unfold timeSet
  extract_lets a corr d1
  have h1 : Touches [.freeCtr, .beat, .sil, .tim, .rtc] (Reg.TIME_UTC.word.key :: slewKeys) d d1 :=
    .ite (fun _ => (d.setUtc_touches _ _).mono) fun _ => .refl d
  exact .ite_dev (fun _ => (Touches.refl d).offer _ _) fun _ =>
    .ite_dev (fun _ => (h1.andThen (decideStep_touches _ _)).andThen (setQuality_touches _ _)) fun _ => h1.andThen (slewTo_touches _ _ _ _)

theorem forceTime_touches (d : Dev) (e : Envelope) :
    Touches [.freeCtr, .beat, .sil, .rtc] [Reg.TIME_STATUS.word.key] d (d.forceTime e).dev := by
  unfold forceTime
  extract_lets a d1
  have h1 : Touches [.freeCtr, .beat, .sil, .rtc] [Reg.TIME_STATUS.word.key] d d1 := (d.decideStep_touches _).mono
  exact .ite_dev (fun _ => (Touches.refl d).offer _ _) fun _ => .ite (fun _ => h1.andThen (setQuality_touches _ _)) fun _ => h1

/-! ### The pair (R397, R405, R412, R464) -/

/-- The words of the pair's status (R412). -/
def pairKeys : List Nat := keysOf [Reg.PAIR_LAG.word, Reg.PAIR_LEASE.word, Reg.PAIR_STATUS.word]

theorem showPair_touches (d : Dev) : Touches [] pairKeys d d.showPair :=
  (((((((((((Touches.refl d).put _ _).putB _ _).putB _ _).putB _ _).putB _ _).putB _ _).putB _ _).putB _ _).put _ _).put _ _).put _ _

theorem leaseSend_touches (d : Dev) (kind member : Nat) (unmirrored : Bool) :
    Touches [.pair] [] d (d.leaseSend kind member unmirrored) := by
  unfold leaseSend
  extract_lets n x d1
  have h1 : Touches [.pair] [] d d1 := (Touches.refl d).setPair _
  split
  · exact h1.setPair _
  · exact h1

theorem askHandover_touches (d : Dev) : Touches [.pair] [] d d.askHandover :=
  ((Touches.refl d).setPair _).trans (leaseSend_touches _ _ _ _)

/-- The registers of JST_GET (R185). -/
def JGet (k : Nat) : Prop := ∃ b, k = (Reg.JST_GET.word b).key

theorem endWaits_confined (d : Dev) : Confined [.jst] [] JGet d d.endWaits :=
  d.endWaits_touches.within fun k h => by
    obtain ⟨b, -, rfl⟩ := List.mem_map.1 h
    exact .inr ⟨b, rfl⟩

/-- The words of a transition (R62), the loads that it ends apart. -/
def gotoKeys : List Nat := keysOf [Reg.SYS_STATUS.word, Reg.JST_STATUS.word]

theorem goto_confined (d : Dev) (s : ModState) (cause : Nat) : Confined [.sys, .jst, .lnd] gotoKeys JGet d (d.goto s cause) := by
  unfold goto
  extract_lets x d1 d2
  have h2 : Touches [.sys, .jst, .lnd] gotoKeys d d2 := (((((Touches.refl d).setSys _).put _ _).offer _ _).putB _ _).setLnd _
  exact .ite (fun _ => h2.confined) fun _ => h2.confined.after (endWaits_confined _)

/-- The words of a takeover condition on a module in TEST (R464). -/
def leaveTestKeys : List Nat := gotoKeys ++ keysOf [Reg.BST_IRQ_STATUS.word, Reg.BST_STATUS.word]

theorem leaveTest_confined (d : Dev) (cause : Nat) :
    Confined [.sys, .jst, .bst, .pair, .lnd] leaveTestKeys JGet d (d.leaveTest cause) := by
  unfold leaveTest
  split
  · refine .ite (fun _ => ?_) fun _ => .refl d
    extract_lets x
    have hx : Confined [.sys, .jst, .bst, .pair, .lnd] leaveTestKeys JGet d x :=
      (d.endTests_touches cause).confined.after (goto_confined _ _ _)
    exact hx.step ((Touches.refl x).setPair _)
  · exact .refl d

/-- The words that PAIR_TAKEOVER's effect writes. -/
def takeoverKeys : List Nat := leaveTestKeys ++ pairKeys

theorem pairTakeover_confined (d : Dev) (e : Envelope) :
    Confined [.sys, .jst, .bst, .pair, .lnd] takeoverKeys JGet d (specPairTakeover.effect d e).dev := by
  unfold specPairTakeover
  dsimp only
  have h1 : Confined [.sys, .jst, .bst, .pair, .lnd] takeoverKeys JGet d (if d.sys.mstate = .test then d.leaveTest 1 else d) :=
    .ite (fun _ => (d.leaveTest_confined 1).mono fun _ => .inr) fun _ => .refl d
  generalize (if d.sys.mstate = .test then d.leaveTest 1 else d) = d1 at h1 ⊢
  exact .ite_dev (fun _ => ((h1.step ((Touches.refl d1).setPair _)).andThen (tieSend_touches _ _)).andThen (showPair_touches _))
    fun _ => h1

/-! ### Firmware (R471, R475, R484) -/

/-- The words of the firmware's status (R484). -/
def fwKeys : List Nat :=
  keysOf [Reg.FWU_FLOOR.word, Reg.FWU_STAGE_FILL.word, Reg.FWU_STATUS.word, Reg.FWU_VER_OTHER.word, Reg.FWU_VER_RUN.word]

theorem showFw_touches (d : Dev) : Touches [] fwKeys d d.showFw :=
  (((((((((((Touches.refl d).put _ _).putB _ _).put _ _).put _ _).putB _ _).putB _ _).put _ _).put _ _).put _ _).put _ _).put _ _

theorem fwStage_touches (d : Dev) (e : Envelope) : Touches [.fwu] fwKeys d (specFwStage.effect d e).dev := by
  have hs (v w : FwuSt) : Touches [.fwu] fwKeys d { { d with fwu := v } with fwu := w } := (Touches.refl d).setFwu w
  exact .ite_dev (fun _ => (hs _ _).andThen (showFw_touches _)) fun _ => .ite_dev (fun _ => (hs _ _).andThen (showFw_touches _)) fun _ =>
    ((Touches.refl d).setFwu _).andThen (showFw_touches _)

theorem activate_touches (d : Dev) (e : Envelope) : Touches [.fwu, .pair] fwKeys d (d.activate e).dev := by
  unfold activate
  extract_lets p major hand x d1
  have h1 : Touches [.fwu, .pair] fwKeys d d1 := (Touches.refl d).setFwu _
  exact .ite_dev (fun _ => .refl d) fun _ => .ite_dev (fun _ => .refl d) fun _ =>
    Touches.andThen (.ite (fun _ => h1.andThen (askHandover_touches d1)) fun _ => h1) (showFw_touches _)

/-! ### The key vault (R436, R441-R443) -/

/-- The words of a key update (R436, R441). -/
def vaultKeys : List Nat := Reg.SIL_IRQ_STATUS.word.key :: keyKeys

theorem commitBlob_touches (d : Dev) (b : Blob) : Touches [.sil, .key] vaultKeys d (d.commitBlob b).1 := by
  unfold commitBlob
  split
  · exact .refl d
  next i _ =>
    extract_lets x d1
    have h1 : Touches [.sil, .key] vaultKeys d d1 := (Touches.refl d).setKey _
    have h2 := h1.andThen (commitChecked_touches d1 (.keyPointer b.keyId b.parentId b.generation i (crc32c b.bytes)))
    split
    next e =>
      rw [e] at h2
      exact .ite_fst (fun _ => h2) fun _ => h2.setKey _

theorem keyUpdate_touches (d : Dev) (e : Envelope) : Touches [.sil, .key] vaultKeys d (d.keyUpdate e).dev := by
  unfold keyUpdate
  extract_lets a x device parent
  refine .ite_dev (fun _ => .ite_dev (fun _ => .refl d) fun _ => (Touches.refl d).setKey _) fun _ => ?_
  have hp : Touches [.sil, .key] vaultKeys d parent.2.2 := by
    simp only [parent]
    split
    · split <;> exact .refl d
    · exact (d.useKey_touches _ _ _).mono
  clear_value parent
  split
  next st pk d1 =>
    refine .ite_dev (fun _ => hp) fun _ => ?_
    extract_lets kek key room y
    clear_value key
    cases key with
    | none => exact hp
    | some k =>
      refine .ite_dev (fun _ => hp) fun _ => .ite_dev (fun _ => hp.setKey _) fun _ => ?_
      have hb (b : Blob) : Touches [.sil, .key] vaultKeys d (d1.commitBlob b).1 := hp.trans (d1.commitBlob_touches b)
      split
      next e2 =>
        have h2 := congrArg Prod.fst e2 ▸ hb _
        exact .ite_dev (fun _ => h2) fun _ => h2.offer _ _

theorem keyInvalidate_touches (d : Dev) (e : Envelope) : Touches [.sil, .key] vaultKeys d (d.keyInvalidate e).dev := by
  have hc (x : Dev) (v : JVal) : Touches [.sil, .key] vaultKeys x (x.commitChecked v).1 := (x.commitChecked_touches v).mono
  unfold keyInvalidate
  extract_lets id gen
  refine .ite_dev (fun _ => .refl d) fun _ => ?_
  split
  · exact .refl d
  next parent g slot _ =>
    refine .ite_dev (fun _ => .refl d) fun _ => .ite_dev (fun _ => .refl d) fun _ => .ite_dev (fun _ => .refl d) fun _ => ?_
    have h1 := hc d (.keyPointer id parent g 0xFFFF 0)
    split
    next d1 st e =>
      rw [e] at h1
      refine .ite_dev (fun _ => h1) fun _ => ?_
      extract_lets des d2
      have h2 : Touches [.sil, .key] vaultKeys d d2 := h1.foldl _ fun x k _ => by
        split
        · exact hc x _
        · exact .refl x
      exact (h2.andThen (orphanSlots_touches d2 false)).offer _ _

end Dev

/-- Settles O46: the port's own operations and each command's effect, by the components and words that they touch. -/
theorem commandPortFrames : Obligations.CommandPortFrames := by
  unfold Obligations.CommandPortFrames
  exact ⟨fun t e => frame_of_command (execGetStatus t e) (fun _ => rfl) (fun _ => rfl) fun d => .refl d,
    fun t e => frame_of_command (execReadEvents t e) (fun _ => rfl) (fun _ => rfl) fun d => .refl d,
    fun t e => frame_of_command (execStart t e) (fun _ => rfl) (fun _ => rfl) fun d => (Confined.refl d).step ((Touches.refl d).setSys _),
    fun t e => frame_of_command (execStop t e) (fun _ => rfl) (fun _ => rfl) fun d => (Confined.refl d).step ((Touches.refl d).setSys _),
    fun t e => frame_of_command (execShutdown t e) (fun _ => rfl) (fun _ => rfl) fun d => (Confined.refl d).step ((Touches.refl d).setBst _),
    fun t e => frame_of_command (execCutStage t e) (fun _ => rfl) (fun _ => rfl) fun d => (d.cutStage_touches _).confined,
    fun t e => frame_of_command (execCutLoad t e) (fun _ => rfl) (fun _ => rfl) fun d => (d.startLoad_touches _ _).confined,
    fun t e => frame_of_command (execCutPatch t e) (fun _ => rfl) (fun _ => rfl) fun d => (d.startPatch_touches _ _).confined,
    fun t e => frame_of_command (execSetPasses t e) (fun _ => rfl) (fun _ => rfl) fun d =>
      (Confined.refl d).step (((Touches.refl d).setBeat _).offer _ _),
    fun t e => frame_of_command (execOverrideC1Set t e) (fun _ => rfl) (fun _ => rfl) fun d => (d.overrideC1_touches _).confined,
    fun t e => frame_of_command (execOverrideC1Clear t e) (fun _ => rfl) (fun _ => rfl) fun d => (d.overrideC1_touches _).confined,
    fun t e => frame_of_command (execClass0Activate t e) (fun _ => rfl) (fun _ => rfl) fun d => (d.class0_touches _ _).confined,
    fun t e => frame_of_command (execClass0Release t e) (fun _ => rfl) (fun _ => rfl) fun d => (d.class0_touches _ _).confined,
    fun t e => frame_of_command (execTimeSet t e) (fun _ => rfl) (fun _ => rfl) fun d => (d.timeSet_touches e).confined,
    fun t e => frame_of_command (execForceTime t e) (fun _ => rfl) (fun _ => rfl) fun d => (d.forceTime_touches e).confined,
    fun t e => frame_of_command (execFwStageChunk t e) (fun _ => rfl) (fun _ => rfl) fun d => (d.fwStage_touches e).confined,
    fun t e => frame_of_command (execFwStageCommit t e) (fun _ => rfl) (fun _ => rfl) fun d => (d.fwStage_touches e).confined,
    fun t e => frame_of_command (execFwStageAbandon t e) (fun _ => rfl) (fun _ => rfl) fun d => (d.fwStage_touches e).confined,
    fun t e => frame_of_command (execActivate t e) (fun _ => rfl) (fun _ => rfl) fun d => (d.activate_touches e).confined,
    fun t e => frame_of_command (execPairDemote t e) (fun _ => rfl) (fun _ => rfl) fun d =>
      d.askHandover_touches.confined.andThen (Dev.showPair_touches _),
    fun t e => frame_of_command (execPairTakeover t e) (fun _ => rfl) (fun _ => rfl)
      (fun d => (d.pairTakeover_confined e).mono fun _ h => .inr (.inl h)) (fun _ h => .inr h),
    fun t e => frame_of_command (execKeyUpdateImport t e) (fun _ => rfl) (fun _ => rfl) fun d => (d.keyUpdate_touches e).confined,
    fun t e => frame_of_command (execKeyUpdateDerive t e) (fun _ => rfl) (fun _ => rfl) fun d => (d.keyUpdate_touches e).confined,
    fun t e => frame_of_command (execKeyUpdateLifecycle t e) (fun _ => rfl) (fun _ => rfl) fun d => (d.keyUpdate_touches e).confined,
    fun t e => frame_of_command (execKeyInvalidate t e) (fun _ => rfl) (fun _ => rfl) fun d => (d.keyInvalidate_touches e).confined,
    fun t e => frame_of_command (execMeterSnapshot t e) (fun _ => rfl) (fun _ => rfl) fun d => .refl d,
    fun t code e => frame_of_command (execCodeNotDefined t code e) (fun _ => rfl) (fun _ => rfl) fun d => .refl d⟩

end Sys2Proof.Machine
end

section
/-! PROOFS. A command that passes every check of R67: the machine that its effect and its answer leave; then the status, event and meter
commands, and START, STOP, SHUTDOWN, SET_PASSES and RESET. -/

-- One proof at a time: a side condition left to `decide` waits for every declaration before it, each in a thread of its own.
set_option Elab.async false

namespace Sys2Proof.Machine
namespace Dev

/-! ### The event ring is written by the drain alone (R379, R380) -/

theorem push_ring (d : Dev) (q flow producer : Nat) (words eids : List Nat) :
    (d.push q flow producer words eids).1.evr.ring = d.evr.ring := by
  unfold push
  split
  · rfl
  split
  · rfl
  split
  · rfl
  split
  · rfl
  split
  · simp [pushRefused, offer]
  split
  · simp [pushRefused, offer]
  · rfl

theorem pushItems_ring (l : List (Nat × List Nat)) (d : Dev) : (d.pushItems l).evr.ring = d.evr.ring := by
  unfold pushItems
  induction l generalizing d with
  | nil => rfl
  | cons a r ih =>
    have h := d.push_ring a.1 0xF0000 producerSC a.2 []
    rw [List.foldl_cons, ih]
    extract_lets hold p
    split
    · rfl
    · split <;> exact h

theorem upAppend_evr {d d' : Dev} {items : List Nat} (e : d.upAppend items = some d') : d'.evr = d.evr := by
  unfold upAppend at e
  split at e
  · rw [← Option.some.inj e]
    exact hlSignals_evr _
  · cases e

theorem send_ring (d : Dev) (a : Answer) : (d.send a).evr.ring = d.evr.ring := by
  unfold send
  extract_lets x d1
  have h1 : d1.evr = d.evr := rfl
  clear_value d1
  split
  · split
    next e => rw [upAppend_evr e, h1]
    next => exact congrArg _ h1
  · rw [pushItems_ring, h1]
  · rw [h1]

theorem recordSeq_evr (d : Dev) (a : Answer) (mac : Nat) : (d.recordSeq a mac).evr = d.evr := by
  unfold recordSeq commit
  split
  · rfl
  · split <;> rfl

theorem startFlush_ring (d : Dev) : d.startFlush.evr.ring = d.evr.ring := by
  unfold startFlush
  extract_lets x d1
  split
  · rfl
  · split
    · simp [d1, x]
    · rfl

theorem acceptEvent_ring (d : Dev) (e : EvCode) (args : List Nat) : (d.acceptEvent e args).evr.ring = d.evr.ring := by
  unfold acceptEvent
  split
  · simp
  · extract_lets r x y d1 d2
    have h2 : d2.evr.ring = d.evr.ring := by
      simp only [d2]
      split
      · simp [d1, y]
      · rfl
    clear_value d2
    split
    · rw [startFlush_ring, h2]
    · exact h2

theorem offerNow_ring (d : Dev) (e : EvCode) (args : List Nat) : (d.offerNow e args).evr.ring = d.evr.ring := by
  unfold offerNow
  split
  · rfl
  split
  · exact acceptEvent_ring _ _ _
  split
  · exact acceptEvent_ring _ _ _
  split
  · rw [acceptEvent_ring]
  · simp [suppressEvent]

theorem settleOffers_ring (d : Dev) : d.settleOffers.evr.ring = d.evr.ring := by
  have h : ∀ (l : List EvOffer) (x : Dev), (l.foldl (fun d o => d.offerNow o.ev o.args) x).evr.ring = x.evr.ring := by
    intro l
    induction l with
    | nil => exact fun _ => rfl
    | cons o r ih => exact fun x => (ih _).trans (x.offerNow_ring _ _)
  exact h _ _

/-! ### What an answer leaves (R66, R68) -/

theorem pushItems_cons (d : Dev) (a : Nat × List Nat) (r : List (Nat × List Nat)) :
    d.pushItems (a :: r) = (d.pushItems [a]).pushItems r := rfl

theorem pushItems_one_sys (d : Dev) (a : Nat × List Nat) : ∃ y, (d.pushItems [a]).sys = { d.sys with heldItems := y } := by
  have hp : (d.push a.1 0xF0000 producerSC a.2).1.sys = d.sys := (push_touches _ _ _ _ _ _).parts .sys (by decide)
  unfold pushItems
  rw [List.foldl_cons, List.foldl_nil]
  extract_lets hold p
  replace hp : p.1.sys = d.sys := hp
  clear_value p
  split
  · exact ⟨_, rfl⟩
  · split
    · exact ⟨_, congrArg (fun y : SysSt => { y with heldItems := p.1.sys.heldItems ++ [a] }) hp⟩
    · exact ⟨_, hp⟩

theorem pushItems_sys (l : List (Nat × List Nat)) (d : Dev) : ∃ y, (d.pushItems l).sys = { d.sys with heldItems := y } := by
  induction l generalizing d with
  | nil => exact ⟨_, rfl⟩
  | cons a r ih =>
    obtain ⟨y, hy⟩ := pushItems_one_sys d a
    obtain ⟨z, hz⟩ := ih (d.pushItems [a])
    exact ⟨z, by rw [pushItems_cons, hz, hy]⟩

/-- Sending an answer changes, of the command port, the answers and what waits for room alone. -/
theorem send_sys (d : Dev) (a : Answer) : ∃ x y, (d.send a).sys = { d.sys with
    answers := a :: d.sys.answers.filter (fun b => b.chan != a.chan), heldAnswers := x, heldItems := y } := by
  unfold send
  extract_lets x d1
  have h1 : d1.sys = { d.sys with answers := a :: d.sys.answers.filter (fun b => b.chan != a.chan) } := rfl
  clear_value d1
  split
  · split
    next e => exact ⟨_, _, ((upAppend_touches e).parts .sys (by decide)).trans h1⟩
    next => exact ⟨_, _, congrArg (fun v : SysSt => { v with heldAnswers := d1.sys.heldAnswers ++ [a] }) h1⟩
  · obtain ⟨y, hy⟩ := pushItems_sys (answerItems a) d1
    exact ⟨_, y, by rw [hy, h1]⟩
  · exact ⟨_, _, h1⟩

/-- An answer's MAC is made over its fields, which stand as they are (R66). -/
theorem maced_eq (d : Dev) (a : Answer) : ∃ m, d.maced a = { a with mac := m } := by
  unfold maced
  split
  · split <;> exact ⟨_, rfl⟩
  · exact ⟨_, rfl⟩

/-- The machine `x` that a command's effect leaves, once the command is answered; `d` is the machine that the checks left. -/
def answering (d x : Dev) (e : Envelope) (code status : Nat) (result : Bytes) : Dev :=
  ((x.recordSeq (d.maced (answerTo e code status result)) e.mac).send (d.maced (answerTo e code status result))).settleOffers

section

variable (d x : Dev) (e : Envelope) (code status : Nat) (result : Bytes)

theorem answering_answered : (d.answering x e code status result).answered e code status result := by
  obtain ⟨y, z, h⟩ := send_sys (x.recordSeq (d.maced (answerTo e code status result)) e.mac) (d.maced (answerTo e code status result))
  obtain ⟨m, hm⟩ := d.maced_eq (answerTo e code status result)
  refine ⟨d.maced (answerTo e code status result), ?_, ?_⟩
  · rw [answering, settleOffers_sys, h]
    exact List.mem_cons_self
  · rw [hm]
    exact ⟨rfl, rfl, rfl, rfl, rfl, rfl⟩

theorem answering_sys : ∃ l y z, (d.answering x e code status result).sys =
    { x.sys with answers := l, heldAnswers := y, heldItems := z } := by
  obtain ⟨y, z, h⟩ := send_sys (x.recordSeq (d.maced (answerTo e code status result)) e.mac) (d.maced (answerTo e code status result))
  rw [answering, settleOffers_sys, h, (recordSeq_touches x _ _).parts .sys (by decide)]
  exact ⟨_, y, z, rfl⟩

theorem answering_mstate : (d.answering x e code status result).sys.mstate = x.sys.mstate := by
  obtain ⟨l, y, z, h⟩ := answering_sys d x e code status result
  rw [h]

theorem answering_confined : Confined [.sys, .sil, .jst, .hlk] sendKeys QRefused x (d.answering x e code status result) :=
  ((x.recordSeq_touches _ _).confined.after (send_confined _ _)).settleOffers

theorem answering_ring : (d.answering x e code status result).evr.ring = x.evr.ring := by
  rw [answering, settleOffers_ring, send_ring, recordSeq_evr]

end

/-! ### The checks pass (R67) -/

theorem matrixRow_isSome_of_legal {d : Dev} {code : Nat} {body : Bytes} (h : d.legal code body = true) : (matrixRow code).isNone = false := by
  unfold legal at h
  split at h
  next e _ => rw [e]; rfl
  next => cases h

theorem judge_of_accepts {d d' : Dev} {c : CmdSpec} {e : Envelope} (h : d.Accepts d' c e) (ha : (c.effect d' e).answered = true) :
    d'.judge c e = ((c.effect d' e).dev.recordSeq (d'.maced (answerTo e c.code (c.effect d' e).status (c.effect d' e).result)) e.mac).send
      (d'.maced (answerTo e c.code (c.effect d' e).status (c.effect d' e).result)) := by
  simp [judge, h.permitted, h.legal, h.args, h.free, matrixRow_isSome_of_legal h.legal, ha]

theorem command_of_accepts {d d' : Dev} {c : CmdSpec} {e : Envelope} (h : d.Accepts d' c e) : d.command c e = d'.judge c e := by
  unfold command
  rw [if_neg (by simp [h.on, h.notStopped, h.noPowerFail, h.carried]), if_neg (by simp [h.magic]), if_neg (by simp [h.version]),
    if_neg (by simp [h.length]), h.mac]
  dsimp only
  split
  · rfl
  next hk =>
    rcases h.later with h0 | h0 | ⟨x, hx, hl⟩
    · exact absurd h0 hk
    · rw [h0]
    · rw [hx]
      exact if_pos hl

end Dev

/-- A command that passes every check completes with its effect and its answer. -/
theorem completes_of_accepts {c : Instr} {t : Nat} {s : State} {spec : CmdSpec} {e : Envelope} {d' : Dev} {P : Dev → Prop}
    (o : State → Host.Outcome State Fault Refusal) (hc : ∀ s, exec c s = o s) (ho : ∀ s, o s = s.runAt t fun d => d.command spec e)
    (h : (s.dev.atTime t).Accepts d' spec e) (ha : (spec.effect d' e).answered = true)
    (hp : P (d'.answering (spec.effect d' e).dev e spec.code (spec.effect d' e).status (spec.effect d' e).result)) : Completes c s P := by
  refine completes_of_runAt ((hc s).trans (ho s)) ?_
  rw [Dev.command_of_accepts h, Dev.judge_of_accepts h ha]
  exact hp

theorem Confined.get {ps : List Part} {ks : List Nat} {P : Nat → Prop} {d x : Dev} (h : Confined ps ks P d x) (f : Fld) (hP : ¬ P f.key)
    (hk : f.key ∉ ks := by decide) (he : f.key ∉ eventKeys := by decide) : x.get f = d.get f := by
  rw [Dev.get, Dev.get, h.regs _ hk hP he]

/-! ### An envelope of bad magic and an undefined code (R67) -/

namespace Dev

theorem command_of_bad_magic {d : Dev} {c : CmdSpec} {e : Envelope} (hs : d.sys.mstate ≠ .off) (hp : d.pwr.stopped = false)
    (hf : d.pwr.pf = none) (hc : d.carried e = true) (hm : e.magic ≠ envelopeMagic) :
    d.command c e = (d.releaseCarrier e).bump Reg.SYS_CMD_BAD.word := by
  unfold command
  rw [if_neg (by simp [hs, hp, hf, hc]), if_pos hm]

theorem command_of_undefined {d d' : Dev} {code : Nat} {e : Envelope} (hr : matrixRow code = none) (hs : d.sys.mstate ≠ .off)
    (hp : d.pwr.stopped = false) (hf : d.pwr.pf = none) (hc : d.carried e = true) (hm : e.magic = envelopeMagic) (hv : e.version = 1)
    (hl : e.lengthOk = true) (hk : (d.releaseCarrier e).macCheck e code = (true, d')) (h0 : d'.lastSeq e.keyId = none)
    (hi : e.keyId ≠ 0) (hu : code ≠ cmdKeyUpdate) : d.command (specUndefined code) e = d'.refuseRecorded e code ST_BAD_ARGUMENT := by
  have hpermit : d'.keyPermits e code = true := by rw [keyPermits, if_neg hi, if_neg hu]
  unfold command
  rw [if_neg (by simp [hs, hp, hf, hc]), if_neg (by simp [hm]), if_neg (by simp [hv]), if_neg (by simp [hl])]
  simp only [specUndefined, hk, hi, if_false, h0, judge, hpermit, hr, Option.isNone_none, Bool.not_true, Bool.false_eq_true, if_true]

/-- The counts of refused pushes are the Joist's. -/
theorem not_qRefused {k : Nat} (h : k < (Reg.JST_QREFUSED.word 0).key) : ¬ QRefused k := by
  rintro ⟨i, -, rfl⟩
  exact absurd h (by simp [Reg.JST_QREFUSED.word])

theorem resetCmd_isBoot (d : Dev) (clear : Bool) (chan straps : Nat) : ∃ x, IsBoot x (d.resetCmd clear chan straps) :=
  ⟨_, beginBoot_isBoot _ _⟩

end Dev

/-- Settles O17: each command's effect leaves the machine as the checks left it, so that what it reports is what stood then. -/
theorem statusCommandsComplete : Obligations.StatusCommandsComplete := by
  unfold Obligations.StatusCommandsComplete
  refine ⟨fun t e s d' h => completes_of_accepts (execGetStatus t e) (fun _ => rfl) (fun _ => rfl) h rfl
      ⟨d'.answering_answered d' e _ _ _, rfl, d'.answering_mstate d' e _ _ _⟩,
    fun t e s d' h => completes_of_accepts (execReadEvents t e) (fun _ => rfl) (fun _ => rfl) h rfl
      ⟨d'.answering_answered d' e _ _ _, d'.answering_ring d' e _ _ _⟩,
    fun t e s d' h => completes_of_accepts (execMeterSnapshot t e) (fun _ => rfl) (fun _ => rfl) h rfl
      ⟨d'.answering_answered d' e _ _ _, (d'.answering_confined d' e _ _ _).parts .mtr (by decide)⟩,
    fun t code e s hs hp hf hc hm => ?_, fun t code e s d' hr hs hp hf hc hm hv hl hk h0 hi hu => ?_⟩
  · refine completes_of_runAt (t := t) (f := fun d => d.command (specUndefined code) e) rfl ?_
    rw [Dev.command_of_bad_magic (d := s.dev.atTime t) (by simpa using hs) (by simpa using hp) (by simpa using hf) hc hm]
    have h := (s.dev.atTime t).releaseCarrier_touches e
    constructor
    · rw [Dev.settleOffers_get _ _ (by decide), Dev.get_bump _ _ (by decide) (by decide), h.get Reg.SYS_CMD_BAD.word, Dev.atTime_get]
      rfl
    · rw [Dev.settleOffers_sys, Dev.bump_sys]
      exact (h.parts .sys (by decide)).trans (s.dev.atTime_sys t)
  · refine completes_of_runAt (t := t) (f := fun d => d.command (specUndefined code) e) rfl ?_
    rw [Dev.command_of_undefined (d := s.dev.atTime t) hr (by simpa using hs) (by simpa using hp) (by simpa using hf) hc hm hv hl hk h0 hi hu]
    exact d'.answering_answered d' e code _ _

/-- Settles O18: what each effect asks for stands beside the answer, which leaves every component but the port's own. -/
theorem controlCommandsComplete : Obligations.ControlCommandsComplete := by
  unfold Obligations.ControlCommandsComplete
  refine ⟨fun t e s d' h => ?_, fun t e s d' h => ?_, fun t e s d' h => ?_, fun t e s d' h => ?_, fun t e straps s d' h => ?_⟩
  · refine completes_of_accepts (execStart t e) (fun _ => rfl) (fun _ => rfl) h rfl ⟨?_, Dev.answering_mstate _ _ _ _ _ _,
      Dev.answering_answered _ _ _ _ _ _⟩
    obtain ⟨l, y, z, hx⟩ := d'.answering_sys (specStart.effect d' e).dev e cmdStart ST_OK []
    exact congrArg (·.startPending) hx
  · refine completes_of_accepts (execStop t e) (fun _ => rfl) (fun _ => rfl) h rfl ⟨?_, Dev.answering_mstate _ _ _ _ _ _,
      Dev.answering_answered _ _ _ _ _ _⟩
    obtain ⟨l, y, z, hx⟩ := d'.answering_sys (specStop.effect d' e).dev e cmdStop ST_OK []
    exact congrArg (·.stopPending) hx
  · refine completes_of_accepts (execShutdown t e) (fun _ => rfl) (fun _ => rfl) h rfl ⟨?_, Dev.answering_answered _ _ _ _ _ _⟩
    exact congrArg (·.shut) ((Dev.answering_confined _ _ _ _ _ _).parts .bst (by decide))
  · have hx := d'.answering_confined (specSetPasses.effect d' e).dev e cmdSetPasses ST_OK []
    refine completes_of_accepts (execSetPasses t e) (fun _ => rfl) (fun _ => rfl) h rfl ⟨?_, ?_, Dev.answering_answered _ _ _ _ _ _⟩
    · exact congrArg (·.nextPasses) (hx.parts .beat (by decide))
    · exact hx.get Reg.BEAT_PASSES.passes_now (Dev.not_qRefused (by decide))
  · obtain ⟨x, hb⟩ : ∃ x, Dev.IsBoot x ((specReset straps.val).effect d' e).dev := d'.resetCmd_isBoot _ _ _
    refine completes_of_accepts (execReset t e straps) (fun _ => rfl) (fun _ => rfl) h rfl
      ⟨(Dev.answering_mstate _ _ _ _ _ _).trans hb.mstate, ?_, Dev.answering_answered _ _ _ _ _ _⟩
    obtain ⟨l, y, z, hx⟩ := d'.answering_sys ((specReset straps.val).effect d' e).dev e cmdReset ST_OK []
    exact (congrArg (·.warm) hx).trans hb.cold

end Sys2Proof.Machine
end

section
/-! PROOFS. Module time, the outputs it times and the backup domain: what their commands touch (R48-R53, R276-R305). -/

-- One proof at a time: a side condition left to `decide` waits for every declaration before it, each in a thread of its own.
set_option Elab.async false

namespace Sys2Proof.Machine

/-- The words may be named by a predicate alone. -/
theorem frame_of_confined_to {c : Instr} {t : Nat} {f : Dev → Dev} {ps : List Part} {P : Nat → Prop}
    (o : State → Host.Outcome State Fault Refusal) (hc : ∀ s, exec c s = o s) (ho : ∀ s, o s = s.runAt t f)
    (h : ∀ d, Confined ps [] P d (f d)) : Frame c ps P := by
  intro s
  obtain ⟨u, hu, hp, hparts, hregs⟩ := frame_of_confined o hc ho h s
  exact ⟨u, hu, hp, hparts, fun k hk => hregs k fun m => m.elim (nomatch ·) hk⟩

namespace Dev

/-! ### PPS (R48-R50) -/

theorem disciplineFreq_touches (d : Dev) : Touches [.freeCtr] [Reg.TIME_FREQ.word.key] d d.disciplineFreq :=
  d.fresh_touches.mono.put _ _

/-- The components and words of the phase source (R48, R279). -/
def sourceParts : List Part := [.freeCtr, .beat, .sil, .rtc]

theorem loseSource_touches (d : Dev) : Touches sourceParts [Reg.TIME_STATUS.word.key] d d.loseSource := by
  unfold loseSource
  extract_lets next x d1
  have h1 : Touches sourceParts [Reg.TIME_STATUS.word.key] d d1 := (Touches.refl d).setBeat _
  exact .ite (fun _ => h1.andThen (setQuality_touches _ _)) fun _ => h1

/-- The words that an edge of PPS_IN writes (R49, R50). -/
def ppsKeys : List Nat :=
  keysOf [Reg.BEAT_IRQ_STATUS.word, Reg.BEAT_PHASE_ERR.word, Reg.BEAT_PPS_CNT.word, Reg.TIME_FREQ.word] ++ slewKeys

theorem ppsAccept_touches (d : Dev) (off : Int) : Touches sourceParts ppsKeys d (d.ppsAccept off) := by
  unfold ppsAccept
  extract_lets n usable x d1 d1' d2 y
  have h1 : Touches sourceParts ppsKeys d d1' := ((((Touches.refl d).setBeat _).bump _).putB _ _).put _ _
  have h2 : Touches sourceParts ppsKeys d d2 := (h1.andThen (disciplineFreq_touches _)).andThen (slewTo_touches _ _ _ _)
  exact .ite (fun _ => h1) fun _ => .ite (fun _ => h2) fun _ => h2.setBeat _

theorem ppsReject_touches (d : Dev) (off : Int) : Touches sourceParts ppsKeys d (d.ppsReject off) := by
  unfold ppsReject
  extract_lets n x d1 y d2
  have h1 : Touches sourceParts ppsKeys d d1 := ((((Touches.refl d).setBeat _).bump _).raise _).offer _ _
  have h2 : Touches sourceParts ppsKeys d d2 := (h1.setBeat _).putB _ _
  exact .ite (fun _ => h1) fun _ => .ite (fun _ => h2.andThen (loseSource_touches _)) fun _ => h2

theorem ppsMeasure_touches (d : Dev) (off : Int) : Touches sourceParts ppsKeys d (d.ppsMeasure off) := by
  unfold ppsMeasure
  extract_lets l x d1 agree m y d2
  have h1 : Touches sourceParts ppsKeys d d1 := (Touches.refl d).setBeat _
  have h2 : Touches sourceParts ppsKeys d d2 := ((h1.setBeat _).putB _ _).offer _ _
  exact .ite (fun _ => h1) fun _ => .ite (fun _ => h2.andThen (decideStep_touches _ _)) fun _ => h2.andThen (slewTo_touches _ _ _ _)

theorem ppsEdge_touches (d : Dev) : Touches sourceParts ppsKeys d d.ppsEdge := by
  unfold ppsEdge
  extract_lets off d1 x
  have h1 : Touches sourceParts ppsKeys d d1 := .ite (fun _ => d.ppsAccept_touches off) fun _ => d.ppsReject_touches off
  exact .ite (fun _ => .refl d) fun _ => .ite (fun _ => h1.setBeat _) fun _ => h1.trans (ppsMeasure_touches _ _)

/-! ### PTP (R277, R284, R285) -/

/-- The components that PTP writes. -/
def ptpParts : List Part := [.freeCtr, .beat, .sil, .tim, .rtc]

theorem setPtp_touches (d : Dev) (p : Nat) (f : PtpPort → PtpPort) : Touches [.tim] [] d (d.setPtp p f) := (Touches.refl d).setTim _

theorem showPtp_touches (d : Dev) : Touches [] [Reg.TIME_PTP_STATE.word.key] d d.showPtp := (Touches.refl d).put _ _

/-- The words of a lost lock (R279, R285). -/
def unlockKeys : List Nat := keysOf [Reg.TIME_IRQ_STATUS.word, Reg.TIME_STATUS.word]

theorem ptpUnlock_touches (d : Dev) (port cause : Nat) : Touches ptpParts unlockKeys d (d.ptpUnlock port cause) := by
  unfold ptpUnlock
  extract_lets x d1
  have h1 : Touches ptpParts unlockKeys d d1 := (((((Touches.refl d).setTim _).put _ _).put _ _).raise _).offer _ _
  exact .ite (fun _ => .refl d) fun _ => h1.andThen (loseSource_touches _)

/-- The words of the grandmaster and the port states (R285, R300). -/
def gmKeys : List Nat := keysOf [Reg.TIME_PTP_GM_HI.word, Reg.TIME_PTP_GM_LO.word, Reg.TIME_PTP_STATE.word] ++ unlockKeys

theorem showGm_touches (d : Dev) (g : Nat) : Touches [.tim] gmKeys d (d.showGm g) :=
  .ite (fun _ => .refl d) fun _ => ((((Touches.refl d).setTim _).put _ _).put _ _).offer _ _

theorem bmca_touches (d : Dev) : Touches ptpParts gmKeys d d.bmca := by
  unfold bmca
  extract_lets ptp x d1 d2 gm
  have h1 : Touches ptpParts gmKeys d d1 := (Touches.refl d).setTim _
  have h2 : Touches ptpParts gmKeys d d2 := by
    simp only [d2]
    split
    · exact .ite (fun _ => h1) fun _ => h1.andThen (ptpUnlock_touches d1 _ _)
    · exact h1
  exact (h2.andThen (showGm_touches d2 gm)).andThen (showPtp_touches _)

/-- The words of a parent's time scale (R277). -/
def utcKeys : List Nat := keysOf [Reg.TIME_UTC.word, Reg.TIME_STATUS.word]

theorem takeUtc_touches (d : Dev) (port : Nat) : Touches [.tim] utcKeys d (d.takeUtc port) := by
  unfold takeUtc
  split
  · extract_lets d1
    have h1 : Touches [.tim] utcKeys d d1 := .ite (fun _ => (d.setUtc_touches _ _).mono) fun _ => .refl d
    exact .ite (fun _ => .refl d) fun _ => ((h1.putB _ _).putB _ _).putB _ _
  · exact .refl d

/-- The words that a PTP message writes. -/
def ptpKeys : List Nat :=
  keysOf [Reg.BEAT_PHASE_ERR.word, Reg.TIME_FREQ.word, Reg.TIME_PTP_OFFSET.word, Reg.TIME_UTC.word] ++ gmKeys ++ slewKeys

theorem ptpMeasure_touches (d : Dev) (port : Nat) (off : Int) : Touches ptpParts ptpKeys d (d.ptpMeasure port off) := by
  unfold ptpMeasure
  extract_lets n d1 tol low x y d2 d3
  have h1 : Touches ptpParts ptpKeys d d1 := ((d.setPtp_touches _ _).mono.andThen (showPtp_touches _)).put _ _
  have hs (v : TimSt) (w : BeatSt) : Touches ptpParts ptpKeys d { d1 with tim := v, beat := w } := (h1.setTim v).setBeat w
  have h2 : Touches ptpParts ptpKeys d d2 :=
    (((((hs _ _).put _ _).putB _ _).raise _).offer _ _).andThen (setQuality_touches _ _)
  have h3 : Touches ptpParts ptpKeys d d3 := (h2.andThen (takeUtc_touches _ _)).put _ _
  exact .ite (fun _ => (((h1.putB _ _).put _ _).andThen (disciplineFreq_touches _)).andThen (slewTo_touches _ _ _ _)) fun _ =>
    .ite (fun _ => h1) fun _ => .ite (fun _ => h3.andThen (decideStep_touches _ _)) fun _ =>
    (h3.andThen (disciplineFreq_touches _)).andThen (slewTo_touches _ _ _ _)

theorem ptpRx_touches (d : Dev) (port : Nat) (m : PtpMsg) : Touches ptpParts ptpKeys d (d.ptpRx port m) := by
  have hp (x : Dev) (f : PtpPort → PtpPort) : Touches ptpParts ptpKeys x (x.setPtp port f) := (x.setPtp_touches port f).mono
  unfold ptpRx
  refine .ite (fun _ => .refl d) fun _ => ?_
  split
  · exact ((hp d _).andThen (bmca_touches _)).andThen (takeUtc_touches _ _)
  · split
    · refine .ite (fun _ => .refl d) fun _ => ?_
      extract_lets d1
      split
      · exact (hp d _).trans (ptpMeasure_touches d1 _ _)
      · exact hp d _
    · exact .refl d
  · split
    · refine .ite (fun _ => .refl d) fun _ => .ite (fun _ => hp d _) fun _ => ?_
      split
      · exact hp d _
      · exact .refl d
    · exact .refl d

/-! ### Pulse outputs (R292) -/

theorem setTpo_touches (d : Dev) (k : Nat) (f : Tpo → Tpo) : Touches [.tim] [] d (d.setTpo k f) := (Touches.refl d).setTim _

theorem tpoArm_touches (d : Dev) (k : Nat) : Touches [.tim] [] d (d.tpoArm k) :=
  .ite (fun _ => d.setTpo_touches _ _) fun _ => d.setTpo_touches _ _

/-! ### The real-time clock (R293-R298, R313) -/

theorem rtcEvent_touches (d : Dev) (e : EvCode) (args : List Nat) : Touches [] [] d (d.rtcEvent e args) :=
  .ite (fun _ => .refl d) fun _ => (Touches.refl d).offer _ _

/-- The words of a tick alarm that fires (R297). -/
def tickKeys : List Nat := keysOf [Reg.RTC_IRQ_STATUS.word, Reg.RTC_TALM_HI.word]

theorem tickFire_touches (d : Dev) : Touches [.rtc] tickKeys d d.tickFire :=
  .ite (fun _ => ((((Touches.refl d).setRtc _).put _ _).raise _).andThen (rtcEvent_touches _ _ _)) fun _ => .refl d

/-- The words of the calendar (R295, R296). -/
def calKeys : List Nat := keysOf [Reg.RTC_CAL_DATE.word, Reg.RTC_CAL_TIME.word]

theorem putCal_touches (d : Dev) (c : Cal) : Touches [] calKeys d (d.putCal c) :=
  (((((((Touches.refl d).put _ _).put _ _).put _ _).put _ _).put _ _).put _ _).put _ _

/-- The words of a second of the calendar (R296, R297). -/
def secondKeys : List Nat := calKeys ++ tickKeys

theorem calSecond_touches (d : Dev) : Touches [.rtc] secondKeys d d.calSecond := by
  unfold calSecond
  extract_lets next x d0 d1 d2
  have h0 : Touches [.rtc] secondKeys d d0 := (Touches.refl d).setRtc _
  have h1 : Touches [.rtc] secondKeys d d1 := .ite (fun _ => h0) fun _ => h0.andThen (putCal_touches _ _)
  have hr (y : Dev) (n : Nat) : Touches [.rtc] secondKeys y (y.raise (if n = 0 then Reg.RTC_IRQ_STATUS.alm0 else Reg.RTC_IRQ_STATUS.alm1)) := by
    split <;> exact (Touches.refl y).raise _
  have h2 : Touches [.rtc] secondKeys d d2 := h1.foldl _ fun y n _ =>
    .ite (fun _ => (hr y n).andThen (rtcEvent_touches _ _ _)) fun _ => .refl y
  exact .ite (fun _ => .refl d) fun _ => h2.andThen (tickFire_touches _)

/-- The words of a load of the calendar (R295). -/
def calLoadKeys : List Nat := calKeys ++ keysOf [Reg.RTC_IRQ_STATUS.word]

theorem calLoad_touches (d : Dev) (master : Nat) : Touches [] calLoadKeys d (d.calLoad master) := by
  unfold calLoad
  extract_lets w next c x d0 d1
  have h1 : Touches [] calLoadKeys d d1 :=
    (((Touches.refl d).note _ d.evr).andThen (putCal_touches _ _)).andThen (rtcEvent_touches _ _ _)
  have hr (y : Dev) (n : Nat) : Touches [] calLoadKeys y
      (y.raise (if n = 0 then Reg.RTC_IRQ_STATUS.alm0_mayskip else Reg.RTC_IRQ_STATUS.alm1_mayskip)) := by
    split <;> exact (Touches.refl y).raise _
  exact .ite (fun _ => h1) fun _ => h1.foldl _ fun y n _ => .ite (fun _ => (hr y n).andThen (rtcEvent_touches _ _ _)) fun _ => .refl y

/-- The words of a compensation (R294). -/
def compKeys : List Nat := keysOf [Reg.RTC_COMP_STATE.word, Reg.RTC_STATUS.word] ++ tickKeys

theorem compTick_touches (d : Dev) (temp : Int) : Touches [.rtc] compKeys d (d.compTick temp) :=
  .ite (fun _ => .refl d) fun _ => (((((Touches.refl d).setRtc _).put _ _).put _ _).put _ _).andThen (tickFire_touches _)

theorem commitPair_touches (d : Dev) (bank : Nat) (lo hi : Fld) (v : Nat) :
    Touches [.staged] [lo.key, hi.key] d (d.commitPair bank lo hi v) :=
  ((d.setStaged_touches _).mono (hk := List.nil_subset _)).put _ _ (.head _) |>.put _ _ (.tail _ (.head _))

/-- A register of the backup domain (R298, R301). -/
def Backup (k : Nat) : Prop := k / 65536 = 8 ∨ k = Reg.BST_EARLY.word.key

/-- What a loss of retention keeps of the register file: what is not of the backup domain, and RTC_VALID where a write of the cycle has
set it (R35, R298). -/
def retained (d : Dev) (k : Nat) : Bool :=
  !((0x080000 ≤ k && k < 0x090000) || k == Reg.BST_EARLY.word.key) || (k == Reg.RTC_VALID.word.key && d.raisedNow Reg.RTC_VALID.word != 0)

theorem retained_of_not_backup (d : Dev) {k : Nat} (h : ¬ Backup k) : d.retained k = true := by
  obtain ⟨h8, hb⟩ := not_or.1 h
  have hr : ¬ (0x080000 ≤ k ∧ k < 0x090000) := by omega
  have h0 : ((0x080000 ≤ k && k < 0x090000) || k == Reg.BST_EARLY.word.key) = false := by
    simpa [hb] using not_and.1 hr
  rw [retained, h0]
  rfl

theorem keepRetained_confined (d : Dev) (v : RtcSt) :
    Confined [.rtc] [] Backup d { d with regs := d.regs.filter (fun e => d.retained e.1), rtc := v } :=
  ⟨fun p hp => by cases p <;> simp_all [Part.same],
    fun k _ hP _ => RegFile.get_filter d.retained d.regs k (d.retained_of_not_backup hP)⟩

/-- The words that a loss of retention sets. -/
def lostKeys : List Nat :=
  keysOf [Reg.RTC_CAL_DATE.word, Reg.RTC_CAL_SET_DATE.word, Reg.RTC_ALM0_TIME.word, Reg.RTC_ALM1_TIME.word, Reg.RTC_ALM0_DATE.word,
    Reg.RTC_ALM1_DATE.word, Reg.RTC_IRQ_STATUS.word, Reg.RTC_STATUS.word]

theorem rtcClear_confined (d : Dev) : Confined [.rtc] [] Backup d d.rtcClear := by
  unfold rtcClear
  extract_lets keep x d1
  have h1 : Confined [.rtc] [] Backup d d1 := d.keepRetained_confined _
  have h2 : Touches [.rtc] lostKeys d1 _ :=
    ((((((((((Touches.refl d1).put Reg.RTC_CAL_DATE.month 1).put Reg.RTC_CAL_DATE.day 1).put Reg.RTC_CAL_SET_DATE.month 1).put
      Reg.RTC_CAL_SET_DATE.day 1).put Reg.RTC_ALM0_TIME.mask 0xF).put Reg.RTC_ALM1_TIME.mask 0xF).put Reg.RTC_ALM0_DATE.mask 7).put
      Reg.RTC_ALM1_DATE.mask 7).raise Reg.RTC_IRQ_STATUS.lost).put Reg.RTC_STATUS.on_vbat (d.get Reg.RTC_STATUS.on_vbat)
  exact h1.trans (h2.within fun k hk => .inr (.inl ((by decide : ∀ k ∈ lostKeys, k / 65536 = 8) k hk)))

/-- A write of a field that is not banked touches its own word, or the violation of a locked one. -/
theorem writeField_touches (d : Dev) (key v : Nat) (r : FieldRow) :
    Touches [] [key, Reg.SYS_STATUS.lock_viol.key] d (d.writeField key key v r) := by
  have hput (f : Fld) (x : Nat) (hf : f.key = key) : Touches [] [key, Reg.SYS_STATUS.lock_viol.key] d (d.put f x) :=
    (Touches.refl d).put f x (hf ▸ .head _)
  unfold writeField
  extract_lets f x
  split
  · exact hput f _ rfl
  · exact .refl d
  · exact .ite (fun _ => hput f _ rfl) fun _ => .refl d
  · exact hput f _ rfl
  · exact (hput f _ rfl).note _ _
  · exact .ite (fun _ => hput f _ rfl) fun _ => (Touches.refl d).raise _ (.tail _ (.head _))

/-- No register of the backup domain is banked per master. -/
theorem not_banked_of_backup {key : Nat} (h : key / 65536 = 8) : ∀ r ∈ rowsAt (regPlace key), r.banked = false := by
  have hp : regPlace key = ⟨8, 0, key % 65536⟩ := by simp [regPlace, h]
  have hr : rowsAt ⟨8, 0, key % 65536⟩ ⊆ fieldRows 8 := by simp [rowsAt]
  rw [hp]
  exact fun r m => (by decide : ∀ r ∈ fieldRows 8, r.banked = false) r (hr m)

theorem writeRows_backup_touches (d : Dev) (bank v : Nat) {key : Nat} (h : key / 65536 = 8) :
    Touches [] [key, Reg.SYS_STATUS.lock_viol.key] d (d.writeRows bank key v) := by
  unfold writeRows
  rw [heldKey_of_not_banked key bank (not_banked_of_backup h)]
  exact (Touches.refl d).foldl _ fun x r _ => x.writeField_touches key v r

/-- A posted write acts by the rows of its register, or sets a point of the compensation's curve (R294, R313). -/
theorem applyWrite_backup (d : Dev) (bank v : Nat) {key : Nat} (h : key / 65536 = 8) : d.applyWrite bank key v =
    if key = 0x080054 then
      { d with rtc := { d.rtc with curve := modifyAt d.rtc.curve (d.get Reg.RTC_COMP_SEL.point) (fun _ => sext 16 v) } }
    else d.writeRows bank key v := by
  have hp : regPlace key = ⟨8, 0, key % 65536⟩ := by simp [regPlace, h]
  have hB : key ≠ 0x0B0010 := fun e => by rw [e] at h; simp at h
  have hf (x : Dev) : x.fixWritten ⟨8, 0, key % 65536⟩ = x := x.fixWritten_of_kept _ (by simp)
  unfold applyWrite writeRows
  simp [hp, hB, hf]

theorem applyWrite_backup_touches (d : Dev) (bank v : Nat) {key : Nat} (h : key / 65536 = 8) :
    Touches [.rtc] [key, Reg.SYS_STATUS.lock_viol.key] d (d.applyWrite bank key v) := by
  rw [d.applyWrite_backup bank v h]
  exact .ite (fun _ => (Touches.refl d).setRtc _) fun _ => (d.writeRows_backup_touches bank v h).mono (hk := List.Subset.refl _)

end Dev

/-! ### The frames -/

theorem leapSecond_frame (t : Nat) : Frame (.leapSecond t) [.tim] (fun k => k ∈ Dev.keysOf [Reg.TIME_STATUS.word, Reg.TIME_UTC.word]) :=
  frame_of_exec (ks := Dev.keysOf [Reg.TIME_STATUS.word, Reg.TIME_UTC.word]) (execLeapSecond t) (fun _ => rfl) (fun _ => rfl) (fun d =>
    .ite (fun _ => .refl d) fun _ => (((d.setUtc_touches _ _).mono.put _ _).put _ _).put _ _) fun _ h => h

theorem tickAlarmArm_frame (t : Nat) (m : Master) (v : W32) : Frame (.tickAlarmArm t m v) [.staged, .rtc]
    (fun k => k ∈ Dev.keysOf [Reg.RTC_IRQ_STATUS.word, Reg.RTC_TALM_HI.word, Reg.RTC_TALM_LO.word]) := by
  refine frame_of_exec (ks := Dev.keysOf [Reg.RTC_IRQ_STATUS.word, Reg.RTC_TALM_HI.word, Reg.RTC_TALM_LO.word]) (execTickAlarmArm t m v)
    (fun _ => rfl) (fun _ => rfl) (fun d => ?_) fun _ h => h
  exact ((((d.commitPair_touches (bankOf m) Reg.RTC_TALM_LO.word ⟨Reg.RTC_TALM_HI.word.key, 15, 0⟩ v.toNat).mono).setRtc _).put _ _).andThen
    (Dev.tickFire_touches _)

theorem postedWriteCrossed_frame (t key : Nat) (h : key / 65536 = 8) :
    Frame (.postedWriteCrossed t key) [.rtc] (fun k => k = key ∨ k = Reg.SYS_STATUS.lock_viol.key) := by
  refine frame_of_exec (ks := [key, Reg.SYS_STATUS.lock_viol.key]) (execPostedWriteCrossed t key) (fun _ => rfl) (fun _ => rfl)
    (fun d => ?_) fun k hk => by simpa using hk
  split
  · exact .refl d
  · exact ((Touches.refl d).setRtc _).trans (Dev.applyWrite_backup_touches _ _ _ h)

/-- A command that touches one component and no register. -/
theorem frame_of_part {c : Instr} {t : Nat} {f : Dev → Dev} {ps : List Part} (o : State → Host.Outcome State Fault Refusal)
    (hc : ∀ s, exec c s = o s) (ho : ∀ s, o s = s.runAt t f) (h : ∀ d, Touches ps [] d (f d)) : Frame c ps (fun _ => False) :=
  frame_of_exec (ks := []) o hc ho h no_keys

/-- Settles O53: each command touches the components and words named. -/
theorem timeFrames : Obligations.TimeFrames := by
  unfold Obligations.TimeFrames
  refine ⟨fun t => frame_of_exec (execPpsEdge t) (fun _ => rfl) (fun _ => rfl) Dev.ppsEdge_touches (by decide),
    fun t port msg => frame_of_exec (execPtpMessageRx t port msg) (fun _ => rfl) (fun _ => rfl) (fun d => d.ptpRx_touches _ _) (by decide),
    fun t port => frame_of_exec (ks := Dev.gmKeys) (execPtpAnnounceTimeout t port) (fun _ => rfl) (fun _ => rfl) (fun d =>
      .ite (fun _ => .refl d) fun _ => ((d.ptpUnlock_touches _ _).mono.andThen (Dev.setPtp_touches _ _ _)).trans (Dev.bmca_touches _))
      (by decide),
    fun t port => frame_of_exec (execPtpSyncTimeout t port) (fun _ => rfl) (fun _ => rfl) (fun d =>
      .ite (fun _ => (d.ptpUnlock_touches _ _).andThen (Dev.setPtp_touches _ _ _)) fun _ => .refl d) fun _ h => h,
    leapSecond_frame,
    fun t m => frame_of_part (execTsqLatch t m) (fun _ => rfl) (fun _ => rfl) fun d => (Touches.refl d).setTim _,
    fun t m => frame_of_part (execTsqPop t m) (fun _ => rfl) (fun _ => rfl) fun d => (Touches.refl d).setTim _,
    fun t => frame_of_part (execPpsOut t) (fun _ => rfl) (fun _ => rfl) fun d => .ite (fun _ => .refl d) fun _ => (Touches.refl d).setTim _,
    fun t => frame_of_part (execPpsOutEnd t) (fun _ => rfl) (fun _ => rfl) fun d =>
      .ite (fun _ => (Touches.refl d).setTim _) fun _ => .refl d,
    fun t m => frame_of_part (execTpoArm t m) (fun _ => rfl) (fun _ => rfl) fun d => d.tpoArm_touches _,
    fun t m => frame_of_part (execTpoDisarm t m) (fun _ => rfl) (fun _ => rfl) fun d => d.setTpo_touches _ _,
    fun t k => frame_of_part (execTpoPulse t k) (fun _ => rfl) (fun _ => rfl) fun d =>
      .ite (fun _ => .refl d) fun _ => d.setTpo_touches _ _,
    fun t k => frame_of_part (execTpoPulseEnd t k) (fun _ => rfl) (fun _ => rfl) fun d => d.setTpo_touches _ _,
    fun t temp => frame_of_exec (execRtcCompTick t temp) (fun _ => rfl) (fun _ => rfl) (fun d => d.compTick_touches temp) (by decide),
    fun t => frame_of_exec (execCalSecond t) (fun _ => rfl) (fun _ => rfl) Dev.calSecond_touches (by decide),
    fun t m => frame_of_exec (execCalLoad t m) (fun _ => rfl) (fun _ => rfl) (fun d => d.calLoad_touches _) (by decide),
    tickAlarmArm_frame,
    fun t => frame_of_exec (execTickAlarm t) (fun _ => rfl) (fun _ => rfl) (fun d =>
      .ite (fun _ => ((Touches.refl d).setRtc _).trans (Dev.tickFire_touches _)) fun _ => .refl d) (by decide),
    fun t => frame_of_exec (ks := Dev.keysOf [Reg.RTC_STATUS.word]) (execBackupToMain t) (fun _ => rfl) (fun _ => rfl)
      (fun d => (Touches.refl d).put _ _) fun _ h => h,
    fun t => frame_of_exec (ks := Dev.keysOf [Reg.RTC_STATUS.word]) (execBackupToVbat t) (fun _ => rfl) (fun _ => rfl)
      (fun d => (Touches.refl d).put _ _) fun _ h => h,
    fun t => frame_of_confined_to (P := Dev.Backup) (execRtcLost t) (fun _ => rfl) (fun _ => rfl) fun d =>
      .ite (fun _ => d.rtcClear_confined) fun _ => .refl d,
    postedWriteCrossed_frame,
    fun t => frame_of_exec (ks := Dev.keysOf [Reg.CLK_FAIL.word, Reg.CLK_STATUS.word, Reg.RTC_VALID.word]) (execXtal32Fail t)
      (fun _ => rfl) (fun _ => rfl) (fun d => (((((Touches.refl d).setRtc _).put _ _).raise _).put _ _).offer _ _) fun _ h => h,
    fun t => frame_of_exec (ks := Dev.keysOf [Reg.CLK_STATUS.word]) (execXtal32Returned t) (fun _ => rfl) (fun _ => rfl)
      (fun d => ((Touches.refl d).setRtc _).put _ _) fun _ h => h⟩

end Sys2Proof.Machine
end

section
/-! PROOFS. What an entry into BOOT leaves of the registers that it keeps, and what the stop writes and the steps before it touch
(R62-R64, R341, R455, R457, R458, R532). -/

-- One proof at a time: a side condition left to `decide` waits for every declaration before it, each in a thread of its own.
set_option Elab.async false

namespace Sys2Proof.Machine

/-- An entry into BOOT on the cold path does not keep the register (R63). -/
abbrev Unkept (k : Nat) : Prop := Dev.keptReg false k = false

/-- The registers banked per master are not kept. -/
theorem unkept_of_banked {k : Nat} (h : 0x1000000 ≤ k) : Unkept k := by
  have h8 : k / 0x10000 ≠ 8 := by omega
  simp only [Unkept, Dev.keptReg, Bool.false_and, Bool.or_false, Bool.or_eq_false_iff, List.contains_eq_mem, decide_eq_false_iff_not,
    beq_eq_false_iff_ne]
  refine ⟨h8, fun m => ?_⟩
  exact absurd ((by decide : ∀ k ∈ [0x090000, 0x090008, 0x09000C, 0x0A0000, 0x0A0004, 0x0A0008, 0x0A000C, 0x0A0010, 0x0A0014, 0x0B0044,
    0x0B0048, 0x0B004C, 0x100030, 0x000230], k < 0x1000000) k m) (Nat.not_lt.2 h)

/-- What an entry into BOOT on the cold path keeps, one on the warm path keeps. -/
theorem keptReg_of_kept {warm : Bool} {k : Nat} (h : ¬ Unkept k) : Dev.keptReg warm k = true := by
  have h' : Dev.keptReg false k = true := by simpa using h
  simp only [Dev.keptReg, Bool.false_and, Bool.or_false] at h' ⊢
  exact Bool.or_eq_true_iff.2 (.inl h')

namespace Confined

variable {ps qs : List Part} {ks ls : List Nat} {P Q : Nat → Prop} {d x y : Dev}

/-- What follows writes words named, or that an entry into BOOT does not keep. -/
theorem andUnkept (h : Confined ps ks Unkept d x) (h' : Touches qs ls x y) (hk : ∀ k ∈ ls, k ∈ ks ∨ Unkept k := by decide)
    (hp : qs ⊆ ps := by decide) : Confined ps ks Unkept d y := h.trans (h'.within hk hp)

/-- What is confined to other words is confined to these, where an entry into BOOT keeps no other. -/
theorem toUnkept (h : Confined qs ls Q d x) (hQ : ∀ k, Q k → Unkept k) (hk : ∀ k ∈ ls, k ∈ ks ∨ Unkept k := by decide)
    (hp : qs ⊆ ps := by decide) : Confined ps ks Unkept d x :=
  ⟨fun p m => h.parts p (fun n => m (hp n)), fun k m n => h.regs k (fun l => (hk k l).elim m n) (fun q => n (hQ k q))⟩

/-- The words named may be counted among those of the predicate. -/
theorem toPred (h : Confined ps ks P d x) (hk : ∀ k ∈ ks, Q k) (hP : ∀ k, P k → Q k) : Confined ps [] Q d x :=
  ⟨h.parts, fun k _ hq he => h.regs k (fun m => hq (hk k m)) (fun m => hq (hP k m)) he⟩

end Confined

/-- The frame of a command that may reach BOOT. -/
theorem frame_of_unkept {c : Instr} {t : Nat} {f : Dev → Dev} {ps : List Part} {ks ls : List Nat} {Q : Nat → Prop}
    (o : State → Host.Outcome State Fault Refusal) (hc : ∀ s, exec c s = o s) (ho : ∀ s, o s = s.runAt t f)
    (h : ∀ d, Confined ps ks Unkept d (f d)) (hk : ks ⊆ ls := by decide) :
    Frame c ps (fun k => Dev.keptReg false k = false ∨ k ∈ ls ∨ Q k) :=
  frame_of_confined_to o hc ho fun d => (h d).toPred (fun _ m => .inr (.inl (hk m))) fun _ => .inl

namespace Dev

/-! ### The entry into BOOT (R62, R63) -/

/-- The components that an entry into BOOT writes: all but memory, the backup domain and the count of free values. -/
def bootParts : List Part :=
  [.latches, .staged, .sys, .beat, .sil, .key, .cut, .rft, .lin, .jst, .tim, .hlk, .rad, .trk, .pwr, .bst, .fwu, .mtr, .pair, .lgt, .lnd]

/-- The words that it writes of those that it keeps. -/
def bootKept : List Nat := keysOf [Reg.BST_EARLY.word, Reg.PWR_STATUS.word, Reg.PWR_VIN.word, Reg.SYS_PIN_STATUS.word]

theorem dropVolatile_confined (d : Dev) (warm : Bool) : Confined bootParts bootKept Unkept d (d.dropVolatile warm) := by
  have hr : (d.dropVolatile warm).regs = bootRegs warm d.regs := by
    unfold dropVolatile recorderReset
    dsimp only
    split <;> rfl
  refine ⟨fun p hp => ?_, fun k _ hk _ => ?_⟩
  · unfold dropVolatile recorderReset
    dsimp only
    split <;> cases p <;> simp_all [Part.same, bootParts]
  · rw [hr]
    exact bootRegs_get warm d.regs k (keptReg_of_kept hk)

/-- The words of the media that a warm boot keeps (R63). -/
def mediaKeys : List Nat := (List.range 4).map (fun r => (Reg.RAD_STATUS.c0_suspended r).key) ++
  ([14, 15].map (fun w => (Reg.TRK_STATUS.word w).key) ++ [14, 15].map fun w => (Reg.TRK_NET.word w).key)

theorem unkept_of_mediaKeys : ∀ k ∈ mediaKeys, Unkept k := by decide

theorem keepMedia_touches (d old : Dev) : Touches [] mediaKeys d (d.keepMedia old) := by
  unfold keepMedia
  extract_lets d1
  have h1 : Touches [] mediaKeys d d1 := (Touches.refl d).foldl _ fun x r hr =>
    have m := List.mem_map_of_mem (f := fun r => (Reg.RAD_STATUS.c0_suspended r).key) hr
    (Touches.refl x).put _ _ (List.mem_append_left _ (List.mem_append_left _ m))
  exact h1.foldl _ fun x w hw =>
    have ms := List.mem_map_of_mem (f := fun w => (Reg.TRK_STATUS.word w).key) hw
    have mn := List.mem_map_of_mem (f := fun w => (Reg.TRK_NET.word w).key) hw
    ((Touches.refl x).put _ _ (List.mem_append_left _ (List.mem_append_right _ (List.mem_append_left _ ms)))).put _ _
      (List.mem_append_left _ (List.mem_append_right _ (List.mem_append_right _ mn)))

theorem setEntry_touches (d : Dev) (s : SysSt) (e : EvrSt) (b : BstSt) (v : PwrSt) :
    Touches [.sys, .bst, .pwr] [] d { d with sys := s, evr := e, bst := b, pwr := v } :=
  (Touches.refl d).update (fun p hp => by cases p <;> simp_all [Part.same]) rfl

theorem beginBoot_confined (dv : Dev) (warm : Bool) (straps : Nat) : Confined bootParts bootKept Unkept dv (dv.beginBoot warm straps) := by
  unfold beginBoot
  extract_lets d s d1 x1 x2 x3 x4 d2 d3 d4 d5 d6
  have h0 : Touches [] [] dv d := .ite (fun _ => dv.drainBuffer_touches) fun _ => (Touches.refl dv).settleOffers
  have h1 : Confined bootParts bootKept Unkept dv d1 :=
    ((h0.confined.trans (d.dropVolatile_confined warm)).andUnkept (joistReset_touches _)).andUnkept (hlReset_touches _)
  have h2 : Confined bootParts bootKept Unkept dv d2 := h1.step (setEntry_touches d1 _ _ _ _).mono
  obtain ⟨p, hp, h3⟩ : ∃ p, d3 = p.when warm (fun x => x.keepMedia d) ∧ Touches [] (bootKept ++ bootKeys) d2 p :=
    ⟨_, rfl, ((((((Touches.refl d2).put _ _).put _ _).put _ _).putB _ _).put _ _).put _ _⟩
  have h3' : Confined bootParts bootKept Unkept dv d3 := by
    rw [hp]
    exact .ite (fun _ => (h2.andUnkept h3).andUnkept (keepMedia_touches _ _) fun k m => .inr (unkept_of_mediaKeys k m)) fun _ => h2.andUnkept h3
  have h4 : Confined bootParts bootKept Unkept dv d4 := .ite (fun _ => h3') fun _ => h3'.offer _ _
  have h5 : Confined bootParts bootKept Unkept dv d5 := .step
    (.ite (fun _ => h4) fun _ => (h4.andUnkept (d4.setRole_touches _)).andUnkept (setSuspended_touches _ _)) ((Touches.refl _).setLnd _)
  have h6 : Confined bootParts bootKept Unkept dv d6 := .ite (fun _ => h5.foldl _ fun x _ _ => (Confined.refl x).step ((Touches.refl x).setBst _)) fun _ => h5
  exact .ite (fun _ => h5) fun _ => h6.andUnkept (startStep_touches _ _)

theorem enterBoot_confined (d : Dev) (cause : Nat) (warm : Bool) (straps : Nat) :
    Confined bootParts bootKept Unkept d (d.enterBoot cause warm straps) :=
  (d.announce_touches .boot cause).confined.trans (beginBoot_confined _ _ _)

theorem leaveOff_confined (d : Dev) (straps : Nat) :
    Confined bootParts (Reg.CLK_STATUS.word.key :: bootKept) Unkept d (d.leaveOff straps) := by
  unfold leaveOff
  extract_lets x0 d0 d1
  have h1 : Touches [.pwr] (Reg.CLK_STATUS.word.key :: bootKept) d d1 := (((((Touches.refl d).setPwr _).put _ _).put _ _).put _ _).put _ _
  exact .ite (fun _ => h1.confined) fun _ => h1.confined.after (enterBoot_confined d1 _ _ _)

/-! ### The stop writes (R341, R457, R458, R532) -/

theorem takeChunk_touches (d : Dev) (n k : Nat) : Touches [.sil] [] d (d.takeChunk n k).1 := (Touches.refl d).setSil _

theorem commits_touches (l : List JVal) (d : Dev) : Touches [.sil] [] d (l.foldl (fun d v => d.commit v) d) :=
  (Touches.refl d).foldl _ fun x v _ => x.commit_touches v

theorem finishSnapshot_touches (d : Dev) : Touches [.sil] [] d d.finishSnapshot :=
  .ite (fun _ => .refl d) fun _ => (((Touches.refl d).setSil _).trans (commits_touches _ _)).foldl _ fun x _ _ =>
    (x.takeChunk_touches _ _).trans (commit_touches _ _)

/-- The registers of SIL_JW_STATUS (R350). -/
def JwStatus (k : Nat) : Prop := ∃ b, k = (Reg.SIL_JW_STATUS.word b).key

theorem recordDone_confined (d : Dev) : Confined [.sil] [Reg.SIL_IRQ_STATUS.word.key] JwStatus d d.recordDone := by
  unfold recordDone
  split
  · exact .refl d
  next r _ =>
    extract_lets x y z d1
    have h1 : Touches [.sil] [Reg.SIL_IRQ_STATUS.word.key] d d1 :=
      ((d.commitChecked_touches _).mono.setSil _).andThen (journalStart_touches _)
    split
    · refine Touches.within (qs := [.sil]) (ls := [Reg.SIL_IRQ_STATUS.word.key, (Reg.SIL_JW_STATUS.word r.bank).key]) ?_ fun k m =>
        (List.mem_cons.1 m).imp List.mem_singleton.2 fun h => ⟨r.bank, List.mem_singleton.1 h⟩
      exact (((h1.mono (hk := List.cons_subset_cons _ (List.nil_subset _))).put _ _ (.tail _ (.head _))).put _ _ (.tail _ (.head _))).raise _ (.head _)
    · exact h1.confined

theorem stopWrites_confined (d : Dev) (cause : Nat) (commanded : Bool) :
    Confined [.sil] [Reg.SIL_IRQ_STATUS.word.key] JwStatus d (d.stopWrites cause commanded) := by
  unfold stopWrites
  extract_lets d1 x d2 d3
  have h1 : Confined [.sil] [Reg.SIL_IRQ_STATUS.word.key] JwStatus d d1 :=
    .ite (fun _ => d.writeSuppressed_touches.confined.andThen (finishSnapshot_touches _)) fun _ => .refl d
  have h2 : Confined [.sil] [Reg.SIL_IRQ_STATUS.word.key] JwStatus d d2 :=
    (h1.step ((Touches.refl d1).setSil _)).trans (recordDone_confined _)
  have h3 : Confined [.sil] [Reg.SIL_IRQ_STATUS.word.key] JwStatus d d3 :=
    .ite (fun _ => h2) fun _ => h2.andThen (commits_touches _ d2)
  exact .ite (fun _ => .refl d) fun _ => (h3.andThen (drainBuffer_touches _)).andThen (commit_touches _ _)

theorem unkept_of_jwStatus {k : Nat} (h : JwStatus k) : Unkept k := by
  obtain ⟨b, rfl⟩ := h
  exact unkept_of_banked (by simp only [Reg.SIL_JW_STATUS.word]; omega)

theorem unkept_of_jGet {k : Nat} (h : JGet k) : Unkept k := by
  obtain ⟨b, rfl⟩ := h
  exact unkept_of_banked (by simp only [Reg.JST_GET.word]; omega)

theorem unkept_of_qRefused {k : Nat} (h : QRefused k) : Unkept k := by
  obtain ⟨i, hi, rfl⟩ := h
  exact (by decide : ∀ i < 64, Unkept (Reg.JST_QREFUSED.word i).key) i hi

/-- The stop writes beside an entry into BOOT. -/
theorem stopWrites_unkept (d : Dev) (cause : Nat) (commanded : Bool) :
    Confined bootParts bootKept Unkept d (d.stopWrites cause commanded) :=
  (d.stopWrites_confined cause commanded).toUnkept fun _ => unkept_of_jwStatus

/-! ### RESET and the watchdog (R190, R457) -/

theorem releaseHeld_unkept (d : Dev) (core : Nat) : Confined bootParts bootKept Unkept d (d.releaseHeld core) := by
  have hk : ∀ k ∈ [(Reg.JST_ITEM_SEL.word core).key, Reg.JST_IRQ_STATUS.word.key], k ∈ bootKept ∨ Unkept k := by
    intro k h
    rcases List.mem_cons.1 h with rfl | h
    · exact .inr (unkept_of_banked (by simp only [Reg.JST_ITEM_SEL.word]; omega))
    · rw [List.mem_singleton.1 h]; exact .inr (by decide)
  refine .ite (fun _ => .refl d) fun _ => Touches.within (qs := [.jst]) ?_ hk
  exact .offer _ _ (.raise _ (.put _ _ (.setJst _ (.refl d)) (.head _)) (.tail _ (.head _)))

theorem resetCmd_confined (d : Dev) (clear : Bool) (chan straps : Nat) :
    Confined bootParts bootKept Unkept d (d.resetCmd clear chan straps) := by
  unfold resetCmd
  extract_lets d0 x d1
  have h0 : Confined bootParts bootKept Unkept d d0 := (Confined.refl d).andUnkept (d.endTests_touches 2)
  have hx : Confined bootParts bootKept Unkept d x := h0.foldl _ fun y _ _ => (Confined.refl y).andUnkept (y.commit_touches _)
  have h1 : Confined bootParts bootKept Unkept d d1 := .ite (fun _ => hx.step ((((Touches.refl x).put _ _).put _ _).offer _ _)) fun _ => h0
  exact ((h1.andUnkept (d1.announce_touches _ _)).trans (stopWrites_unkept _ _ _)).trans (beginBoot_confined _ _ _)

end Dev
end Sys2Proof.Machine
end

section
/-! PROOFS. The frames of the commands that may enter BOOT (R62-R64, R190, R308, R457, R458, R475, R532). -/

-- One proof at a time: a side condition left to `decide` waits for every declaration before it, each in a thread of its own.
set_option Elab.async false

namespace Sys2Proof.Machine
namespace Dev

/-! ### The supply, the main clock, RST_N and the watchdog (R62, R190, R308, R532) -/

theorem powerOn_confined (d : Dev) (straps vin : Nat) :
    Confined bootParts (Reg.CLK_STATUS.word.key :: bootKept) Unkept d ((d.put Reg.PWR_VIN.mv (min vin 65535)).leaveOff straps) :=
  ((Confined.refl d).step ((Touches.refl d).put _ _)).trans (leaveOff_confined _ _)

theorem mainClockReturned_confined (d : Dev) (straps : Nat) :
    Confined bootParts (Reg.CLK_STATUS.word.key :: bootKept) Unkept d (d.mainClockReturned straps) := by
  unfold mainClockReturned
  split
  · exact .refl d
  · refine .ite (fun _ => .refl d) fun _ => ?_
    extract_lets d1 x d2
    have h1 : Touches [] [Reg.CLK_STATUS.word.key] d d1 := ((Touches.refl d).put _ _).put _ _
    have h2 : Touches [] [Reg.CLK_STATUS.word.key] d d2 := (h1.put _ _).offer _ _
    exact .ite (fun _ => h1.confined.step ((Touches.refl d1).setPwr _)) fun _ => (h2.confined.offer _ _).after (enterBoot_confined _ _ _ _)

theorem watchdog_confined (d : Dev) (straps : Nat) : Confined bootParts bootKept Unkept d
    (((((List.range 8).foldl (fun (d : Dev) c => d.releaseHeld c) d).announce .boot causeWatchdog).stopWrites 7 false).beginBoot false straps) := by
  have h0 : Confined bootParts bootKept Unkept d ((List.range 8).foldl (fun (d : Dev) c => d.releaseHeld c) d) :=
    (Confined.refl d).foldl _ fun x c _ => x.releaseHeld_unkept c
  exact ((h0.andUnkept (announce_touches _ _ _)).trans (stopWrites_unkept _ _ _)).trans (beginBoot_confined _ _ _)

/-! ### The end of the stop writes and of the tests (R458, R460, R475) -/

/-- The components of a command that may enter BOOT or OFF. -/
def stopParts : List Part := .mem :: bootParts

theorem goOff_unkept (d : Dev) : Confined stopParts bootKept Unkept d d.goOff.keptOff := by
  have h : Confined stopParts bootKept Unkept d d.goOff := d.goOff_isOff.touches.within fun k m => by
    rcases List.mem_append.1 m with m | m
    · exact (by decide : ∀ k ∈ offKeys, k ∈ bootKept ∨ Unkept k) k m
    · obtain ⟨b, -, rfl⟩ := List.mem_map.1 m
      exact .inr (unkept_of_jGet ⟨b, rfl⟩)
  exact h.step ((Touches.refl _).setPwr _)

theorem setTest_touches (d : Dev) (b : BstSt) (c : CutSt) : Touches [.bst, .cut] [] d { d with bst := b, cut := c } :=
  (Touches.refl d).update (fun p hp => by cases p <;> simp_all [Part.same]) rfl

theorem enterTest_unkept (d : Dev) (r : ShutReq) : Confined stopParts bootKept Unkept d (d.enterTest r) := by
  unfold enterTest
  extract_lets sel standby d1 run
  have h1 : Confined stopParts bootKept Unkept d d1 :=
    ((d.goto_confined _ _).toUnkept fun _ => unkept_of_jGet).andUnkept (qs := []) (ls := [Reg.BST_STATUS.word.key]) (.put _ _ (.refl _))
  exact (h1.andUnkept (d1.setTest_touches _ _)).andUnkept (startTests_touches _)

theorem activateStopped_unkept (d : Dev) (r : ActRun) (straps : Nat) :
    Confined stopParts bootKept Unkept d (d.activateStopped r straps) := by
  unfold activateStopped
  extract_lets d1 p d2
  have h1 : Confined stopParts bootKept Unkept d d1 :=
    ((Confined.refl d).andUnkept (d.announce_touches _ _)).after (stopWrites_unkept _ _ _)
  have h2 : Confined stopParts bootKept Unkept d d2 := h1.andUnkept (d1.commit_touches _)
  exact (h2.step ((Touches.refl d2).setFwu _)).after (beginBoot_confined _ _ _)

theorem stopWritesDone_unkept (d : Dev) (straps : Nat) : Confined stopParts bootKept Unkept d (d.stopWritesDone straps) := by
  unfold stopWritesDone
  split
  · extract_lets x d0
    have h0 : Confined stopParts bootKept Unkept d d0 := (Confined.refl d).step ((Touches.refl d).setBst _)
    refine .ite (fun _ => h0) fun _ => .ite (fun _ => (h0.after (stopWrites_unkept _ _ _)).trans (enterTest_unkept _ _)) fun _ => ?_
    exact (((h0.offer _ _).andUnkept (announce_touches _ _ _)).after (stopWrites_unkept _ _ _)).trans (goOff_unkept _)
  · exact .ite (fun _ => activateStopped_unkept _ _ _) fun _ => .refl d
  · exact .refl d

theorem testsReported_touches (d : Dev) (r : TestRun) :
    Touches [.bst] (keysOf [Reg.BST_STATUS.word, Reg.BST_TEST_PEAK.word]) d (d.testsReported r) :=
  (((((Touches.refl d).setBst _).put _ _).offer _ _).put _ _).put _ _

theorem finishTests_unkept (d : Dev) (straps : Nat) : Confined stopParts bootKept Unkept d (d.finishTests straps) := by
  unfold finishTests
  split
  · exact .refl d
  next r _ =>
    have h (to_ : ModState) : Confined stopParts bootKept Unkept d ((d.testsReported r).announce to_ causeTests).writeSuppressed :=
      (((Confined.refl d).andUnkept (d.testsReported_touches r)).andUnkept (announce_touches _ _ _)).andUnkept (writeSuppressed_touches _)
    exact .ite (fun _ => .refl d) fun _ => .ite (fun _ => (h .boot).after (beginBoot_confined _ _ _)) fun _ => (h .off).trans (goOff_unkept _)

theorem unitFaults_touches (d : Dev) (t : Nat) (units : List Nat) (code : Nat) : Touches [.bst] [] d (d.unitFaults t units code) :=
  .ite (fun _ => (Touches.refl d).foldl _ fun x _ _ => (x.storeResult_touches _ _ _ _).offer _ _) fun _ => .refl d

theorem testFinished_unkept (d : Dev) (t : Nat) (failed : List Nat) (code straps : Nat) :
    Confined stopParts bootKept Unkept d (d.testFinished t failed code straps) := by
  unfold testFinished
  split
  · exact (d.unitFaults_touches t failed code).confined
  refine .ite (fun _ => .refl d) fun _ => ?_
  extract_lets d1 bad x d2 d3
  have h1 : Touches [.bst] [] d d1 := (Touches.refl d).foldl _ fun x _ _ => x.storeResult_touches _ _ _ _
  have h2 : Confined stopParts bootKept Unkept d d2 := (h1.setBst _).confined
  have h3 : Confined stopParts bootKept Unkept d d3 := .ite (fun _ => h2.andUnkept (judgeHoldup_touches _ _ _)) fun _ => h2
  exact (h3.andUnkept (startTests_touches d3)).trans (finishTests_unkept _ _)

end Dev

/-! ### The frames -/

theorem powerOn_frame (t : Nat) (straps : Fin 8) (vin : Nat) (ls : List Nat) (Q : Nat → Prop)
    (hk : Reg.CLK_STATUS.word.key :: Dev.bootKept ⊆ ls) :
    Frame (.powerOn t straps vin) Dev.bootParts (fun k => Dev.keptReg false k = false ∨ k ∈ ls ∨ Q k) :=
  frame_of_unkept (execPowerOn t straps vin) (fun _ => rfl) (fun _ => rfl) (fun d => by
    refine .ite (fun _ => .refl d) fun _ => ?_
    split
    · exact .ite (fun _ => .refl d) fun _ => (Confined.refl d).step ((Touches.refl d).setPwr _)
    · exact .ite (fun _ => .refl d) fun _ => d.powerOn_confined _ _) hk

theorem rstNRelease_frame (t : Nat) (straps : Fin 8) (ls : List Nat) (Q : Nat → Prop) (hk : Dev.bootKept ⊆ ls) :
    Frame (.rstNRelease t straps) Dev.bootParts (fun k => Dev.keptReg false k = false ∨ k ∈ ls ∨ Q k) := by
  refine frame_of_unkept (execRstNRelease t straps) (fun _ => rfl) (fun _ => rfl) (fun d => ?_) hk
  have h1 (v : PwrSt) : Confined Dev.bootParts Dev.bootKept Unkept d { d with pwr := v } := (Confined.refl d).step ((Touches.refl d).setPwr v)
  refine .ite (fun _ => .refl d) fun _ => ?_
  split
  · exact h1 _
  · exact .ite (fun _ => (h1 _).step ((Touches.refl _).setLnd _)) fun _ => .ite (fun _ => (h1 _).trans (Dev.beginBoot_confined _ _ _)) fun _ =>
      (h1 _).trans (Dev.enterBoot_confined _ _ _ _)

theorem reset_frame (t : Nat) (e : Envelope) (straps : Fin 8) (ls : List Nat) (Q : Nat → Prop)
    (hk : Dev.commandKeys ++ Dev.bootKept ⊆ ls) :
    Frame (.reset t e straps) Dev.bootParts (fun k => Dev.keptReg false k = false ∨ k ∈ ls ∨ Q k) :=
  frame_of_unkept (ks := Dev.commandKeys ++ Dev.bootKept) (execReset t e straps) (fun _ => rfl) (fun _ => rfl) (fun d =>
    Dev.command_confined (by decide) (by decide) (fun _ => Dev.unkept_of_qRefused) d _ e fun x =>
      (x.resetCmd_confined _ _ _).mono fun _ => .inr) hk

end Sys2Proof.Machine
end

section
/-! PROOFS. What a boot step that fails touches: its record, the start of its next run, and FAILSAFE with the Lintel brought up
(R22, R96, R135, R449, R454, R456). -/

-- One proof at a time: a side condition left to `decide` waits for every declaration before it, each in a thread of its own.
set_option Elab.async false

namespace Sys2Proof.Machine

theorem Touches.setRad {ps : List Part} {ks : List Nat} {d x : Dev} (r : Nat) (f : RadSt → RadSt) (h : Touches ps ks d x)
    (hp : .rad ∈ ps := by decide) : Touches ps ks d (x.setRad r f) :=
  h.update (fun p hq => by cases p <;> simp_all [Part.same, Dev.setRad]) rfl

theorem Touches.setTrk {ps : List Part} {ks : List Nat} {d x : Dev} (r : Nat) (f : TrkSt → TrkSt) (h : Touches ps ks d x)
    (hp : .trk ∈ ps := by decide) : Touches ps ks d (x.setTrk r f) :=
  h.update (fun p hq => by cases p <;> simp_all [Part.same, Dev.setTrk]) rfl

namespace Dev

/-! ### The Lintel (R22, R96, R135, R136) -/

theorem loadC0_touches (d : Dev) (f : SafetyFrame) (md seq : Nat) (fresh : Bool) :
    Touches [.key, .rad, .trk] keyKeys d (d.loadC0 f md seq fresh) := by
  have h := d.useKey_touches (d.c0KeyOf md).1 (d.c0KeyOf md).2 useClass0
  unfold loadC0
  extract_lets lm
  split
  · exact .refl d
  · split
    next st key d1 hu =>
    rw [hu] at h
    exact .ite (fun _ => h.mono) fun _ => .ite (fun _ => h.mono.setRad _ _) fun _ => h.mono.setTrk _ _

theorem loadFrame_touches (d : Dev) (f : SafetyFrame) (media : List Nat) (fresh : Bool) :
    Touches [.key, .lin, .rad, .trk] keyKeys d (d.loadFrame f media fresh) :=
  ((Touches.refl d).setLin _).foldl _ fun x _ _ => (x.loadC0_touches _ _ _ _).mono

/-- The words of the class-0 suspension (R21, R22). -/
def suspendKeys : List Nat := keysOf [Reg.SYS_C0_SUSPEND.word, Reg.SYS_STATUS.word]

theorem queueC0_touches (d : Dev) (come : List Nat) (r : Nat) : Touches [.rad] suspendKeys d (d.queueC0 come r) :=
  (Touches.refl d).foldl _ fun x _ _ => (((Touches.refl x).setRad _ _).andThen (setSuspended_touches _ _)).offer _ _

theorem mapC0_touches (d : Dev) (md : Nat) (f : List C0Send → List C0Send) : Touches [.rad, .trk] [] d (d.mapC0 md f) :=
  .ite (fun _ => (Touches.refl d).setRad _ _) fun _ => (Touches.refl d).setTrk _ _

theorem reloadC0_touches (d : Dev) (f : SafetyFrame) : Touches [.key, .lin, .rad, .trk] keyKeys d (d.reloadC0 f) := by
  unfold reloadC0
  extract_lets media x
  refine .ite (fun _ => .refl d) fun _ => ((Touches.refl d).setLin _).foldl _ fun y md _ => ?_
  split
  · exact .refl y
  · exact ((y.mapC0_touches _ _).mono.andThen (loadC0_touches _ _ _ _ _)).andThen (mapC0_touches _ _ _)

/-- The words of the networks of UPLINK and TIE (R96). -/
def netKeys : List Nat := [8, 9].map fun p => (Reg.TRK_NET.word (trkWindow p)).key

/-- The words that a SAFETY section coming into force writes. -/
def safetyKeys : List Nat := netKeys ++ suspendKeys ++ keyKeys

theorem setLinRft_touches (d : Dev) (v : LintelSt) (w : RftSt) : Touches [.rft, .lin] [] d { d with lin := v, rft := w } :=
  (Touches.refl d).update (fun p hp => by cases p <;> simp_all [Part.same]) rfl

theorem setLinLnd_touches (d : Dev) (v : LintelSt) (w : LndSt) : Touches [.lin, .lnd] [] d { d with lin := v, lnd := w } :=
  (Touches.refl d).update (fun p hp => by cases p <;> simp_all [Part.same]) rfl

theorem setRads_touches (d : Dev) (v : List RadSt) : Touches [.rad] [] d { d with rad := v } :=
  (Touches.refl d).update (fun p hp => by cases p <;> simp_all [Part.same]) rfl

theorem setSafety_touches (d : Dev) (sec : Option Safety) : Touches [.key, .rft, .lin, .rad, .trk] safetyKeys d (d.setSafety sec) := by
  unfold setSafety
  extract_lets find kept edge x0 x1 d1 d2 d3 net d4
  have h1 : Touches [.key, .rft, .lin, .rad, .trk] safetyKeys d d1 := (d.setLinRft_touches _ _).mono
  have h2 : Touches [.key, .rft, .lin, .rad, .trk] safetyKeys d d2 :=
    (Touches.ite (fun _ => h1.andThen (cmdEntry_touches _ _)) fun _ => h1).foldl _ fun x _ _ => (Touches.refl x).offer _ _
  have h3 : Touches [.key, .rft, .lin, .rad, .trk] safetyKeys d d3 := .ite (fun _ => h2.andThen (setSuspended_touches _ _)) fun _ => h2
  have h4 : Touches [.key, .rft, .lin, .rad, .trk] safetyKeys d d4 := h3.foldl _ fun x p hp =>
    have m : (Reg.TRK_NET.word (trkWindow p)).key ∈ safetyKeys ++ eventKeys := List.mem_append_left _ (List.mem_append_left _
      (List.mem_append_left _ (List.mem_map_of_mem (f := fun p => (Reg.TRK_NET.word (trkWindow p)).key) hp)))
    ((Touches.refl x).put (Reg.TRK_NET.key_id (trkWindow p)) _ m).put (Reg.TRK_NET.net_id (trkWindow p)) _ m
  refine h4.foldl _ fun x a _ => ?_
  split
  · exact (x.reloadC0_touches _).mono
  · exact .refl x

theorem showAck_touches (d : Dev) (on : Bool) : Touches [.lin, .lnd] [Reg.SYS_PIN_STATUS.word.key] d (d.showAck on) :=
  ((d.setLinLnd_touches _ _).mono).putB _ _

theorem lightC0_touches (d : Dev) : Touches [.lgt] [] d d.lightC0 := (Touches.refl d).setLgt _

/-- The components and words of the latch, the aborted tests apart. -/
def latchParts : List Part := [.key, .lin, .rad, .trk, .lgt, .lnd]

def latchKeys : List Nat := Reg.SYS_PIN_STATUS.word.key :: suspendKeys ++ keyKeys

/-- The latch as three changes (R135): what is latched, the frames loaded with the tests that they end, and what their loading shows. -/
theorem latch_cases (d : Dev) : d.latch = d ∨ ∃ (come : List ActiveFrame) (x y : Dev), Touches [.lin] [] d x ∧
    y = come.foldl (fun d a => (d.abortTests (testsOnMedia a.frame.media) 0).loadFrame a.frame (List.range 14) true) x ∧
    Touches latchParts latchKeys y d.latch := by
  unfold latch
  split
  · exact .inl rfl
  extract_lets old new gone come emg d1 d2 x0 d3 d4 d4' d5
  have h1 : Touches [.lin] [] d d1 := (Touches.refl d).foldl _ fun x _ _ => (Touches.refl x).offer _ _
  have h2 : Touches [.lin] [] d d2 := h1.foldl _ fun x _ _ => (Touches.refl x).offer _ _
  have h4 : Touches latchParts latchKeys d4 d4' := (Touches.refl d4).foldl _ fun x _ _ => (x.queueC0_touches _ _).mono
  have h5 : Touches latchParts latchKeys d4 d5 := (h4.andThen (showAck_touches _ _)).andThen (lightC0_touches _)
  exact .inr ⟨come, d3, d4, h2.setLin _, rfl, h5.andThen (d5.setRads_touches _)⟩

end Dev
end Sys2Proof.Machine
end

section
/-! PROOFS. FAILSAFE from a boot step, and the frames of the steps that fail (R303, R449, R454, R456). -/

-- One proof at a time: a side condition left to `decide` waits for every declaration before it, each in a thread of its own.
set_option Elab.async false

namespace Sys2Proof.Machine
namespace Dev

/-! ### The Lintel brought up (R456) -/

/-- The words of the radios' plans and the trunks' cycles (R103). -/
def linkKeys : List Nat := (List.range 4).map (fun r => (Reg.RAD_PLAN.word r).key) ++
  ((List.range 8).map (fun t => (Reg.TRK_PLCA.word t).key) ++ (List.range 8).map fun t => (Reg.TRK_CYCLE.word t).key)

theorem setMedia_touches (d : Dev) (v : List RadSt) (w : List TrkSt) : Touches [.rad, .trk] [] d { d with rad := v, trk := w } :=
  (Touches.refl d).update (fun p hp => by cases p <;> simp_all [Part.same]) rfl

theorem applyLinks_touches (d : Dev) (x : CutImage) (p q : Nat) : Touches [.rad, .trk] linkKeys d (d.applyLinks x p q) := by
  unfold applyLinks
  extract_lets d1 d2
  have h1 : Touches [.rad, .trk] linkKeys d d1 := (d.setMedia_touches _ _).mono
  have h2 : Touches [.rad, .trk] linkKeys d d2 := h1.foldl _ fun y r hr => by
    have m : (Reg.RAD_PLAN.word r).key ∈ linkKeys ++ eventKeys := List.mem_append_left _ (List.mem_append_left _
      (List.mem_map_of_mem (f := fun r => (Reg.RAD_PLAN.word r).key) hr))
    split
    · exact (((Touches.refl y).put (Reg.RAD_PLAN.max_psdu r) _ m).put (Reg.RAD_PLAN.mode r) _ m).put (Reg.RAD_PLAN.n_ch r) _ m
    · exact (Touches.refl y).put (Reg.RAD_PLAN.word r) _ m
  refine h2.foldl _ fun y t ht => ?_
  have mp : (Reg.TRK_PLCA.word t).key ∈ linkKeys ++ eventKeys := List.mem_append_left _ (List.mem_append_right _ (List.mem_append_left _
    (List.mem_map_of_mem (f := fun t => (Reg.TRK_PLCA.word t).key) ht)))
  have mc : (Reg.TRK_CYCLE.word t).key ∈ linkKeys ++ eventKeys := List.mem_append_left _ (List.mem_append_right _ (List.mem_append_right _
    (List.mem_map_of_mem (f := fun t => (Reg.TRK_CYCLE.word t).key) ht)))
  split
  · exact ((((Touches.refl y).put (Reg.TRK_PLCA.to_timer t) _ mp).put (Reg.TRK_PLCA.node_count t) _ mp).put (Reg.TRK_PLCA.max_bc t) _ mp).put
      (Reg.TRK_CYCLE.cycle_max_us t) _ mc
  · exact ((Touches.refl y).put (Reg.TRK_PLCA.word t) _ mp).put (Reg.TRK_CYCLE.cycle_max_us t) _ mc

theorem applyPins_touches (d : Dev) (l : List Nat) :
    Touches [.lnd] (keysOf [Reg.SYS_GPIO_OUT_LO.word, Reg.SYS_GPIO_OUT_HI.word]) d (d.applyPins l) :=
  (((Touches.refl d).setLnd _).put _ _).put _ _

/-- The components of the Lintel, and those of what its bringing up changes beside. -/
def lintelParts : List Part := [.key, .rft, .lin, .rad, .trk, .bst, .lgt, .lnd]

/-- The words that the Lintel's bringing up writes. -/
def lintelKeys : List Nat :=
  linkKeys ++ safetyKeys ++ latchKeys ++ keysOf [Reg.SYS_GPIO_OUT_LO.word, Reg.SYS_GPIO_OUT_HI.word, Reg.BST_IRQ_STATUS.word]

theorem abortTests_failStep (d : Dev) (tests : List Nat) (cause : Nat) : (d.abortTests tests cause).bst.failStep = d.bst.failStep := by
  unfold abortTests
  split
  · rfl
  · extract_lets
    split <;> rfl

/-- The latch keeps what ended the start, and what it touches is the Lintel's. -/
theorem latch_touches (d : Dev) : Touches lintelParts lintelKeys d d.latch ∧ d.latch.bst.failStep = d.bst.failStep := by
  obtain he | ⟨come, x, y, hx, hy, hl⟩ := d.latch_cases
  · rw [he]
    exact ⟨.refl d, rfl⟩
  · have hfold : Touches lintelParts lintelKeys x y ∧ y.bst.failStep = x.bst.failStep := by
      rw [hy]
      clear hy hx hl
      induction come generalizing x with
      | nil => exact ⟨.refl x, rfl⟩
      | cons a l ih =>
        obtain ⟨ht, hf⟩ := ih ((x.abortTests (testsOnMedia a.frame.media) 0).loadFrame a.frame (List.range 14) true)
        have h1 := loadFrame_touches (x.abortTests (testsOnMedia a.frame.media) 0) a.frame (List.range 14) true
        refine ⟨((x.abortTests_touches _ _).mono.andThen h1).trans ht, hf.trans ?_⟩
        rw [show _ = (x.abortTests (testsOnMedia a.frame.media) 0).bst from h1.parts .bst (by decide), abortTests_failStep]
    obtain ⟨hxy, hf⟩ := hfold
    refine ⟨(hx.mono.trans hxy).andThen hl, ?_⟩
    rw [show d.latch.bst = y.bst from hl.parts .bst (by decide), hf, show x.bst = d.bst from hx.parts .bst (by decide)]

/-- The Lintel's bringing up touches what is the Lintel's, and keeps what ended the start. -/
theorem bringUpLintel_touches (d : Dev) :
    Touches lintelParts lintelKeys d d.bringUpLintel ∧ d.bringUpLintel.bst.failStep = d.bst.failStep := by
  unfold bringUpLintel
  split
  next x _ =>
    extract_lets p d1
    have ha : Touches [.key, .rft, .lin, .rad, .trk, .lnd] lintelKeys d
        (((d.applyLinks x.2 p p).applyPins x.2.pinmux).setSafety (some x.2.safety)) :=
      ((d.applyLinks_touches x.2 p p).mono.andThen (applyPins_touches _ _)).andThen (setSafety_touches _ _)
    obtain ⟨hl, hf⟩ := latch_touches (((d.applyLinks x.2 p p).applyPins x.2.pinmux).setSafety (some x.2.safety))
    have hk := d1.loadKeys_touches (pinnedKeys x.2)
    refine ⟨(ha.mono.trans hl).andThen hk, ?_⟩
    rw [show (d1.loadKeys (pinnedKeys x.2)).bst = d1.bst from hk.parts .bst (by decide), hf, show _ = d.bst from ha.parts .bst (by decide)]
  · exact ⟨.refl d, rfl⟩

/-! ### FAILSAFE (R449, R454, R456) -/

theorem engineReset_touches (d : Dev) (cause : Nat) : Touches [.rft] [Reg.RFT_CS_CURSOR.word.key] d (d.engineReset cause) :=
  (((Touches.refl d).setRft _).put _ _).offer _ _

/-- The components and words of a step that fails, the loads that FAILSAFE ends apart. -/
def failParts : List Part := [.sys, .sil, .key, .rft, .lin, .jst, .rad, .trk, .bst, .fwu, .lgt, .lnd]

def failKeys : List Nat := lintelKeys ++ startKeys ++ gotoKeys ++ [Reg.RFT_CS_CURSOR.word.key]

/-- FAILSAFE is entered with the step that led to it (R454). -/
structure IsFailsafe (n : Nat) (d d' : Dev) : Prop where
  confined : Confined failParts failKeys JGet d d'
  mstate : d'.sys.mstate = .failsafe
  failStep : d'.bst.failStep = n

theorem goto_isFailsafe (d : Dev) (cause : Nat) : IsFailsafe d.bst.failStep d (d.goto .failsafe cause) where
  confined := (d.goto_confined .failsafe cause).mono fun _ => .inr
  mstate := congrArg (·.mstate) (d.goto_sys .failsafe cause)
  failStep := congrArg (·.failStep) ((d.goto_confined .failsafe cause).parts .bst (by decide))

/-- What FAILSAFE brings up keeps the state. -/
theorem IsFailsafe.andThen {n : Nat} {d x y : Dev} (h : IsFailsafe n d x) (ht : Touches lintelParts lintelKeys x y)
    (hf : y.bst.failStep = x.bst.failStep) : IsFailsafe n d y where
  confined := h.confined.andThen ht
  mstate := (congrArg (·.mstate) (ht.parts .sys (by decide))).trans h.mstate
  failStep := hf.trans h.failStep

theorem setStart_touches (d : Dev) (v : BstSt) (w : FwuSt) : Touches [.bst, .fwu] [] d { d with bst := v, fwu := w } :=
  (Touches.refl d).update (fun p hp => by cases p <;> simp_all [Part.same]) rfl

theorem bootFailsafe_isFailsafe (d : Dev) (n : Nat) : IsFailsafe n d (d.bootFailsafe n) := by
  unfold bootFailsafe
  extract_lets x0 x1 d1 d2 d3
  have h1 : Touches [.rft, .bst, .fwu] (keysOf [Reg.BST_STATUS.word, Reg.RFT_CS_CURSOR.word]) d d1 :=
    ((d.setStart_touches _ _).mono.put _ _).offer _ _
  have hr : Touches [.rft] [Reg.RFT_CS_CURSOR.word.key] d1 (if n ≤ 7 then d1.engineReset 0 else d1) :=
    .ite (fun _ => d1.engineReset_touches 0) fun _ => .refl d1
  have hn : (if n ≤ 7 then d1.engineReset 0 else d1).bst.failStep = n := congrArg (·.failStep) (hr.parts .bst (by decide))
  obtain ⟨hc, hm, hf⟩ := (if n ≤ 7 then d1.engineReset 0 else d1).goto_isFailsafe causeBootFail
  have h2 : IsFailsafe n d d2 := ⟨(h1.andThen hr).confined.trans hc, hm, hf.trans hn⟩
  have h3 : IsFailsafe n d d3 := by
    by_cases h4 : 4 ≤ n
    · rw [show d3 = d2.bringUpLintel from if_pos h4]
      exact h2.andThen d2.bringUpLintel_touches.1 d2.bringUpLintel_touches.2
    · rw [show d3 = (d2.setSuspended 0x3FFF).offer Ev.LINTEL_UNAVAILABLE [n] from if_neg h4]
      exact h2.andThen ((setSuspended_touches _ _).mono.offer _ _) rfl
  have h4 : Touches [] [] d3 d3.startFlush := (Touches.refl d3).eventOnly (EventOnly.startFlush d3)
  exact h3.andThen h4.mono (congrArg (·.failStep) (h4.parts .bst (by decide)))

/-- A step that fails runs again, until its limit, at which the module enters FAILSAFE (R454). -/
theorem stepFailed_cases (d : Dev) (n cause : Nat) : ∃ x, Touches [.sil, .bst] startKeys d x ∧
    d.stepFailed n cause = if failLimit n ≤ min 255 (d.consec n + 1) then x.bootFailsafe n else x.startStep n :=
  ⟨_, (noteStep_touches _ _ _ _ _ _).mono.offer _ _, rfl⟩

theorem stepFailed_confined (d : Dev) (n cause : Nat) : Confined failParts failKeys JGet d (d.stepFailed n cause) := by
  obtain ⟨x, hx, he⟩ := d.stepFailed_cases n cause
  rw [he]
  exact .ite (fun _ => hx.confined.trans (x.bootFailsafe_isFailsafe n).confined) fun _ => hx.confined.andThen (x.startStep_touches n)

end Dev

/-! ### The frames -/

/-- The words that O55 names of a step that fails. -/
def failNamed : List Nat := Dev.keysOf [Reg.BST_EARLY.word, Reg.BST_IRQ_STATUS.word, Reg.BST_STATUS.word, Reg.JST_STATUS.word,
  Reg.KEY_CNT.word, Reg.KEY_IRQ_STATUS.word, Reg.KEY_STATUS.word, Reg.RFT_CS_CURSOR.word, Reg.SYS_C0_SUSPEND.word,
  Reg.SYS_GPIO_OUT_HI.word, Reg.SYS_GPIO_OUT_LO.word, Reg.SYS_PIN_STATUS.word, Reg.SYS_STATUS.word]

/-- The registers of a step that fails: those named, the loads that wait, and the media's. -/
def FailReg (k : Nat) : Prop :=
  k ∈ failNamed ∨ (∃ b, k = (Reg.JST_GET.word b).key) ∨ (∃ r < 4, k = (Reg.RAD_PLAN.word r).key) ∨
    (∃ w < 8, k = (Reg.TRK_CYCLE.word w).key) ∨ (∃ w < 16, k = (Reg.TRK_NET.word w).key) ∨ (∃ w < 8, k = (Reg.TRK_PLCA.word w).key)

theorem failReg_of_failKeys {k : Nat} (h : k ∈ Dev.failKeys) : FailReg k := by
  obtain h | h | h := (by decide : ∀ k ∈ Dev.failKeys, k ∈ failNamed ∨ k ∈ Dev.linkKeys ∨ k ∈ Dev.netKeys) k h
  · exact .inl h
  · rcases List.mem_append.1 h with h | h
    · obtain ⟨r, hr, rfl⟩ := List.mem_map.1 h
      exact .inr (.inr (.inl ⟨r, List.mem_range.1 hr, rfl⟩))
    rcases List.mem_append.1 h with h | h
    · obtain ⟨w, hw, rfl⟩ := List.mem_map.1 h
      exact .inr (.inr (.inr (.inr (.inr ⟨w, List.mem_range.1 hw, rfl⟩))))
    · obtain ⟨w, hw, rfl⟩ := List.mem_map.1 h
      exact .inr (.inr (.inr (.inl ⟨w, List.mem_range.1 hw, rfl⟩)))
  · obtain ⟨p, hp, rfl⟩ := List.mem_map.1 h
    exact .inr (.inr (.inr (.inr (.inl ⟨trkWindow p, (by decide : ∀ p ∈ [8, 9], trkWindow p < 16) p hp, rfl⟩))))

/-- The frame of a command at which the running step may fail. -/
theorem frame_of_fail {c : Instr} {t : Nat} {f : Dev → Dev} (o : State → Host.Outcome State Fault Refusal) (hc : ∀ s, exec c s = o s)
    (ho : ∀ s, o s = s.runAt t f) (h : ∀ d, f d = d ∨ ∃ n cause, f d = d.stepFailed n cause) : Frame c Dev.failParts FailReg :=
  frame_of_confined_to o hc ho fun d => by
    refine Confined.toPred (ks := Dev.failKeys) (P := Dev.JGet) ?_ (fun _ => failReg_of_failKeys) fun _ hj => .inr (.inl hj)
    obtain he | ⟨n, cause, he⟩ := h d
    · rw [he]
      exact .refl d
    · rw [he]
      exact d.stepFailed_confined n cause

/-- A step that fails under a condition. -/
theorem stepFailed_or (d : Dev) {b : Prop} [Decidable b] (m k : Nat) :
    (if b then d.stepFailed m k else d) = d ∨ ∃ n cause, (if b then d.stepFailed m k else d) = d.stepFailed n cause := by
  split
  · exact .inr ⟨m, k, rfl⟩
  · exact .inl rfl

/-- Settles O55: the entries into BOOT keep what R63 keeps beside the words named, and a step that fails touches what FAILSAFE and
its next run do. -/
theorem bootFrames : Obligations.BootFrames := by
  unfold Obligations.BootFrames
  refine ⟨fun t straps vin => powerOn_frame t straps vin _ _ (by decide),
    fun t straps => frame_of_unkept (execMainClockReturned t straps) (fun _ => rfl) (fun _ => rfl) fun d => d.mainClockReturned_confined _,
    fun t straps => rstNRelease_frame t straps _ _ (by decide),
    fun t straps => frame_of_unkept (execWatchdogExpiry t straps) (fun _ => rfl) (fun _ => rfl) fun d =>
      .ite (fun _ => .refl d) fun _ => d.watchdog_confined _,
    fun t e straps => reset_frame t e straps _ _ (by decide),
    fun t straps => frame_of_unkept (execStopWritesDone t straps) (fun _ => rfl) (fun _ => rfl) fun d => d.stopWritesDone_unkept _,
    fun t test failed code straps => frame_of_unkept (execTestFinished t test failed code straps) (fun _ => rfl) (fun _ => rfl) fun d =>
      d.testFinished_unkept _ _ _ _,
    fun t cause => frame_of_fail (execBootStepFailed t cause) (fun _ => rfl) (fun _ => rfl) fun d => stepFailed_or d _ _,
    fun t => frame_of_fail (execBootStepTimeout t) (fun _ => rfl) (fun _ => rfl) fun d => stepFailed_or d _ _,
    fun t => frame_of_fail (execXtalStartTimeout t) (fun _ => rfl) (fun _ => rfl) fun d => stepFailed_or d _ _⟩

end Sys2Proof.Machine
end

section
/-! PROOFS. RST_N and the watchdog: reset is held, shown as OFF, and an entry into BOOT on the cold path follows (R62, R63, R190, R464,
R532, R533). -/

-- One proof at a time: a side condition left to `decide` waits for every declaration before it, each in a thread of its own.
set_option Elab.async false

namespace Sys2Proof.Machine
namespace Dev

/-! ### What an entry into BOOT shows (R62, R63, R533) -/

/-- A step that begins leaves how the start began. -/
theorem startStep_warm (d : Dev) (n : Nat) : (d.startStep n).get Reg.BST_STATUS.warm = d.get Reg.BST_STATUS.warm := by
  unfold startStep
  extract_lets path c x d1
  have h1 : d1.get Reg.BST_STATUS.warm = d.get Reg.BST_STATUS.warm := by
    rw [(noteStep_touches _ _ _ _ _ _).get Reg.BST_STATUS.warm,
      get_put_of_ne _ Reg.BST_STATUS.step _ _ (by decide) (by decide) (by decide) (by decide)]
    rfl
  split
  · rw [offer_get, ((Touches.refl (d1.put Reg.BST_STATUS.alt_used 1)).raise (ks := [Reg.BST_IRQ_STATUS.word.key])
      (ps := []) Reg.BST_IRQ_STATUS.alternative).get Reg.BST_STATUS.warm,
      get_put_of_ne _ Reg.BST_STATUS.alt_used _ _ (by decide) (by decide) (by decide) (by decide), h1]
  · exact h1

/-- The words that an entry into BOOT on the cold path writes once the straps are shown, those of its first step apart. -/
def coldKeys : List Nat :=
  keysOf [Reg.PWR_STATUS.word, Reg.PWR_VIN.word, Reg.SYS_STATUS.word, Reg.MTR_STATUS.word, Reg.SYS_C0_SUSPEND.word]

/-- The machine of a cold start with its straps shown: the Joist holds nothing, and RST_N is as it was. -/
structure IsCold (dv : Dev) (straps : Nat) (p : Dev) : Prop where
  straps : p.get Reg.SYS_PIN_STATUS.straps = straps % 8
  rstLow : p.pwr.rstLow = dv.pwr.rstLow
  items : p.jst.items = []
  holds : p.jst.holds = []

/-- An entry into BOOT on the cold path shows the straps, then that it is cold, and begins step 1 if the module is not held (R62). -/
theorem beginBoot_cases (dv : Dev) (straps : Nat) : ∃ p x, IsCold dv straps p ∧
    Touches [.sys, .lnd] coldKeys (p.putB Reg.BST_STATUS.warm false) x ∧
    (dv.beginBoot false straps = x ∨ dv.beginBoot false straps = x.startStep 1) := by
  unfold beginBoot
  extract_lets d s d1 x1 x2 x3 x4 d2 d3 d4 d5 d6
  have h0 : Touches [] [] dv d := .ite (fun _ => dv.drainBuffer_touches) fun _ => (Touches.refl dv).settleOffers
  have h1 : Touches [.jst, .hlk] (keysOf [Reg.HLK_STATUS.word, Reg.HLK_FILL.word]) (d.dropVolatile false) d1 :=
    (joistReset_touches _).mono.andThen (hlReset_touches _)
  have hlow : d2.pwr.rstLow = dv.pwr.rstLow := by
    have hp : d1.pwr = (d.dropVolatile false).pwr := h1.parts .pwr (by decide)
    rw [show d2.pwr.rstLow = d1.pwr.rstLow from rfl, hp, dropVolatile_pwr]
    exact congrArg (·.rstLow) (h0.parts .pwr (by decide))
  have hj : d1.jst = ((d.dropVolatile false).joistReset).jst := (hlReset_touches _).parts .jst (by decide)
  have hitems : d2.jst.items = [] := congrArg (·.items) hj
  have hholds : d2.jst.holds = [] := congrArg (·.holds) hj
  have h4 : Touches [] [] d3 d4 := .ite (fun _ => .refl _) fun _ => (Touches.refl _).offer _ _
  have h5 : Touches [.sys, .lnd] (keysOf [Reg.SYS_STATUS.word, Reg.MTR_STATUS.word, Reg.SYS_C0_SUSPEND.word]) d4 d5 :=
    ((d4.setRole_touches _).mono.andThen (setSuspended_touches _ _)).setLnd _
  refine ⟨((d2.put Reg.RFT_STATUS.lanes (d2.get Reg.BST_UNIT0.lanes)).put Reg.SYS_STATUS.state 1).put Reg.SYS_PIN_STATUS.straps straps, d5,
    ⟨get_put _ _ _ (by decide) (by decide), hlow, hitems, hholds⟩, ?_, ?_⟩
  · have h3 : Touches [.sys, .lnd] coldKeys (Dev.putB _ Reg.BST_STATUS.warm false) d3 := ((Touches.refl _).put _ _).put _ _
    exact (h3.andThen h4).andThen h5
  · by_cases h7 : s = 7
    · exact .inl (if_pos h7)
    · exact .inr (if_neg h7)

/-- BOOT begins cold: the straps are shown as sampled, the Joist holds nothing, and RST_N is as it is (R62, R63, R533). -/
theorem beginBoot_isCold (dv : Dev) (straps : Nat) :
    IsCold dv straps (dv.beginBoot false straps) ∧ (dv.beginBoot false straps).get Reg.BST_STATUS.warm = 0 := by
  obtain ⟨p, x, hp, hx, he⟩ := dv.beginBoot_cases straps
  have hw : (dv.beginBoot false straps).get Reg.BST_STATUS.warm = x.get Reg.BST_STATUS.warm := by
    obtain he | he := he
    · rw [he]
    · rw [he, startStep_warm]
  have ht : Touches [.sys, .lnd, .bst, .sil] (Reg.BST_STATUS.word.key :: coldKeys ++ startKeys) p (dv.beginBoot false straps) := by
    have h1 : Touches [.sys, .lnd, .bst, .sil] (Reg.BST_STATUS.word.key :: coldKeys ++ startKeys) p x :=
      ((Touches.refl p).putB _ _).andThen hx
    obtain he | he := he
    · rw [he]
      exact h1
    · rw [he]
      exact h1.andThen (x.startStep_touches 1)
  refine ⟨⟨?_, ?_, ?_, ?_⟩, ?_⟩
  · rw [ht.get Reg.SYS_PIN_STATUS.straps, hp.straps]
  · rw [show _ = p.pwr from ht.parts .pwr (by decide), hp.rstLow]
  · rw [show _ = p.jst from ht.parts .jst (by decide), hp.items]
  · rw [show _ = p.jst from ht.parts .jst (by decide), hp.holds]
  · rw [hw, hx.get Reg.BST_STATUS.warm, get_putB _ _ _ (by decide) (by decide)]
    rfl

/-- The state, the straps and the empty Joist of a cold start together. -/
theorem beginBoot_shows (d : Dev) (straps : Fin 8) : (d.beginBoot false straps.val).sys.mstate = .boot ∧
    (d.beginBoot false straps.val).sys.warm = false ∧ (d.beginBoot false straps.val).get Reg.SYS_PIN_STATUS.straps = straps.val ∧
    (d.beginBoot false straps.val).get Reg.BST_STATUS.warm = 0 ∧ (d.beginBoot false straps.val).jst.items = [] ∧
    (d.beginBoot false straps.val).jst.holds = [] := by
  obtain ⟨hc, hw⟩ := d.beginBoot_isCold straps.val
  have hi := d.beginBoot_isBoot straps.val
  exact ⟨hi.mstate, hi.cold, hc.straps.trans (Nat.mod_eq_of_lt straps.isLt), hw, hc.items, hc.holds⟩

/-! ### RST_N held (R464, R532) -/

/-- RST_N stops the tests, writes the plate, and leaves the outputs safe. -/
theorem stoppedByReset_confined (d : Dev) :
    Confined [.sil, .rft, .tim, .bst, .lgt, .lnd] (keysOf [Reg.SIL_IRQ_STATUS.word, Reg.BST_IRQ_STATUS.word, Reg.BST_STATUS.word] ++ safeKeys)
      JwStatus d ((((d.endTests 2).announce .boot causeReset).stopWrites 6 false).safeOutputs) :=
  (((d.endTests_touches 2).confined.andThen (announce_touches _ _ _)).after (stopWrites_confined _ _ _)).andThen (safeOutputs_touches _)

end Dev

theorem rstNAssert_held {s : State} (t : Nat) (hpf : s.dev.pwr.pf = none) (hm : s.dev.sys.mstate ≠ .off) (hst : s.dev.pwr.stopped = false) :
    Completes (.rstNAssert t) s fun d => d.sys.mstate = .off ∧ d.pwr.rstLow = true ∧ d.pwr.rstHeld = true ∧ d.lgt.safe = true ∧
      d.beat.running = false ∧ d.get Reg.SYS_STATUS.state = 0 := by
  refine completes_of_runAt (show execRstNAssert t s = s.runAt t _ from rfl) ?_
  split
  next r hr => exact absurd (hpf ▸ hr) (by simp)
  · extract_lets x d1 d2 d3
    rw [if_neg (by simpa [hst] using hm), Dev.settleOffers_get _ _ (by decide), Dev.get_put _ _ _ (by decide) (by decide)]
    have h : d2.pwr = d1.pwr := (Dev.stoppedByReset_confined d1).parts .pwr (by decide)
    simp only [Dev.settleOffers_sys, Dev.settleOffers_pwr, Dev.settleOffers_lgt, Dev.settleOffers_beat]
    exact ⟨rfl, congrArg (·.rstLow) h, rfl, rfl, rfl, rfl⟩

theorem rstNAssert_noted {s : State} (t : Nat) {r : PfRun} (hpf : s.dev.pwr.pf = some r) :
    Completes (.rstNAssert t) s fun d => d.pwr.pf = some { r with rstLow := true } ∧ d.pwr.rstLow = true := by
  refine completes_of_runAt (show execRstNAssert t s = s.runAt t _ from rfl) ?_
  split
  next r' hr' =>
    obtain rfl : r = r' := Option.some.inj (hpf ▸ hr')
    rw [Dev.settleOffers_pwr]
    exact ⟨rfl, rfl⟩
  next hn => exact absurd (hpf ▸ hn) (by simp)

theorem rstNRelease_noted {s : State} (t : Nat) {r : PfRun} (hpf : s.dev.pwr.pf = some r) (straps : Fin 8) (hlow : s.dev.pwr.rstLow = true) :
    Completes (.rstNRelease t straps) s fun d => d.pwr.pf = some { r with rstLow := false } ∧ d.pwr.rstLow = false := by
  refine completes_of_runAt (show execRstNRelease t straps s = s.runAt t _ from rfl) ?_
  rw [if_neg (by simp [hlow])]
  split
  next r' hr' =>
    obtain rfl : r = r' := Option.some.inj (hpf ▸ hr')
    rw [Dev.settleOffers_pwr]
    exact ⟨rfl, rfl⟩
  next hn => exact absurd (hpf ▸ hn) (by simp)

theorem rstNRelease_boot {s : State} (t : Nat) (straps : Fin 8) (hlow : s.dev.pwr.rstLow = true) (hpf : s.dev.pwr.pf = none)
    (hm : s.dev.sys.mstate = .off) (hvin : s.dev.pwr.vinLow = false) (hst : s.dev.pwr.stopped = false) :
    Completes (.rstNRelease t straps) s fun d => d.sys.mstate = .boot ∧ d.sys.warm = false ∧ d.pwr.rstLow = false ∧
      d.get Reg.SYS_PIN_STATUS.straps = straps.val := by
  refine completes_of_runAt (show execRstNRelease t straps s = s.runAt t _ from rfl) ?_
  rw [if_neg (by simp [hlow])]
  split
  next r hr => exact absurd (hpf ▸ hr) (by simp)
  · extract_lets x d1
    rw [if_neg (by simp [hm, hvin, hst])]
    have hb (y : Dev) (hy : y.pwr.rstLow = false) : (y.beginBoot false straps.val).settleOffers.sys.mstate = .boot ∧
        (y.beginBoot false straps.val).settleOffers.sys.warm = false ∧ (y.beginBoot false straps.val).settleOffers.pwr.rstLow = false ∧
        (y.beginBoot false straps.val).settleOffers.get Reg.SYS_PIN_STATUS.straps = straps.val := by
      obtain ⟨hm, hc, hs, -⟩ := y.beginBoot_shows straps
      rw [Dev.settleOffers_sys, Dev.settleOffers_pwr, Dev.settleOffers_get _ _ (by decide)]
      exact ⟨hm, hc, (y.beginBoot_isCold straps.val).1.rstLow.trans hy, hs⟩
    split
    · exact hb d1 rfl
    · exact hb _ (congrArg (·.rstLow) ((d1.announce_touches .boot causeReset).parts .pwr (by decide)))

theorem watchdogExpiry_boot {s : State} (t : Nat) (straps : Fin 8) (hm : s.dev.sys.mstate ≠ .off) (hpf : s.dev.pwr.pf = none)
    (hst : s.dev.pwr.stopped = false) :
    Completes (.watchdogExpiry t straps) s fun d => d.sys.mstate = .boot ∧ d.sys.warm = false ∧
      d.get Reg.SYS_PIN_STATUS.straps = straps.val ∧ d.get Reg.BST_STATUS.warm = 0 ∧ d.jst.items = [] ∧ d.jst.holds = [] := by
  refine completes_of_runAt (show execWatchdogExpiry t straps s = s.runAt t _ from rfl) ?_
  rw [if_neg (by simp [hm, hpf, hst]), Dev.settleOffers_sys, Dev.settleOffers_jst, Dev.settleOffers_get _ _ (by decide),
    Dev.settleOffers_get _ _ (by decide)]
  exact Dev.beginBoot_shows _ straps

/-- Settles O34, a lemma for each of its clauses. -/
theorem resetCommandsComplete : Obligations.ResetCommandsComplete :=
  ⟨fun t _ hpf hm hst => rstNAssert_held t hpf hm hst,
    fun t _ _ hpf => ⟨rstNAssert_noted t hpf, fun straps hlow => rstNRelease_noted t hpf straps hlow⟩,
    fun t straps _ hlow hpf hm hvin hst => rstNRelease_boot t straps hlow hpf hm hvin hst,
    fun t straps _ hm hpf hst => watchdogExpiry_boot t straps hm hpf hst⟩

end Sys2Proof.Machine
end

section
/-! PROOFS. The steps of a start: each that has done its work gives way to the next, and one that fails runs again or leads to FAILSAFE
(R47, R62, R303, R449, R450, R454, R456). -/

-- One proof at a time: a side condition left to `decide` waits for every declaration before it, each in a thread of its own.
set_option Elab.async false

namespace Sys2Proof.Machine
namespace Dev

/-! ### A step that begins, and one that is done (R449, R451, R455) -/

/-- A step that begins is the one shown. -/
theorem startStep_step (d : Dev) (n : Nat) : (d.startStep n).get Reg.BST_STATUS.step = n % 16 := by
  unfold startStep
  extract_lets path c x d1
  have h1 : d1.get Reg.BST_STATUS.step = n % 16 := by
    rw [(noteStep_touches _ _ _ _ _ _).get Reg.BST_STATUS.step, get_put _ _ _ (by decide) (by decide)]
    rfl
  split
  · rw [offer_get, ((Touches.refl (d1.put Reg.BST_STATUS.alt_used 1)).raise (ks := [Reg.BST_IRQ_STATUS.word.key])
      (ps := []) Reg.BST_IRQ_STATUS.alternative).get Reg.BST_STATUS.step,
      get_put_of_ne _ Reg.BST_STATUS.alt_used _ _ (by decide) (by decide) (by decide) (by decide), h1]
  · exact h1

theorem noteStep_training (d : Dev) (n phase path consec cause : Nat) :
    (d.noteStep n phase path consec cause).bst.training = d.bst.training := by
  unfold noteStep
  extract_lets x d1
  split
  · exact congrArg (·.training) ((d1.commit_touches _).parts .bst (by decide))
  split
  · rfl
  · split <;> rfl

theorem startStep_training (d : Dev) (n : Nat) : (d.startStep n).bst.training = d.bst.training := by
  unfold startStep
  extract_lets path c x d1
  have h1 : d1.bst.training = d.bst.training := noteStep_training _ _ _ _ _ _
  split
  · exact h1
  · exact h1

/-- On the cold path each step gives way to the next (R455). -/
theorem nextStep_of_cold {d : Dev} (h : d.sys.warm = false) (n : Nat) : d.nextStep n = n + 1 := by simp [nextStep, h]

/-- Step 6 gives way to step 7 on either path (R63). -/
theorem nextStep_six (d : Dev) : d.nextStep 6 = 7 := by simp [nextStep]

/-- A step that is done is recorded, and the next one begins (R449). -/
structure IsNext (m : Nat) (d d' : Dev) : Prop where
  touches : Touches [.sil, .bst] startKeys d d'
  step : d'.get Reg.BST_STATUS.step = m
  training : d'.bst.training = d.bst.training

theorem stepDone_isNext {d : Dev} {n m : Nat} (path : Nat) (hm : d.nextStep n = m) (hn : n < 8 := by decide) (h9 : m < 9 := by decide) :
    IsNext m d (d.stepDone n path) := by
  unfold stepDone
  extract_lets d1 k d2
  have h1 : Touches [.sil, .bst] startKeys d d1 := (noteStep_touches _ _ _ _ _ _).mono
  have hk : k = m := by
    rw [← hm]
    simp only [k, nextStep, show d1.sys = d.sys from h1.parts .sys (by decide)]
  rw [if_neg (by omega), if_neg (by omega)]
  exact ⟨h1.andThen (startStep_touches _ _), (startStep_step _ _).trans (by rw [hk]; omega),
    (startStep_training _ _).trans (noteStep_training _ _ _ _ _ _)⟩

/-! ### What each step does (R47, R449, R450, R454) -/

/-- The running step of a start. -/
def Runs (d : Dev) (n : Nat) : Prop := d.isState [.boot, .unframed] = true ∧ d.get Reg.BST_STATUS.step = n

theorem bootStep_three {d : Dev} (h : d.Runs 3) (hr : d.key.rootPresent = true) (quick : List (Nat × Nat)) :
    d.bootStep quick = (d.loadKeys d.pinnable).stepDone 3 (d.pathOf 3) := by
  obtain ⟨hs, hn⟩ := h
  unfold bootStep
  rw [hn]
  simp [hs, hr]

theorem bootStep_five {d : Dev} (h : d.Runs 5) (quick : List (Nat × Nat)) : d.bootStep quick =
    (({ d with bst := { d.bst with training := true } } : Dev).noteData 5 (d.pathOf 5) [d.pathOf 5]).stepDone 5 (d.pathOf 5) := by
  obtain ⟨hs, hn⟩ := h
  unfold bootStep
  rw [hn]
  simp [hs]

theorem releaseCores_debug {d : Dev} (h : d.bst.debug = false) : d.releaseCores.bst.debug = false := by
  unfold releaseCores
  split
  · rfl
  · exact h

theorem bootStep_six {d : Dev} (h : d.Runs 6) (hd : d.bst.debug = false) (quick : List (Nat × Nat)) :
    d.bootStep quick = (d.releaseCores.stepFirmware (d.pathOf 6)).stepDone 6 (d.pathOf 6) := by
  obtain ⟨hs, hn⟩ := h
  unfold bootStep
  rw [hn]
  simp [hs, coresHeld, releaseCores_debug hd]

theorem findCut_none {d : Dev} (h : d.cutPtr = none) (path : Nat) : d.findCut path = .none := by
  unfold findCut
  rw [h]

/-- The machine that goes on without a Cut List (R62, R147, R450). -/
theorem bootStep_seven {d : Dev} (h : d.Runs 7) (hc : d.cutPtr = none) (quick : List (Nat × Nat)) :
    d.bootStep quick = (((d.noCutList.setSafety none).goto .unframed causeBoot).setSuspended 0x3FFF).stepDone 7 (d.pathOf 7) := by
  obtain ⟨hs, hn⟩ := h
  unfold bootStep
  rw [hn]
  simp [hs, findCut_none hc, stepCut]

theorem bootStep_ten {d : Dev} (h : d.Runs 10) (quick : List (Nat × Nat)) :
    d.bootStep quick = (d.noteStep 10 2 (d.pathOf 10) 0 0).stepService := by
  obtain ⟨hs, hn⟩ := h
  unfold bootStep
  rw [hn]
  simp [hs, stepDone]

theorem bootStep_one {d : Dev} (h : d.Runs 1) (hv : d.flag Reg.PWR_STATUS.vhold_ok = true) (hd : d.holdupDue = false)
    (quick : List (Nat × Nat)) : d.bootStep quick = d.stepPower.stepDone 1 (d.pathOf 1) := by
  obtain ⟨hs, hn⟩ := h
  unfold bootStep
  rw [hn]
  simp [hs, hv, hd]

/-- The beat runs from 0 on the main clock (R47). -/
structure IsPowered (d d' : Dev) : Prop where
  running : d'.beat.running = true
  count : d'.beat.count = 0
  lock : d'.get Reg.CLK_STATUS.pll_lock = 1
  sys : d'.sys = d.sys

/-- Step 1 starts the beat at 0, whatever the backup domain gives for the time (R47, R279, R280). -/
theorem stepPower_isPowered (d : Dev) : IsPowered d d.stepPower := by
  unfold stepPower
  extract_lets d1 elapsed start r
  have hlock : d1.get Reg.CLK_STATUS.pll_lock = 1 := by
    rw [get_put_of_ne _ Reg.CLK_XTAL40.start_us _ _ (by decide) (by decide) (by decide) (by decide),
      get_put_of_ne _ Reg.CLK_STATUS.sys_src _ _ (by decide) (by decide) (by decide) (by decide), get_put _ _ _ (by decide) (by decide)]
    rfl
  have hsys : d1.sys = d.sys := by simp only [d1, put_sys]
  have hstart (y : Dev) (ns q : Nat) (hl : y.get Reg.CLK_STATUS.pll_lock = 1) (hy : y.sys = d.sys) : IsPowered d (start y ns q) := by
    refine ⟨rfl, rfl, ?_, hy⟩
    show ((Dev.put _ Reg.TIME_STATUS.quality q).put Reg.BEAT_STATUS.source 0).get Reg.CLK_STATUS.pll_lock = 1
    rw [get_put_of_ne _ Reg.BEAT_STATUS.source _ _ (by decide) (by decide) (by decide) (by decide),
      get_put_of_ne _ Reg.TIME_STATUS.quality _ _ (by decide) (by decide) (by decide) (by decide)]
    exact hl
  have hoffer (y : Dev) (e : EvCode) (l : List Nat) (h : IsPowered d y) : IsPowered d (y.offer e l) :=
    ⟨h.running, h.count, (y.offer_get _ _ _).trans h.lock, h.sys⟩
  have h1 : IsPowered d (start d1 0 0) := hstart d1 0 0 hlock hsys
  clear_value start d1
  split
  · split
    · have hr := d1.rtcTicks_touches
      exact hstart _ _ _ ((hr.get Reg.CLK_STATUS.pll_lock).trans hlock) ((hr.parts .sys (by decide)).trans hsys)
    · exact hoffer _ _ _ h1
  · exact hoffer _ _ _ h1

end Dev
end Sys2Proof.Machine
end

section
/-! PROOFS. The step without a Cut List, the end of a start, and what O35 says of the steps (R62, R303, R449, R450, R454, R456). -/

-- One proof at a time: a side condition left to `decide` waits for every declaration before it, each in a thread of its own.
set_option Elab.async false

namespace Sys2Proof.Machine
namespace Dev

/-! ### Step 7 without a Cut List (R62, R147, R450) -/

theorem setEngine_touches (d : Dev) (v : CutSt) (w : RftSt) : Touches [.cut, .rft] [] d { d with cut := v, rft := w } :=
  (Touches.refl d).update (fun p hp => by cases p <;> simp_all [Part.same]) rfl

theorem noCutList_touches (d : Dev) : Touches [.cut, .rft] [Reg.RFT_CS_CURSOR.word.key] d d.noCutList :=
  (d.setEngine_touches _ _).mono.andThen (engineReset_touches _ 0)

theorem setSuspended_media (d : Dev) : (d.setSuspended 0x3FFF).get Reg.SYS_C0_SUSPEND.media = 0x3FFF := by
  unfold setSuspended putB
  rw [get_put_of_ne _ Reg.SYS_STATUS.c0_suspended _ _ (by decide) (by decide) (by decide) (by decide),
    get_put _ _ _ (by decide) (by decide)]
  rfl

/-- Without a Cut List the module is in UNFRAMED, with class 0 suspended on every medium. -/
theorem unframed_sys (d : Dev) : (((d.noCutList.setSafety none).goto .unframed causeBoot).setSuspended 0x3FFF).sys =
    { d.sys with mstate := .unframed } := by
  have h : Touches [.cut, .key, .rft, .lin, .rad, .trk] (Reg.RFT_CS_CURSOR.word.key :: safetyKeys) d (d.noCutList.setSafety none) :=
    d.noCutList_touches.mono.andThen (setSafety_touches _ none)
  rw [show _ = ((d.noCutList.setSafety none).goto .unframed causeBoot).sys from (setSuspended_touches _ _).parts .sys (by decide), goto_sys,
    show (d.noCutList.setSafety none).sys = d.sys from h.parts .sys (by decide)]

/-! ### The end of a start (R62, R449) -/

theorem meterStart_touches (d : Dev) : Touches [.mtr] [Reg.MTR_STATUS.word.key] d d.meterStart := by
  unfold meterStart
  extract_lets since
  refine (Touches.refl d).foldl _ fun x c _ => ?_
  have hs (y : Dev) (f : MeterCh → MeterCh) : Touches [.mtr] [Reg.MTR_STATUS.word.key] y (y.setCh c f) :=
    (Touches.refl y).update (fun p hp => by cases p <;> simp_all [Part.same, setCh]) rfl
  split
  · exact .refl x
  · extract_lets m x1
    have h1 : Touches [.mtr] [Reg.MTR_STATUS.word.key] x x1 := (Touches.refl x).put _ _
    exact .ite (fun _ => h1.offer _ _) fun _ => .ite (fun _ => h1) fun _ => .ite (fun _ => h1.trans (hs _ _)) fun _ =>
      .ite (fun _ => h1) fun _ => (h1.trans (hs _ _)).offer _ _

/-- The words of the sweep's forecast (R74). -/
def budgetKeys : List Nat := keysOf [Reg.RFT_COST.word, Reg.RFT_BUDGET.word, Reg.RFT_CAPACITY.word, Reg.RFT_STATUS.word,
  Reg.BEAT_TIMING.word, Reg.RFT_IRQ_STATUS.word]

theorem showBudget_touches (d : Dev) : Touches [] budgetKeys d d.showBudget := by
  unfold showBudget
  extract_lets t late d1 d2
  have h1 : Touches [] budgetKeys d d1 := ((((Touches.refl d).put _ _).put _ _).put _ _).putB _ _
  have h2 : Touches [] budgetKeys d d2 := h1.put _ _
  exact .ite (fun _ => (h2.raise _).offer _ _) fun _ => h2

theorem fullSnapshot_touches (d : Dev) (n : Nat) : Touches [.sil] [] d (d.fullSnapshot n) :=
  (Touches.refl d).foldl _ fun x k _ => (x.takeChunk_touches n k).trans (commit_touches _ _)

/-- The state in which a start ends (R62). -/
def serviceDest (d : Dev) : ModState := if d.sys.autostart && !d.sil.readOnly then .service else .ready

/-- What follows the transition at the end of a start. -/
theorem serviceEntered_touches (d : Dev) : Touches [.mtr, .lgt] (Reg.MTR_STATUS.word.key :: Reg.SYS_STATUS.word.key :: budgetKeys) d
    ((d.lightReady.meterStart.showBudget).judgeLedger) :=
  (((Touches.refl d).setLgt _).andThen (meterStart_touches _)).andThen (showBudget_touches _) |>.andThen (judgeLedger_touches _)

/-- A start from BOOT ends with no step running, in the state of R62. -/
theorem stepService_of_boot {d : Dev} (hm : d.sys.mstate = .boot) (ha : d.fwu.activating = none) :
    d.stepService.get Reg.BST_STATUS.step = 0 ∧ d.stepService.sys.mstate = d.serviceDest := by
  unfold stepService
  extract_lets ms alts d1 dest x d2 d3 d4 p raise d5 d6
  have h1 : Touches [] (keysOf [Reg.BST_STATUS.word, Reg.BST_BOOT_MS.word]) d d1 := ((Touches.refl d).put _ _).put _ _
  have hsys : d1.sys = d.sys := h1.parts .sys (by decide)
  have hsil : d1.sil = d.sil := h1.parts .sil (by decide)
  have hact : d1.fwu.activating = none := by rw [show d1.fwu = d.fwu from h1.parts .fwu (by decide), ha]
  have hstep : d1.get Reg.BST_STATUS.step = 0 := by
    rw [get_put_of_ne _ Reg.BST_BOOT_MS.word _ _ (by decide) (by decide) (by decide) (by decide), get_put _ _ _ (by decide) (by decide)]
    rfl
  have hdest : dest = d.serviceDest := by
    simp only [dest, hact, hsys, hsil]
    rfl
  have hx : x = d1 := by simp only [x, hact]
  have h2 : d2 = ((d1.goto d.serviceDest causeBoot).lightReady.meterStart.showBudget).judgeLedger := by
    rw [← hdest, ← hx]
    exact if_neg (by rw [hsys, hm]; decide)
  clear_value dest x d1
  have hg := d1.goto_confined d.serviceDest causeBoot
  have h3 : Touches [.sil] [] d2 d3 := .ite (fun _ => d2.fullSnapshot_touches _) fun _ => .refl d2
  have h5 : Touches [.sil] [] d4 d5 := .ite (fun _ => d4.commit_touches _) fun _ => .refl d4
  have h6 : Touches [.sil] [] d2 d6 := ((h3.offer _ _).trans h5).trans (.ite (fun _ => (Touches.refl d5).offer _ _) fun _ => .refl d5)
  have h : Touches [.sil, .mtr, .lgt] (Reg.MTR_STATUS.word.key :: Reg.SYS_STATUS.word.key :: budgetKeys)
      (d1.goto d.serviceDest causeBoot) d6 := ((serviceEntered_touches _).mono.trans (h2 ▸ .refl d2)).andThen h6
  clear_value d6
  have hact6 : d6.fwu.activating = none := by
    rw [show d6.fwu = _ from h.parts .fwu (by decide), show (d1.goto d.serviceDest causeBoot).fwu = d1.fwu from hg.parts .fwu (by decide), hact]
  rw [hact6]
  have hf : Touches [.sil, .mtr, .lgt] (Reg.MTR_STATUS.word.key :: Reg.SYS_STATUS.word.key :: budgetKeys ++ fwKeys)
      (d1.goto d.serviceDest causeBoot) d6.showFw := h.mono.andThen (showFw_touches d6)
  refine ⟨?_, ?_⟩
  · rw [hf.get Reg.BST_STATUS.step, hg.get Reg.BST_STATUS.step (fun ⟨b, hb⟩ => ?_), hstep]
    exact absurd hb (by simp only [Reg.BST_STATUS.step, Reg.JST_GET.word]; omega)
  · rw [show d6.showFw.sys = _ from hf.parts .sys (by decide), goto_sys]

theorem carry_readOnly (region : Nat × Nat) (n : Nat) (s : SilSt) : (SilSt.carry region n s).readOnly = s.readOnly := by
  induction n generalizing s with
  | zero => rfl
  | succ n ih =>
    unfold SilSt.carry
    split
    · rfl
    · exact ih _

theorem commit_readOnly (d : Dev) (v : JVal) : (d.commit v).sil.readOnly = d.sil.readOnly := by
  unfold commit
  split
  · rfl
  · exact carry_readOnly _ _ _

/-- The record of a step leaves the journal writable, or not. -/
theorem noteStep_readOnly (d : Dev) (n phase path consec cause : Nat) :
    (d.noteStep n phase path consec cause).sil.readOnly = d.sil.readOnly := by
  unfold noteStep
  extract_lets x d1
  split
  · exact commit_readOnly d1 _
  split
  · rfl
  · split <;> rfl

theorem noteData_touches (d : Dev) (n path : Nat) (holds : List Nat) : Touches [.sil] [] d (d.noteData n path holds) :=
  .ite (fun _ => d.commit_touches _) fun _ => .refl d

/-! ### A step that fails (R449, R454) -/

/-- Below its limit a step that fails runs again in the state that the module is in. -/
theorem stepFailed_again (d : Dev) {n : Nat} (cause : Nat) (hn : n < 16) (h : min 255 (d.consec n + 1) < failLimit n) :
    (d.stepFailed n cause).get Reg.BST_STATUS.step = n ∧ (d.stepFailed n cause).sys.mstate = d.sys.mstate := by
  obtain ⟨x, hx, he⟩ := d.stepFailed_cases n cause
  rw [he, if_neg (by omega), startStep_step, Nat.mod_eq_of_lt hn,
    show (x.startStep n).sys = x.sys from (x.startStep_touches n).parts .sys (by decide),
    show x.sys = d.sys from hx.parts .sys (by decide)]
  exact ⟨rfl, rfl⟩

/-- At its limit a step that fails leads to FAILSAFE. -/
theorem stepFailed_failsafe (d : Dev) {n : Nat} (cause : Nat) (h : failLimit n ≤ min 255 (d.consec n + 1)) :
    (d.stepFailed n cause).sys.mstate = .failsafe ∧ (d.stepFailed n cause).bst.failStep = n := by
  obtain ⟨x, hx, he⟩ := d.stepFailed_cases n cause
  rw [he, if_pos h]
  exact ⟨(x.bootFailsafe_isFailsafe n).mstate, (x.bootFailsafe_isFailsafe n).failStep⟩

/-! ### What the instant of a command leaves -/

theorem atTime_consec (d : Dev) (t n : Nat) : (d.atTime t).consec n = d.consec n := by
  unfold atTime
  rfl

theorem atTime_cutPtr (d : Dev) (t : Nat) : (d.atTime t).cutPtr = d.cutPtr := by
  unfold atTime
  rfl

theorem atTime_pathOf (d : Dev) (t n : Nat) : (d.atTime t).pathOf n = d.pathOf n := by
  simp only [pathOf, atTime_consec]

theorem atTime_stepLimit (d : Dev) (t n : Nat) : (d.atTime t).stepLimit n = d.stepLimit n := by simp only [stepLimit, atTime_get]

theorem Runs.atTime {d : Dev} {n : Nat} (h : d.Runs n) (t : Nat) : (d.atTime t).Runs n := ⟨h.1, (d.atTime_get t _).trans h.2⟩

end Dev
/-! ### The clauses -/

/-- BOOT_STEP_DONE runs the step's own work. -/
theorem completes_of_bootStep {t : Nat} {quick : List (Nat × Nat)} {s : State} {P : Dev → Prop} {x : Dev}
    (he : (s.dev.atTime t).bootStep quick = x) (h : P x.settleOffers) : Completes (.bootStepDone t quick) s P :=
  completes_of_runAt (f := fun d => d.bootStep quick) rfl (he ▸ h)

section

variable {s : State} (t : Nat) (quick : List (Nat × Nat))

theorem bootStepDone_one (h : s.dev.Runs 1) (hv : s.dev.get Reg.PWR_STATUS.vhold_ok = 1) (hw : s.dev.sys.warm = false)
    (hd : (s.dev.atTime t).holdupDue = false) : Completes (.bootStepDone t quick) s fun d =>
      d.get Reg.BST_STATUS.step = 2 ∧ d.beat.running = true ∧ d.beat.count = 0 ∧ d.get Reg.CLK_STATUS.pll_lock = 1 := by
  have hv' : (s.dev.atTime t).flag Reg.PWR_STATUS.vhold_ok = true := by rw [Dev.flag, Dev.atTime_get, hv]; rfl
  refine completes_of_bootStep (Dev.bootStep_one (h.atTime t) hv' hd quick) ?_
  have hp := (s.dev.atTime t).stepPower_isPowered
  have hn := Dev.stepDone_isNext (n := 1) (m := 2) ((s.dev.atTime t).pathOf 1)
    (Dev.nextStep_of_cold (d := (s.dev.atTime t).stepPower) (by rw [hp.sys]; exact hw) 1)
  rw [Dev.settleOffers_beat, Dev.settleOffers_get _ _ (by decide), Dev.settleOffers_get _ _ (by decide), hn.touches.beat_eq,
    hn.touches.get Reg.CLK_STATUS.pll_lock]
  exact ⟨hn.step, hp.running, hp.count, hp.lock⟩

theorem bootStepDone_three (h : s.dev.Runs 3) (hr : s.dev.key.rootPresent = true) (hw : s.dev.sys.warm = false) :
    Completes (.bootStepDone t quick) s fun d => d.get Reg.BST_STATUS.step = 4 := by
  refine completes_of_bootStep (Dev.bootStep_three (h.atTime t) hr quick) ?_
  have hk := (s.dev.atTime t).loadKeys_touches (s.dev.atTime t).pinnable
  rw [Dev.settleOffers_get _ _ (by decide)]
  exact (Dev.stepDone_isNext _ (Dev.nextStep_of_cold (by rw [show _ = _ from hk.parts .sys (by decide)]; exact hw) 3)).step

theorem bootStepDone_five (h : s.dev.Runs 5) (hw : s.dev.sys.warm = false) :
    Completes (.bootStepDone t quick) s fun d => d.get Reg.BST_STATUS.step = 6 ∧ d.bst.training = true := by
  refine completes_of_bootStep (Dev.bootStep_five (h.atTime t) quick) ?_
  have hk := ({ s.dev.atTime t with bst := { (s.dev.atTime t).bst with training := true } } : Dev).noteData_touches 5
    ((s.dev.atTime t).pathOf 5) [(s.dev.atTime t).pathOf 5]
  have hn := Dev.stepDone_isNext (n := 5) ((s.dev.atTime t).pathOf 5)
    (Dev.nextStep_of_cold ((congrArg (·.warm) (hk.parts .sys (by decide))).trans hw) 5)
  rw [Dev.settleOffers_get _ _ (by decide), Dev.settleOffers_bst]
  exact ⟨hn.step, hn.training.trans (congrArg (·.training) (hk.parts .bst (by decide)))⟩

theorem bootStepDone_six (h : s.dev.Runs 6) (hd : s.dev.bst.debug = false) :
    Completes (.bootStepDone t quick) s fun d => d.get Reg.BST_STATUS.step = 7 := by
  refine completes_of_bootStep (Dev.bootStep_six (h.atTime t) hd quick) ?_
  rw [Dev.settleOffers_get _ _ (by decide)]
  exact (Dev.stepDone_isNext _ (Dev.nextStep_six _)).step

theorem bootStepDone_seven (h : s.dev.Runs 7) (hc : s.dev.cutPtr = none) (hw : s.dev.sys.warm = false) :
    Completes (.bootStepDone t quick) s fun d =>
      d.get Reg.BST_STATUS.step = 8 ∧ d.sys.mstate = .unframed ∧ d.get Reg.SYS_C0_SUSPEND.media = 0x3FFF := by
  refine completes_of_bootStep (Dev.bootStep_seven (h.atTime t) ((s.dev.atTime_cutPtr t).trans hc) quick) ?_
  have hsys := (s.dev.atTime t).unframed_sys
  have hn := Dev.stepDone_isNext (n := 7) (m := 8) ((s.dev.atTime t).pathOf 7) (Dev.nextStep_of_cold (by rw [hsys]; exact hw) 7)
  rw [Dev.settleOffers_sys, Dev.settleOffers_get _ _ (by decide), Dev.settleOffers_get _ _ (by decide),
    hn.touches.get Reg.SYS_C0_SUSPEND.media, show _ = _ from hn.touches.parts .sys (by decide), hsys]
  exact ⟨hn.step, rfl, Dev.setSuspended_media _⟩

theorem bootStepDone_ten (h : s.dev.Runs 10) (hm : s.dev.sys.mstate = .boot) (ha : s.dev.fwu.activating = none) :
    Completes (.bootStepDone t quick) s fun d => d.get Reg.BST_STATUS.step = 0 ∧
      d.sys.mstate = (if s.dev.sys.autostart && !s.dev.sil.readOnly then .service else .ready) := by
  refine completes_of_bootStep (Dev.bootStep_ten (h.atTime t) quick) ?_
  have hx := (s.dev.atTime t).noteStep_touches 10 2 ((s.dev.atTime t).pathOf 10) 0 0
  have hsys := hx.parts .sys (by decide)
  obtain ⟨hstep, hstate⟩ := Dev.stepService_of_boot ((congrArg (·.mstate) hsys).trans hm)
    ((congrArg (·.activating) (hx.parts .fwu (by decide))).trans ha)
  rw [Dev.settleOffers_sys, Dev.settleOffers_get _ _ (by decide), hstate, Dev.serviceDest, Dev.noteStep_readOnly, show _ = _ from hsys]
  exact ⟨hstep, rfl⟩

end

/-- Command `c` makes step `n` fail: below its limit the step runs again in the same state, at it the module enters FAILSAFE. -/
def Fails (c : Instr) (n : Nat) (s : State) : Prop :=
  (min 255 (s.dev.consec n + 1) < Dev.failLimit n →
    Completes c s fun d => d.get Reg.BST_STATUS.step = n ∧ d.sys.mstate = s.dev.sys.mstate) ∧
  (Dev.failLimit n ≤ min 255 (s.dev.consec n + 1) → Completes c s fun d => d.sys.mstate = .failsafe ∧ d.bst.failStep = n)

/-- A command that runs the failure of a step makes it fail. -/
theorem fails_of_stepFailed {c : Instr} {t cause n : Nat} {s : State} {f : Dev → Dev} (h : exec c s = s.runAt t f)
    (hf : f (s.dev.atTime t) = (s.dev.atTime t).stepFailed n cause) (hn : s.dev.Runs n) : Fails c n s := by
  have h16 : n < 16 := hn.2 ▸ bits_lt _ _ _
  unfold Fails
  rw [← s.dev.atTime_consec t n]
  refine ⟨fun hl => completes_of_runAt h ?_, fun hl => completes_of_runAt h ?_⟩
  · rw [hf, Dev.settleOffers_sys, Dev.settleOffers_get _ _ (by decide)]
    exact Dev.stepFailed_again _ cause h16 hl
  · rw [hf, Dev.settleOffers_sys, Dev.settleOffers_bst]
    exact Dev.stepFailed_failsafe _ cause hl

theorem bootStepFailed_fails {n : Nat} {s : State} (t cause : Nat) (h : s.dev.Runs n) (h0 : n ≠ 0) : Fails (.bootStepFailed t cause) n s := by
  obtain ⟨hs, hn⟩ := h.atTime t
  exact fails_of_stepFailed (cause := cause) (show _ = s.runAt t _ from rfl) (by simp [hs, hn, h0]) h

theorem bootStepTimeout_fails {n : Nat} {s : State} (t : Nat) (h : s.dev.Runs n) (h0 : n ≠ 0)
    (hl : s.dev.bst.stepAt + s.dev.stepLimit n ≤ (s.dev.atTime t).now) : Fails (.bootStepTimeout t) n s := by
  obtain ⟨hs, hn⟩ := h.atTime t
  have hl' : (s.dev.atTime t).bst.stepAt + (s.dev.atTime t).stepLimit n ≤ (s.dev.atTime t).now := by rwa [Dev.atTime_stepLimit]
  refine fails_of_stepFailed (cause := 0xFFFF) (show execBootStepTimeout t s = s.runAt t _ from rfl) ?_ h
  rw [hn]
  exact if_pos (by simp only [hs, Bool.true_and, Bool.and_eq_true, decide_eq_true_eq]; exact ⟨h0, hl'⟩)

theorem xtalStartTimeout_fails {s : State} (t : Nat) (h : s.dev.Runs 1) (hm : s.dev.sys.mstate = .boot)
    (hl : s.dev.bst.stepAt + (if s.dev.pathOf 1 = 1 then 500000000 else 50000000) ≤ (s.dev.atTime t).now) :
    Fails (.xtalStartTimeout t) 1 s := by
  obtain ⟨-, hn⟩ := h.atTime t
  have hl' : (s.dev.atTime t).bst.stepAt + (if (s.dev.atTime t).pathOf 1 = 1 then 500000000 else 50000000) ≤ (s.dev.atTime t).now := by
    rwa [Dev.atTime_pathOf]
  refine fails_of_stepFailed (cause := 1) (show execXtalStartTimeout t s = s.runAt t _ from rfl) ?_ h
  exact if_pos (by simp only [hn, Dev.atTime_sys, hm, Bool.and_eq_true, decide_eq_true_eq]; exact ⟨⟨trivial, trivial⟩, hl'⟩)

/-- Settles O35, a lemma for each step; a step fails in the same way at each of the three commands. -/
theorem bootCommandsComplete : Obligations.BootCommandsComplete := by
  unfold Obligations.BootCommandsComplete
  refine ⟨fun t quick s hs => ⟨fun hn hv hw hd => bootStepDone_one t quick ⟨hs, hn⟩ hv hw hd,
    fun hn hr hw => bootStepDone_three t quick ⟨hs, hn⟩ hr hw, fun hn hw => bootStepDone_five t quick ⟨hs, hn⟩ hw,
    fun hn hd => bootStepDone_six t quick ⟨hs, hn⟩ hd, fun hn hc hw => bootStepDone_seven t quick ⟨hs, hn⟩ hc hw,
    fun hn hm ha => bootStepDone_ten t quick ⟨hs, hn⟩ hm ha⟩,
    fun t cause s n hs hn h0 => ⟨fun hl => ⟨?_, ?_, ?_⟩, fun hl => ⟨?_, ?_, ?_⟩⟩⟩
  · exact (bootStepFailed_fails t cause ⟨hs, hn⟩ h0).1 hl
  · exact fun ht => (bootStepTimeout_fails t ⟨hs, hn⟩ h0 ht).1 hl
  · rintro hm rfl ht
    exact hm ▸ (xtalStartTimeout_fails t ⟨hs, hn⟩ hm ht).1 hl
  · exact (bootStepFailed_fails t cause ⟨hs, hn⟩ h0).2 hl
  · exact fun ht => (bootStepTimeout_fails t ⟨hs, hn⟩ h0 ht).2 hl
  · rintro hm rfl ht
    exact (xtalStartTimeout_fails t ⟨hs, hn⟩ hm ht).2 hl

end Sys2Proof.Machine
end

section
/-! PROOFS. What the engine's and the Cut List's commands leave unchanged (R91, R99, R100, R123, R132, R143, R151, R176, R243, R525). -/

-- One proof at a time: a side condition left to `decide` waits for every declaration before it, each in a thread of its own.
set_option Elab.async false

namespace Sys2Proof.Machine
namespace Dev

/-! ### The ingest port (R123) -/

theorem setIngest_touches (d : Dev) (b : Nat) (s : Option IngestStage) : Touches [.rft] [] d (d.setIngest b s) := (Touches.refl d).setRft _

/-- The words of a commit into the ingest port, the status of the master apart. -/
def ingestKeys : List Nat :=
  keysOf [Reg.RFT_INGEST_BAD.word, Reg.RFT_INGEST_CNT.word, Reg.RFT_INGEST_DISCARD.word, Reg.RFT_INGEST_FILL.word,
    Reg.RFT_INGEST_REFUSED.word, Reg.RFT_IRQ_STATUS.word]

theorem ingestCommit_touches (d : Dev) (b : Nat) (w : List W32) :
    Touches [.rft] ((Reg.RFT_INGEST_STATUS.word b).key :: ingestKeys) d (d.ingestCommit b w) := by
  have hst (x : Dev) (v : Nat) : Touches [.rft] ((Reg.RFT_INGEST_STATUS.word b).key :: ingestKeys) x
      (x.put (Reg.RFT_INGEST_STATUS.status b) v) := (Touches.refl x).put _ _ (.head _)
  have hl {x y : Dev} (h : Touches [] ingestKeys x y) : Touches [.rft] ((Reg.RFT_INGEST_STATUS.word b).key :: ingestKeys) x y :=
    h.mono (hk := List.subset_cons_self _ _)
  unfold ingestCommit
  extract_lets g eid kind value st ok e x
  refine .ite (fun _ => (hst d _).trans (hl ((Touches.refl _).bump _))) fun _ =>
    .ite (fun _ => (hst d _).trans (hl (((Touches.refl _).bump _).offer _ _))) fun _ =>
    .ite (fun _ => (hst d _).trans (hl ((((Touches.refl _).bump _).raise _).offer _ _))) fun _ => ?_
  exact (((Touches.refl d).setRft _).trans (hst _ _)).trans (hl (((Touches.refl _).bump _).andThen (showFill_touches _)))

/-! ### What is latched, expires and is due (R132, R142, R151, R176) -/

/-- A refresh, a hold or a delay writes the result of its node alone. -/
theorem reevaluate_touches (d : Dev) (eid : Nat) : Touches [.rft] [] d (reevaluate d eid) :=
  .ite (fun _ => .refl d) fun _ => d.setNode_touches _ _

/-! ### Class 0 (R243, R525) -/

theorem c0Refresh_touches (d : Dev) (f : SafetyFrame) (due : List Nat) (v : LintelSt) (l : List RadSt) :
    Touches [.key, .lin, .rad, .trk] keyKeys d { d.loadFrame f due false with lin := v, rad := l } :=
  (d.loadFrame_touches f due false).update (fun p hp => by cases p <;> simp_all [Part.same]) rfl

theorem emgEdge_touches (d : Dev) (b active : Bool) : Touches [.rft, .lin] [Reg.SYS_PIN_STATUS.word.key] d (d.emgEdge b active) := by
  unfold emgEdge
  extract_lets was x d1 d2 y d3 z
  have h2 : Touches [.rft, .lin] [Reg.SYS_PIN_STATUS.word.key] d d2 := (((Touches.refl d).setLin _).putB _ _).putB _ _
  have h3 : Touches [.rft, .lin] [Reg.SYS_PIN_STATUS.word.key] d d3 := .ite (fun _ => h2.setLin _) fun _ => h2
  exact .ite (fun _ => h3) fun _ => .ite (fun _ => h3) fun _ => (h3.setLin _).andThen (cmdEntry_touches _ _)

/-! ### The steps of a load and of a patch (R91, R99) -/

theorem offers_touches {α : Type} (d : Dev) (l : List α) (e : EvCode) (f : α → List Nat) :
    Touches [] [] d (l.foldl (fun d k => d.offer e (f k)) d) := (Touches.refl d).foldl _ fun x _ _ => (Touches.refl x).offer _ _

theorem cutPassed_touches (d : Dev) : Touches [] (keysOf [Reg.CUT_ERR_SECTION.word, Reg.CUT_ERR_OFFSET.word]) d d.cutPassed :=
  ((Touches.refl d).put _ _).put _ _

/-- The words of a load's refusal and of a patch's (R103). -/
def cutErrKeys : List Nat := keysOf [Reg.CUT_ERR_OFFSET.word, Reg.CUT_ERR_SECTION.word, Reg.CUT_STATUS.word]

theorem answerPatch_confined (d : Dev) (a : Answer) (status : Nat) :
    Confined [.sys, .sil, .jst, .hlk] sendKeys QRefused d (d.answerPatch a status) := by
  unfold answerPatch
  refine .ite (fun _ => .refl d) fun _ => ?_
  extract_lets x
  refine Confined.after ?_ (send_confined _ _)
  split
  · exact .ite (fun _ => (d.recordSeq_touches _ _).confined) fun _ => .refl d
  · exact .refl d

theorem patchReady_touches (d : Dev) (run : PatchRun) :
    Touches [.sil, .cut] (keysOf [Reg.CUT_ERR_SECTION.word, Reg.CUT_ERR_OFFSET.word]) d (d.patchReady run) := by
  have h1 (v : CutSt) : Touches [.sil, .cut] (keysOf [Reg.CUT_ERR_SECTION.word, Reg.CUT_ERR_OFFSET.word]) d { d with cut := v } :=
    (Touches.refl d).setCut v
  unfold patchReady
  extract_lets slot log x d1
  split
  · exact ((h1 _).andThen (commit_touches _ _)).andThen (cutPassed_touches _)
  · exact h1 _

end Dev

/-! ### The frames -/

theorem rftIngestCommit_frame (t : Nat) (m : Master) (v : W32) (ls : List Nat)
    (hk : (Reg.RFT_INGEST_STATUS.word (bankOf m)).key :: Dev.ingestKeys ⊆ ls) : Frame (.rftIngestCommit t m v) [.rft] (fun k => k ∈ ls) := by
  refine frame_of_exec (ks := (Reg.RFT_INGEST_STATUS.word (bankOf m)).key :: Dev.ingestKeys) (execRftIngestCommit t m v) (fun _ => rfl)
    (fun _ => rfl) (fun d => ?_) fun _ h => hk h
  split
  · exact (d.setIngest_touches _ _).mono (hk := List.nil_subset _) |>.trans (Dev.ingestCommit_touches _ _ _)
  · exact .refl d

theorem rftBattenSel_frame (t : Nat) (m : Master) (v : W32) : Frame (.rftBattenSel t m v) []
    (fun k => k ∈ Dev.keysOf [Reg.RFT_BATTEN_BEAT.word, Reg.RFT_BATTEN_SEL.word, Reg.RFT_BATTEN_US.word]) := by
  refine frame_of_exec (execRftBattenSel t m v) (fun _ => rfl) (fun _ => rfl) (fun d => ?_) fun _ h => h
  extract_lets e d1
  have h1 : Touches [] (Dev.keysOf [Reg.RFT_BATTEN_BEAT.word, Reg.RFT_BATTEN_SEL.word, Reg.RFT_BATTEN_US.word]) d d1 := (Touches.refl d).put _ _
  split
  · exact ((h1.put _ _).put _ _).put _ _
  · exact ((h1.put _ _).put _ _).put _ _

theorem c0Refresh_frame (t index : Nat) : Frame (.c0Refresh t index) [.key, .lin, .rad, .trk] (fun k => k ∈ Dev.keyKeys) := by
  refine frame_of_exec (execC0Refresh t index) (fun _ => rfl) (fun _ => rfl) (fun d => ?_) fun _ h => h
  split
  · exact .refl d
  · exact .ite (fun _ => .refl d) fun _ => d.c0Refresh_touches _ _ _ _

/-- The words that the end of a load's write changes (R91, R103). -/
def storedKeys : List Nat := Dev.cutErrKeys ++ [Reg.SYS_STATUS.word.key]

theorem cutLoadStored_frame (t : Nat) (good : Bool) : Frame (.cutLoadStored t good) [.cut, .pair] (fun k => k ∈ storedKeys) := by
  refine frame_of_exec (execCutLoadStored t good) (fun _ => rfl) (fun _ => rfl) (fun d => ?_) fun _ h => h
  have h (v : CutSt) : Touches [.cut, .pair] storedKeys d { d with cut := v } := (Touches.refl d).setCut v
  split
  · refine .ite (fun _ => .refl d) fun _ => .ite (fun _ => ((h _).put _ _).andThen (Dev.cutRefused_touches _ _ _ _)) fun _ => ?_
    extract_lets slot x d1 d2 d3 d4
    have h3 : Touches [.cut, .pair] storedKeys d d3 :=
      (((h _).andThen (Dev.cutPassed_touches d1)).andThen (Dev.offers_touches _ _ _ _)).andThen (Dev.offers_touches _ _ _ _)
    have h4 : Touches [.cut, .pair] storedKeys d d4 := by
      simp only [d4]
      split
      · exact h3.offer _ _
      · exact h3
    exact (h4.put _ _).andThen (Dev.mirror_touches _ _)
  · exact .refl d

theorem patchReady_frame (t : Nat) (good : Bool) :
    Frame (.patchReady t good) [.sys, .sil, .cut, .jst, .hlk] (fun k => k ∈ Dev.cutErrKeys ++ Dev.sendKeys ∨ Dev.QRefused k) := by
  refine frame_of_confined (execPatchReady t good) (fun _ => rfl) (fun _ => rfl) fun d => ?_
  split
  · refine .ite (fun _ => .refl d) fun _ => .ite (fun _ => (d.patchReady_touches _).confined) fun _ => ?_
    extract_lets x d1
    have h1 : Touches [.cut] Dev.cutErrKeys d d1 := (((Touches.refl d).setCut _).put _ _).andThen (Dev.cutRefused_touches _ _ _ _)
    exact .ite (fun _ => h1.confined) fun _ => h1.confined.after (Dev.answerPatch_confined _ _ _)
  · exact .refl d

/-- Settles O47: each command touches the components and words named. -/
theorem engineFrames : Obligations.EngineFrames := by
  unfold Obligations.EngineFrames
  exact ⟨fun t m v => frame_of_part (execRftIngestW0 t m v) (fun _ => rfl) (fun _ => rfl) fun d => d.setIngest_touches _ _,
    fun t m i v => frame_of_part (execRftIngestWord t m i v) (fun _ => rfl) (fun _ => rfl) fun d => by
      split
      · exact d.setIngest_touches _ _
      · exact .refl d,
    fun t m v => rftIngestCommit_frame t m v _ (by simp [Dev.ingestKeys, Dev.keysOf]),
    rftBattenSel_frame,
    fun t m v => frame_of_exec (execRftSpeedSel t m v) (fun _ => rfl) (fun _ => rfl)
      (fun d => (((Touches.refl d).put _ _).put _ _).put _ _) fun _ h => h,
    fun t scope id => frame_of_part (execC1Expired t scope id) (fun _ => rfl) (fun _ => rfl) fun d =>
      .ite (fun _ => (d.c1Remove_touches _ _).offer _ _) fun _ => .refl d,
    fun t eid => frame_of_part (execRefreshDue t eid) (fun _ => rfl) (fun _ => rfl) fun d => d.setNode_touches _ _,
    fun t eid => frame_of_part (execWaveHoldExpired t eid) (fun _ => rfl) (fun _ => rfl) fun d => d.reevaluate_touches _,
    fun t eid j => frame_of_part (execEdgeDelayElapsed t eid j) (fun _ => rfl) (fun _ => rfl) fun d => d.reevaluate_touches _,
    fun t eid => frame_of_part (execDaylightStale t eid) (fun _ => rfl) (fun _ => rfl) fun d => .refl d,
    c0Refresh_frame,
    fun t => frame_of_part (execBeatDeadline t) (fun _ => rfl) (fun _ => rfl) fun d =>
      .ite (fun _ => .refl d) fun _ => d.patchWindow_touches,
    cutLoadStored_frame,
    patchReady_frame,
    fun t b active => frame_of_exec (execEmgEdge t b active) (fun _ => rfl) (fun _ => rfl) (fun d => d.emgEdge_touches _ _) fun _ h => h,
    fun t ms => frame_of_exec (execEmgDisagree t ms) (fun _ => rfl) (fun _ => rfl)
      (fun d => .ite (fun _ => .refl d) fun _ => (((Touches.refl d).setLin _).raise _).offer _ _) fun _ h => h⟩

end Sys2Proof.Machine
end

section
/-! PROOFS. Loading and patching a Cut List: what a chunk stages, how a load and a patch begin or are refused, and their steps (R85,
R88, R91, R93, R98-R103). -/

-- One proof at a time: a side condition left to `decide` waits for every declaration before it, each in a thread of its own.
set_option Elab.async false

namespace Sys2Proof.Machine
namespace Dev

/-! ### A chunk is staged (R88) -/

theorem cutStage_read (d : Dev) (p : Bytes) : if (stageArgs p).target = 0
    then ∀ i < (stageArgs p).data.length, (d.cutStage p).cut.stage.read ((stageArgs p).offset + i) = (stageArgs p).data.getD i 0
    else ∀ i < (stageArgs p).data.length, (d.cutStage p).cut.patchStage.read ((stageArgs p).offset + i) = (stageArgs p).data.getD i 0 := by
  unfold cutStage
  extract_lets a m n k
  split
  · exact fun i hi => Memory.read_writeN _ _ _ _ hi
  · exact fun i hi => Memory.read_writeN _ _ _ _ hi

/-! ### A load and a patch begin, or are refused (R85, R91, R99, R103) -/

/-- A refusal shows its check (R103). -/
theorem cutRefused_check (d : Dev) (r : CutRefusal) (patch : Bool) (seq : Nat) :
    (d.cutRefused r patch seq).get Reg.CUT_ERR_SECTION.check = r.check % 256 := by
  unfold cutRefused
  rw [offer_get]
  simp (disch := decide) only [get_put_of_ne, get_put]
  rfl

theorem cutRefused_status (d : Dev) (r : CutRefusal) (patch : Bool) (seq : Nat) :
    (d.cutRefused r patch seq).get Reg.CUT_STATUS.last_status = r.status % 256 := by
  unfold cutRefused
  rw [offer_get]
  simp (disch := decide) only [get_put]
  rfl

/-- The low fields of CUT_STATUS stay. -/
theorem cutRefused_get_low (d : Dev) (r : CutRefusal) (patch : Bool) (seq : Nat) (f : Fld) (hk : f.key = Reg.CUT_STATUS.last_status.key := by decide)
    (hf : f.lo ≤ f.hi := by decide) (h8 : f.hi < Reg.CUT_STATUS.last_status.lo := by decide) :
    (d.cutRefused r patch seq).get f = d.get f := by
  unfold cutRefused
  rw [offer_get, get_put_of_ne _ _ _ _ hf (by decide) (by decide) (.inr (.inr h8))]
  have h : Touches [] (keysOf [Reg.CUT_ERR_OFFSET.word, Reg.CUT_ERR_SECTION.word]) d
      (((d.put Reg.CUT_ERR_SECTION.check r.check).put Reg.CUT_ERR_SECTION.type r.typ).put Reg.CUT_ERR_OFFSET.word r.off) :=
    (((Touches.refl d).put _ _).put _ _).put _ _
  exact h.get f (hk ▸ by decide) (hk ▸ by decide)

theorem cutRefused_cut (d : Dev) (r : CutRefusal) (patch : Bool) (seq : Nat) : (d.cutRefused r patch seq).cut = d.cut :=
  (d.cutRefused_touches r patch seq).parts .cut (by decide)

theorem startLoad_of_error {d d1 : Dev} {c : Bytes} {r : CutRefusal} (h : d.checkFull c = (.error r, d1)) (seq : Nat) :
    d.startLoad c seq = (d1.cutRefused r false seq, r.status) := by
  unfold startLoad
  rw [h]

/-- A container that passes every check begins to be stored (R91). -/
structure IsStoring (c : Bytes) (x : CutImage) (r : Dev × Nat) : Prop where
  status : r.2 = ST_PENDING
  busy : r.1.get Reg.CUT_STATUS.load_busy = 1
  run : ∃ l, r.1.cut.load = some l ∧ l.phase = .storing ∧ l.image = x ∧ l.container = c

theorem startLoad_of_ok {d d1 : Dev} {c : Bytes} {x : CutImage} (h : d.checkFull c = (.ok x, d1)) (seq : Nat) :
    IsStoring c x (d.startLoad c seq) := by
  unfold startLoad
  rw [h]
  refine ⟨rfl, ?_, _, rfl, rfl, rfl, rfl⟩
  simp (disch := decide) only [get_put_of_ne, get_put]
  rfl

theorem startPatch_of_error {d d1 : Dev} {c : Bytes} {r : CutRefusal} (h : d.checkAPatch c = (.error r, d1)) (a : Answer) :
    d.startPatch c a = (d1.cutRefused r true a.seq, r.status) := by
  unfold startPatch
  rw [h]

/-- A patch that passes every check begins to be logged (R99). -/
structure IsLogging (x : PatchImage) (r : Dev × Nat) : Prop where
  status : r.2 = ST_PENDING
  busy : r.1.get Reg.CUT_STATUS.patch_busy = 1
  run : ∃ l, r.1.cut.patch = some l ∧ l.phase = .logging ∧ l.image = x

theorem startPatch_of_ok {d d1 : Dev} {c : Bytes} {x : PatchImage} (h : d.checkAPatch c = (.ok x, d1)) (a : Answer) :
    IsLogging x (d.startPatch c a) := by
  unfold startPatch
  rw [h]
  refine ⟨rfl, ?_, _, rfl, rfl, rfl⟩
  simp (disch := decide) only [get_put_of_ne, get_put]
  rfl

/-! ### A patch is ready (R99) -/

theorem patchReady_patch (d : Dev) (run : PatchRun) :
    (d.patchReady run).cut.patch = some { run with phase := .ready, thisBeat := d.windowAhead } := by
  unfold patchReady
  extract_lets slot log x d1
  split
  · rw [show _ = _ from (cutPassed_touches _).parts .cut (by decide), show _ = d1.cut from (commit_touches _ _).parts .cut (by decide)]
  · rfl

/-! ### What an answer leaves of the Cut List (R66, R68) -/

section

variable (d x : Dev) (e : Envelope) (code status : Nat) (result : Bytes)

theorem answering_cut : (d.answering x e code status result).cut = x.cut := (d.answering_confined x e code status result).parts .cut (by decide)

/-- The words below the Joist's counts of refusals stay, those of the answer's own carriers apart. -/
theorem answering_get (f : Fld) (hf : f.key < (Reg.JST_QREFUSED.word 0).key) (hk : f.key ∉ sendKeys := by decide)
    (he : f.key ∉ eventKeys := by decide) : (d.answering x e code status result).get f = x.get f :=
  (d.answering_confined x e code status result).get f (not_qRefused hf) hk he

end

theorem judge_of_unanswered {d d' : Dev} {c : CmdSpec} {e : Envelope} (h : d.Accepts d' c e) (ha : (c.effect d' e).answered = false) :
    d'.judge c e = (c.effect d' e).dev.recordSeq (d'.maced (answerTo e c.code ST_PENDING (c.effect d' e).result)) e.mac := by
  simp [judge, h.permitted, h.legal, h.args, h.free, matrixRow_isSome_of_legal h.legal, ha]

end Dev

/-- A command that passes every check and whose answer comes later completes with its effect (R70). -/
theorem completes_of_unanswered {c : Instr} {t : Nat} {s : State} {spec : CmdSpec} {e : Envelope} {d' : Dev} {P : Dev → Prop}
    (o : State → Host.Outcome State Fault Refusal) (hc : ∀ s, exec c s = o s) (ho : ∀ s, o s = s.runAt t fun d => d.command spec e)
    (h : (s.dev.atTime t).Accepts d' spec e) (ha : (spec.effect d' e).answered = false)
    (hp : ∀ y, Touches [.sil] [] (spec.effect d' e).dev y → P y) : Completes c s P := by
  refine completes_of_runAt ((hc s).trans (ho s)) ?_
  rw [Dev.command_of_accepts h, Dev.judge_of_unanswered h ha]
  exact hp _ (Dev.recordSeq_touches _ _ _).settleOffers

/-! ### The commands in an envelope -/

section

variable {t : Nat} {e : Envelope} {s : State} {d' : Dev}

theorem cutStage_stages (h : (s.dev.atTime t).Accepts d' specCutStage e) :
    Completes (.cutStage t e) s fun d => d.answered e cmdCutStage ST_OK [] ∧
      (let a := stageArgs e.body
       if a.target = 0 then ∀ i < a.data.length, d.cut.stage.read (a.offset + i) = a.data.getD i 0
       else ∀ i < a.data.length, d.cut.patchStage.read (a.offset + i) = a.data.getD i 0) := by
  refine completes_of_accepts (execCutStage t e) (fun _ => rfl) (fun _ => rfl) h rfl ⟨Dev.answering_answered _ _ _ _ _ _, ?_⟩
  rw [Dev.answering_cut]
  exact d'.cutStage_read e.body

theorem cutLoad_begins (h : (s.dev.atTime t).Accepts d' specCutLoad e) : Completes (.cutLoad t e) s fun d =>
    match d'.checkFull (d'.cut.stage.readN 0 d'.cut.stageLen) with
    | (.ok x, _) => d.answered e cmdCutLoad ST_PENDING [] ∧ d.get Reg.CUT_STATUS.load_busy = 1 ∧
        ∃ r, d.cut.load = some r ∧ r.phase = .storing ∧ r.image = x ∧ r.container = d'.cut.stage.readN 0 d'.cut.stageLen
    | (.error r, _) => d.answered e cmdCutLoad r.status [] ∧ d.get Reg.CUT_ERR_SECTION.check = r.check % 256 := by
  refine completes_of_accepts (execCutLoad t e) (fun _ => rfl) (fun _ => rfl) h rfl ?_
  have he : (specCutLoad.effect d' e).dev = (d'.startLoad (d'.cut.stage.readN 0 d'.cut.stageLen) e.seq).1 := rfl
  have hs : (specCutLoad.effect d' e).status = (d'.startLoad (d'.cut.stage.readN 0 d'.cut.stageLen) e.seq).2 := rfl
  rw [he, hs, Dev.answering_cut, Dev.answering_get _ _ _ _ _ _ Reg.CUT_STATUS.load_busy (by decide),
    Dev.answering_get _ _ _ _ _ _ Reg.CUT_ERR_SECTION.check (by decide)]
  rcases hc : d'.checkFull (d'.cut.stage.readN 0 d'.cut.stageLen) with ⟨r | x, d1⟩
  · rw [Dev.startLoad_of_error hc]
    exact ⟨Dev.answering_answered _ _ _ _ _ _, Dev.cutRefused_check _ _ _ _⟩
  · obtain ⟨hst, hb, hr⟩ := Dev.startLoad_of_ok hc e.seq
    rw [hst]
    exact ⟨Dev.answering_answered _ _ _ _ _ _, hb, hr⟩

theorem cutPatch_begins (h : (s.dev.atTime t).Accepts d' specCutPatch e) : Completes (.cutPatch t e) s fun d =>
    match d'.checkAPatch (d'.cut.patchStage.readN 0 d'.cut.patchLen) with
    | (.ok x, _) => d.get Reg.CUT_STATUS.patch_busy = 1 ∧ ∃ r, d.cut.patch = some r ∧ r.phase = .logging ∧ r.image = x
    | (.error r, _) => r.status ≠ ST_PENDING → d.answered e cmdCutPatch r.status [] := by
  have he : (specCutPatch.effect d' e).dev =
      (d'.startPatch (d'.cut.patchStage.readN 0 d'.cut.patchLen) (Dev.answerTo e cmdCutPatch ST_OK)).1 := rfl
  have hs : (specCutPatch.effect d' e).status =
      (d'.startPatch (d'.cut.patchStage.readN 0 d'.cut.patchLen) (Dev.answerTo e cmdCutPatch ST_OK)).2 := rfl
  have ha : (specCutPatch.effect d' e).answered = ((specCutPatch.effect d' e).status != ST_PENDING) := rfl
  by_cases hp : (specCutPatch.effect d' e).status = ST_PENDING
  · refine completes_of_unanswered (execCutPatch t e) (fun _ => rfl) (fun _ => rfl) h (by simp [ha, hp]) fun y hy => ?_
    rw [hy.get Reg.CUT_STATUS.patch_busy, show y.cut = _ from hy.parts .cut (by decide), he]
    rcases hc : d'.checkAPatch (d'.cut.patchStage.readN 0 d'.cut.patchLen) with ⟨r | x, d1⟩
    · rw [hs, Dev.startPatch_of_error hc] at hp
      exact fun hn => absurd hp hn
    · obtain ⟨-, hb, hr⟩ := Dev.startPatch_of_ok hc (Dev.answerTo e cmdCutPatch ST_OK)
      exact ⟨hb, hr⟩
  · refine completes_of_accepts (execCutPatch t e) (fun _ => rfl) (fun _ => rfl) h (by simp [ha, hp]) ?_
    rw [hs] at hp ⊢
    rcases hc : d'.checkAPatch (d'.cut.patchStage.readN 0 d'.cut.patchLen) with ⟨r | x, d1⟩
    · rw [Dev.startPatch_of_error hc]
      exact fun _ => Dev.answering_answered _ _ _ _ _ _
    · exact absurd (Dev.startPatch_of_ok hc _).status hp

end

/-! ### The steps of a load and of a patch -/

section

variable {s : State} (t : Nat)

theorem cutLoadStored_good {run : LoadRun} (h : s.dev.cut.load = some run) (hp : run.phase = .storing) :
    Completes (.cutLoadStored t true) s fun d => d.cut.load = some { run with phase := .waiting } ∧
      (if run.slot = 0 then d.cut.slot0 = some ⟨run.container, []⟩ ∧ d.cut.slot1 = s.dev.cut.slot1
       else d.cut.slot0 = s.dev.cut.slot0) := by
  refine completes_of_runAt (show execCutLoadStored t true s = s.runAt t _ from rfl) ?_
  rw [Dev.settleOffers_cut]
  split
  next r hr =>
    obtain rfl : run = r := Option.some.inj (h.symm.trans hr)
    rw [if_neg (by simp [hp]), if_neg (by simp)]
    extract_lets slot x d1 d2 d3 d4
    have h2 : Touches [] (Dev.keysOf [Reg.CUT_ERR_SECTION.word, Reg.CUT_ERR_OFFSET.word]) d1 d2 :=
      d1.cutPassed_touches.andThen (Dev.offers_touches _ _ _ _)
    have h3 : Touches [] (Dev.keysOf [Reg.CUT_ERR_SECTION.word, Reg.CUT_ERR_OFFSET.word]) d1 d3 := h2.andThen (Dev.offers_touches _ _ _ _)
    have h4 : d4.cut = d3.cut := by
      simp only [d4]
      split
      · rfl
      · rfl
    rw [(Dev.mirror_touches _ _).parts .cut (by decide), Dev.put_cut, h4, show d3.cut = d1.cut from h3.parts .cut (by decide)]
    refine ⟨rfl, ?_⟩
    split
    · exact ⟨if_pos ‹_›, if_neg (by omega)⟩
    · exact if_neg ‹_›
  next hn => exact absurd (h.symm.trans hn) (by simp)

theorem cutLoadStored_bad {run : LoadRun} (h : s.dev.cut.load = some run) (hp : run.phase = .storing) :
    Completes (.cutLoadStored t false) s fun d => d.cut.load = none ∧ d.get Reg.CUT_STATUS.load_busy = 0 ∧
      d.get Reg.CUT_STATUS.last_status = ST_INTEGRITY := by
  refine completes_of_runAt (show execCutLoadStored t false s = s.runAt t _ from rfl) ?_
  rw [Dev.atTime_cut, h]
  dsimp only
  rw [if_neg (by simp [hp]), if_pos (by rfl), Dev.settleOffers_cut, Dev.cutRefused_cut, Dev.settleOffers_get _ _ (by decide),
    Dev.settleOffers_get _ _ (by decide), Dev.cutRefused_get_low _ _ _ _ _, Dev.cutRefused_status,
    Dev.get_put _ _ _ (by decide) (by decide)]
  exact ⟨rfl, rfl, rfl⟩

theorem patchReady_good {run : PatchRun} (h : s.dev.cut.patch = some run) (hp : run.phase = .logging) :
    Completes (.patchReady t true) s fun d =>
      d.cut.patch = some { run with phase := .ready, thisBeat := (s.dev.atTime t).windowAhead } := by
  refine completes_of_runAt (show execPatchReady t true s = s.runAt t _ from rfl) ?_
  rw [Dev.settleOffers_cut, show (s.dev.atTime t).cut.patch = some run from h]
  dsimp only
  rw [if_neg (by simp [hp]), if_pos rfl]
  exact Dev.patchReady_patch _ _

theorem patchReady_bad {run : PatchRun} (h : s.dev.cut.patch = some run) (hp : run.phase = .logging) :
    Completes (.patchReady t false) s fun d => d.cut.patch = none ∧ d.get Reg.CUT_STATUS.patch_busy = 0 := by
  refine completes_of_runAt (show execPatchReady t false s = s.runAt t _ from rfl) ?_
  rw [Dev.settleOffers_cut, Dev.settleOffers_get _ _ (by decide)]
  split
  next r hr =>
    obtain rfl : run = r := Option.some.inj (h.symm.trans hr)
    rw [if_neg (by simp [hp]), if_neg (by simp)]
    extract_lets x d1
    have h1 : d1.cut.patch = none ∧ d1.get Reg.CUT_STATUS.patch_busy = 0 := by
      rw [Dev.cutRefused_cut, Dev.cutRefused_get_low _ _ _ _ _, Dev.get_put _ _ _ (by decide) (by decide)]
      exact ⟨rfl, rfl⟩
    have h2 := d1.answerPatch_confined run.answer ST_INTEGRITY
    split
    · exact h1
    · rw [show _ = d1.cut from h2.parts .cut (by decide), h2.get Reg.CUT_STATUS.patch_busy (Dev.not_qRefused (by decide))]
      exact h1
  next hn => exact absurd (h.symm.trans hn) (by simp)

theorem beatDeadline_writes {run : PatchRun} (hw : s.dev.rft.sweeping = false) (hb : s.dev.beats = true)
    (h : s.dev.cut.patch = some run) (hp : run.phase = .ready) (ht : run.thisBeat = true) :
    Completes (.beatDeadline t) s fun d => d.cut.patch = some { run with phase := .written } := by
  refine completes_of_runAt (show execBeatDeadline t s = s.runAt t _ from rfl) ?_
  have hb' : (s.dev.atTime t).beats = true := hb
  rw [Dev.settleOffers_cut, if_neg (by simp [hw, hb']), Dev.patchWindow, show (s.dev.atTime t).cut.patch = some run from h]
  simp only [hp, ht, if_true]

theorem cutCopyDone_leaves {run : LoadRun} (h : s.dev.cut.load = some run) (hp : run.phase = .copying) :
    Completes (.cutCopyDone t) s fun d => d.cut.load = some { run with phase := .leaving } ∧ d.lin.nextSafety = some run.image.safety := by
  refine completes_of_runAt (show execCutCopyDone t s = s.runAt t _ from rfl) ?_
  rw [Dev.settleOffers_cut, Dev.settleOffers_lin, Dev.copyDone, show (s.dev.atTime t).cut.load = some run from h]
  dsimp only
  rw [if_neg (by simp [hp])]
  exact ⟨rfl, rfl⟩

end

/-- Settles O19, a lemma for each of its clauses. -/
theorem cutCommandsComplete : Obligations.CutCommandsComplete :=
  ⟨fun _ _ _ _ h => cutStage_stages h, fun _ _ _ _ h => cutLoad_begins h, fun _ _ _ _ h => cutPatch_begins h,
    fun t _ _ h hp => ⟨cutLoadStored_good t h hp, cutLoadStored_bad t h hp⟩, fun t _ _ h hp => cutCopyDone_leaves t h hp,
    fun t _ _ h hp => ⟨patchReady_good t h hp, patchReady_bad t h hp⟩,
    fun t _ _ hw hb h hp ht => beatDeadline_writes t hw hb h hp ht⟩

end Sys2Proof.Machine
end

section
/-! PROOFS. What a Cut List put in force touches, and the frame of the copy of a load (R91-R94, R103, R110, R133, R147, R197, R208, R254,
R367, R488, R519). -/

-- One proof at a time: a side condition left to `decide` waits for every declaration before it, each in a thread of its own.
set_option Elab.async false

namespace Sys2Proof.Machine
namespace Dev

/-! ### Updates of several components at once -/

theorem setImage_touches (d : Dev) (c : CutSt) (r : RftSt) (e : EvrSt) (p : PairSt) :
    Touches [.cut, .rft, .pair] [] d { d with cut := c, rft := r, evr := e, pair := p } :=
  (Touches.refl d).update (fun p hp => by cases p <;> simp_all [Part.same]) rfl

theorem setLedger_touches (d : Dev) (m : Memory) (s : SilSt) : Touches [.mem, .sil] [] d { d with mem := m, sil := s } :=
  (Touches.refl d).update (fun p hp => by cases p <;> simp_all [Part.same]) rfl

theorem setMeterBeat_touches (d : Dev) (m : MtrSt) (b : BeatSt) : Touches [.beat, .mtr] [] d { d with mtr := m, beat := b } :=
  (Touches.refl d).update (fun p hp => by cases p <;> simp_all [Part.same]) rfl

theorem setLoadSafety_touches (d : Dev) (c : CutSt) (l : LintelSt) : Touches [.cut, .lin] [] d { d with cut := c, lin := l } :=
  (Touches.refl d).update (fun p hp => by cases p <;> simp_all [Part.same]) rfl

theorem setQueues_touches (d : Dev) (j : JstSt) (r : RftSt) : Touches [.rft, .jst] [] d { d with jst := j, rft := r } :=
  (Touches.refl d).update (fun p hp => by cases p <;> simp_all [Part.same]) rfl

/-! ### The queues, the lights and the registers shown (R103, R196, R197, R488) -/

/-- The words of a queue flushed by a load. -/
def queueKeys : List Nat := keysOf [Reg.RFT_CS_REFUSED.word, Reg.RFT_IRQ_STATUS.word, Reg.JST_IRQ_STATUS.word]

theorem discardQueue_touches (d : Dev) (q : Nat) : Touches [.rft, .jst] queueKeys d (d.discardQueue q) := by
  unfold discardQueue
  extract_lets eng eids x y d1
  have h1 : Touches [.rft, .jst] queueKeys d d1 := (d.setQueues_touches _ _).mono
  exact .ite (fun _ => h1) fun _ => (h1.bump _ _).raise _

theorem applyQueues_touches (d : Dev) (l : List QCfg) : Touches [.rft, .jst] queueKeys d (d.applyQueues l) := by
  refine Touches.setJst _ ((Touches.refl d).foldl _ fun x q _ => ?_)
  exact .ite (fun _ => .refl x) fun _ => ((x.discardQueue_touches q).raise _).offer _ _

theorem showLight_touches (d : Dev) : Touches [] [Reg.LGT_STATUS.word.key] d d.showLight := (((Touches.refl d).put _ _).put _ _).putB _ _

theorem lightLoad_touches (d : Dev) (sec : Option LightSec) (owned : List Nat) :
    Touches [.lgt] [Reg.LGT_STATUS.word.key] d (d.lightLoad sec owned) := ((Touches.refl d).setLgt _).andThen (showLight_touches _)

/-- The words of the Cut List's hash (R103). -/
def hashKeys : List Nat := (List.range 8).map fun i => (Reg.CUT_HASH.word i).key

/-- The words of the Cut List loaded, its hash apart (R103). -/
def cutShownKeys : List Nat := keysOf [Reg.CUT_STATUS.word, Reg.CUT_ID_LO.word, Reg.CUT_ID_HI.word, Reg.CUT_GEN.word, Reg.CUT_FORMAT.word,
  Reg.CUT_NODES.word, Reg.CUT_EDGES.word, Reg.CUT_PATCHES.word]

theorem showCut_touches (d : Dev) (x : CutImage) (slot generation patches : Nat) (fallback skipped : Bool) :
    Touches [] (cutShownKeys ++ hashKeys) d (d.showCut x slot generation patches fallback skipped) := by
  unfold showCut
  extract_lets d1
  have h1 : Touches [] (cutShownKeys ++ hashKeys) d d1 :=
    (((((((((((Touches.refl d).put _ _).put _ _).putB _ _).putB _ _).put _ _).put _ _).put _ _).put _ _).put _ _).put _ _).put _ _
  exact (h1.put _ _).foldl _ fun y i hi => (Touches.refl y).put _ _
    (List.mem_append_left _ (List.mem_append_right _ (List.mem_map_of_mem (f := fun i => (Reg.CUT_HASH.word i).key) hi)))

/-! ### The Cut List in force (R91, R94) -/

theorem moveLedger_touches (d : Dev) (old : List Bytes) : Touches [.mem, .sil] [] d (d.moveLedger old) := d.setLedger_touches _ _

/-- The components that a Cut List put in force writes. -/
def imageParts : List Part := [.mem, .beat, .sil, .cut, .rft, .jst, .rad, .trk, .mtr, .pair, .lgt, .lnd]

/-- The words that it writes, those of the links and of the hash apart. -/
def imageNamed : List Nat := queueKeys ++ cutShownKeys ++ keysOf [Reg.SYS_GPIO_OUT_LO.word, Reg.SYS_GPIO_OUT_HI.word, Reg.BEAT_CFG.word,
  Reg.BEAT_SLEW_LIMIT.word, Reg.BEAT_PASSES.word, Reg.LGT_STATUS.word, Reg.RFT_CS_CURSOR.word]

/-- The words that a Cut List put in force writes. -/
def imageKeys : List Nat := imageNamed ++ (linkKeys ++ hashKeys)

theorem applyImage_touches (d : Dev) (x : CutImage) (fb : Option Fallback) (skipped : List (Nat × Nat)) (slot : Nat) (boot : Bool) :
    Touches imageParts imageKeys d (d.applyImage x fb skipped slot boot) := by
  unfold applyImage
  extract_lets code passes p q nodes same keep old d1 y0 y1 y2 y3 d2 d3 d4 d5 d6 y4 y5 d7
  have h2 : Touches [.cut, .rft, .pair] [] d d2 := (d.clearOverrides_touches _ _).mono.andThen (d1.setImage_touches _ _ _ _)
  have h3 : Touches imageParts imageKeys d d3 := .ite (fun _ => h2.mono) fun _ => h2.mono.andThen (moveLedger_touches _ _)
  have h4 : Touches imageParts imageKeys d d4 :=
    ((h3.andThen (applyQueues_touches _ _)).andThen (applyLinks_touches _ _ _ _)).andThen (applyPins_touches _ _)
  have h5 : Touches imageParts imageKeys d d5 := (((h4.put _ _).put _ _).put _ _).put _ _
  have h7 : Touches imageParts imageKeys d d7 := (h5.andThen (lightLoad_touches _ _ _)).andThen (d6.setMeterBeat_touches _ _)
  exact (h7.andThen (engineReset_touches _ _)).andThen (showCut_touches _ _ _ _ _ _ _)

/-- The components and words of the copy of a load (R91, R93). -/
def copyParts : List Part := [.mem, .beat, .sil, .cut, .rft, .lin, .jst, .rad, .trk, .mtr, .pair, .lgt, .lnd]

def copyKeys : List Nat := keysOf [Reg.MTR_STATUS.word, Reg.CUT_COPY.word] ++ imageKeys

theorem copyDone_touches (d : Dev) : Touches copyParts copyKeys d d.copyDone := by
  unfold copyDone
  split
  next run _ =>
    refine .ite (fun _ => .refl d) fun _ => ?_
    extract_lets x bytes d1 d2 y z
    have h1 : Touches copyParts copyKeys d d1 :=
      ((d.applyImage_touches x _ _ _ _).mono (hk := List.subset_append_right _ _)).andThen (meterStart_touches _)
    have h2 : Touches copyParts copyKeys d d2 := (h1.put _ _).andThen (commit_touches _ _)
    exact h2.andThen (d2.setLoadSafety_touches _ _)
  next => exact .refl d

end Dev

/-! ### The frame -/

/-- The words of the links are those of the radios' plans and of the trunks' cycles and PLCA. -/
theorem linkReg_of_linkKeys {k : Nat} (h : k ∈ Dev.linkKeys) : (∃ r < 4, k = (Reg.RAD_PLAN.word r).key) ∨
    (∃ w < 8, k = (Reg.TRK_CYCLE.word w).key) ∨ ∃ w < 8, k = (Reg.TRK_PLCA.word w).key := by
  rcases List.mem_append.1 h with h | h
  · obtain ⟨r, hr, rfl⟩ := List.mem_map.1 h
    exact .inl ⟨r, List.mem_range.1 hr, rfl⟩
  rcases List.mem_append.1 h with h | h
  · obtain ⟨w, hw, rfl⟩ := List.mem_map.1 h
    exact .inr (.inr ⟨w, List.mem_range.1 hw, rfl⟩)
  · obtain ⟨w, hw, rfl⟩ := List.mem_map.1 h
    exact .inr (.inl ⟨w, List.mem_range.1 hw, rfl⟩)

theorem hashReg_of_hashKeys {k : Nat} (h : k ∈ Dev.hashKeys) : ∃ i < 8, k = (Reg.CUT_HASH.word i).key := by
  obtain ⟨i, hi, rfl⟩ := List.mem_map.1 h
  exact ⟨i, List.mem_range.1 hi, rfl⟩

/-- The words of the copy of a load are those named, the hash and the words of the links. -/
theorem cutCopyDone_frame (t : Nat) {ls : List Nat} (hl : Dev.keysOf [Reg.MTR_STATUS.word, Reg.CUT_COPY.word] ++ Dev.imageNamed ⊆ ls) :
    Frame (.cutCopyDone t) Dev.copyParts (fun k => k ∈ ls ∨ (∃ i < 8, k = (Reg.CUT_HASH.word i).key) ∨
      (∃ r < 4, k = (Reg.RAD_PLAN.word r).key) ∨ (∃ w < 8, k = (Reg.TRK_CYCLE.word w).key) ∨ (∃ w < 8, k = (Reg.TRK_PLCA.word w).key)) := by
  refine frame_of_exec (execCutCopyDone t) (fun _ => rfl) (fun _ => rfl) Dev.copyDone_touches fun k hk => ?_
  rcases List.mem_append.1 hk with h | h
  · exact .inl (hl (List.mem_append_left _ h))
  rcases List.mem_append.1 h with h | h
  · exact .inl (hl (List.mem_append_right _ h))
  rcases List.mem_append.1 h with h | h
  · exact .inr (.inr (linkReg_of_linkKeys h))
  · exact .inr (.inl (hashReg_of_hashKeys h))

end Sys2Proof.Machine
end

section
/-! PROOFS. What each step of a start touches as it does its work (R47, R62, R99, R279, R328-R343, R367, R383, R387, R407, R449-R454, R459-R463,
R474-R478). -/

-- One proof at a time: a side condition left to `decide` waits for every declaration before it, each in a thread of its own.
set_option Elab.async false

namespace Sys2Proof.Machine
namespace Dev

/-! ### Step 1 (R47, R279) -/

theorem setStarted_touches (d : Dev) (b : BeatSt) (p : PwrSt) (s : BstSt) :
    Touches [.beat, .pwr, .bst] [] d { d with beat := b, pwr := p, bst := s } :=
  (Touches.refl d).update (fun p hp => by cases p <;> simp_all [Part.same]) rfl

/-- The components and words of step 1. -/
def powerParts : List Part := [.freeCtr, .beat, .rtc, .pwr, .bst]

def powerKeys : List Nat := keysOf [Reg.CLK_STATUS.word, Reg.CLK_XTAL40.word, Reg.TIME_STATUS.word, Reg.BEAT_STATUS.word]

theorem stepPower_touches (d : Dev) : Touches powerParts powerKeys d d.stepPower := by
  unfold stepPower
  extract_lets d1 elapsed start r
  have h1 : Touches powerParts powerKeys d d1 := ((((Touches.refl d).put _ _).put _ _).put _ _).put _ _
  have hs (y : Dev) (ns q : Nat) : Touches powerParts powerKeys y (start y ns q) :=
    (((y.setStarted_touches _ _ _).mono (hk := List.nil_subset _)).put _ _).put _ _
  clear_value start d1
  split
  · split
    · exact (h1.andThen (rtcTicks_touches d1)).trans (hs _ _ _)
    · exact (h1.trans (hs _ _ _)).offer _ _
  · exact (h1.trans (hs _ _ _)).offer _ _

/-! ### Step 2 (R329, R342, R343, R367, R383, R452, R454) -/

theorem setMounted_touches (d : Dev) (s : SilSt) (l : LintelSt) (r : List RadSt) (k : List TrkSt) :
    Touches [.sil, .lin, .rad, .trk] [] d { d with sil := s, lin := l, rad := r, trk := k } :=
  (Touches.refl d).update (fun p hp => by cases p <;> simp_all [Part.same]) rfl

theorem setMtr_touches (d : Dev) (v : MtrSt) : Touches [.mtr] [] d { d with mtr := v } :=
  (Touches.refl d).update (fun p hp => by cases p <;> simp_all [Part.same]) rfl

theorem judgeSteps_touches (d : Dev) (prev : Nat) (excused : Bool) : Touches [.sil] [] d (d.judgeSteps prev excused) := by
  refine (Touches.refl d).foldl _ fun x i _ => ?_
  extract_lets n
  split
  · extract_lets c
    exact .ite (fun _ => (x.commit_touches _).offer _ _) fun _ => .refl x
  · exact .refl x

theorem restoreLedger_touches (d : Dev) (w : List (Nat × Nat)) (n : Nat) (final : Bool) (stop : Nat) :
    Touches [.mem, .sil] [] d (d.restoreLedger w n final stop).1 := by
  unfold restoreLedger
  extract_lets rs mem chunks gaps used failed x d1 d2
  have h2 : Touches [.mem, .sil] [] d d2 := (d.setLedger_touches _ _).foldl _ fun y g _ => (y.commit_touches _).mono
  exact h2.offer _ _

theorem meterRestore_touches (d : Dev) (sec : Option MeterSec) (w : List (Nat × Nat)) (n : Nat) :
    Touches [.mtr] [] d (d.meterRestore sec w n) := by
  unfold meterRestore
  split
  · exact (d.setMtr_touches _).offer _ _
  · exact .refl d

theorem startRecorder_touches (d : Dev) (clean : Bool) : Touches [] [] d (d.startRecorder clean) := by
  unfold startRecorder
  extract_lets highest held x d1
  have h1 : Touches [] [] d d1 := (Touches.refl d).note d.cyc _
  exact (h1.eventOnly (.acceptEvent d1 _ _)).foldl _ fun x o _ => (Touches.refl x).eventOnly (.offerNow x o.ev o.args)

/-- The components and words of step 2. -/
def mountParts : List Part := [.mem, .sys, .sil, .lin, .rtc, .rad, .trk, .pwr, .bst, .mtr]

def mountKeys : List Nat := keysOf [Reg.SIL_EPOCH.word, Reg.SIL_STATUS.word, Reg.PWR_STATUS.word, Reg.PWR_PF_CNT.word, Reg.BST_EARLY.word]

theorem stepMount_touches (d : Dev) (path : Nat) : Touches mountParts mountKeys d (d.stepMount path) := by
  unfold stepMount
  extract_lets prev stop clean excused early y z d1 d2 d3 d4 d5 x w n final stopAt d6 d7 d8 u d9 v d10 auto
  have h1 : Touches mountParts mountKeys d d1 := (d.setMounted_touches _ _ _ _).mono
  have h2 : Touches mountParts mountKeys d d2 := (((h1.andThen (commit_touches _ _)).put _ _).put _ _).put _ _
  have h3 : Touches mountParts mountKeys d d3 := (h2.putB _ _).putB _ _
  have h4 : Touches mountParts mountKeys d d4 :=
    .ite (fun _ => h3.foldl _ fun y _ _ => (y.commit_touches _).mono) fun _ => (h3.andThen (commit_touches _ _)).put _ _
  have h5 : Touches mountParts mountKeys d d5 := (h4.andThen (judgeSteps_touches _ _ _)).andThen (noteStep_touches _ _ _ _ _ _)
  have h6 : Touches mountParts mountKeys d d6 := (h5.andThen (restoreLedger_touches _ _ _ _ _)).andThen (meterRestore_touches _ _ _ _)
  have h7 : Touches mountParts mountKeys d d7 :=
    (h6.andThen (startRecorder_touches _ _)).foldl _ fun y _ _ => (Touches.refl y).offer _ _
  have h8 : Touches mountParts mountKeys d d8 := .ite (fun _ => h7) fun _ => (h7.bump _).offer _ _
  have h9 : Touches mountParts mountKeys d d9 := .ite (fun _ => (h8.setRtc _).offer _ _) fun _ => h8
  have h10 : Touches mountParts mountKeys d d10 := by
    simp only [d10]
    split
    · exact (h9.setPwr _).offer _ _
    · exact h9
  exact h10.setSys _

/-! ### Step 4 (R451, R459-R462) -/

theorem storeQuick_touches (d : Dev) (quick : List (Nat × Nat)) (discard : Bool) : Touches [.bst] [] d (d.storeQuick quick discard) := by
  unfold storeQuick
  extract_lets units x d0
  have h0 : Touches [.bst] [] d d0 := .ite (fun _ => (Touches.refl d).setBst _) fun _ => .refl d
  refine h0.foldl _ fun x u _ => ?_
  extract_lets ts known
  exact .ite (fun _ => .refl x) fun _ => (Touches.refl x).foldl _ fun y _ _ => y.storeResult_touches _ _ _ _

/-- The field of the unit map that shows the units of a kind (R462). -/
def unitField (kind : Nat) : Fld := [Reg.BST_UNIT0.lanes, Reg.BST_UNIT0.cores, Reg.BST_UNIT0.trunks, Reg.BST_UNIT0.radios,
  Reg.BST_UNIT1.ports, Reg.BST_UNIT1.meter, Reg.BST_UNIT1.light].getD kind Reg.BST_UNIT0.lanes

/-- The words of the unit map (R462, R467). -/
def unitKeys : List Nat := keysOf [Reg.BST_UNIT0.word, Reg.BST_UNIT1.word, Reg.BST_UNTESTED0.word, Reg.BST_UNTESTED1.word,
  Reg.BST_IRQ_STATUS.word, Reg.RFT_STATUS.word, Reg.SYS_STATUS.word]

theorem unitField_key : ∀ kind ∈ List.range 7, (unitField kind).key ∈ unitKeys ++ eventKeys := by decide

theorem untested_key (kind : Nat) : (if kind < 4 then Reg.BST_UNTESTED0.units else Reg.BST_UNTESTED1.units).key ∈ unitKeys ++ eventKeys := by
  split <;> decide

theorem unitMap_touches (d : Dev) (quick : List (Nat × Nat)) (discard : Bool) : Touches [] unitKeys d (d.unitMap quick discard) := by
  unfold unitMap
  extract_lets field d1
  have h1 : Touches [] unitKeys d d1 := by
    refine (((Touches.refl d).put _ _).put _ _).foldl _ fun x kind hk => (Touches.refl x).foldl _ fun y i _ => ?_
    have hf : (field kind).key ∈ unitKeys ++ eventKeys := unitField_key kind hk
    split
    · exact (Touches.refl y).put _ _ hf
    · exact (((Touches.refl y).put _ _ hf).raise _).offer _ _
    · exact (((Touches.refl y).put _ _ hf).put _ _ (untested_key kind)).offer _ _
  exact (h1.put _ _).putB _ _

theorem noteUnits_touches (d : Dev) (path : Nat) : Touches [.sil] [] d (d.noteUnits path) := .ite (fun _ => d.commit_touches _) fun _ => .refl d

/-! ### Step 6 (R454, R474-R478) -/

theorem releaseCores_touches (d : Dev) : Touches [.bst] [] d d.releaseCores := .ite (fun _ => (Touches.refl d).setBst _) fun _ => .refl d

theorem checkSettings_touches (d : Dev) (schema : Nat) : Touches [.sys, .sil] [] d (d.checkSettings schema) := by
  unfold checkSettings
  split
  · exact .refl d
  · exact .ite (fun _ => .refl d) fun _ => (((Touches.refl d).setSil _).setSys _).offer _ _

theorem showLib_touches (d : Dev) : Touches [] [Reg.FWU_LIB_FREE.word.key] d d.showLib := ((Touches.refl d).put _ _).put _ _

theorem setFwuSys_touches (d : Dev) (f : FwuSt) (s : SysSt) : Touches [.sys, .fwu] [] d { d with fwu := f, sys := s } :=
  (Touches.refl d).update (fun p hp => by cases p <;> simp_all [Part.same]) rfl

/-- The words of step 6. -/
def firmwareKeys : List Nat := keysOf [Reg.FWU_IRQ_STATUS.word, Reg.FWU_LIB_FREE.word] ++ fwKeys

theorem stepFirmware_touches (d : Dev) (path : Nat) : Touches [.sys, .sil, .fwu] firmwareKeys d (d.stepFirmware path) := by
  unfold stepFirmware
  extract_lets p d1 q y z d2
  have h1 : Touches [.sys, .sil, .fwu] firmwareKeys d d1 := .ite (fun _ => ((d.commit_touches _).mono.raise _).offer _ _) fun _ => .refl d
  have h2 : Touches [.sys, .sil, .fwu] firmwareKeys d d2 := h1.andThen (setFwuSys_touches _ _ _)
  exact ((h2.andThen (checkSettings_touches _ _)).andThen (showFw_touches _)).andThen (showLib_touches _)

/-! ### Step 7 (R89, R92, R99, R450) -/

theorem applyPatch_touches (d : Dev) (x : PatchImage) : Touches [.rft, .lgt] [] d (d.applyPatch x) := by
  unfold applyPatch
  extract_lets p q newStat keep d1 edges y d2
  have h1 : Touches [.rft, .lgt] [] d d1 := (d.clearOverrides_touches _ _).mono
  exact (h1.setRft _).setLgt _

/-- The components and words of a start's Cut List. -/
def cutParts : List Part := [.mem, .beat, .sil, .key, .cut, .rft, .lin, .jst, .rad, .trk, .bst, .mtr, .pair, .lgt, .lnd]

def cutStepKeys : List Nat := imageKeys ++ lintelKeys

theorem loadSlot_touches (d : Dev) (s : Nat) (x : CutImage) (patches : List Bytes) (generation : Nat) :
    Touches cutParts cutStepKeys d (d.loadSlot s x patches generation) := by
  unfold loadSlot
  extract_lets fb d1 chain gen d2 d2' d3
  have h0 : Touches cutParts cutStepKeys d ((d.applyImage x fb (d.skippedUnits x.units) s true).setSafety (some x.safety)) :=
    ((d.applyImage_touches x _ _ _ _).mono (hk := List.subset_append_left _ _)).andThen (setSafety_touches _ _)
  have h1 : Touches cutParts cutStepKeys d d1 := h0.andThen (latch_touches _).1 (hk := List.subset_append_right _ _)
  have h2 : Touches cutParts cutStepKeys d d2 := h1.foldl _ fun y c _ => by
    split
    · exact (y.applyPatch_touches _).mono
    · exact .refl y
  have h2' : Touches cutParts cutStepKeys d d2' := .ite (fun _ => h2) fun _ => h2.offer _ _
  exact ((h2'.put _ _).put _ _).andThen (loadKeys_touches _ _)

theorem announceLoad_touches (d : Dev) (unknown : List Nat) (skipped : List (Nat × Nat)) (fallback : Option Fallback) :
    Touches [.beat] [] d (d.announceLoad unknown skipped fallback) := by
  unfold announceLoad
  extract_lets d1 d2 d3
  have h2 : Touches [.beat] [] d d2 := (d.offers_touches _ _ _).mono.andThen (offers_touches _ _ _ _)
  have h3 : Touches [.beat] [] d d3 := by
    simp only [d3]
    split
    · exact h2.offer _ _
    · exact h2
  exact h3.setBeat _

/-- The components and words of step 7, the loads that a transition ends apart. -/
def stepCutParts : List Part := .sys :: cutParts

def stepCutKeys : List Nat := gotoKeys ++ cutStepKeys

theorem stepCut_confined (d : Dev) (f : CutFound) : Confined stepCutParts stepCutKeys JGet d (d.stepCut f) := by
  have hn : Confined stepCutParts stepCutKeys JGet d (((d.noCutList.setSafety none).goto .unframed causeBoot).setSuspended 0x3FFF) := by
    have h1 : Touches cutParts cutStepKeys d (d.noCutList.setSafety none) := d.noCutList_touches.mono.andThen (setSafety_touches _ none)
    exact ((h1.confined (hk := List.subset_append_right _ _)).after (goto_confined _ _ _)).andThen (setSuspended_touches _ _)
  unfold stepCut
  split
  · split
    · extract_lets log d0 d1
      have h1 : Touches cutParts cutStepKeys d d1 := (d.loadSlot_touches _ _ _ _).andThen (announceLoad_touches _ _ _ _)
      have h2 : Confined stepCutParts stepCutKeys JGet d d1 := h1.confined (hk := List.subset_append_right _ _)
      exact .ite (fun _ => (h2.andThen (commit_touches _ _)).offer _ _) fun _ => h2
    · exact (d.goto_confined .unframed causeBoot).mono fun _ => .inr
  · exact hn

/-! ### Step 9 (R387, R389, R406, R407) -/

theorem pairRecord_touches (d : Dev) : Touches [.sil] [] d d.pairRecord := by
  unfold pairRecord
  split
  · exact d.journal_touches _ _ _
  · exact .refl d

theorem setPairMedia_touches (d : Dev) (p : PairSt) (r : List RadSt) (k : List TrkSt) :
    Touches [.rad, .trk, .pair] [] d { d with pair := p, rad := r, trk := k } :=
  (Touches.refl d).update (fun p hp => by cases p <;> simp_all [Part.same]) rfl

/-- The words of the pair's standing at step 9. -/
def standingKeys : List Nat := keysOf [Reg.SIL_EPOCH.word, Reg.PAIR_EPOCH.word] ++ pairKeys

theorem setEpoch_touches (d : Dev) (n : Nat) : Touches [.sil, .rad, .trk, .pair] standingKeys d (d.setEpoch n) :=
  (((((d.setPairMedia_touches _ _ _).mono (hk := List.nil_subset _)).andThen (commit_touches _ _)).put _ _).put _ _).andThen (pairRecord_touches _)

theorem pairStart_touches (d : Dev) : Touches [.sil, .rad, .trk, .pair] standingKeys d d.pairStart := by
  unfold pairStart
  split
  · extract_lets n kept x d1
    have h1 : Touches [.sil, .rad, .trk, .pair] standingKeys d d1 := (Touches.refl d).setPair _
    exact Touches.andThen (.ite (fun _ => h1.trans (setEpoch_touches _ _)) fun _ => h1.put _ _) (showPair_touches _)
  · exact .refl d

theorem takeRole_touches (d : Dev) (r : Role) (cause : Nat) : Touches [.sys, .sil, .lnd]
    (keysOf [Reg.SYS_STATUS.word, Reg.MTR_STATUS.word, Reg.PAIR_IRQ_STATUS.word]) d (d.takeRole r cause) :=
  .ite (fun _ => .refl d) fun _ =>
    ((((d.setRole_touches r).mono.raise _).offer _ _).andThen (pairRecord_touches _)).andThen (judgeLedger_touches _)

end Dev
end Sys2Proof.Machine
end

section
/-! PROOFS. A step of a start that has done its work, and the frames of a load and of a boot step (R62, R93, R449, R450, R454). -/

-- One proof at a time: a side condition left to `decide` waits for every declaration before it, each in a thread of its own.
set_option Elab.async false

namespace Sys2Proof.Machine
namespace Dev

/-! ### A step is done, and the end of a start (R62, R449, R475) -/

/-- The components and words of a step that is done and of the next one that begins. -/
def doneParts : List Part := [.sil, .rad, .trk, .bst, .pair]

def doneKeys : List Nat := startKeys ++ standingKeys

theorem stepDone_touches (d : Dev) (n path : Nat) : Touches doneParts doneKeys d (d.stepDone n path) := by
  unfold stepDone
  extract_lets d1 m d2
  have h1 : Touches doneParts doneKeys d d1 := (noteStep_touches _ _ _ _ _ _).mono
  have h2 : Touches doneParts doneKeys d d2 := h1.andThen (startStep_touches _ _)
  exact .ite (fun _ => h1) fun _ => .ite (fun _ => h2.andThen (pairStart_touches _)) fun _ => h2

/-- The components and words of the end of a start, the loads that its transition ends apart. -/
def serviceParts : List Part := [.sys, .sil, .jst, .fwu, .mtr, .lgt, .lnd]

def serviceKeys : List Nat := keysOf [Reg.BST_STATUS.word, Reg.BST_BOOT_MS.word, Reg.MTR_STATUS.word, Reg.FWU_IRQ_STATUS.word] ++
  gotoKeys ++ budgetKeys ++ fwKeys

theorem stepService_confined (d : Dev) : Confined serviceParts serviceKeys JGet d d.stepService := by
  unfold stepService
  extract_lets ms alts d1 dest x d2 d3 d4 p raise d5 d6
  have h1 : Touches serviceParts serviceKeys d d1 := ((Touches.refl d).put _ _).put _ _
  have hx : Touches serviceParts serviceKeys d x := by
    simp only [x]
    split
    · exact .ite (fun _ => h1.andThen (setRole_touches _ _)) fun _ => h1
    · exact h1
  have h2 : Confined serviceParts serviceKeys JGet d d2 := .ite (fun _ => h1.confined.andThen (showBudget_touches _)) fun _ =>
    (hx.confined.after (goto_confined x dest causeBoot)).andThen (serviceEntered_touches _)
  have h3 : Confined serviceParts serviceKeys JGet d d3 := .ite (fun _ => h2.andThen (fullSnapshot_touches _ _)) fun _ => h2
  have h4 : Confined serviceParts serviceKeys JGet d d4 := h3.offer _ _
  have h5 : Confined serviceParts serviceKeys JGet d d5 := .ite (fun _ => h4.andThen (commit_touches _ _)) fun _ => h4
  have h6 : Confined serviceParts serviceKeys JGet d d6 := .ite (fun _ => h5.offer _ _) fun _ => h5
  split
  · exact ((h6.step (((Touches.refl d6).setFwu _).raise _)).andThen (showFw_touches _)).offer _ _
  · exact h6.andThen (showFw_touches _)

/-! ### The running step (R449, R450, R454) -/

/-- The components that a boot step writes. -/
def bootStepParts : List Part := [.mem, .freeCtr, .sys, .beat, .sil, .key, .cut, .rft, .lin, .jst, .rtc, .rad, .trk, .pwr, .bst, .fwu, .mtr,
  .pair, .lgt, .lnd]

/-- The words that a boot step writes, those of the Cut List's hash, of the links and of the loads that wait apart. -/
def bootStepNamed : List Nat := keysOf [Reg.BEAT_CFG.word, Reg.BEAT_PASSES.word, Reg.BEAT_SLEW_LIMIT.word, Reg.BEAT_STATUS.word,
  Reg.BEAT_TIMING.word, Reg.BST_BOOT_MS.word, Reg.BST_EARLY.word, Reg.BST_IRQ_STATUS.word, Reg.BST_STATUS.word, Reg.BST_UNIT0.word,
  Reg.BST_UNIT1.word, Reg.BST_UNTESTED0.word, Reg.BST_UNTESTED1.word, Reg.CLK_STATUS.word, Reg.CLK_XTAL40.word, Reg.CUT_EDGES.word,
  Reg.CUT_FORMAT.word, Reg.CUT_GEN.word, Reg.CUT_ID_HI.word, Reg.CUT_ID_LO.word, Reg.CUT_NODES.word, Reg.CUT_PATCHES.word,
  Reg.CUT_STATUS.word, Reg.FWU_FLOOR.word, Reg.FWU_IRQ_STATUS.word, Reg.FWU_LIB_FREE.word, Reg.FWU_STAGE_FILL.word, Reg.FWU_STATUS.word,
  Reg.FWU_VER_OTHER.word, Reg.FWU_VER_RUN.word, Reg.JST_IRQ_STATUS.word, Reg.JST_STATUS.word, Reg.KEY_CNT.word, Reg.KEY_IRQ_STATUS.word,
  Reg.KEY_STATUS.word, Reg.LGT_STATUS.word, Reg.MTR_STATUS.word, Reg.PAIR_EPOCH.word, Reg.PAIR_IRQ_STATUS.word, Reg.PAIR_LAG.word,
  Reg.PAIR_LEASE.word, Reg.PAIR_STATUS.word, Reg.PWR_PF_CNT.word, Reg.PWR_STATUS.word, Reg.RFT_BUDGET.word, Reg.RFT_CAPACITY.word,
  Reg.RFT_COST.word, Reg.RFT_CS_CURSOR.word, Reg.RFT_CS_REFUSED.word, Reg.RFT_IRQ_STATUS.word, Reg.RFT_STATUS.word, Reg.SIL_EPOCH.word,
  Reg.SIL_STATUS.word, Reg.SYS_C0_SUSPEND.word, Reg.SYS_GPIO_OUT_HI.word, Reg.SYS_GPIO_OUT_LO.word, Reg.SYS_PIN_STATUS.word,
  Reg.SYS_STATUS.word, Reg.TIME_STATUS.word]

def bootStepKeys : List Nat := bootStepNamed ++ (hashKeys ++ (netKeys ++ linkKeys))

theorem bootStep_confined (d : Dev) (quick : List (Nat × Nat)) : Confined bootStepParts bootStepKeys JGet d (d.bootStep quick) := by
  have hdone {x : Dev} (h : Confined bootStepParts bootStepKeys JGet d x) (n path : Nat) :
      Confined bootStepParts bootStepKeys JGet d (x.stepDone n path) := h.andThen (x.stepDone_touches n path)
  have hfail (n cause : Nat) : Confined bootStepParts bootStepKeys JGet d (d.stepFailed n cause) :=
    (d.stepFailed_confined n cause).mono fun _ => .inr
  have hsafe {x : Dev} (h : Confined bootStepParts bootStepKeys JGet d x) (n : Nat) :
      Confined bootStepParts bootStepKeys JGet d (x.bootFailsafe n) := h.after (x.bootFailsafe_isFailsafe n).confined
  unfold bootStep
  extract_lets n path x y b z
  have hx : Confined bootStepParts bootStepKeys JGet d x := (d.stepMount_touches _).confined
  have hy : Confined bootStepParts bootStepKeys JGet d y := (d.storeQuick_touches _ _).confined.andThen (unitMap_touches _ _ _)
  have hz : Confined bootStepParts bootStepKeys JGet d z := d.releaseCores_touches.confined
  have hrole (r : Role) (c : Nat) : Confined bootStepParts bootStepKeys JGet d (d.takeRole r c) := (d.takeRole_touches r c).confined
  clear_value n x y z
  refine .ite (fun _ => .refl d) fun _ => ?_
  -- The steps 1 to 10 in their order, then every other number.
  split
  · exact .ite (fun _ => hdone d.stepPower_touches.confined _ _) fun _ => .refl d
  · split
    · exact hsafe (hx.andThen (noteStep_touches _ _ _ _ _ _)) _
    · exact hdone hx _ _
  · exact .ite (fun _ => hsafe ((Confined.refl d).offer _ _) _) fun _ => hdone (d.loadKeys_touches _).confined _ _
  · exact .ite (fun _ => hfail _ _) fun _ => hdone (hy.andThen (noteUnits_touches _ _)) _ _
  · exact hdone (((Confined.refl d).andThen ((Touches.refl (ps := [.bst]) (ks := []) d).setBst _)).andThen (noteData_touches _ _ _ _)) _ _
  · exact .ite (fun _ => .refl d) fun _ => hdone (hz.andThen (stepFirmware_touches _ _)) _ _
  · split
    · exact hfail _ _
    · exact hdone ((d.stepCut_confined _).mono fun _ => .inr) _ _
  · exact hdone (d.noteData_touches _ _ _).confined _ _
  · exact .ite (fun _ => hdone (d.setRole_touches _).confined _ _) fun _ => .ite (fun _ => hdone ((hrole _ _).offer _ _) _ _) fun _ =>
      .ite (fun _ => hdone (.refl d) _ _) fun _ => .refl d
  · exact (hdone (.refl d) _ _).after (stepService_confined _)
  · exact .refl d

end Dev

/-! ### The frames -/

/-- The words of a boot step are those named, the hash, the loads that wait and the media's. -/
theorem bootStepDone_frame (t : Nat) (quick : List (Nat × Nat)) : Frame (.bootStepDone t quick) Dev.bootStepParts (fun k =>
    k ∈ Dev.bootStepNamed ∨ (∃ i < 8, k = (Reg.CUT_HASH.word i).key) ∨ (∃ b, k = (Reg.JST_GET.word b).key) ∨
    (∃ r < 4, k = (Reg.RAD_PLAN.word r).key) ∨ (∃ w < 8, k = (Reg.TRK_CYCLE.word w).key) ∨
    (∃ w < 16, k = (Reg.TRK_NET.word w).key) ∨ (∃ w < 8, k = (Reg.TRK_PLCA.word w).key)) := by
  refine frame_of_confined_to (execBootStepDone t quick) (fun _ => rfl) (fun _ => rfl) fun d =>
    (d.bootStep_confined quick).toPred (fun k hk => ?_) fun k hj => .inr (.inr (.inl hj))
  rcases List.mem_append.1 hk with h | h
  · exact .inl h
  rcases List.mem_append.1 h with h | h
  · exact .inr (.inl (hashReg_of_hashKeys h))
  rcases List.mem_append.1 h with h | h
  · obtain ⟨p, hp, rfl⟩ := List.mem_map.1 h
    exact .inr (.inr (.inr (.inr (.inr (.inl ⟨trkWindow p, (by decide : ∀ p ∈ [8, 9], trkWindow p < 16) p hp, rfl⟩)))))
  · rcases linkReg_of_linkKeys h with h | h | h
    · exact .inr (.inr (.inr (.inl h)))
    · exact .inr (.inr (.inr (.inr (.inl h))))
    · exact .inr (.inr (.inr (.inr (.inr (.inr h)))))

/-- Settles O49: the copy of a load touches what a Cut List put in force does, and a boot step what the work of each step does. -/
theorem loadFrames : Obligations.LoadFrames := by
  unfold Obligations.LoadFrames
  exact ⟨fun t => cutCopyDone_frame t (by decide), bootStepDone_frame⟩

end Sys2Proof.Machine
end

section
/-! PROOFS. The ramp limiter of the level pipeline (R139, R141). -/

-- One proof at a time: a side condition left to `decide` waits for every declaration before it, each in a thread of its own.
set_option Elab.async false

namespace Sys2Proof.Machine

/-! ### One step of the limiter (R141) -/

/-- Toward a target above, the limiter rises, at most to the target and by at most `up`. -/
theorem ramp_of_le {l t6 up down : Nat} (h : l ≤ t6) :
    l ≤ ramp l t6 up down ∧ ramp l t6 up down ≤ t6 ∧ (up ≠ 0 → ramp l t6 up down ≤ l + up) := by
  unfold ramp
  split
  · split
    · omega
    · omega
  · rw [if_neg (Nat.not_lt.2 h)]
    omega

/-- Toward a target below, the limiter falls, at most to the target and by at most `down`. -/
theorem ramp_of_ge {l t6 up down : Nat} (h : t6 ≤ l) :
    t6 ≤ ramp l t6 up down ∧ ramp l t6 up down ≤ l ∧ (down ≠ 0 → l ≤ ramp l t6 up down + down) := by
  unfold ramp
  rw [if_neg (Nat.not_lt.2 h)]
  split
  · split
    · omega
    · omega
  · omega

/-! ### The level pipeline of a node that no frame holds (R139-R142) -/

namespace Dev

@[simp] theorem curPage_setCurPage (d : Dev) (n : Node) (p : Page) : d.curPage (d.setCurPage n p) = p := by
  unfold curPage setCurPage
  split <;> rfl

@[simp] theorem setCurPage_stat (d : Dev) (n : Node) (p : Page) : (d.setCurPage n p).stat = n.stat := by
  unfold setCurPage
  split <;> rfl

section

variable {d : Dev} {n : Node} (hd : n.stat.drives = true) (h0 : d.class0Level n.stat = none)
include hd h0

/-- The Q6 level takes one step of the limiter toward the target, class 1 included. -/
theorem pipeline_level : (d.curPage (d.pipeline n)).l =
    ramp (d.curPage n).l (d.target n (d.class1Level n) * 64) n.stat.rampUp n.stat.rampDown := by
  unfold pipeline
  rw [if_neg (by simp [hd]), h0]
  exact congrArg Page.l (curPage_setCurPage _ _ _)

theorem pipeline_stat : (d.pipeline n).stat = n.stat := by
  unfold pipeline
  rw [if_neg (by simp [hd]), h0]
  exact setCurPage_stat _ _ _

end

end Dev

/-- Settles O10: the pipeline takes one step of the limiter, and that step stays between the level and the target. -/
theorem rampLimited : Obligations.RampLimited := by
  unfold Obligations.RampLimited
  intro d n hd h0
  dsimp only
  rw [Dev.pipeline_level hd h0]
  exact ⟨ramp_of_le, ramp_of_ge, Dev.pipeline_stat hd h0⟩

end Sys2Proof.Machine
end

section
/-! PROOFS. Overrides, class-0 requests, the emergency inputs and the refresh of an active frame (R125, R130, R135, R136, R243, R525). -/

-- One proof at a time: a side condition left to `decide` waits for every declaration before it, each in a thread of its own.
set_option Elab.async false

namespace Sys2Proof.Machine
namespace Dev

/-! ### What an answer leaves of the engine and of the Lintel (R66, R68) -/

section

variable (d x : Dev) (e : Envelope) (code status : Nat) (result : Bytes)

theorem answering_rft : (d.answering x e code status result).rft = x.rft := (d.answering_confined x e code status result).parts .rft (by decide)

theorem answering_lin : (d.answering x e code status result).lin = x.lin := (d.answering_confined x e code status result).parts .lin (by decide)

end

/-! ### The command path takes an entry (R125) -/

theorem cmdEntry_of_open {d : Dev} (c : CmdEntry) (h : d.cmdPathOpen = true) : (d.cmdEntry c).rft.cmdBuf = d.rft.cmdBuf ++ [c] := by
  rw [cmdEntry, if_pos h]

@[simp] theorem cmdEntry_lin (d : Dev) (c : CmdEntry) : (d.cmdEntry c).lin = d.lin := (d.cmdEntry_touches c).parts .lin (by decide)

/-- The entry that an OVERRIDE_C1 asks for, effective at the next beat (R130). -/
def c1Entry (d : Dev) (p : Bytes) : CmdEntry :=
  if (c1Args p).action = 1 then .c1Set (c1Args p).scope (c1Args p).id (c1Args p).level (d.beat.count + 1) (c1Args p).duration
  else .c1Clear (c1Args p).scope (c1Args p).id

theorem overrideC1_of_room {d : Dev} (p : Bytes) (h : d.cmdPathFull = false) :
    d.overrideC1 p = ⟨d.cmdEntry (d.c1Entry p), ST_OK, toLE 8 (d.beat.count + 1), true⟩ := by
  unfold overrideC1
  exact if_neg (Bool.eq_false_iff.1 h)

/-! ### A class-0 request waits for the boundary (R135) -/

/-- The machine in which one more class-0 request waits. -/
def withRequest (d : Dev) (r : C0Req) : Dev := { d with lin := { d.lin with waiting := d.lin.waiting ++ [r] } }

/-- A change that is not yet wanted, and that no active EMG channel holds against a release, waits and takes its place. -/
theorem class0_of_change {d : Dev} {index : Nat} {activate : Bool} (hw : d.c0Wanted index = !activate)
    (he : activate = false → d.emgActive = false) (hr : (d.cmdPathOpen && d.cmdPathFull) = false) :
    d.class0 index activate = ⟨(d.withRequest (if activate then .activate index else .release index)).cmdEntry (.class0 index activate),
      ST_OK, toLE 8 (d.beat.count + 1), true⟩ := by
  have hemg : (!activate && d.emgActive) = false := by
    cases activate
    · exact he rfl
    · rfl
  unfold class0
  dsimp only
  rw [if_neg (by simp [hw]), hemg, if_neg (by simp), if_neg (Bool.eq_false_iff.1 hr)]
  rfl

/-! ### The emergency inputs (R136, R525) -/

/-- The level that the Lintel holds of a channel. -/
def emgLevel (d : Dev) (b : Bool) : Bool := if b then d.lin.emgB else d.lin.emgA

/-- `d'` is the machine `d` in which the channel `b` has the level `active`; no request is added. -/
structure EmgShown (d d' : Dev) (b active : Bool) : Prop where
  level : d'.emgLevel b = active
  waiting : d'.lin.waiting = d.lin.waiting
  safety : d'.lin.safety = d.lin.safety
  mstate : d'.sys.mstate = d.sys.mstate

/-- An edge to active of a channel that was not, with a SAFETY section in force, asks for the frames; any other asks for nothing. -/
theorem emgEdge_cases (d : Dev) (b active : Bool) : ∃ d', d.EmgShown d' b active ∧ d.emgEdge b active =
    if active = true ∧ d.emgLevel b = false ∧ d.sys.mstate ≠ .off ∧ d.lin.safety.isSome = true
    then (d'.withRequest .emg).cmdEntry .emg else d' := by
  unfold emgEdge
  extract_lets was x d1 d2 y d3 z
  have h1 : d.EmgShown d1 b active := ⟨by cases b <;> rfl, rfl, rfl, rfl⟩
  have hl : d2.lin = d1.lin := by simp [d2]
  have h2 : d.EmgShown d2 b active :=
    ⟨by rw [emgLevel, hl]; exact h1.level, by rw [hl], by rw [hl], by simp [d2, h1.mstate]⟩
  have h3 : d.EmgShown d3 b active := by
    simp only [d3]
    split
    · exact ⟨h2.level, h2.waiting, h2.safety, h2.mstate⟩
    · exact h2
  refine ⟨d3, h3, ?_⟩
  rw [← h3.mstate, ← h3.safety]
  change (if _ then d3 else if _ then d3 else (d3.withRequest .emg).cmdEntry .emg) = if active = true ∧ was = false ∧ _ then _ else _
  clear_value d3
  cases active
  · simp
  · by_cases hw : was = false
    · by_cases hm : d3.sys.mstate = .off
      · simp [hm]
      · cases hs : d3.lin.safety <;> simp [hw, hm]
    · simp [hw]

/-! ### The refresh of an active frame (R243) -/

theorem loadFrame_active (d : Dev) (f : SafetyFrame) (media : List Nat) (fresh : Bool) :
    (d.loadFrame f media fresh).lin.active = d.lin.active := by
  have h (x : Dev) : (media.foldl (fun y md => y.loadC0 f md d.nextC0Seq.1 fresh) x).lin = x.lin :=
    ((Touches.refl (ps := [.key, .rad, .trk]) (ks := keyKeys) x).foldl media fun y _ _ => y.loadC0_touches _ _ _ _).parts .lin (by decide)
  exact (show (d.loadFrame f media fresh).lin = _ from h _) ▸ rfl

/-- A radio at which the refresh of a frame falls due (R243). -/
def refreshDueOn (d : Dev) (a : ActiveFrame) (r : Nat) : Bool :=
  match (d.radAt r).plan with
  | some p => p.c0Refresh != 0 && bit a.frame.media r && a.loadBeat < d.beat.count && (d.beat.count - a.latchBeat) % p.c0Refresh == 0
  | none => false

/-- The active frame is loaded at the beat in progress (R243). -/
def refreshed (index beat : Nat) (l : List ActiveFrame) : List ActiveFrame :=
  l.map fun x => if x.frame.index = index then { x with loadBeat := beat } else x

theorem exists_refreshed {index beat : Nat} {l : List ActiveFrame} {a : ActiveFrame} (h : l.find? (fun a => a.frame.index == index) = some a) :
    ∃ x ∈ refreshed index beat l, x.frame.index = index ∧ x.loadBeat = beat := by
  have hi : a.frame.index = index := by simpa using List.find?_some h
  exact ⟨{ a with loadBeat := beat }, List.mem_map.2 ⟨a, List.mem_of_find?_eq_some h, if_pos hi⟩, hi, rfl⟩

end Dev

/-! ### The commands -/

section

variable {t : Nat} {e : Envelope} {s : State} {d' : Dev}

/-- OVERRIDE_C1 is one command under the two names of the table (R130). -/
theorem overrideC1_completes {c : Instr} {o : State → Host.Outcome State Fault Refusal} (hc : ∀ s, exec c s = o s)
    (ho : ∀ s, o s = s.runAt t fun d => d.command specOverrideC1 e) (h : (s.dev.atTime t).Accepts d' specOverrideC1 e)
    (hf : d'.cmdPathFull = false) (hp : d'.cmdPathOpen = true) :
    Completes c s fun d => d.rft.cmdBuf = d'.rft.cmdBuf ++ [d'.c1Entry e.body] ∧
      d.answered e cmdOverrideC1 ST_OK (toLE 8 (d'.beat.count + 1)) := by
  have he : specOverrideC1.effect d' e = ⟨d'.cmdEntry (d'.c1Entry e.body), ST_OK, toLE 8 (d'.beat.count + 1), true⟩ :=
    Dev.overrideC1_of_room e.body hf
  refine completes_of_accepts o hc ho h (by rw [he]) ?_
  rw [he]
  exact ⟨by rw [Dev.answering_rft, Dev.cmdEntry_of_open _ hp], Dev.answering_answered _ _ _ _ _ _⟩

/-- CLASS0 that finds room leaves its request for the next boundary (R135). -/
theorem class0_completes {c : Instr} {r : C0Req} {k : CmdEntry} {o : State → Host.Outcome State Fault Refusal} (hc : ∀ s, exec c s = o s)
    (ho : ∀ s, o s = s.runAt t fun d => d.command specClass0 e) (h : (s.dev.atTime t).Accepts d' specClass0 e)
    (he : specClass0.effect d' e = ⟨(d'.withRequest r).cmdEntry k, ST_OK, toLE 8 (d'.beat.count + 1), true⟩) :
    Completes c s fun d => d.lin.waiting = d'.lin.waiting ++ [r] ∧ d.answered e cmdClass0 ST_OK (toLE 8 (d'.beat.count + 1)) := by
  refine completes_of_accepts o hc ho h (by rw [he]) ?_
  rw [he]
  exact ⟨by rw [Dev.answering_lin, Dev.cmdEntry_lin]; rfl, Dev.answering_answered _ _ _ _ _ _⟩

end

theorem emgEdge_asks (t : Nat) (b : Bool) (s : State) (hm : s.dev.sys.mstate ≠ .off) (hs : s.dev.lin.safety.isSome = true)
    (hl : s.dev.emgLevel b = false) :
    Completes (.emgEdge t b true) s fun d => d.emgLevel b = true ∧ d.lin.waiting = s.dev.lin.waiting ++ [C0Req.emg] := by
  obtain ⟨x, hx, he⟩ := (s.dev.atTime t).emgEdge_cases b true
  rw [if_pos ⟨rfl, hl, hm, hs⟩] at he
  refine completes_of_exec (execEmgEdge t b true s) rfl rfl ?_
  rw [he]
  refine ⟨?_, ?_⟩
  · rw [Dev.emgLevel, Dev.settleOffers_lin, Dev.cmdEntry_lin]
    exact hx.level
  · rw [Dev.settleOffers_lin, Dev.cmdEntry_lin]
    exact congrArg (· ++ [C0Req.emg]) hx.waiting

theorem emgEdge_ends (t : Nat) (b : Bool) (s : State) :
    Completes (.emgEdge t b false) s fun d => d.emgLevel b = false ∧ d.lin.waiting = s.dev.lin.waiting := by
  obtain ⟨x, hx, he⟩ := (s.dev.atTime t).emgEdge_cases b false
  rw [if_neg (by simp)] at he
  refine completes_of_exec (execEmgEdge t b false s) rfl rfl ?_
  rw [he]
  exact ⟨by rw [Dev.emgLevel, Dev.settleOffers_lin]; exact hx.level, by rw [Dev.settleOffers_lin]; exact hx.waiting⟩

theorem emgDisagree_completes (t ms : Nat) (s : State) (h : 100 < ms) (hd : s.dev.lin.emgA ≠ s.dev.lin.emgB)
    (hs : s.dev.lin.disagree = false) (hm : s.dev.sys.mstate ≠ .off) :
    Completes (.emgDisagree t ms) s fun d => d.lin.disagree = true ∧ d.get Reg.SYS_PIN_STATUS.emg_disagree = 1 := by
  refine completes_of_exec (execEmgDisagree t ms s) rfl rfl ?_
  rw [if_neg (by simp [hd, hs, hm, h])]
  refine ⟨by simp, ?_⟩
  rw [Dev.settleOffers_get _ _ (by decide), Dev.get_offer, Dev.get_raise _ _ rfl (by decide)]

theorem c0Refresh_completes (t index : Nat) (s : State) (a : ActiveFrame) (hl : s.dev.lintelActs = true)
    (ha : s.dev.lin.active.find? (fun a => a.frame.index == index) = some a)
    (hr : (List.range 4).any ((s.dev.atTime t).refreshDueOn a) = true) :
    Completes (.c0Refresh t index) s fun d => ∃ x ∈ d.lin.active, x.frame.index = index ∧ x.loadBeat = s.dev.beat.count := by
  obtain ⟨r, hm, hr⟩ := List.any_eq_true.1 hr
  have hdue : (((List.range 4).filter ((s.dev.atTime t).refreshDueOn a)).isEmpty || !(s.dev.atTime t).lintelActs) = false :=
    Bool.or_eq_false_iff.2 ⟨List.isEmpty_eq_false_iff_exists_mem.2 ⟨r, List.mem_filter.2 ⟨hm, hr⟩⟩, congrArg (!·) hl⟩
  refine completes_of_exec (execC0Refresh t index s) rfl rfl ?_
  rw [show (s.dev.atTime t).lin.active.find? (fun a => a.frame.index == index) = some a from ha]
  dsimp only
  split
  next hn => exact absurd (hdue.symm.trans hn) Bool.false_ne_true
  next =>
    rw [Dev.settleOffers_lin]
    dsimp only
    rw [Dev.loadFrame_active]
    exact Dev.exists_refreshed ha

/-- Settles O20, a lemma for each of its commands. -/
theorem lightCommandsComplete : Obligations.LightCommandsComplete := by
  unfold Obligations.LightCommandsComplete
  refine ⟨fun t e s d' h hf hp => ⟨overrideC1_completes (fun _ => rfl) (fun _ => rfl) h hf hp,
      overrideC1_completes (fun _ => rfl) (fun _ => rfl) h hf hp⟩,
    fun t e s d' h hb hw hr => ?_, fun t e s d' h hb hw he hr => ?_, emgEdge_asks, emgEdge_ends, emgDisagree_completes, c0Refresh_completes⟩
  · refine class0_completes (fun _ => rfl) (fun _ => rfl) h (k := .class0 (byteAt e.body 1) true) ?_
    simp only [specClass0, hb]
    exact Dev.class0_of_change hw (fun h => nomatch h) hr
  · refine class0_completes (fun _ => rfl) (fun _ => rfl) h (k := .class0 (byteAt e.body 1) false) ?_
    simp only [specClass0, hb]
    exact Dev.class0_of_change hw (fun _ => he) hr

end Sys2Proof.Machine
end

section
/-! PROOFS. The rafter engine's commands: the ingest port, what is latched for reading, overrides that expire, refreshes and single
results of the sweep (R123, R124, R132, R143, R151, R176). -/

-- One proof at a time: a side condition left to `decide` waits for every declaration before it, each in a thread of its own.
set_option Elab.async false

namespace Sys2Proof.Machine

theorem modifyAt_of_ne {α : Type} {l : List α} {i k : Nat} (f : α → α) (h : k ≠ i) : (modifyAt l i f)[k]? = l[k]? := by
  simp [modifyAt, h]

namespace Dev

/-! ### The ingest port (R123, R124) -/

theorem ingestStage_setIngest_some (d : Dev) {b : Nat} {x : IngestStage} (h : x.bank = b) : (d.setIngest b (some x)).ingestStage b = some x := by
  have hn : (d.rft.staging.filter (fun y => y.bank != b)).find? (fun y => y.bank == b) = none := List.find?_eq_none.2 (by simp)
  simp only [ingestStage, setIngest, List.find?_append, hn]
  simp [h]

theorem ingestStage_setIngest_none (d : Dev) (b : Nat) : (d.setIngest b none).ingestStage b = none := by
  simp [ingestStage, setIngest]

theorem ingestStage_of_rft {d d' : Dev} (h : d'.rft.staging = d.rft.staging) (b : Nat) : d'.ingestStage b = d.ingestStage b := by
  rw [ingestStage, ingestStage, h]

theorem bank_of_ingestStage {d : Dev} {b : Nat} {x : IngestStage} (h : d.ingestStage b = some x) : x.bank = b := by
  simpa using List.find?_some h

/-- The entry that four words write (R122). -/
def portEntry (w0 w1 w2 w3 : W32) : PortEntry :=
  ⟨bits w0.toNat 16 0, bits w1.toNat 7 0, bits w1.toNat 31 16, w2.toNat, bits w3.toNat 15 0⟩

/-- The words are those of an entry that a node takes (R122, R123). -/
structure ValidEntry (d : Dev) (w0 w1 w3 : W32) : Prop where
  zero0 : bits w0.toNat 31 17 = 0
  zero1 : bits w1.toNat 15 8 = 0
  zero3 : bits w3.toNat 31 16 = 0
  value : bits w1.toNat 31 16 ≤ 1023
  valued : bits w1.toNat 7 0 = 3 ∨ bits w1.toNat 31 16 = 0
  taken : ∃ n, d.nodeAt (bits w0.toNat 16 0) = some n ∧ n.stat.takes (bits w1.toNat 7 0) = true

/-- The machine in which the port buffer holds one more entry. -/
def withPort (d : Dev) (e : PortEntry) : Dev := { d with rft := { d.rft with port := d.rft.port ++ [e] } }

/-- The port's count and fill, and the master's status, show an entry that has joined (R176). -/
def showJoined (d : Dev) (b : Nat) : Dev := ((d.put (Reg.RFT_INGEST_STATUS.status b) ST_OK).bump Reg.RFT_INGEST_CNT.word).showFill

/-- A valid entry that finds room joins the port buffer (R123, R124). -/
theorem ingestCommit_of_valid {d : Dev} (b : Nat) {w0 w1 w2 w3 : W32} (hs : d.sys.mstate = .service) (hr : d.sys.role = .solo)
    (hv : d.ValidEntry w0 w1 w3) (hroom : d.rft.port.length < d.portLimit) :
    d.ingestCommit b [w0, w1, w2, w3] = (d.withPort (portEntry w0 w1 w2 w3)).showJoined b := by
  obtain ⟨h0, h1, h3, hle, hz, n, hn, ht⟩ := hv
  unfold ingestCommit
  extract_lets g eid kind value st ok e x
  have hok : ok = true := by simp [ok, value, kind, eid, g, h0, h1, h3, hle, hz, hn, ht]
  rw [if_neg (by simp [servesAsActive, hs, hr]), if_neg (by simp [hok]), if_neg (Nat.not_le.2 hroom)]
  rfl

theorem showJoined_rft (d : Dev) (b : Nat) : (d.showJoined b).settleOffers.rft = d.rft := by simp [showJoined, showFill]

/-- The count and the fill leave the master's status. -/
theorem showJoined_status (d : Dev) (b : Nat) : (d.showJoined b).settleOffers.get (Reg.RFT_INGEST_STATUS.status b) = ST_OK := by
  have hb : 0x1000000 ≤ (Reg.RFT_INGEST_STATUS.status b).key := by
    simp only [Reg.RFT_INGEST_STATUS.status]
    omega
  have ht : Touches [] ingestKeys (d.put (Reg.RFT_INGEST_STATUS.status b) ST_OK) (d.showJoined b) :=
    ((Touches.refl _).bump _).andThen (showFill_touches _)
  have hk : (Reg.RFT_INGEST_STATUS.status b).key ∉ ingestKeys := fun m =>
    absurd hb (Nat.not_le.2 ((by decide : ∀ k ∈ ingestKeys, k < 0x1000000) _ m))
  rw [settleOffers_get_banked _ _ hb, ht.get _ hk (not_mem_eventKeys_of_banked hb)]
  exact get_put _ _ _ (Nat.zero_le 7) (show 7 < 32 by decide)

/-! ### One node of the engine -/

theorem nodeAt_setNode {d : Dev} {eid : Nat} {n : Node} (f : Node → Node) (h : d.nodeAt eid = some n) :
    (d.setNode eid f).nodeAt eid = some (f n) := modifyAt_self f h

theorem nodeAt_setNode_of_ne (d : Dev) {eid k : Nat} (f : Node → Node) (h : k ≠ eid) : (d.setNode eid f).nodeAt k = d.nodeAt k :=
  modifyAt_of_ne f h

theorem length_setNode (d : Dev) (eid : Nat) (f : Node → Node) : (d.setNode eid f).rft.nodes.length = d.rft.nodes.length :=
  List.length_mapIdx

theorem settleOffers_nodeAt (d : Dev) (k : Nat) : d.settleOffers.nodeAt k = d.nodeAt k := by
  rw [nodeAt, settleOffers_rft]
  rfl

/-- A single result of the sweep is its node's alone (R151). -/
theorem reevaluate_others (d : Dev) (eid : Nat) : (reevaluate d eid).rft.nodes.length = d.rft.nodes.length ∧
    ∀ k, k ≠ eid → (reevaluate d eid).nodeAt k = d.nodeAt k := by
  unfold reevaluate
  split
  · exact ⟨rfl, fun _ _ => rfl⟩
  · exact ⟨d.length_setNode _ _, fun k hk => d.nodeAt_setNode_of_ne _ hk⟩

end Dev

/-! ### The ingest port's commands (R123) -/

theorem rftIngestW0_completes (t : Nat) (m : Master) (v : W32) (s : State) : Completes (.rftIngestW0 t m v) s fun d =>
    d.ingestStage (bankOf m) = some ⟨bankOf m, [v, 0, 0]⟩ ∧ d.rft.port = s.dev.rft.port := by
  refine completes_of_exec (execRftIngestW0 t m v s) rfl rfl ⟨?_, ?_⟩
  · rw [Dev.ingestStage_of_rft (congrArg _ (Dev.settleOffers_rft _))]
    exact Dev.ingestStage_setIngest_some _ rfl
  · rw [Dev.settleOffers_rft]
    rfl

theorem rftIngestWord_completes (t : Nat) (m : Master) (i : Fin 2) (v : W32) (s : State) (x : IngestStage)
    (hx : s.dev.ingestStage (bankOf m) = some x) : Completes (.rftIngestWord t m i v) s fun d =>
      d.ingestStage (bankOf m) = some { x with words := modifyAt x.words (i.val + 1) (fun _ => v) } := by
  refine completes_of_exec (execRftIngestWord t m i v s) rfl rfl ?_
  rw [show (s.dev.atTime t).ingestStage (bankOf m) = some x from hx, Dev.ingestStage_of_rft (congrArg _ (Dev.settleOffers_rft _))]
  exact Dev.ingestStage_setIngest_some _ (show x.bank = _ from Dev.bank_of_ingestStage hx)

theorem rftIngestCommit_completes (t : Nat) (m : Master) (w0 w1 w2 v : W32) (s : State)
    (hx : s.dev.ingestStage (bankOf m) = some ⟨bankOf m, [w0, w1, w2]⟩) (hs : s.dev.sys.mstate = .service)
    (hr : s.dev.sys.role = .solo) (hv : s.dev.ValidEntry w0 w1 v) (hroom : s.dev.rft.port.length < s.dev.portLimit) :
    Completes (.rftIngestCommit t m v) s fun d => d.rft.port = s.dev.rft.port ++ [Dev.portEntry w0 w1 w2 v] ∧
      d.get (Reg.RFT_INGEST_STATUS.status (bankOf m)) = ST_OK ∧ d.ingestStage (bankOf m) = none := by
  let x := (s.dev.atTime t).setIngest (bankOf m) none
  have hv' : x.ValidEntry w0 w1 v := ⟨hv.zero0, hv.zero1, hv.zero3, hv.value, hv.valued, hv.taken⟩
  refine completes_of_exec (execRftIngestCommit t m v s) rfl rfl ?_
  rw [show (s.dev.atTime t).ingestStage (bankOf m) = some ⟨bankOf m, [w0, w1, w2]⟩ from hx]
  dsimp only [List.cons_append, List.nil_append]
  rw [Dev.ingestCommit_of_valid (d := x) _ hs hr hv' hroom]
  refine ⟨by rw [Dev.showJoined_rft]; rfl, Dev.showJoined_status _ _, ?_⟩
  exact (Dev.ingestStage_of_rft (by rw [Dev.showJoined_rft]; rfl) _).trans ((s.dev.atTime t).ingestStage_setIngest_none _)

/-! ### What is latched for reading (R176) -/

namespace Dev

/-- The words that show a selected batten entry. -/
def showBatten (d : Dev) (eid beat us valid : Nat) : Dev :=
  (((d.put Reg.RFT_BATTEN_SEL.eid eid).put Reg.RFT_BATTEN_BEAT.word beat).put Reg.RFT_BATTEN_US.rx_us us).put Reg.RFT_BATTEN_US.valid valid

/-- What a command that shows an entry leaves. -/
theorem showBatten_settled (d : Dev) (eid beat us valid : Nat) :
    (d.showBatten eid beat us valid).settleOffers.rft = d.rft ∧
    (d.showBatten eid beat us valid).settleOffers.get Reg.RFT_BATTEN_SEL.eid = eid % 2 ^ 17 ∧
    (d.showBatten eid beat us valid).settleOffers.get Reg.RFT_BATTEN_US.valid = valid % 2 ∧
    (d.showBatten eid beat us valid).settleOffers.get Reg.RFT_BATTEN_BEAT.word = beat % 2 ^ 32 := by
  refine ⟨by simp [showBatten], ?_, ?_, ?_⟩
  · rw [settleOffers_get _ _ (by decide), showBatten]
    simp (disch := decide) only [get_put_of_ne, get_put]
    rfl
  · rw [settleOffers_get _ _ (by decide), showBatten, get_put _ _ _ (by decide) (by decide)]
    rfl
  · rw [settleOffers_get _ _ (by decide), showBatten]
    simp (disch := decide) only [get_put_of_ne, get_put]
    rfl

end Dev

theorem rftBattenSel_completes (t : Nat) (m : Master) (v : W32) (s : State) : Completes (.rftBattenSel t m v) s fun d =>
    d.rft = s.dev.rft ∧ d.get Reg.RFT_BATTEN_SEL.eid = bits v.toNat 16 0 ∧
    match s.dev.battenOf (bits v.toNat 16 0) with
    | some b => d.get Reg.RFT_BATTEN_US.valid = 1 ∧ d.get Reg.RFT_BATTEN_BEAT.word = b.beat % 2 ^ 32
    | none => d.get Reg.RFT_BATTEN_US.valid = 0 ∧ d.get Reg.RFT_BATTEN_BEAT.word = 0 := by
  have he : bits v.toNat 16 0 % 2 ^ 17 = bits v.toNat 16 0 := Nat.mod_eq_of_lt (bits_lt _ _ _)
  refine completes_of_exec (execRftBattenSel t m v s) rfl rfl ?_
  dsimp only
  rw [show (s.dev.atTime t).battenOf (bits v.toNat 16 0) = s.dev.battenOf (bits v.toNat 16 0) from rfl]
  cases s.dev.battenOf (bits v.toNat 16 0) with
  | none =>
    obtain ⟨hr, h1, h2, h3⟩ := (s.dev.atTime t).showBatten_settled (bits v.toNat 16 0) 0 0 0
    exact ⟨hr, h1.trans he, h2, h3⟩
  | some b =>
    obtain ⟨hr, h1, h2, h3⟩ := (s.dev.atTime t).showBatten_settled (bits v.toNat 16 0) b.beat b.us 1
    exact ⟨hr, h1.trans he, h2, h3⟩

theorem rftSpeedSel_completes (t : Nat) (m : Master) (v : W32) (s : State) : Completes (.rftSpeedSel t m v) s fun d =>
    d.rft = s.dev.rft ∧ d.get Reg.RFT_SPEED_SEL.zone = bits v.toNat 13 3 ∧ d.get Reg.RFT_SPEED_SEL.heading = bits v.toNat 2 0 := by
  refine completes_of_exec (execRftSpeedSel t m v s) rfl rfl ⟨by simp, ?_, ?_⟩
  · rw [Dev.settleOffers_get _ _ (by decide)]
    simp (disch := decide) only [Dev.get_put_of_ne, Dev.get_put]
    exact Nat.mod_eq_of_lt (bits_lt _ _ _)
  · rw [Dev.settleOffers_get _ _ (by decide)]
    simp (disch := decide) only [Dev.get_put_of_ne, Dev.get_put]
    exact Nat.mod_eq_of_lt (bits_lt _ _ _)

/-! ### Overrides that expire (R132) -/

/-- The node without an override of its own. -/
def Node.withoutC1 (n : Node) : Node := { n with run := { n.run with c1Eid := false, c1Noexp := false, c1Level := 0, c1Expiry := 0 } }

namespace Dev

theorem nodeAt_c1Remove {d : Dev} {id : Nat} {n : Node} (h : d.nodeAt id = some n) : (d.c1Remove 0 id).nodeAt id = some n.withoutC1 := by
  rw [c1Remove, if_pos rfl]
  exact nodeAt_setNode _ h

/-- An override of this scope and id has expired at the beat in progress (R132). -/
def c1Due (d : Dev) (scope id : Nat) : Bool :=
  if scope = 0 then (match d.nodeAt id with | some n => n.run.c1Eid && expired n.run.c1Noexp n.run.c1Expiry d.beat.count | none => false)
  else
    let o := if scope = 1 then (d.rft.ovGroup.find? (fun o => o.1 == id)).map (·.2)
      else if scope = 2 then (d.rft.ovZone.find? (fun o => o.1 == id)).map (·.2) else d.rft.ovSite
    match o with | some o => expired o.noexp o.expiry d.beat.count | none => false

variable {d : Dev} {id : Nat}

theorem c1Due_node {n : Node} (h : d.nodeAt id = some n) (hc : n.run.c1Eid = true)
    (he : expired n.run.c1Noexp n.run.c1Expiry d.beat.count = true) : d.c1Due 0 id = true := by
  simp [c1Due, h, hc, he]

theorem c1Due_group {o : Nat × Override} (h : d.rft.ovGroup.find? (fun o => o.1 == id) = some o)
    (he : expired o.2.noexp o.2.expiry d.beat.count = true) : d.c1Due 1 id = true := by
  simp [c1Due, h, he]

theorem c1Due_zone {o : Nat × Override} (h : d.rft.ovZone.find? (fun o => o.1 == id) = some o)
    (he : expired o.2.noexp o.2.expiry d.beat.count = true) : d.c1Due 2 id = true := by
  simp [c1Due, h, he]

theorem c1Due_site {o : Override} (h : d.rft.ovSite = some o) (he : expired o.noexp o.expiry d.beat.count = true) : d.c1Due 3 id = true := by
  simp [c1Due, h, he]

end Dev

theorem execC1Expired_eq (t scope id : Nat) (s : State) : execC1Expired t scope id s = s.runAt t fun d =>
    if d.c1Due scope id && d.servesAsActive && d.rft.sweeping then (d.c1Remove scope id).c1ClearedEvent scope id 1 else d := rfl

section

variable {t id : Nat} {s : State} (ha : s.dev.servesAsActive = true) (hs : s.dev.rft.sweeping = true)
include ha hs

/-- An override that is due is removed by the sweep of the module that serves; of the engine nothing else changes. -/
theorem completes_of_expired {scope : Nat} {P : Dev → Prop} (hdue : (s.dev.atTime t).c1Due scope id = true)
    (hp : ∀ d : Dev, d.rft = ((s.dev.atTime t).c1Remove scope id).rft → P d) : Completes (.c1Expired t scope id) s P := by
  refine completes_of_exec (execC1Expired t scope id s) rfl (execC1Expired_eq t scope id s) (hp _ ?_)
  rw [hdue, show (s.dev.atTime t).servesAsActive = true from ha, show (s.dev.atTime t).rft.sweeping = true from hs]
  exact (Dev.settleOffers_rft _).trans (Dev.offer_rft _ _ _)

theorem c1Expired_node {n : Node} (hn : s.dev.nodeAt id = some n) (hc : n.run.c1Eid = true)
    (he : expired n.run.c1Noexp n.run.c1Expiry s.dev.beat.count = true) :
    Completes (.c1Expired t 0 id) s fun d => ∃ n', d.nodeAt id = some n' ∧ n'.run.c1Eid = false ∧ n'.stat = n.stat := by
  refine completes_of_expired ha hs (Dev.c1Due_node hn hc he) fun d hd => ⟨n.withoutC1, ?_, rfl, rfl⟩
  rw [Dev.nodeAt, hd]
  exact Dev.nodeAt_c1Remove (d := s.dev.atTime t) hn

theorem c1Expired_group {o : Nat × Override} (ho : s.dev.rft.ovGroup.find? (fun o => o.1 == id) = some o)
    (he : expired o.2.noexp o.2.expiry s.dev.beat.count = true) :
    Completes (.c1Expired t 1 id) s fun d => d.rft.ovGroup = s.dev.rft.ovGroup.filter (fun o => o.1 != id) :=
  completes_of_expired ha hs (Dev.c1Due_group ho he) fun _ hd => congrArg RftSt.ovGroup hd

theorem c1Expired_zone {o : Nat × Override} (ho : s.dev.rft.ovZone.find? (fun o => o.1 == id) = some o)
    (he : expired o.2.noexp o.2.expiry s.dev.beat.count = true) :
    Completes (.c1Expired t 2 id) s fun d => d.rft.ovZone = s.dev.rft.ovZone.filter (fun o => o.1 != id) :=
  completes_of_expired ha hs (Dev.c1Due_zone ho he) fun _ hd => congrArg RftSt.ovZone hd

theorem c1Expired_site {o : Override} (ho : s.dev.rft.ovSite = some o) (he : expired o.noexp o.expiry s.dev.beat.count = true) :
    Completes (.c1Expired t 3 id) s fun d => d.rft.ovSite = none :=
  completes_of_expired ha hs (Dev.c1Due_site ho he) fun _ hd => congrArg RftSt.ovSite hd

end

/-! ### Refreshes and single results of the sweep (R140, R143, R151) -/

theorem refreshDue_completes (t eid : Nat) (s : State) (n : Node) (hn : s.dev.nodeAt eid = some n) (hd : n.stat.drives = true)
    (hr : n.stat.refresh ≠ 0) (ht : n.run.refreshTmr = 0) (h0 : n.run.c0Active = false) :
    Completes (.refreshDue t eid) s fun d => ∃ n', d.nodeAt eid = some n' ∧ n'.run.pending = true := by
  refine completes_of_exec (execRefreshDue t eid s) rfl rfl ?_
  rw [Dev.settleOffers_nodeAt, Dev.nodeAt_setNode (d := s.dev.atTime t) _ hn]
  exact ⟨_, rfl, by simp [hd, hr, ht, h0]⟩

/-- What re-evaluates one node leaves every other. -/
theorem completes_of_reevaluate {c : Instr} {t eid : Nat} {s : State} (h : exec c s = s.runAt t fun d => reevaluate d eid) :
    Completes c s fun d => d.rft.nodes.length = s.dev.rft.nodes.length ∧ ∀ k, k ≠ eid → d.nodeAt k = s.dev.nodeAt k := by
  obtain ⟨hl, hk⟩ := (s.dev.atTime t).reevaluate_others eid
  exact completes_of_runAt h ⟨by rw [Dev.settleOffers_rft]; exact hl, fun k hne => (Dev.settleOffers_nodeAt _ k).trans (hk k hne)⟩

theorem daylightStale_completes (t eid : Nat) (s : State) : Completes (.daylightStale t eid) s fun d => d.rft = s.dev.rft :=
  completes_of_exec (execDaylightStale t eid s) rfl rfl (Dev.settleOffers_rft _)

/-- Settles O25, a lemma for each of its commands. -/
theorem engineCommandsComplete : Obligations.EngineCommandsComplete := by
  unfold Obligations.EngineCommandsComplete
  exact ⟨rftIngestW0_completes, rftIngestWord_completes,
    fun t m w0 w1 w2 v s n hx hs hr h0 h1 h3 hle hz hn ht =>
      rftIngestCommit_completes t m w0 w1 w2 v s hx hs hr ⟨h0, h1, h3, hle, hz, n, hn, ht⟩,
    rftBattenSel_completes, rftSpeedSel_completes,
    fun _ _ _ _ hn hc he ha hs => c1Expired_node ha hs hn hc he, fun _ _ _ _ ho he ha hs => c1Expired_group ha hs ho he,
    fun _ _ _ _ ho he ha hs => c1Expired_zone ha hs ho he, fun _ _ _ _ ho he ha hs => c1Expired_site ha hs ho he,
    refreshDue_completes,
    fun _ _ _ _ _ => ⟨completes_of_reevaluate rfl, completes_of_reevaluate rfl⟩,
    daylightStale_completes⟩

end Sys2Proof.Machine
end

section
/-! PROOFS. The hold buffers (R185, R189): the operations that leave the Joist, or what its cores hold, as before,
in the order of the model, up to the wired ports. -/

-- One proof at a time: a side condition left to `decide` waits for every declaration before it, each in a thread of its own.
set_option Elab.async false

namespace Sys2Proof.Machine

theorem Touches.jst_eq {ps : List Part} {ks : List Nat} {d x : Dev} (h : Touches ps ks d x) (hp : .jst ∉ ps := by decide) :
    x.jst = d.jst := h.parts .jst hp

theorem Confined.jst_eq {ps : List Part} {ks : List Nat} {P : Nat → Prop} {d x : Dev}
    (h : Confined ps ks P d x) (hp : .jst ∉ ps := by decide) : x.jst = d.jst := h.parts .jst hp

namespace Dev

@[simp] theorem jst_ite {c : Prop} [Decidable c] (x y : Dev) : (if c then x else y).jst = if c then x.jst else y.jst :=
  apply_ite Dev.jst c x y

@[simp] theorem foldl_jst {α : Type} {f : Dev → α → Dev} (l : List α) (x : Dev) (hf : ∀ x a, (f x a).jst = x.jst) :
    (l.foldl f x).jst = x.jst := by
  induction l generalizing x with
  | nil => rfl
  | cons a r ih => exact (ih _).trans (hf x a)

@[simp] theorem foldl_holds {α : Type} {f : Dev → α → Dev} (l : List α) (x : Dev) (hf : ∀ x a, (f x a).jst.holds = x.jst.holds) :
    (l.foldl f x).jst.holds = x.jst.holds := by
  induction l generalizing x with
  | nil => rfl
  | cons a r ih => exact (ih _).trans (hf x a)

@[simp] theorem jstSt_holds_ite {c : Prop} [Decidable c] (x y : JstSt) :
    (if c then x else y).holds = if c then x.holds else y.holds :=
  apply_ite JstSt.holds c x y

theorem holds_ite {c : Prop} [Decidable c] {x y : Dev} {l : List HoldBuf} (hx : x.jst.holds = l) (hy : y.jst.holds = l) :
    (if c then x else y).jst.holds = l := by
  split
  · exact hx
  · exact hy

theorem jst_eq_of_ite {c : Prop} [Decidable c] {x y : Dev} {l : JstSt} (hx : x.jst = l) (hy : y.jst = l) :
    (if c then x else y).jst = l := by
  split
  · exact hx
  · exact hy

theorem jst_eq_of_ite_snd {α : Type} {c : Prop} [Decidable c] {x y : α × Dev} {l : JstSt} (hx : x.2.jst = l) (hy : y.2.jst = l) :
    (if c then x else y).2.jst = l := by
  split
  · exact hx
  · exact hy

/-! ### Shared operations -/

@[simp] theorem when_jst (d : Dev) (c : Bool) (f : Dev → Dev) (hf : ∀ x, (f x).jst = x.jst) : (d.when c f).jst = d.jst := by
  unfold Dev.when
  split
  · exact hf d
  · rfl

@[simp] theorem fresh_jst (d : Dev) : (d.fresh).2.jst = d.jst := (fresh_touches _).jst_eq

@[simp] theorem freshBytes_jst (d : Dev) (n : Nat) : (d.freshBytes n).2.jst = d.jst := by unfold freshBytes; rfl

@[simp] theorem startFlush_jst (d : Dev) : d.startFlush.jst = d.jst :=
  ((Touches.refl (ps := []) (ks := []) d).eventOnly (.startFlush d)).jst_eq

@[simp] theorem acceptEvent_jst (d : Dev) (e : EvCode) (args : List Nat) : (d.acceptEvent e args).jst = d.jst :=
  ((Touches.refl (ps := []) (ks := []) d).eventOnly (.acceptEvent d e args)).jst_eq

@[simp] theorem suppressEvent_jst (d : Dev) (code : Nat) : (d.suppressEvent code).jst = d.jst :=
  ((Touches.refl (ps := []) (ks := []) d).eventOnly (.suppressEvent d code)).jst_eq

@[simp] theorem offerNow_jst (d : Dev) (e : EvCode) (args : List Nat) : (d.offerNow e args).jst = d.jst :=
  ((Touches.refl (ps := []) (ks := []) d).eventOnly (.offerNow d e args)).jst_eq

@[simp] theorem writeSuppressed_jst (d : Dev) : d.writeSuppressed.jst = d.jst := (writeSuppressed_touches _).jst_eq

@[simp] theorem commit_jst (d : Dev) (v : JVal) : (d.commit v).jst = d.jst := (commit_touches _ _).jst_eq

@[simp] theorem journal_jst (d : Dev) (p : JPrio) (v : JVal) (bank : Nat) : (d.journal p v bank).jst = d.jst :=
  (journal_touches _ _ _ _).jst_eq

@[simp] theorem commitPair_jst (d : Dev) (bank : Nat) (lo hi : Fld) (v : Nat) : (d.commitPair bank lo hi v).jst = d.jst :=
  (commitPair_touches _ _ _ _ _).jst_eq

/-! ### The Joist -/

@[simp] theorem enqueue_holds (d : Dev) (q flow producer : Nat) (words eids : List Nat) :
    (d.enqueue q flow producer words eids).jst.holds = d.jst.holds := by
  unfold enqueue; rfl

@[simp] theorem push_holds (d : Dev) (q flow producer : Nat) (words : List Nat) (eids : List Nat) :
    (d.push q flow producer words eids).1.jst.holds = d.jst.holds := by
  unfold push
  (repeat' split) <;> simp

@[simp] theorem reloadCredit_holds (d : Dev) (cls : Nat) : (d.reloadCredit cls).jst.holds = d.jst.holds := by
  unfold reloadCredit; rfl

@[simp] theorem noteTake_holds (d : Dev) (cls q : Nat) : (d.noteTake cls q).jst.holds = d.jst.holds := by unfold noteTake; rfl

theorem selectIn_holds {d : Dev} {consumer : Nat} {core : Option Nat} {cls : Nat} {r : JItem × Dev}
    (e : d.selectIn consumer core cls = some r) : r.2.jst.holds = d.jst.holds := by
  unfold selectIn at e
  dsimp only at e
  split at e
  · cases e; simp
  split at e
  · cases e
  · cases e; simp

theorem select_holds {d : Dev} {consumer : Nat} {core : Option Nat} {r : JItem × Dev} (e : d.select consumer core = some r) :
    r.2.jst.holds = d.jst.holds := by
  obtain ⟨cls, -, e'⟩ := List.exists_of_findSome?_eq_some e
  exact selectIn_holds e'

@[simp] theorem unqueue_holds (d : Dev) (i : JItem) : (d.unqueue i).jst.holds = d.jst.holds := by unfold unqueue; rfl

theorem takeForConsumer_holds {d : Dev} {consumer : Nat} {r : JItem × Dev} (e : d.takeForConsumer consumer = some r) :
    r.2.jst.holds = d.jst.holds := by
  unfold takeForConsumer at e
  split at e
  · rename_i i x e'
    cases e
    exact select_holds (r := (i, x)) e'
  · cases e

@[simp] theorem endService_holds (d : Dev) (consumer : Nat) (i : JItem) : (d.endService consumer i).jst.holds = d.jst.holds := by
  unfold endService; rfl

@[simp] theorem endWaits_holds (d : Dev) : d.endWaits.jst.holds = d.jst.holds := by simp [endWaits]

@[simp] theorem discardQueue_holds (d : Dev) (q : Nat) : (d.discardQueue q).jst.holds = d.jst.holds := by simp [discardQueue]

@[simp] theorem flushQueue_holds (d : Dev) (q : Nat) : (d.flushQueue q).jst.holds = d.jst.holds := by simp [flushQueue]

@[simp] theorem dropStage_holds (d : Dev) (bank : Nat) : (d.dropStage bank).jst.holds = d.jst.holds := by unfold dropStage; rfl

@[simp] theorem pushCommit_holds (d : Dev) (bank : Nat) : (d.pushCommit bank).jst.holds = d.jst.holds := by
  unfold pushCommit
  extract_lets st q f bad d0
  have hb (x : Dev) : (bad x).jst = x.jst := rfl
  split
  · simp
  cases st with
  | none => exact congrArg JstSt.holds (hb d)
  | some s =>
    dsimp only
    split_ifs <;> simp [hb, d0]

@[simp] theorem armTimer_holds (d : Dev) (bank : Nat) : (d.armTimer bank).jst.holds = d.jst.holds := by
  unfold armTimer
  extract_lets delay flow queue word p tag x d1
  have h1 : d1.jst.holds = d.jst.holds := rfl
  split_ifs <;> simp [h1]

@[simp] theorem dropTimer_holds (d : Dev) (t : Timer) : (d.dropTimer t).jst.holds = d.jst.holds := by simp [dropTimer]

@[simp] theorem cancelTimer_holds (d : Dev) (bank id : Nat) : (d.cancelTimer bank id).jst.holds = d.jst.holds := by
  unfold cancelTimer
  split <;> simp

@[simp] theorem newReleases_holds (d : Dev) : d.newReleases.jst.holds = d.jst.holds := by unfold newReleases; rfl

/-! ### The host link -/

theorem upAppend_jst {d : Dev} {items : List Nat} {r : Dev} (e : d.upAppend items = some r) : r.jst = d.jst :=
  (upAppend_touches e).jst_eq

@[simp] theorem hlReset_jst (d : Dev) : d.hlReset.jst = d.jst := (hlReset_touches _).jst_eq

@[simp] theorem usbShow_jst (d : Dev) : d.usbShow.jst = d.jst := by simp [usbShow]

/-! ### The key vault -/

@[simp] theorem showSlots_jst (d : Dev) : d.showSlots.jst = d.jst := (showSlots_touches _).jst_eq

theorem loadKey_jst {d : Dev} {b : Blob} {r : Nat × Dev} (e : d.loadKey b = some r) : r.2.jst = d.jst :=
  (loadKey_touches e).jst_eq

@[simp] theorem loadKeys_jst (d : Dev) (l : List Nat) : (d.loadKeys l).jst = d.jst := (loadKeys_touches _ _).jst_eq

@[simp] theorem keyRefused_jst (d : Dev) (id master usage : Nat) : (d.keyRefused id master usage).jst = d.jst :=
  (keyRefused_touches _ _ _ _).jst_eq

@[simp] theorem useKey_jst (d : Dev) (id master usage : Nat) : (d.useKey id master usage).2.2.jst = d.jst :=
  (useKey_touches _ _ _ _).jst_eq

@[simp] theorem orphanSlots_jst (dv : Dev) (byLcs : Bool) : (dv.orphanSlots byLcs).jst = dv.jst := (orphanSlots_touches _ _).jst_eq

/-! ### The command port -/

@[simp] theorem pushItems_holds (d : Dev) (l : List (Nat × List Nat)) : (d.pushItems l).jst.holds = d.jst.holds := by
  refine foldl_holds l d fun x a => ?_
  extract_lets hold r
  have hr : r.1.jst.holds = x.jst.holds := push_holds ..
  split_ifs
  · rfl
  · exact hr
  · exact hr

@[simp] theorem send_holds (d : Dev) (a : Answer) : (d.send a).jst.holds = d.jst.holds := by
  unfold send
  extract_lets x d1
  split
  · split
    · rename_i e
      exact congrArg JstSt.holds (upAppend_jst (d := d1) e)
    · rfl
  · exact pushItems_holds d1 _
  · rfl

@[simp] theorem sendHeld_holds (d : Dev) : d.sendHeld.jst.holds = d.jst.holds := by
  unfold sendHeld
  extract_lets _ d'
  have h' : d'.jst.holds = d.jst.holds := by simp [d']
  refine (foldl_holds _ _ fun x a => ?_).trans h'
  split
  · split
    · split
      next e =>
        have h := upAppend_jst e
        simp [h]
      · rfl
    · rfl
  · rfl

@[simp] theorem recordSeq_jst (d : Dev) (a : Answer) (mac : Nat) : (d.recordSeq a mac).jst = d.jst :=
  (recordSeq_touches _ _ _).jst_eq

@[simp] theorem illegalEvent_jst (d : Dev) (e : Envelope) (code : Nat) : (d.illegalEvent e code).jst = d.jst := by
  unfold illegalEvent; rfl

@[simp] theorem releaseCarrier_holds (d : Dev) (e : Envelope) : (d.releaseCarrier e).jst.holds = d.jst.holds := by
  unfold releaseCarrier
  split
  · split
    · rename_i h
      exact takeForConsumer_holds h
    · rfl
  · rfl
  · simp
  · rfl

@[simp] theorem refuseRecorded_holds (d : Dev) (e : Envelope) (code status : Nat) :
    (d.refuseRecorded e code status).jst.holds = d.jst.holds := by
  simp [refuseRecorded]

@[simp] theorem macCheck_jst (d : Dev) (e : Envelope) (code : Nat) : (d.macCheck e code).2.jst = d.jst :=
  (macCheck_touches _ _ _).jst_eq

theorem judge_holds (d : Dev) (c : CmdSpec) (e : Envelope) (hc : ∀ x, (c.effect x e).dev.jst.holds.Sublist x.jst.holds) :
    (d.judge c e).jst.holds.Sublist d.jst.holds := by
  unfold judge
  extract_lets r a d1
  have h1 : d1.jst.holds.Sublist d.jst.holds := by simpa [d1, r] using hc d
  split_ifs <;> simp [h1]

theorem command_holds (d : Dev) (c : CmdSpec) (e : Envelope) (hc : ∀ x, (c.effect x e).dev.jst.holds.Sublist x.jst.holds) :
    (d.command c e).jst.holds.Sublist d.jst.holds := by
  have hm : ((d.releaseCarrier e).macCheck e c.code).2.jst.holds = d.jst.holds := by simp
  unfold command
  split
  · exact .refl _
  split
  · simp
  split
  · simp
  split
  · simp
  split
  next d1 hd =>
    rw [hd] at hm
    simp [← hm]
  next d1 hd =>
    rw [hd] at hm
    have hj : (d1.judge c e).jst.holds.Sublist d.jst.holds := hm ▸ d1.judge_holds c e hc
    have hs (a : Answer) : (d1.send a).jst.holds.Sublist d.jst.holds := by simp [← hm]
    split
    · exact hj
    split
    · exact hj
    · split_ifs
      exacts [hj, hs _, hs _]

@[simp] theorem goto_holds (d : Dev) (s : ModState) (cause : Nat) : (d.goto s cause).jst.holds = d.jst.holds := by
  unfold goto
  extract_lets x d1 d2
  have h2 : d2.jst = d.jst := by simp [d2, d1]
  split <;> simp [h2]

/-! ### The light outputs -/

@[simp] theorem noteData_jst (d : Dev) (n path : Nat) (holds : List Nat) : (d.noteData n path holds).jst = d.jst :=
  (noteData_touches _ _ _ _).jst_eq

@[simp] theorem noteUnits_jst (d : Dev) (path : Nat) : (d.noteUnits path).jst = d.jst := (noteUnits_touches _ _).jst_eq

@[simp] theorem showLight_jst (d : Dev) : d.showLight.jst = d.jst := (showLight_touches _).jst_eq

@[simp] theorem lightBoundary_jst (d : Dev) : d.lightBoundary.jst = d.jst := by simp [lightBoundary]

@[simp] theorem lightReady_jst (d : Dev) : d.lightReady.jst = d.jst := by unfold lightReady; rfl

@[simp] theorem lightLoad_jst (d : Dev) (sec : Option LightSec) (owned : List Nat) : (d.lightLoad sec owned).jst = d.jst :=
  (lightLoad_touches _ _ _).jst_eq

/-! ### The event recorder -/

@[simp] theorem ringWrite_jst (d : Dev) (r : EvRec) : (d.ringWrite r).jst = d.jst := (ringWrite_touches _ _).jst_eq

@[simp] theorem slotWritten_jst (d : Dev) : d.slotWritten.jst = d.jst := by
  unfold slotWritten
  split <;> simp

@[simp] theorem drainBuffer_jst (d : Dev) : d.drainBuffer.jst = d.jst := (drainBuffer_touches _).jst_eq

@[simp] theorem recorderReset_jst (d : Dev) : d.recorderReset.jst = d.jst := by unfold recorderReset; rfl

/-! ### The Sill -/

@[simp] theorem mirror_jst (d : Dev) (f : Bundle → Bundle) : (d.mirror f).jst = d.jst := (mirror_touches _ _).jst_eq

@[simp] theorem addReported_jst (d : Dev) (eid amount : Nat) : (d.addReported eid amount).jst = d.jst := by
  unfold addReported
  split <;> simp

@[simp] theorem recountReported_jst (d : Dev) : d.recountReported.jst = d.jst := by unfold recountReported; rfl

@[simp] theorem applyPost_jst (d : Dev) (kind eid value : Nat) : (d.applyPost kind eid value).jst = d.jst := by simp [applyPost]

@[simp] theorem post_jst (d : Dev) (bank kind : Nat) : (d.post bank kind).jst = d.jst := by simp [post]

@[simp] theorem takeChunk_jst (d : Dev) (n k : Nat) : (d.takeChunk n k).1.jst = d.jst := (takeChunk_touches _ _ _).jst_eq

@[simp] theorem snapBoundary_jst (d : Dev) : d.snapBoundary.jst = d.jst := by simp [snapBoundary]

@[simp] theorem ledgerCommit_jst (d : Dev) : d.ledgerCommit.jst = d.jst := (ledgerCommit_touches _).jst_eq

@[simp] theorem dropLedgerCommit_jst (d : Dev) : d.dropLedgerCommit.jst = d.jst := by unfold dropLedgerCommit; rfl

@[simp] theorem fullSnapshot_jst (d : Dev) (n : Nat) : (d.fullSnapshot n).jst = d.jst := (fullSnapshot_touches _ _).jst_eq

@[simp] theorem recordDone_jst (d : Dev) : d.recordDone.jst = d.jst := (recordDone_confined d).jst_eq

@[simp] theorem spoilLine_jst (d : Dev) (line : Nat) : (d.spoilLine line).jst = d.jst := by simp [spoilLine]

/-! ### The rafter engine -/

@[simp] theorem setNode_jst (d : Dev) (eid : Nat) (f : Node → Node) : (d.setNode eid f).jst = d.jst :=
  (setNode_touches _ _ _).jst_eq

@[simp] theorem mapNodes_jst (d : Dev) (f : Nat → Node → Node) : (d.mapNodes f).jst = d.jst := (mapNodes_touches _ _).jst_eq

@[simp] theorem onPage_jst (d : Dev) (eid : Nat) (f : Page → Page) : (d.onPage eid f).jst = d.jst := by unfold onPage; rfl

@[simp] theorem setPending_jst (d : Dev) (eid : Nat) : (d.setPending eid).jst = d.jst := by unfold setPending; rfl

@[simp] theorem showBudget_jst (d : Dev) : d.showBudget.jst = d.jst := (showBudget_touches _).jst_eq

@[simp] theorem takeSample_jst (d : Dev) (sec : Nat) (off : Option Nat × Int) : (d.takeSample sec off).jst = d.jst := by
  unfold takeSample
  split <;> simp

@[simp] theorem sampleTime_jst (d : Dev) : d.sampleTime.jst = d.jst := by simp [sampleTime]

@[simp] theorem c1SetEvent_jst (d : Dev) (scope id level effect duration : Nat) :
    (d.c1SetEvent scope id level effect duration).jst = d.jst := by
  unfold c1SetEvent; rfl

@[simp] theorem c1ClearedEvent_jst (d : Dev) (scope id cause : Nat) : (d.c1ClearedEvent scope id cause).jst = d.jst := by
  unfold c1ClearedEvent; rfl

@[simp] theorem c1Remove_jst (d : Dev) (scope id : Nat) : (d.c1Remove scope id).jst = d.jst := (c1Remove_touches _ _ _).jst_eq

@[simp] theorem c1Enter_jst (d : Dev) (scope id level effect duration : Nat) :
    (d.c1Enter scope id level effect duration).jst = d.jst := by
  simp [c1Enter]

@[simp] theorem applyCmd_jst (d : Dev) (quiet : Bool) (c : CmdEntry) : (d.applyCmd quiet c).jst = d.jst := by
  unfold applyCmd
  (repeat' split) <;> simp

@[simp] theorem heading_jst (d : Dev) (x : PortEntry) (s : NodeStat) : (d.heading x s).jst = d.jst := by
  unfold heading
  dsimp only
  split
  · simp
  · simp

@[simp] theorem applyPort_jst (d : Dev) (x : PortEntry) : (d.applyPort x).jst = d.jst := by
  unfold applyPort
  split <;> simp

@[simp] theorem showFill_jst (d : Dev) : d.showFill.jst = d.jst := (showFill_touches _).jst_eq

@[simp] theorem ingest_jst (d : Dev) (cmds : List CmdEntry) (noted : Nat) (ports : List PortEntry) (refused : List Nat) :
    (d.ingest cmds noted ports refused).jst = d.jst := by
  unfold ingest
  extract_lets x d0 d1 d2 d3
  have h1 : d1.jst = d.jst := foldl_jst _ _ setPending_jst
  have h2 : d2.jst = d.jst := (foldl_jst _ _ fun x a => applyCmd_jst x _ _).trans h1
  have h3 : d3.jst = d.jst := (foldl_jst _ _ applyPort_jst).trans h2
  simp [h3]

@[simp] theorem startSweep_jst (d : Dev) (passes : Nat) : (d.startSweep passes).jst = d.jst := by unfold startSweep; rfl

@[simp] theorem runSweep_jst (d : Dev) (passes k : Nat) : (d.runSweep passes k).jst = d.jst := (runSweep_touches _ _ _).jst_eq

@[simp] theorem commitEngine_jst (d : Dev) (b : Nat) : (d.commitEngine b).1.jst = d.jst := (commitEngine_touches _ _).jst_eq

@[simp] theorem itemRefused_jst (d : Dev) (x : CsItem) : (d.itemRefused x).jst = d.jst := (itemRefused_touches _ _).jst_eq

@[simp] theorem pushItem_holds (d : Dev) (x : CsItem) : (d.pushItem x).jst.holds = d.jst.holds := by simp [pushItem]

@[simp] theorem reportRefused_jst (d : Dev) (b : Nat) : (d.reportRefused b).jst = d.jst := by simp [reportRefused]

@[simp] theorem engineReset_jst (d : Dev) (cause : Nat) : (d.engineReset cause).jst = d.jst := (engineReset_touches _ _).jst_eq

@[simp] theorem discardPort_jst (d : Dev) : d.discardPort.jst = d.jst := by simp [discardPort]

/-! ### Links -/

@[simp] theorem setRad_jst (d : Dev) (r : Nat) (f : RadSt → RadSt) : (d.setRad r f).jst = d.jst := by unfold setRad; rfl

@[simp] theorem setTrk_jst (d : Dev) (p : Nat) (f : TrkSt → TrkSt) : (d.setTrk p f).jst = d.jst := by unfold setTrk; rfl

@[simp] theorem cnt_jst (d : Dev) (md i : Nat) (k : Nat) : (d.cnt md i k).jst = d.jst := by simp [cnt]

@[simp] theorem setLinks_jst (d : Dev) (md : Nat) (l : List Link) : (d.setLinks md l).jst = d.jst := by simp [setLinks]

@[simp] theorem updLink_jst (d : Dev) (md idx : Nat) (f : Link → Link) : (d.updLink md idx f).jst = d.jst := by simp [updLink]

@[simp] theorem setRing_jst (d : Dev) (md : Nat) (l : List RingEntry) : (d.setRing md l).jst = d.jst := by simp [setRing]

@[simp] theorem releaseRing_jst (d : Dev) (md : Nat) (p : RingEntry → Bool) : (d.releaseRing md p).jst = d.jst := by
  simp [releaseRing]

@[simp] theorem pushRing_jst (d : Dev) (md : Nat) (link : Option Nat) (number n : Nat) :
    (d.pushRing md link number n).jst = d.jst := by
  simp [pushRing]

@[simp] theorem loseLink_jst (d : Dev) (md idx cause : Nat) : (d.loseLink md idx cause).jst = d.jst := by
  unfold loseLink
  split <;> simp

@[simp] theorem place_jst (d : Dev) (md idx : Nat) (payload : Bytes) (eids : List Nat) :
    (d.place md idx payload eids).jst = d.jst := by
  unfold place
  split <;> simp

@[simp] theorem rewind_jst (d : Dev) (md idx : Nat) : (d.rewind md idx).jst = d.jst := by simp [rewind]

@[simp] theorem creditUpdate_jst (d : Dev) (md idx ackSeq credit fc32 : Nat) :
    (d.creditUpdate md idx ackSeq credit fc32).jst = d.jst := by
  unfold creditUpdate
  split <;> simp

@[simp] theorem refuseEids_jst (d : Dev) (eids : List Nat) : (d.refuseEids eids).jst = d.jst := by unfold refuseEids; rfl

@[simp] theorem linkStatus_jst (d : Dev) (md b st : Nat) : (d.linkStatus md b st).jst = d.jst := by simp [linkStatus]

@[simp] theorem showLinks_jst (d : Dev) (md : Nat) : (d.showLinks md).jst = d.jst := by simp [showLinks]

@[simp] theorem closeLink_jst (d : Dev) (md idx : Nat) (report : Bool) : (d.closeLink md idx report).jst = d.jst := by
  unfold closeLink
  split <;> simp

@[simp] theorem openLink_jst (d : Dev) (md b : Nat) (resume : Bool) : (d.openLink md b resume).jst = d.jst := by simp [openLink]

@[simp] theorem closeOp_jst (d : Dev) (md b : Nat) (report : Bool) : (d.closeOp md b report).jst = d.jst := by simp [closeOp]

@[simp] theorem delivered_jst (d : Dev) (md idx seq : Nat) : (d.delivered md idx seq).jst = d.jst := by simp [delivered]

/-! ### Radios -/

@[simp] theorem later_jst (d : Dev) (t : Nat) (f : Dev → Dev) (hf : ∀ x, (f x).jst = x.jst) : (d.later t f).jst = d.jst := hf _

@[simp] theorem dwellDefer_jst (d : Dev) (r : Nat) (a : DwellAcc) : (d.dwellDefer r a).jst = d.jst := by simp [dwellDefer]

@[simp] theorem transmit_jst (d : Dev) (r ch mode preamble t : Nat) (bytes : Bytes) :
    (d.transmit r ch mode preamble t bytes).jst = d.jst := by
  unfold transmit; rfl

@[simp] theorem tryAir_jst (d : Dev) (r ch mode preamble : Nat) (psdu : Bytes) :
    (d.tryAir r ch mode preamble psdu).2.jst = d.jst := by
  unfold tryAir
  extract_lets
  (repeat' split) <;> simp

@[simp] theorem endEvent_jst (d : Dev) (r idx : Nat) : (d.endEvent r idx).jst = d.jst := by simp [endEvent]

@[simp] theorem eventAir_jst (d : Dev) (r : Nat) (ev : EventRun) (p : RadPlan) (psdu : Bytes) :
    (d.eventAir r ev p psdu).2.jst = d.jst := by
  unfold eventAir
  split
  · rfl
  have h := d.tryAir_jst r ev.channel p.mode p.preamble psdu
  split <;> simp_all

@[simp] theorem eventAck_jst (d : Dev) (r : Nat) (l : Link) (ev : EventRun) (p : RadPlan) (poll more : Bool) :
    (d.eventAck r l ev p poll more).2.jst = d.jst := by
  unfold eventAck
  split
  · simp
  rename_i b l' _
  have h := d.eventAir_jst r ev p b
  split <;> simp_all

@[simp] theorem eventData_jst (d : Dev) (r : Nat) (l : Link) (ev : EventRun) (p : RadPlan) (f : TxFrame) :
    (d.eventData r l ev p f).jst = d.jst := by
  have h := d.eventAir_jst r ev p f.bytes
  unfold eventData
  split
  · simp
  split <;> simp_all

@[simp] theorem eventSend_jst (d : Dev) (r idx : Nat) (poll more : Bool) : (d.eventSend r idx poll more).jst = d.jst := by
  unfold eventSend
  (repeat' split) <;> simp

@[simp] theorem skipEvent_jst (d : Dev) (r : Nat) : (d.skipEvent r).jst = d.jst := by simp [skipEvent]

@[simp] theorem beginEvent_jst (d : Dev) (r idx ch len : Nat) : (d.beginEvent r idx ch len).jst = d.jst := by simp [beginEvent]

@[simp] theorem linkEvent_jst (d : Dev) (r idx : Nat) : (d.linkEvent r idx).jst = d.jst := by
  unfold linkEvent
  split
  · split
    · rfl
    extract_lets d1 s start
    have h1 : d1.jst = d.jst := by simp [d1]
    split
    · simp [h1]
    · refine (later_jst _ _ _ fun x => ?_).trans h1
      split
      · split <;> simp
      · simp
  · rfl

@[simp] theorem wakeCut_jst (d : Dev) (r : Nat) : (d.wakeCut r).jst = d.jst := by
  unfold wakeCut
  split <;> simp

@[simp] theorem wakeStep_jst (d : Dev) (r : Nat) : (d.wakeStep r).jst = d.jst := by
  unfold wakeStep
  (repeat' split) <;> simp

@[simp] theorem broadcast_jst (d : Dev) (md : Nat) (key : Bytes) (fc : Nat) (payload : Bytes) :
    (d.broadcast md key fc payload).2.jst = d.jst := by
  simp [broadcast]

@[simp] theorem beacon_jst (d : Dev) (r : Nat) : (d.beacon r).jst = d.jst := by
  unfold beacon
  split
  · rfl
  rename_i p _
  split
  · rfl
  extract_lets d0 withheld ch
  have hw (x : Dev) (n : Nat) : (withheld x n).jst = x.jst := by simp [withheld]
  have hk : (d0.useKey p.bcastKey masterRadio useBroadcast).2.2.jst = d.jst := by simp [d0]
  split
  next st key d1 hd =>
    rw [hd] at hk
    split
    · exact hk
    split
    · exact (hw _ _).trans hk
    extract_lets b
    have ht := (d1.tryAir_jst r ch p.mode p.preamble b.1).trans hk
    split
    all_goals
      next h =>
      rw [h] at ht
      simpa [hw] using ht

@[simp] theorem suspendC0_jst (d : Dev) (md : Nat) (b : Bool) : (d.suspendC0 md b).jst = d.jst := by unfold suspendC0; rfl

@[simp] theorem c0Unqueued_jst (d : Dev) (r : Nat) (waited : Bool) : (d.c0Unqueued r waited).jst = d.jst := by simp [c0Unqueued]

@[simp] theorem c0Slot_jst (d : Dev) (r : Nat) : (d.c0Slot r).jst = d.jst := by
  unfold c0Slot
  split
  · refine jst_eq_of_ite rfl ?_
    extract_lets ch
    split
    · extract_lets lim d1
      have h1 : d1.jst = d.jst := by simp [d1]
      split <;> simp [h1]
    · simp
  · rfl

@[simp] theorem c0Restore_jst (d : Dev) (r : Nat) : (d.c0Restore r).jst = d.jst := by simp [c0Restore]

@[simp] theorem groupSlot_jst (d : Dev) (r : Nat) : (d.groupSlot r).jst = d.jst := by
  unfold groupSlot
  split
  next p g rest _ _ =>
    split
    · rfl
    have ht := d.tryAir_jst r (maskTurn p.c0Map d.beat.count) 4 4 g.bytes
    split
    next e =>
      rw [e] at ht
      split <;> simpa using ht
    next e =>
      rw [e] at ht
      exact ht
  · rfl

@[simp] theorem radioBoundary_jst (d : Dev) (r : Nat) : (d.radioBoundary r).jst = d.jst := by simp [radioBoundary]

@[simp] theorem txDrop_jst (d : Dev) (md handle cause : Nat) (i : JItem) : (d.txDrop md handle cause i).jst = d.jst := by
  simp [txDrop]

@[simp] theorem placeRadio_jst (d : Dev) (r : Nat) (i : JItem) : (d.placeRadio r i).jst = d.jst := by
  unfold placeRadio
  extract_lets w0 w1 handle payload
  split
  · rfl
  rename_i p _
  split
  · split
    · simp
    have hk := d.useKey_jst p.bcastKey masterRadio useBroadcast
    split
    next st key d1 hd =>
      rw [hd] at hk
      split <;> simpa using hk
  · split
    · simp
    split
    · simp
    split
    · simp
    · split_ifs <;> simp

@[simp] theorem takeRadio_holds (d : Dev) (r : Nat) : (d.takeRadio r).jst.holds = d.jst.holds := by
  unfold takeRadio
  split
  · rfl
  split
  · rfl
  next i d1 h =>
    have h1 : d1.jst.holds = d.jst.holds := takeForConsumer_holds h
    split
    · rfl
    · simpa using h1

@[simp] theorem deliverRx_holds (d : Dev) (q flow producer : Nat) (words : List Nat) :
    (d.deliverRx q flow producer words).1.jst.holds = d.jst.holds := by
  simp [deliverRx]

@[simp] theorem radioRx_holds (d : Dev) (r : Nat) (f : RadioRx) : (d.radioRx r f).jst.holds = d.jst.holds := by
  unfold radioRx
  split
  · rfl
  rename_i p _
  extract_lets typ head len addr fc32 seq st rssi words x idx answer go
  have ha (y : Dev) : (answer y).jst = y.jst := by
    simp only [answer]
    split <;> simp
  have hg (y : Dev) : (go y).jst = y.jst := by
    simp only [go, ha]
    split <;> simp
  have hx : x.1.jst.holds = d.jst.holds := by simp [x]
  clear_value typ head len addr words x answer go
  split_ifs
  iterate 5 simp
  · simp [hx]
  · simp [hx]
  · split <;> try split
    all_goals simp [ha, hg]
  · split <;> simp [ha, hg]

/-! ### Wired ports -/

@[simp] theorem gateEnter_jst (d : Dev) (p i : Nat) : (d.gateEnter p i).jst = d.jst := by
  unfold gateEnter
  split <;> simp

@[simp] theorem endPause_jst (d : Dev) (p : Nat) : (d.endPause p).jst = d.jst := by simp [endPause]

@[simp] theorem beginPause_jst (d : Dev) (p q : Nat) : (d.beginPause p q).jst = d.jst := by simp [beginPause]

@[simp] theorem pauseRx_jst (d : Dev) (p q : Nat) : (d.pauseRx p q).jst = d.jst := by simp [pauseRx]

@[simp] theorem pfcRx_jst (d : Dev) (p enabled : Nat) (quanta : List Nat) : (d.pfcRx p enabled quanta).jst = d.jst := by
  simp [pfcRx]

@[simp] theorem tsPush_jst (d : Dev) (p tag : Nat) (e : TsEntry) : (d.tsPush p tag e).jst = d.jst := by simp [tsPush]

@[simp] theorem stampOf_jst (d : Dev) (at_ tag : Nat) (late : Bool) : (d.stampOf at_ tag late).2.jst = d.jst := by
  unfold stampOf; rfl

@[simp] theorem placeOpens_jst (d : Dev) (p : Nat) : (d.placeOpens p).jst = d.jst := by
  unfold placeOpens
  extract_lets d1 x d2
  have h1 : d1.jst = d.jst := by
    refine foldl_jst _ _ fun x a => ?_
    split
    · rfl
    · split <;> simp
  show d2.jst = _
  simp only [d2]
  split
  · split <;> simp [h1]
  · exact h1

@[simp] theorem emit_jst (d : Dev) (p : Nat) (frame : Bytes) : (d.emit p frame).jst = d.jst := by unfold emit; rfl

@[simp] theorem busy_jst (d : Dev) (p : Nat) (x : Sending) : (d.busy p x).jst = d.jst := by simp [busy]

@[simp] theorem startRaw_jst (d : Dev) (p : Nat) (r : RawTx) : (d.startRaw p r).jst = d.jst := by
  unfold startRaw
  extract_lets late d1 x d2
  have h1 : d1.jst = d.jst := by simp [d1]
  have h2 : d2.jst = d.jst := by
    simp only [d2]
    split <;> simp [h1, x]
  split <;> simp [h2]

theorem sendAck_jst {d : Dev} {p : Nat} {r : Dev} (e : d.sendAck p = some r) : r.jst = d.jst := by
  unfold sendAck at e
  obtain ⟨l, -, e⟩ := Option.bind_eq_some_iff.1 e
  split at e
  · cases e
    simp
  · obtain ⟨-, e⟩ := Option.ite_none_right_eq_some.1 e
    cases e
    simp

theorem sendGroup_jst {d : Dev} {p : Nat} {done : List Nat} {r : Nat × Dev} (e : d.sendGroup p done = some r) :
    r.2.jst = d.jst := by
  unfold sendGroup at e
  obtain ⟨g, -, e⟩ := Option.bind_eq_some_iff.1 e
  obtain ⟨-, e⟩ := Option.ite_none_left_eq_some.1 e
  cases e
  simp

theorem sendData_jst {d : Dev} {p : Nat} {again : Bool} {r : Dev} (e : d.sendData p again = some r) : r.jst = d.jst := by
  unfold sendData at e
  obtain ⟨x, -, rfl⟩ := Option.map_eq_some_iff.1 e
  split <;> simp

theorem sendPtp_jst {d : Dev} {p : Nat} {r : Dev} (e : d.sendPtp p = some r) : r.jst = d.jst := by
  unfold sendPtp at e
  split at e
  · cases e
  split at e
  · cases e
    simp
  · cases e

theorem sendOne_jst {d : Dev} {p : Nat} {done : List Nat} {r : List Nat × Dev} (e : d.sendOne p done = some r) :
    r.2.jst = d.jst := by
  rcases eq_some_of_orElse e with e | e
  · obtain ⟨x, e', rfl⟩ := Option.map_eq_some_iff.1 e
    exact sendAck_jst e'
  rcases eq_some_of_orElse e with e | e
  · obtain ⟨x, e', rfl⟩ := Option.map_eq_some_iff.1 e
    exact sendGroup_jst e'
  obtain ⟨x, e', rfl⟩ := Option.map_eq_some_iff.1 e
  rcases eq_some_of_orElse e' with e | e
  · rcases eq_some_of_orElse e with e | e
    · rcases eq_some_of_orElse e with e | e
      · exact sendData_jst e
      · exact sendData_jst e
    · exact sendPtp_jst e
  · split at e
    · cases e
    · obtain ⟨y, -, rfl⟩ := Option.map_eq_some_iff.1 e
      exact startRaw_jst ..

@[simp] theorem sendUpTo_jst (d : Dev) (p : Nat) (done : List Nat) (n : Nat) : (d.sendUpTo p done n).jst = d.jst := by
  induction n generalizing d done with
  | zero => rfl
  | succ n ih =>
    rw [sendUpTo]
    split
    next e => exact (ih _ _).trans (sendOne_jst e)
    · rfl

@[simp] theorem sendC0_jst (d : Dev) (p : Nat) (l : List C0Send) : (d.sendC0 p l).jst = d.jst := by simp [sendC0]

@[simp] theorem opportunity_jst (d : Dev) (p : Nat) : (d.opportunity p).jst = d.jst := by
  unfold opportunity
  extract_lets w role due d1
  split
  · rfl
  split
  · split
    · rfl
    have h1 : d1.jst = d.jst := by
      simp only [d1]
      split <;> simp
    split <;> simp [h1]
  split
  · rfl
  split
  · simp
  · split
    · simp
    · split <;> simp

@[simp] theorem wiredBoundary_jst (d : Dev) (p : Nat) : (d.wiredBoundary p).jst = d.jst := by simp [wiredBoundary]

@[simp] theorem takeRaw_holds (d : Dev) (p : Nat) (i : JItem) : (d.takeRaw p i).jst.holds = d.jst.holds := by
  unfold takeRaw
  extract_lets w0 w2 timed dsec launch past r
  split_ifs <;> simp

@[simp] theorem appendRecord_jst (d : Dev) (p idx : Nat) (rec : Bytes) (eids : List Nat) :
    (d.appendRecord p idx rec eids).jst = d.jst := by
  simp [appendRecord]

@[simp] theorem wiredGroup_jst (d : Dev) (p : Nat) (key : Option Bytes) (payload : Bytes) :
    (d.wiredGroup p key payload).2.jst = d.jst := by
  unfold wiredGroup
  split <;> simp

@[simp] theorem groupTx_jst (d : Dev) (p : Nat) (b : Bytes) (n : Nat) : (d.groupTx p b n).jst = d.jst := by simp [groupTx]

@[simp] theorem placeWired_jst (d : Dev) (p : Nat) (i : JItem) : (d.placeWired p i).jst = d.jst := by
  unfold placeWired
  extract_lets md w0 w1 eng b handle
  split
  · split
    next c _ =>
      have hk := d.useKey_jst c.bcastKey masterTrunk useBroadcast
      split
      next st key d1 hd =>
        rw [hd] at hk
        split <;> simpa using hk
    · simp [b]
  · split
    · simp
    split
    · simp
    split
    · simp
    · split_ifs <;> simp

@[simp] theorem takeWired_holds (d : Dev) (p : Nat) : (d.takeWired p).jst.holds = d.jst.holds := by
  unfold takeWired
  extract_lets md
  split
  · rfl
  split
  · rfl
  next i d1 h =>
    have h1 : d1.jst.holds = d.jst.holds := takeForConsumer_holds h
    extract_lets raw
    split_ifs <;> simp [h1]

@[simp] theorem rawRx_holds (d : Dev) (p : Nat) (f : WiredRx) : (d.rawRx p f).jst.holds = d.jst.holds := by
  unfold rawRx
  extract_lets w md n
  split
  · simp
  extract_lets a x d1
  have hx : x.1.jst.holds = d.jst.holds := by simp [x]
  have h1 : d1.jst = x.1.jst := by simp [d1]
  split_ifs <;> simp [hx, h1]

@[simp] theorem nymtilRx_holds (d : Dev) (p : Nat) (f : WiredRx) (b : Bytes) (src : Bytes) :
    (d.nymtilRx p f b src).jst.holds = d.jst.holds := by
  unfold nymtilRx
  extract_lets md typ addr seq fc32 plen q st x tie
  have hx : x.1.jst.holds = d.jst.holds := by simp [x]
  clear_value x
  refine holds_ite (by simp) (holds_ite (by simp) (holds_ite (by simp [hx]) ?_))
  split
  · simp
  extract_lets macOk go
  refine holds_ite (by simp) ?_
  split
  · simp
  · simp
  · extract_lets room y
    have hg (v : Dev) : (go v).jst = v.jst := by simp [go]
    have hy : y.1.jst.holds = d.jst.holds := by simp [y]
    clear_value go y
    split_ifs <;> simp [hg, hy]

@[simp] theorem wiredRx_holds (d : Dev) (p : Nat) (f : WiredRx) : (d.wiredRx p f).jst.holds = d.jst.holds := by
  unfold wiredRx
  extract_lets md w tagged at_ typ dst body n
  clear_value n typ
  split_ifs <;> try simp
  split <;> simp

end Dev

end Sys2Proof.Machine
end

section
/-! PROOFS. The hold buffers (R185, R189): the operations that leave the Joist, or what its cores hold, as before,
from the Lintel to the register writes. -/

-- One proof at a time: a side condition left to `decide` waits for every declaration before it, each in a thread of its own.
set_option Elab.async false

namespace Sys2Proof.Machine

namespace Dev

/-! ### The Lintel -/

@[simp] theorem setSafety_jst (d : Dev) (sec : Option Safety) : (d.setSafety sec).jst = d.jst := (setSafety_touches _ _).jst_eq

@[simp] theorem latch_jst (d : Dev) : d.latch.jst = d.jst := d.latch_touches.1.jst_eq

@[simp] theorem class0_jst (d : Dev) (index : Nat) (activate : Bool) : (d.class0 index activate).dev.jst = d.jst :=
  (class0_touches _ _ _).jst_eq

/-! ### Metering -/

@[simp] theorem setCh_jst (d : Dev) (c : Nat) (f : MeterCh → MeterCh) : (d.setCh c f).jst = d.jst := by unfold setCh; rfl

@[simp] theorem showPulses_jst (d : Dev) : d.showPulses.jst = d.jst := by simp [showPulses]

@[simp] theorem countWraps_jst (d : Dev) (c n : Nat) : (d.countWraps c n).jst = d.jst := by simp [countWraps]

@[simp] theorem meterCycle_jst (d : Dev) (c : Nat) (x : MeterCycle) : (d.meterCycle c x).jst = d.jst := by
  unfold meterCycle
  split
  · extract_lets seg run ac before _ d0 vClip iClip
    split
    · rfl
    split
    extract_lets mag e d1 d2 d3 d4 d5 d6
    have h5 : d5.jst = d.jst := by simp [d5, d4, d3, d2, d1, d0]
    simp [d6, h5]
  · rfl

@[simp] theorem openInterval_jst (d : Dev) (c : Nat) : (d.openInterval c).jst = d.jst := by unfold openInterval; rfl

@[simp] theorem closeInterval_holds (d : Dev) (c : Nat) : (d.closeInterval c).jst.holds = d.jst.holds := by
  unfold closeInterval
  split
  · rfl
  extract_lets ch len m meas rep r y d1 d2 d3 x d4 d5
  have h3 : d3.jst = d.jst := by simp [d3, d2, d1]
  have hx : x.1.jst.holds = d.jst.holds := by simp [x, h3]
  have h4 : d4.jst.holds = d.jst.holds := by
    simp only [d4]
    split <;> simp [hx]
  split_ifs <;> simp [d5, h4]

@[simp] theorem meterStart_jst (d : Dev) : d.meterStart.jst = d.jst := (meterStart_touches _).jst_eq

@[simp] theorem pulseRestart_jst (d : Dev) : d.pulseRestart.jst = d.jst := by simp [pulseRestart]

/-! ### The key vault's commands -/

@[simp] theorem commitBlob_jst (d : Dev) (b : Blob) : (d.commitBlob b).1.jst = d.jst := (commitBlob_touches _ _).jst_eq

@[simp] theorem keyUpdate_jst (d : Dev) (e : Envelope) : (d.keyUpdate e).dev.jst = d.jst := (keyUpdate_touches _ _).jst_eq

@[simp] theorem keyInvalidate_jst (d : Dev) (e : Envelope) : (d.keyInvalidate e).dev.jst = d.jst :=
  (keyInvalidate_touches _ _).jst_eq

@[simp] theorem showKeys_jst (d : Dev) : d.showKeys.jst = d.jst := by simp [showKeys]

@[simp] theorem lifecycleStep_jst (d : Dev) : d.lifecycleStep.jst = d.jst := by
  unfold lifecycleStep
  split
  · rfl
  · simp

@[simp] theorem keyBoundary_jst (d : Dev) : d.keyBoundary.jst = d.jst := by simp [keyBoundary]

@[simp] theorem keyOp_jst (d : Dev) (m : Master) (secure : Bool) (op : Nat) (lo : W32) : (d.keyOp m secure op lo).jst = d.jst := by
  unfold keyOp
  extract_lets b d0 a x fail id run
  have h0 : d0.jst = d.jst := by simp [d0]
  have hf (y : Dev) (st : Nat) : (fail y st).jst = y.jst := by simp [fail]
  have hr (y : Dev) (slot : Option Nat) (key : Bytes) : (run y slot key).jst = y.jst := by simp [run]
  clear_value d0 fail run
  split
  · exact h0
  split
  · exact (hf _ _).trans h0
  split
  · exact (hr _ _ _).trans h0
  split
  · simp [hf, h0]
  split
  next e => exact (hr _ _ _).trans ((loadKey_jst e).trans h0)
  · exact (hr _ _ _).trans h0

@[simp] theorem keyOpDone_jst (d : Dev) (bank : Nat) : (d.keyOpDone bank).jst = d.jst := by
  unfold keyOpDone
  split
  · rfl
  split
  · split
    · split
      next e => exact loadKey_jst e
      · rfl
    · simp
  · simp

/-! ### The Cut List at work -/

@[simp] theorem checkAPatch_jst (d : Dev) (c : Bytes) : (d.checkAPatch c).2.jst = d.jst := (checkAPatch_touches _ _).jst_eq

@[simp] theorem cutRefused_jst (d : Dev) (r : CutRefusal) (patch : Bool) (seq : Nat) : (d.cutRefused r patch seq).jst = d.jst :=
  (cutRefused_touches _ _ _ _).jst_eq

@[simp] theorem startLoad_jst (d : Dev) (c : Bytes) (seq : Nat) : (d.startLoad c seq).1.jst = d.jst :=
  (startLoad_touches _ _ _).jst_eq

@[simp] theorem clearOverrides_jst (d : Dev) (keep : Nat → Nat → Bool) (cause : Nat) : (d.clearOverrides keep cause).jst = d.jst :=
  (clearOverrides_touches _ _ _).jst_eq

@[simp] theorem judgeLedger_jst (d : Dev) : d.judgeLedger.jst = d.jst := (judgeLedger_touches _).jst_eq

@[simp] theorem moveLedger_jst (d : Dev) (old : List Bytes) : (d.moveLedger old).jst = d.jst := (moveLedger_touches _ _).jst_eq

@[simp] theorem applyQueues_holds (d : Dev) (l : List QCfg) : (d.applyQueues l).jst.holds = d.jst.holds := by
  unfold applyQueues
  extract_lets changed d1
  refine foldl_holds changed d fun x q => ?_
  split
  · rfl
  · simp

@[simp] theorem applyLinks_jst (d : Dev) (x : CutImage) (p q : Nat) : (d.applyLinks x p q).jst = d.jst :=
  (applyLinks_touches _ _ _ _).jst_eq

@[simp] theorem showCut_jst (d : Dev) (x : CutImage) (slot generation patches : Nat) (fallback skipped : Bool) :
    (d.showCut x slot generation patches fallback skipped).jst = d.jst :=
  (showCut_touches _ _ _ _ _ _ _).jst_eq

@[simp] theorem applyPins_jst (d : Dev) (l : List Nat) : (d.applyPins l).jst = d.jst := (applyPins_touches _ _).jst_eq

@[simp] theorem applyImage_holds (d : Dev) (x : CutImage) (fb : Option Fallback) (skipped : List (Nat × Nat))
    (slot : Nat) (boot : Bool) : (d.applyImage x fb skipped slot boot).jst.holds = d.jst.holds := by
  unfold applyImage
  extract_lets _ _ _ _ _ _ _ _ d1 _ _ _ _ d2 d3 d4 d5 d6 _ _ d7
  have h3 : d3.jst = d.jst := by simp [d3, d2, d1]
  have h4 : d4.jst.holds = d.jst.holds := by simp [d4, h3]
  have h6 : d6.jst.holds = d.jst.holds := by simp [d6, d5, h4]
  simp [d7, h6]

@[simp] theorem copyDone_holds (d : Dev) : d.copyDone.jst.holds = d.jst.holds := by
  unfold copyDone
  split
  · split
    · rfl
    · simp
  · rfl

@[simp] theorem enterHold_holds (d : Dev) (run : LoadRun) : (d.enterHold run).jst.holds = d.jst.holds := by simp [enterHold]

@[simp] theorem leaveHold_holds (d : Dev) (run : LoadRun) : (d.leaveHold run).jst.holds = d.jst.holds := by simp [leaveHold]

@[simp] theorem loadBoundary_holds (d : Dev) : d.loadBoundary.jst.holds = d.jst.holds := by
  unfold loadBoundary
  split
  · rfl
  extract_lets set
  split
  · rfl
  · split_ifs <;> simp [set]
  · split <;> rfl
  · split <;> simp

@[simp] theorem applyPatch_jst (d : Dev) (x : PatchImage) : (d.applyPatch x).jst = d.jst := (applyPatch_touches _ _).jst_eq

@[simp] theorem startPatch_jst (d : Dev) (c : Bytes) (a : Answer) : (d.startPatch c a).1.jst = d.jst :=
  (startPatch_touches _ _ _).jst_eq

@[simp] theorem patchReady_jst (d : Dev) (run : PatchRun) : (d.patchReady run).jst = d.jst := (patchReady_touches _ _).jst_eq

@[simp] theorem patchWindow_jst (d : Dev) : d.patchWindow.jst = d.jst := (patchWindow_touches _).jst_eq

@[simp] theorem answerPatch_holds (d : Dev) (a : Answer) (status : Nat) : (d.answerPatch a status).jst.holds = d.jst.holds := by
  unfold answerPatch
  (repeat' split) <;> simp

@[simp] theorem patchWaits_holds (d : Dev) (len : Nat) : (d.patchWaits len).jst.holds = d.jst.holds := by
  unfold patchWaits
  split
  · rfl
  · extract_lets w late _ d1
    refine holds_ite ?_ rfl
    simp [d1]

@[simp] theorem patchBoundary_holds (d : Dev) : d.patchBoundary.jst.holds = d.jst.holds := by
  unfold patchBoundary
  (repeat' split) <;> simp

@[simp] theorem cutStage_jst (d : Dev) (p : Bytes) : (d.cutStage p).jst = d.jst := (cutStage_touches _ _).jst_eq

@[simp] theorem overrideC1_jst (d : Dev) (p : Bytes) : (d.overrideC1 p).dev.jst = d.jst := (overrideC1_touches _ _).jst_eq

/-! ### Module time -/

@[simp] theorem showSlew_jst (d : Dev) : d.showSlew.jst = d.jst := by simp [showSlew]

@[simp] theorem mapRecord_jst (d : Dev) : d.mapRecord.jst = d.jst := (mapRecord_touches _).jst_eq

@[simp] theorem setQuality_jst (d : Dev) (q : Nat) : (d.setQuality q).jst = d.jst := (setQuality_touches _ _).jst_eq

@[simp] theorem setUtc_jst (d : Dev) (v : Int) (cause : Nat) : (d.setUtc v cause).jst = d.jst := (setUtc_touches _ _ _).jst_eq

@[simp] theorem decideStep_jst (d : Dev) (r : StepReq) : (d.decideStep r).jst = d.jst := (decideStep_touches _ _).jst_eq

@[simp] theorem timeSet_jst (d : Dev) (e : Envelope) : (d.timeSet e).dev.jst = d.jst := (timeSet_touches _ _).jst_eq

@[simp] theorem forceTime_jst (d : Dev) (e : Envelope) : (d.forceTime e).dev.jst = d.jst := (forceTime_touches _ _).jst_eq

/-! ### Clocks, supply and the entry into BOOT -/

@[simp] theorem safeOutputs_jst (d : Dev) : d.safeOutputs.jst = d.jst := (safeOutputs_touches _).jst_eq

@[simp] theorem setMux_jst (d : Dev) (m source : Nat) : (d.setMux m source).jst = d.jst := by unfold setMux; rfl

@[simp] theorem forceMux_jst (d : Dev) (m source : Nat) : (d.forceMux m source).jst = d.jst := by simp [forceMux]

@[simp] theorem endTests_jst (d : Dev) (cause : Nat) : (d.endTests cause).jst = d.jst := (endTests_touches _ _).jst_eq

@[simp] theorem stopWrites_jst (d : Dev) (cause : Nat) (commanded : Bool) : (d.stopWrites cause commanded).jst = d.jst :=
  (stopWrites_confined d cause commanded).jst_eq

@[simp] theorem noteStep_jst (d : Dev) (n phase path consec cause : Nat) : (d.noteStep n phase path consec cause).jst = d.jst :=
  (noteStep_touches _ _ _ _ _ _).jst_eq

@[simp] theorem startStep_jst (d : Dev) (n : Nat) : (d.startStep n).jst = d.jst := (startStep_touches _ _).jst_eq

@[simp] theorem keepMedia_jst (d : Dev) (old : Dev) : (d.keepMedia old).jst = d.jst := (keepMedia_touches _ _).jst_eq

@[simp] theorem dropVolatile_holds (d : Dev) (warm : Bool) : (d.dropVolatile warm).jst.holds = d.jst.holds := by simp [dropVolatile]

@[simp] theorem announce_jst (d : Dev) (to_ : ModState) (cause : Nat) : (d.announce to_ cause).jst = d.jst :=
  (announce_touches _ _ _).jst_eq

@[simp] theorem mainClockFail_holds (d : Dev) (pll : Bool) : (d.mainClockFail pll).jst.holds = d.jst.holds := by
  unfold mainClockFail
  extract_lets d1 _ d2 d3 _ _ d4 d5 d6 _ _ _ _ _ d7
  have h1 : d1.jst = d.jst := by simp [d1]
  have h3 : d3.jst = d.jst := by simp [d3, d2, h1]
  have h5 : d5.jst = d.jst := by simp [d5, d4, h3]
  have h7 : d7.jst = d.jst := by simp [d7, d6, h5]
  split_ifs <;> simp [h3, h5, h7]

@[simp] theorem rcTrim_jst (d : Dev) (reference cycles : Nat) : (d.rcTrim reference cycles).jst = d.jst := by simp [rcTrim]

@[simp] theorem judgeHoldup_jst (d : Dev) (cap esr : Nat) : (d.judgeHoldup cap esr).jst = d.jst :=
  (judgeHoldup_touches _ _ _).jst_eq

@[simp] theorem holdupMeasured_jst (dv : Dev) (cap esr : Nat) : (dv.holdupMeasured cap esr).jst = dv.jst := by simp [holdupMeasured]

/-! ### The pair -/

@[simp] theorem showPair_jst (d : Dev) : d.showPair.jst = d.jst := (showPair_touches _).jst_eq

@[simp] theorem tieSend_jst (d : Dev) (l : List Bytes) : (d.tieSend l).jst = d.jst := (tieSend_touches _ _).jst_eq

@[simp] theorem leaseSend_jst (d : Dev) (kind member : Nat) (unmirrored : Bool) :
    (d.leaseSend kind member unmirrored).jst = d.jst :=
  (leaseSend_touches _ _ _ _).jst_eq

@[simp] theorem pairRecord_jst (d : Dev) : d.pairRecord.jst = d.jst := (pairRecord_touches _).jst_eq

@[simp] theorem setEpoch_jst (d : Dev) (n : Nat) : (d.setEpoch n).jst = d.jst := (setEpoch_touches _ _).jst_eq

@[simp] theorem adoptEpoch_jst (d : Dev) (n : Nat) : (d.adoptEpoch n).jst = d.jst := by simp [adoptEpoch]

@[simp] theorem allPending_jst (d : Dev) : d.allPending.jst = d.jst := by simp [allPending]

@[simp] theorem takeRole_jst (d : Dev) (r : Role) (cause : Nat) : (d.takeRole r cause).jst = d.jst :=
  (takeRole_touches _ _ _).jst_eq

@[simp] theorem ineligible_jst (d : Dev) (cause : Nat) : (d.ineligible cause).jst = d.jst := by simp [ineligible]

@[simp] theorem askResync_jst (d : Dev) : d.askResync.jst = d.jst := by simp [askResync]

@[simp] theorem setMark_jst (d : Dev) (m : Nat × Nat) : (d.setMark m).jst = d.jst := by unfold setMark; rfl

@[simp] theorem closeBundle_jst (d : Dev) (outcome : Nat) : (d.closeBundle outcome).jst = d.jst := (closeBundle_touches _ _).jst_eq

@[simp] theorem becomeUnmirrored_jst (d : Dev) : d.becomeUnmirrored.jst = d.jst := by simp [becomeUnmirrored]

@[simp] theorem skipCounters_jst (d : Dev) : d.skipCounters.jst = d.jst := by simp [skipCounters]

@[simp] theorem becomeActive_jst (d : Dev) (whole : Bool) (cause : Nat) : (d.becomeActive whole cause).jst = d.jst := by
  simp [becomeActive]

@[simp] theorem decideTakeover_jst (d : Dev) (left : Nat) (whole : Bool) (cause : Nat) :
    (d.decideTakeover left whole cause).jst = d.jst := by
  unfold decideTakeover; rfl

@[simp] theorem leaveTest_holds (d : Dev) (cause : Nat) : (d.leaveTest cause).jst.holds = d.jst.holds := by
  unfold leaveTest
  (repeat' split) <;> simp

@[simp] theorem handOver_jst (d : Dev) : d.handOver.jst = d.jst := by
  unfold handOver
  split <;> simp

@[simp] theorem askHandover_jst (d : Dev) : d.askHandover.jst = d.jst := (askHandover_touches _).jst_eq

@[simp] theorem bothActive_jst (d : Dev) (h : Heartbeat) : (d.bothActive h).jst = d.jst := by simp [bothActive]

@[simp] theorem followTime_jst (d : Dev) (off : Int) : (d.followTime off).jst = d.jst := by
  unfold followTime
  extract_lets d1 x
  split <;> simp [d1]

@[simp] theorem heartbeatRx_holds (d : Dev) (h : Heartbeat) : (d.heartbeatRx h).jst.holds = d.jst.holds := by
  unfold heartbeatRx
  extract_lets _ _ _ d1 _ d2 d3 _ d4 _ d5 _ d6 d7
  have h2 : d2.jst = d.jst := by
    simp only [d2]
    split_ifs <;> simp [d1]
  have h4 : d4.jst = d.jst := by
    simp only [d4]
    split <;> simp [d3, h2]
  have h5 : d5.jst = d.jst := by
    simp only [d5]
    split_ifs <;> simp [h4]
  have h6 : d6.jst = d.jst := by
    simp only [d6]
    split <;> simp [h5]
  have h7 : d7.jst.holds = d.jst.holds := by
    simp only [d7]
    split <;> simp [h6]
  rw [showPair_jst]
  split <;> simp [h7]

@[simp] theorem heartbeatMissed_holds (dv : Dev) : dv.heartbeatMissed.jst.holds = dv.jst.holds := by
  unfold heartbeatMissed
  extract_lets x d n d1 y d2 d3
  have h2 : d2.jst = dv.jst := by
    simp only [d2]
    split <;> simp [d1, d]
  have h3 : d3.jst = dv.jst := by
    simp only [d3]
    split <;> simp [h2]
  rw [showPair_jst]
  split <;> simp [h3]

@[simp] theorem watchInstance_holds (d : Dev) (r : Nat) (f : Option RadioRx) : (d.watchInstance r f).jst.holds = d.jst.holds := by
  unfold watchInstance
  extract_lets d' path2 n d1 d2 d3
  have h' : d'.jst = d.jst := by simp [d']
  have h3 : d3.jst = d.jst := by simp [d3, d2, d1, h']
  split
  · rfl
  refine holds_ite rfl ?_
  split
  · extract_lets e1 e2 e3
    have h3' : e3.jst = d.jst := by simp [e3, e2, e1, h']
    simp [h3']
  · refine holds_ite (by rw [h']) ?_
    simp [h3]

@[simp] theorem carry_jst (d : Dev) : d.carry.jst = d.jst := (carry_touches _).jst_eq

@[simp] theorem bundleRx_jst (d : Dev) (beat : Nat) (recs : List BundleRec) : (d.bundleRx beat recs).jst = d.jst := by
  unfold bundleRx; rfl

@[simp] theorem control_holds (d : Dev) (c : PairCtl) : (d.control c).jst.holds = d.jst.holds := by
  unfold control
  extract_lets d1
  have h1 : d1.jst.holds = d.jst.holds := by simp [d1]
  clear_value d1
  split
  · simp
  · simp
  · split
    · split <;> simp
    · simp
  · split
    · split <;> simp [h1]
    · simp [h1]
  · next x =>
    have hc := d.checkAPatch_jst x
    split
    next d1 e =>
      rw [e] at hc
      extract_lets g slot log _ d2 d3
      have h2 : d2.jst = d.jst := hc
      have h3 : d3.jst = d.jst := by
        simp only [d3]
        split <;> simp [h2]
      simp [h3]
    next d1 e =>
      rw [e] at hc
      simpa using congrArg JstSt.holds hc
  · simp
  · rfl
  · split <;> simp

@[simp] theorem digestMismatch_jst (d : Dev) (beat own theirs : Nat) : (d.digestMismatch beat own theirs).jst = d.jst := by
  simp [digestMismatch]

@[simp] theorem resyncDone_jst (d : Dev) : d.resyncDone.jst = d.jst := by
  unfold resyncDone
  split <;> simp

@[simp] theorem replayCommit_jst (d : Dev) (b : Nat) : (d.replayCommit b).jst = d.jst := by simp [replayCommit]

@[simp] theorem replay_holds (d : Dev) (b : Bundle) (c : BundleClose) : (d.replay b c).jst.holds = d.jst.holds := by
  unfold replay
  extract_lets _ _ _ d0 d1 _ d2 _ d3 _ d3' d4 d5 d6 _ d7
  have h1 : d1.jst.holds = d.jst.holds := by simp [d1, d0]
  have h2 : d2.jst.holds = d.jst.holds := by simp [d2, h1]
  have h3 : d3'.jst.holds = d.jst.holds := holds_ite (x := { d2 with rft := _ }) h2 (by simp [h2])
  have h4 : d4.jst.holds = d.jst.holds := holds_ite h3 (holds_ite (by simp [h3]) (by simp [h3]))
  have h5 : d5.jst.holds = d.jst.holds := by simp [d5, h4]
  have h6 : d6.jst.holds = d.jst.holds := by simp [d6, h5]
  have h7 : d7.jst.holds = d.jst.holds := by simp [d7, h6]
  split_ifs <;> simp [h7]

@[simp] theorem replayAll_holds (d : Dev) : d.replayAll.jst.holds = d.jst.holds := by
  refine foldl_holds _ _ fun x b => ?_
  split
  · split <;> simp
  · rfl

@[simp] theorem bundleCloseRx_holds (d : Dev) (beat : Nat) (c : BundleClose) :
    (d.bundleCloseRx beat c).jst.holds = d.jst.holds := by
  unfold bundleCloseRx
  extract_lets d1 _ _ d2 _ d3
  have h2 : d2.jst = d.jst := by simp [d2, d1]
  have h3 : d3.jst.holds = d.jst.holds := holds_ite (by simp [h2]) (by rw [h2])
  refine holds_ite rfl (holds_ite (by simp) ?_)
  rw [showPair_jst]
  exact holds_ite (by simp [h3]) h3

@[simp] theorem handshakeRole_jst (d : Dev) (r : Role) : (d.handshakeRole r).jst = d.jst := by simp [handshakeRole]

@[simp] theorem helloRx_jst (d : Dev) (h : Heartbeat) (pairId unit : Nat) : (d.helloRx h pairId unit).jst = d.jst := by
  unfold helloRx
  extract_lets d0 op found _ d1 d2
  have h0 : d0.jst = d.jst := by simp [d0]
  have h1 : d1.jst = d.jst := by simp [d1, h0]
  have h2 : d2.jst = d.jst := by simp [d2, h1]
  clear_value found d1 d2
  split
  · simp [h0]
  rw [showPair_jst]
  split <;> simp [h1, h2]

@[simp] theorem loadResync_jst (d : Dev) (b : Bytes) : (d.loadResync b).jst = d.jst := by simp [loadResync]

@[simp] theorem sendImage_jst (d : Dev) : d.sendImage.jst = d.jst := by simp [sendImage]

@[simp] theorem resyncChunk_holds (d : Dev) (c : ResyncChunk) : (d.resyncChunk c).jst.holds = d.jst.holds := by
  unfold resyncChunk
  split
  · rfl
  extract_lets _ _ _ d1 d2 _ d3
  have h1 : d1.jst = d.jst := rfl
  have h3 : d3.jst = d.jst := by simp [d3, d2, h1]
  refine holds_ite rfl (holds_ite (by rw [h1]) ?_)
  split <;> simp [h3]

@[simp] theorem witnessHeard_jst (d : Dev) (r : LeaseReq) : (d.witnessHeard r).jst = d.jst := by unfold witnessHeard; rfl

@[simp] theorem badLease_jst (d : Dev) : d.badLease.jst = d.jst := by simp [badLease]

@[simp] theorem leaseGrant_holds (d : Dev) (m : Bytes) : (d.leaseGrant m).jst.holds = d.jst.holds := by
  unfold leaseGrant
  split
  · simp
  extract_lets d1 _ _ _ d2 d3 d4
  have h1 : d1.jst = d.jst := by simp [d1]
  have h3 : d3.jst = d.jst := by simp [d3, d2, h1]
  have h4 : d4.jst = d.jst := by simp [d4, h3]
  split
  · rw [showPair_jst]
    exact holds_ite (by simp [h4]) (by rw [h4])
  · simp [h1]

@[simp] theorem askResend_jst (d : Dev) : d.askResend.jst = d.jst := by simp [askResend]

@[simp] theorem startResend_jst (d : Dev) : d.startResend.jst = d.jst := by
  unfold startResend
  (repeat' split) <;> simp

@[simp] theorem resendBeat_holds (d : Dev) (placed : Nat) : (d.resendBeat placed).jst.holds = d.jst.holds := by
  unfold resendBeat
  extract_lets room step r total
  have hr : r.1.jst.holds = d.jst.holds := by
    refine List.foldlRecOn (motive := fun acc : Dev × Nat × Nat => acc.1.jst.holds = d.jst.holds) _ _ rfl fun acc hacc x _ => ?_
    simp only [step]
    split
    · exact hacc
    · split
      · simp [hacc]
      · exact hacc
  clear_value r
  refine holds_ite rfl (holds_ite ?_ ?_)
  · simpa using hr
  · simpa using hr

@[simp] theorem heartbeatDecide_holds (d : Dev) : d.heartbeatDecide.jst.holds = d.jst.holds := by
  unfold heartbeatDecide
  extract_lets d1
  split_ifs <;> simp [d1]

@[simp] theorem takeoverBoundary_holds (d : Dev) : d.takeoverBoundary.jst.holds = d.jst.holds := by
  unfold takeoverBoundary
  (repeat' split) <;> simp

@[simp] theorem pairBoundary_holds (d : Dev) : d.pairBoundary.jst.holds = d.jst.holds := by
  unfold pairBoundary
  extract_lets _ d1 d1' _ d2 _ d3 _ d4 d5
  have h1 : d1'.jst = d.jst := by simp [d1', d1]
  have h2 : d2.jst = d.jst := by simp [d2, h1]
  have h3 : d3.jst.holds = d.jst.holds := by
    simp only [d3]
    split
    · split <;> simp [h2]
    · rw [h2]
  have h4 : d4.jst.holds = d.jst.holds := by
    simp only [d4]
    split
    · split <;> simp [h3]
    · exact h3
  simp [d5, h4]

@[simp] theorem sendHello_jst (d : Dev) (gap : Nat) : (d.sendHello gap).jst = d.jst := by simp [sendHello]

/-! ### Firmware slots -/

@[simp] theorem setSlot_jst (d : Dev) (s : Nat) (b : Bytes) : (d.setSlot s b).jst = d.jst := by unfold setSlot; rfl

@[simp] theorem showFw_jst (d : Dev) : d.showFw.jst = d.jst := (showFw_touches _).jst_eq

@[simp] theorem fwChunk_jst (d : Dev) (p : Bytes) : (d.fwChunk p).jst = d.jst := by simp [fwChunk]

@[simp] theorem fwAbandon_jst (d : Dev) : d.fwAbandon.jst = d.jst := by simp [fwAbandon]

@[simp] theorem fwChecks_jst (d : Dev) (b : Bytes) : (d.fwChecks b).2.jst = d.jst := by
  unfold fwChecks
  extract_lets cosigned digest r
  have hr : r.2.2.jst = d.jst := by
    simp only [r]
    split <;> simp
  clear_value r
  iterate 7 refine jst_eq_of_ite_snd rfl ?_
  exact jst_eq_of_ite_snd hr (jst_eq_of_ite_snd hr (jst_eq_of_ite_snd hr (jst_eq_of_ite_snd hr hr)))

@[simp] theorem fwCommitDone_jst (d : Dev) : d.fwCommitDone.jst = d.jst := by
  unfold fwCommitDone
  split
  · rfl
  extract_lets b _ d0
  have hc : (d0.fwChecks b).2.jst = d.jst := by simp [d0]
  split
  next d1 e =>
    rw [e] at hc
    simpa using hc
  next d1 e =>
    rw [e] at hc
    simpa using hc

@[simp] theorem slotCheckDone_jst (d : Dev) : d.slotCheckDone.jst = d.jst := by simp [slotCheckDone]

@[simp] theorem activate_jst (d : Dev) (e : Envelope) : (d.activate e).dev.jst = d.jst := (activate_touches _ _).jst_eq

@[simp] theorem activateBoundary_holds (d : Dev) : d.activateBoundary.jst.holds = d.jst.holds := by
  unfold activateBoundary
  (repeat' split) <;> simp

@[simp] theorem showLib_jst (d : Dev) : d.showLib.jst = d.jst := (showLib_touches _).jst_eq

@[simp] theorem libStart_jst (d : Dev) (bank op id : Nat) : (d.libStart bank op id).jst = d.jst := by simp [libStart]

@[simp] theorem libDone_jst (d : Dev) (bank : Nat) : (d.libDone bank).jst = d.jst := by
  unfold libDone
  split <;> simp

/-! ### The land grid -/

@[simp] theorem releaseCores_jst (d : Dev) : d.releaseCores.jst = d.jst := (releaseCores_touches _).jst_eq

/-! ### Boot steps and tests -/

@[simp] theorem bringUpLintel_jst (d : Dev) : d.bringUpLintel.jst = d.jst := (bringUpLintel_touches d).1.jst_eq

@[simp] theorem bootFailsafe_holds (d : Dev) (n : Nat) : (d.bootFailsafe n).jst.holds = d.jst.holds := by simp [bootFailsafe]

@[simp] theorem stepFailed_holds (d : Dev) (n cause : Nat) : (d.stepFailed n cause).jst.holds = d.jst.holds := by
  unfold stepFailed
  extract_lets c path d1
  split <;> simp [d1]

@[simp] theorem stepPower_jst (d : Dev) : d.stepPower.jst = d.jst := (stepPower_touches _).jst_eq

@[simp] theorem stepMount_jst (d : Dev) (path : Nat) : (d.stepMount path).jst = d.jst := (stepMount_touches _ _).jst_eq

@[simp] theorem storeResult_jst (d : Dev) (test index result code : Nat) : (d.storeResult test index result code).jst = d.jst :=
  (storeResult_touches _ _ _ _ _).jst_eq

@[simp] theorem unitFaults_jst (d : Dev) (t : Nat) (units : List Nat) (code : Nat) : (d.unitFaults t units code).jst = d.jst :=
  (unitFaults_touches _ _ _ _).jst_eq

@[simp] theorem unitMap_jst (d : Dev) (quick : List (Nat × Nat)) (discard : Bool) : (d.unitMap quick discard).jst = d.jst :=
  (unitMap_touches _ _ _).jst_eq

@[simp] theorem storeQuick_jst (d : Dev) (quick : List (Nat × Nat)) (discard : Bool) : (d.storeQuick quick discard).jst = d.jst :=
  (storeQuick_touches _ _ _).jst_eq

@[simp] theorem stepFirmware_jst (d : Dev) (path : Nat) : (d.stepFirmware path).jst = d.jst := (stepFirmware_touches _ _).jst_eq

@[simp] theorem loadSlot_holds (d : Dev) (s : Nat) (x : CutImage) (patches : List Bytes) (generation : Nat) :
    (d.loadSlot s x patches generation).jst.holds = d.jst.holds := by
  unfold loadSlot
  extract_lets _ d1 _ _ d2 d2' d3
  have h1 : d1.jst.holds = d.jst.holds := by simp [d1, latch_jst]
  have h2 : d2.jst = d1.jst := foldl_jst _ _ fun x c => by split <;> simp
  have h3 : d2'.jst = d1.jst := by simp [d2', h2]
  simp [d3, h3, h1]

@[simp] theorem announceLoad_jst (d : Dev) (unknown : List Nat) (skipped : List (Nat × Nat)) (fallback : Option Fallback) :
    (d.announceLoad unknown skipped fallback).jst = d.jst :=
  (announceLoad_touches _ _ _ _).jst_eq

@[simp] theorem noCutList_jst (d : Dev) : d.noCutList.jst = d.jst := (noCutList_touches _).jst_eq

@[simp] theorem stepCut_holds (d : Dev) (f : CutFound) : (d.stepCut f).jst.holds = d.jst.holds := by
  unfold stepCut
  (repeat' split) <;> simp

@[simp] theorem stepService_holds (d : Dev) : d.stepService.jst.holds = d.jst.holds := by
  unfold stepService
  extract_lets _ _ d1 _ x d2 d3 d4 _ _ d5 d6
  have h1 : d1.jst = d.jst := by simp [d1]
  have hx : x.jst = d.jst := by
    simp only [x]
    split <;> simp [h1]
  have h2 : d2.jst.holds = d.jst.holds := holds_ite (by simp [h1]) (by simp [hx])
  have h4 : d4.jst.holds = d.jst.holds := by simp [d4, d3, h2]
  have h6 : d6.jst.holds = d.jst.holds := by simp [d6, d5, h4]
  split <;> simp [h6]

@[simp] theorem stepDone_jst (d : Dev) (n path : Nat) : (d.stepDone n path).jst = d.jst := (stepDone_touches _ _ _).jst_eq

@[simp] theorem bootStep_holds (d : Dev) (quick : List (Nat × Nat)) : (d.bootStep quick).jst.holds = d.jst.holds := by
  unfold bootStep
  extract_lets n path x y _ z
  refine holds_ite rfl ?_
  clear_value n
  split
  · split <;> simp
  · split <;> simp [x]
  · split <;> simp
  · split <;> simp [y]
  · simp
  · split <;> simp [z]
  · split <;> simp
  · simp
  · split_ifs <;> simp
  · simp
  · rfl

@[simp] theorem startTests_jst (d : Dev) : d.startTests.jst = d.jst := (startTests_touches _).jst_eq

@[simp] theorem enterTest_holds (d : Dev) (r : ShutReq) : (d.enterTest r).jst.holds = d.jst.holds := by simp [enterTest]

/-! ### The beat -/

@[simp] theorem plainBoundary_jst (d : Dev) (base : Nat) : (d.plainBoundary base).jst = d.jst := by simp [plainBoundary]

@[simp] theorem stepBoundary_jst (d : Dev) (base : Nat) (r : StepReq) : (d.stepBoundary base r).jst = d.jst := by
  unfold stepBoundary
  extract_lets _ _ _ _ _ _ d1 d2 d3 _ d4
  have h2 : d2.jst = d.jst := by simp [d2, d1]
  have h4 : d4.jst = d.jst := by simp [d4, d3, h2]
  rw [mapRecord_jst]
  split <;> simp [h4]

@[simp] theorem sourceBoundary_jst (d : Dev) : d.sourceBoundary.jst = d.jst := by
  unfold sourceBoundary
  split <;> simp

@[simp] theorem endBeat_holds (d : Dev) : d.endBeat.jst.holds = d.jst.holds := by simp [endBeat]

@[simp] theorem startStop_holds (d : Dev) : d.startStop.jst.holds = d.jst.holds := by
  unfold startStop
  extract_lets _ d1
  have h1 : d1.jst = d.jst := rfl
  split_ifs <;> simp [h1]

@[simp] theorem passesBoundary_jst (d : Dev) : d.passesBoundary.jst = d.jst := by
  unfold passesBoundary
  split <;> simp

@[simp] theorem engineBoundary_jst (d : Dev) : d.engineBoundary.jst = d.jst := by simp [engineBoundary]

@[simp] theorem commitBeat_holds (d : Dev) : d.commitBeat.jst.holds = d.jst.holds := by simp [commitBeat]

@[simp] theorem overrunBeat_jst (d : Dev) (pass : Nat) : (d.overrunBeat pass).jst = d.jst := (overrunBeat_touches _ _).jst_eq

/-! ### Register writes -/

@[simp] theorem setTpo_jst (d : Dev) (k : Nat) (f : Tpo → Tpo) : (d.setTpo k f).jst = d.jst := by unfold setTpo; rfl

@[simp] theorem setMat_jst (d : Dev) (k : Nat) (f : MatrixSt → MatrixSt) : (d.setMat k f).jst = d.jst := by unfold setMat; rfl

@[simp] theorem tpoArm_jst (d : Dev) (k : Nat) : (d.tpoArm k).jst = d.jst := by
  unfold tpoArm
  extract_lets x ok past
  split <;> simp

@[simp] theorem bmca_jst (d : Dev) : d.bmca.jst = d.jst := d.bmca_touches.jst_eq

@[simp] theorem actOnWrite_jst (d : Dev) (key v : Nat) : (d.actOnWrite key v).jst = d.jst := by
  unfold actOnWrite
  extract_lets k
  split <;> simp

@[simp] theorem writeField_jst (d : Dev) (key held v : Nat) (r : FieldRow) : (d.writeField key held v r).jst = d.jst := by
  unfold writeField
  extract_lets f x
  split <;> simp

@[simp] theorem fixWritten_jst (d : Dev) (p : RegPlace) : (d.fixWritten p).jst = d.jst := by
  unfold fixWritten
  split <;> simp

@[simp] theorem applyWrite_jst (d : Dev) (bank key v : Nat) : (d.applyWrite bank key v).jst = d.jst := by
  unfold applyWrite
  extract_lets p rows held
  have hr (l : List FieldRow) : (l.foldl (fun d r => d.writeField key held v r) d).jst = d.jst :=
    foldl_jst l d fun _ _ => writeField_jst ..
  split_ifs <;> simp [writeTpo, writeWake, setLedgerBase, hr]

@[simp] theorem writeReg_jst (d : Dev) (bank key v : Nat) : (d.writeReg bank key v).jst = d.jst := by
  unfold writeReg
  split
  · simp
  split
  · simp
  · split <;> simp

end Dev

end Sys2Proof.Machine
end

section
/-! PROOFS. The hold buffers (R185, R189): the operations that release items, at the entries into BOOT and OFF (R190, R202)
and at the ends of a core or a test. -/

-- One proof at a time: a side condition left to `decide` waits for every declaration before it, each in a thread of its own.
set_option Elab.async false

namespace Sys2Proof.Machine

namespace Dev

theorem releaseHeld_holds (d : Dev) (core : Nat) : (d.releaseHeld core).jst.holds.Sublist d.jst.holds := by
  unfold releaseHeld
  extract_lets n
  split
  · exact .refl _
  · simp

@[simp] theorem joistReset_holds (d : Dev) : d.joistReset.jst.holds = [] := rfl

@[simp] theorem beginBoot_holds (d : Dev) (warm : Bool) (straps : Nat) : (d.beginBoot warm straps).jst.holds = [] := by
  unfold beginBoot
  extract_lets d0 s d1 u1 u2 u3 u4 d2 d3 d4 d5 d6
  have h2 : d2.jst.holds = [] := by
    change d1.jst.holds = []
    simp [d1]
  have h3 : d3.jst.holds = [] := by
    simp [d3, h2]
  have h4 : d4.jst.holds = [] := holds_ite h3 (by simpa using h3)
  have h5 : d5.jst.holds = [] := by
    simp only [d5, showLands_jst, jst_ite, setSuspended_jst, setRole_jst, ite_self, h4]
  have h6 : d6.jst.holds = [] := by
    refine holds_ite (.trans (foldl_holds _ _ ?_) h5) h5
    exact fun _ _ => rfl
  exact holds_ite h5 (by simpa using h6)

@[simp] theorem enterBoot_holds (d : Dev) (cause : Nat) (warm : Bool) (straps : Nat) :
    (d.enterBoot cause warm straps).jst.holds = [] := by simp [enterBoot]

@[simp] theorem goOff_holds (d : Dev) : d.goOff.jst.holds = [] := by unfold goOff; simp

theorem leaveOff_holds (d : Dev) (straps : Nat) : (d.leaveOff straps).jst.holds.Sublist d.jst.holds := by
  unfold leaveOff
  extract_lets u d0 d1
  have h1 : d1.jst.holds = d.jst.holds := by simp [d1, d0]
  split
  · rw [h1]
  · simp

theorem mainClockReturned_holds (d : Dev) (straps : Nat) : (d.mainClockReturned straps).jst.holds.Sublist d.jst.holds := by
  unfold mainClockReturned
  extract_lets d1
  have h1 : d1.jst.holds = d.jst.holds := by simp [d1]
  (repeat' split) <;> simp [h1]

@[simp] theorem pfEnd_holds (d : Dev) (r : PfRun) (step : Nat) : (d.pfEnd r step).jst.holds = [] := by
  unfold pfEnd
  extract_lets us back d1 d2 u d3
  have h3 : d3.jst.holds = [] := by simp [d3, d2]
  split
  · exact List.sublist_nil.1 (h3 ▸ leaveOff_holds d3 _)
  · exact h3

theorem pfAdvance_holds (d : Dev) : d.pfAdvance.jst.holds.Sublist d.jst.holds := by
  unfold pfAdvance
  split
  · exact .refl _
  extract_lets u1 u2 todo
  clear_value todo
  split_ifs
  · exact .refl _
  · exact .refl _
  · split <;> simp

theorem powerFail_holds (d : Dev) (vin vhold : Nat) : (d.powerFail vin vhold).jst.holds.Sublist d.jst.holds := by
  unfold powerFail
  extract_lets u0 d0 u1 d1 u2 u3 u4 u5 u6 u7 d2
  have h0 : d0.jst.holds = d.jst.holds := by simp [d0]
  have h2 : d2.settleOffers.pfAdvance.jst.holds = [] :=
    
    List.sublist_nil.1 ((pfAdvance_holds d2.settleOffers).trans (congrArg JstSt.holds d2.settleOffers_jst ▸ .refl _))
  split_ifs <;> simp [h0, h2]

theorem vholdLow_holds (d : Dev) : d.vholdLow.jst.holds.Sublist d.jst.holds := by
  unfold vholdLow
  split <;> simp

@[simp] theorem resetCmd_holds (d : Dev) (clear : Bool) (chan straps : Nat) : (d.resetCmd clear chan straps).jst.holds = [] := by
  simp [resetCmd]

theorem finishTests_holds (d : Dev) (straps : Nat) : (d.finishTests straps).jst.holds.Sublist d.jst.holds := by
  unfold finishTests
  extract_lets u1
  split
  · exact .refl _
  extract_lets d1 d2 x u3
  have hx : x.jst.holds = [] := by simp [x]
  split_ifs <;> simp [hx]

theorem testFinished_holds (d : Dev) (t : Nat) (failed : List Nat) (code straps : Nat) :
    (d.testFinished t failed code straps).jst.holds.Sublist d.jst.holds := by
  unfold testFinished
  extract_lets d1 u1 u2
  have h1 : d1.jst = d.jst := by simp [d1]
  split
  · simp
  extract_lets d2 d3
  have h3 : d3.jst = d.jst := jst_eq_of_ite (by rw [judgeHoldup_jst]; exact h1) h1
  split
  · exact .refl _
  · refine (finishTests_holds _ _).trans ?_
    rw [startTests_jst, h3]

@[simp] theorem activateStopped_holds (d : Dev) (r : ActRun) (straps : Nat) : (d.activateStopped r straps).jst.holds = [] := by
  unfold activateStopped
  simp

theorem stopWritesDone_holds (d : Dev) (straps : Nat) : (d.stopWritesDone straps).jst.holds.Sublist d.jst.holds := by
  unfold stopWritesDone
  extract_lets u d0
  have h0 : d0.jst = d.jst := rfl
  split
  · extract_lets x u2
    have hx : x.jst.holds = [] := by simp [x]
    split_ifs <;> simp [h0, hx]
  · split_ifs <;> simp
  · exact .refl _

theorem boundary_holds (d : Dev) : d.boundary.jst.holds.Sublist d.jst.holds := by
  unfold boundary
  extract_lets d0 base d1 d2 d3 d4 d5 d6 d7 d8 d9 d10
  have h0 : d0.jst.holds = d.jst.holds := by simp [d0]
  have h1 : d1.jst.holds = d.jst.holds := by
    simp only [d1]
    split <;> simp [h0]
  have h2 : d2.jst.holds = d.jst.holds := by simp [d2, h1]
  have h3 : d3.jst.holds = d.jst.holds := holds_ite (by simpa using h2) h2
  have h4 : d4.jst.holds = d.jst.holds := by simp [d4, h3]
  have h5 : d5.jst.holds = d.jst.holds := by simp [d5, h4]
  have h6 : d6.jst.holds = d.jst.holds := by simp [d6, h5]
  have h7 : d7.jst.holds = d.jst.holds := by simp [d7, h6]
  have h8 : d8.jst.holds = d.jst.holds := by simp [d8, h7]
  have h9 : d9.jst.holds = d.jst.holds := by
    simp only [d9]
    split
    · exact h8
    · rw [sampleTime_jst, snapBoundary_jst, h8]
  have h10 : d10.jst.holds = d.jst.holds := by rw [engineBoundary_jst, h9]
  refine (finishTests_holds _ _).trans ?_
  split
  · rw [h10]
  · rw [ledgerCommit_jst, h10]

end Dev

end Sys2Proof.Machine
end

section
/-! PROOFS. The hold buffers (R185, R189): the commands after which no core holds an item that it did not hold before. -/

-- One proof at a time: a side condition left to `decide` waits for every declaration before it, each in a thread of its own.
set_option Elab.async false

namespace Sys2Proof.Machine

/-- In the state that a command answers no core holds an item that it did not hold before. -/
def HoldsWithin (s : State) (o : Host.Outcome State Fault Refusal) : Prop :=
  ∀ u : State, o = .next u → u.dev.jst.holds.Sublist s.dev.jst.holds

theorem HoldsWithin.run {s : State} {f : Dev → Dev} (h : ∀ d : Dev, (f d).jst.holds.Sublist d.jst.holds) :
    HoldsWithin s (s.run f) := fun u e => by
  cases e
  exact (congrArg JstSt.holds (Dev.settleOffers_jst _)).symm ▸ h s.dev

theorem HoldsWithin.runAt {s : State} {t : Nat} {f : Dev → Dev} (h : ∀ d : Dev, (f d).jst.holds.Sublist d.jst.holds) :
    HoldsWithin s (s.runAt t f) := .run fun d => by simpa using h (d.atTime t)

theorem HoldsWithin.runAt_eq {s : State} {t : Nat} {f : Dev → Dev} (h : ∀ d : Dev, (f d).jst.holds = d.jst.holds) :
    HoldsWithin s (s.runAt t f) := .runAt fun d => h d ▸ .refl _

theorem HoldsWithin.runAt_ite {s : State} {t : Nat} {c : Dev → Prop} [∀ d, Decidable (c d)] {f g : Dev → Dev}
    (hf : ∀ d : Dev, (f d).jst.holds = d.jst.holds) (hg : ∀ d : Dev, (g d).jst.holds = d.jst.holds) :
    HoldsWithin s (s.runAt t fun d => if c d then f d else g d) := .runAt_eq fun d => Dev.holds_ite (hf d) (hg d)

/-- A command whose frame names no component of the Joist. -/
theorem HoldsWithin.of_frame {c : Instr} {ps : List Part} {regs : Nat → Prop} {s : State} (h : Frame c ps regs)
    (hp : .jst ∉ ps := by decide) : HoldsWithin s (exec c s) := fun u e => by
  obtain ⟨v, e', -, hv, -⟩ := h s
  cases e.symm.trans e'
  exact congrArg JstSt.holds (hv .jst hp) ▸ .refl _

theorem HoldsWithin.command {s : State} {t : Nat} {c : CmdSpec} {e : Envelope}
    (h : ∀ d, (c.effect d e).dev.jst.holds.Sublist d.jst.holds) : HoldsWithin s (s.runAt t fun d => d.command c e) :=
  .runAt fun d => d.command_holds c e h

theorem Touches.holds_sublist {ps : List Part} {ks : List Nat} {d x : Dev} (h : Touches ps ks d x) (hp : .jst ∉ ps := by decide) :
    x.jst.holds.Sublist d.jst.holds := h.jst_eq hp ▸ .refl _

variable {s : State}

theorem execJstPushOpen_holds {t : Nat} {m : Master} {v : W32} : HoldsWithin s (execJstPushOpen t m v s) :=
  .runAt_eq fun d => by simp

theorem execJstPushWord_holds {t : Nat} {m : Master} {i : Fin 16} {v : W32} : HoldsWithin s (execJstPushWord t m i v s) := by
  refine .runAt_eq fun d => ?_
  dsimp only
  split <;> simp

theorem execJstPushCommit_holds {t : Nat} {m : Master} : HoldsWithin s (execJstPushCommit t m s) := .runAt_eq fun d => by simp

theorem execJstPushAbandon_holds {t : Nat} {m : Master} : HoldsWithin s (execJstPushAbandon t m s) := .runAt_eq fun d => by simp

theorem execJstGetInterrupted_holds {t : Nat} {core : Fin 8} : HoldsWithin s (execJstGetInterrupted t core s) :=
  .runAt_eq fun d => by simp

theorem execJstDone_holds {t : Nat} {m : Master} {v : W32} : HoldsWithin s (execJstDone t m v s) := by
  refine .runAt fun d => ?_
  extract_lets b
  split
  · simp [List.erase_sublist]
  · simp

theorem execJstFlush_holds {t : Nat} (m : Master) {queue : Fin 64} : HoldsWithin s (execJstFlush t m queue s) :=
  .runAt_eq fun d => by simp

theorem execJstFlushDone_holds {t : Nat} : HoldsWithin s (execJstFlushDone t s) := .runAt_eq fun d => by simp

theorem execJstTmrArm_holds {t : Nat} {m : Master} : HoldsWithin s (execJstTmrArm t m s) := .runAt_eq fun d => by simp

theorem execJstTmrCancel_holds {t : Nat} {m : Master} {v : W32} : HoldsWithin s (execJstTmrCancel t m v s) :=
  .runAt_eq fun d => by simp

theorem execJstTimerRelease_holds {t : Nat} : HoldsWithin s (execJstTimerRelease t s) := by
  refine .runAt_eq fun d => ?_
  (repeat' split) <;> simp

theorem execHlWrite_holds {t : Nat} {items : List (BitVec 64)} : HoldsWithin s (execHlWrite t items s) :=
  .runAt_eq fun d => by simp

theorem execHlRead_holds {t n : Nat} : HoldsWithin s (execHlRead t n s) := .runAt_eq fun d => by simp

theorem execHlMark_holds {t : Nat} : HoldsWithin s (execHlMark t s) := .runAt_eq fun d => by simp

theorem execHlRewind_holds {t : Nat} : HoldsWithin s (execHlRewind t s) := .runAt_eq fun d => by simp

theorem execHlRelease_holds {t n : Nat} : HoldsWithin s (execHlRelease t n s) := .runAt_eq fun d => by simp

theorem execHlStatus_holds {t : Nat} : HoldsWithin s (execHlStatus t s) := .runAt_eq fun d => by simp

theorem execBadCommand_holds {t command : Nat} : HoldsWithin s (execBadCommand t command s) := .runAt_eq fun d => by simp

theorem execHlDownFrame_holds {t : Nat} : HoldsWithin s (execHlDownFrame t s) := by
  refine .runAt_eq fun d => ?_
  (repeat' split) <;> simp

theorem execHlUpData_holds {t : Nat} {m : Master} {v : W32} : HoldsWithin s (execHlUpData t m v s) := .runAt_eq fun d => by simp

theorem execHlUpCommit_holds {t : Nat} {m : Master} : HoldsWithin s (execHlUpCommit t m s) := by
  refine .runAt_eq fun d => ?_
  extract_lets b items u d0 whole
  have h0 : d0.jst = d.jst := rfl
  split
  · simp
  split
  · next e => simp [Dev.upAppend_jst e, h0]
  · simp [h0]

theorem execHlUpAbandon_holds {t : Nat} {m : Master} : HoldsWithin s (execHlUpAbandon t m s) := .runAt_eq fun d => by simp

theorem execHlUpTimeout_holds {t : Nat} : HoldsWithin s (execHlUpTimeout t s) := .runAt_eq fun d => by simp

theorem execUsbAttached_holds {t : Nat} {attached : Bool} : HoldsWithin s (execUsbAttached t attached s) :=
  .runAt_eq fun d => by simp

theorem execUsbSuspend_holds {t : Nat} {suspended : Bool} : HoldsWithin s (execUsbSuspend t suspended s) :=
  .runAt_eq fun d => by simp

theorem execGetStatus_holds {t : Nat} {e : Envelope} : HoldsWithin s (execGetStatus t e s) := .command fun _ => .refl _

theorem execStart_holds {t : Nat} {e : Envelope} : HoldsWithin s (execStart t e s) := .command fun _ => .refl _

theorem execStop_holds {t : Nat} {e : Envelope} : HoldsWithin s (execStop t e s) := .command fun _ => .refl _

theorem execSetPasses_holds {t : Nat} {e : Envelope} : HoldsWithin s (execSetPasses t e s) := .command fun _ => .refl _

theorem execCodeNotDefined_holds {t code : Nat} {e : Envelope} : HoldsWithin s (execCodeNotDefined t code e s) :=
  .command fun _ => .refl _

theorem execReadEvents_holds {t : Nat} {e : Envelope} : HoldsWithin s (execReadEvents t e s) := .command fun _ => .refl _

theorem execRateTokenTick_holds {t : Nat} : HoldsWithin s (execRateTokenTick t s) := .runAt_eq fun d => by simp

theorem execSuppressed_holds {t code : Nat} : HoldsWithin s (execSuppressed t code s) := by
  refine .runAt_eq fun d => ?_
  split <;> simp

theorem execEvrFlushTimer_holds {t : Nat} : HoldsWithin s (execEvrFlushTimer t s) := .runAt_eq fun d => by simp

theorem execEvrFlush_holds {t : Nat} (m : Master) : HoldsWithin s (execEvrFlush t m s) := .runAt_eq fun d => by simp

theorem execEvrRdSeq_holds {t : Nat} (m : Master) {v : W32} : HoldsWithin s (execEvrRdSeq t m v s) := by
  refine .runAt_eq fun d => ?_
  (repeat' split) <;> simp

theorem execAddEnergy_holds {t : Nat} {m : Master} : HoldsWithin s (execAddEnergy t m s) := .runAt_eq fun d => by simp

theorem execAddRun_holds {t : Nat} {m : Master} : HoldsWithin s (execAddRun t m s) := .runAt_eq fun d => by simp

theorem execSetCredit_holds {t : Nat} {m : Master} : HoldsWithin s (execSetCredit t m s) := .runAt_eq fun d => by simp

theorem execSilJwWrite_holds {t : Nat} {m : Master} {v : W32} : HoldsWithin s (execSilJwWrite t m v s) :=
  .runAt_eq fun d => by simp

theorem execScrubBlock_holds {t : Nat} {corrected bad : List Nat} : HoldsWithin s (execScrubBlock t corrected bad s) :=
  .runAt_eq fun d => by simp

theorem execNandRefresh_holds {t part block : Nat} {retired : Bool} : HoldsWithin s (execNandRefresh t part block retired s) :=
  .runAt_eq fun d => by simp

theorem execRadLinkOpen_holds {t : Nat} {r : Fin 4} {m : Master} : HoldsWithin s (execRadLinkOpen t r m s) :=
  .runAt_eq fun d => by simp

theorem execRadLinkClose_holds {t : Nat} {r : Fin 4} {m : Master} {report : Bool} :
    HoldsWithin s (execRadLinkClose t r m report s) :=
  .runAt_eq fun d => by simp

theorem execRadLinkResume_holds {t : Nat} {r : Fin 4} {m : Master} : HoldsWithin s (execRadLinkResume t r m s) :=
  .runAt_eq fun d => by simp

theorem execLinkEvent_holds {t : Nat} {r : Fin 4} {link : Nat} : HoldsWithin s (execLinkEvent t r link s) :=
  .runAt_eq fun d => by simp

theorem execLinkEventEnd_holds {t : Nat} {r : Fin 4} {link : Nat} : HoldsWithin s (execLinkEventEnd t r link s) :=
  .runAt_eq fun d => by simp

theorem execLinkAnswerTimeout_holds {t : Nat} {r : Fin 4} {link : Nat} : HoldsWithin s (execLinkAnswerTimeout t r link s) := by
  refine .runAt_eq fun d => ?_
  split <;> simp

theorem execDwellBinAdvance_holds {t : Nat} {r : Fin 4} {kind index : Nat} :
    HoldsWithin s (execDwellBinAdvance t r kind index s) :=
  .runAt_eq fun d => by simp

theorem execLinkSupervisionTimeout_holds {t : Nat} {medium : Fin 14} {link : Nat} :
    HoldsWithin s (execLinkSupervisionTimeout t medium link s) := by
  refine .runAt_eq fun d => ?_
  split <;> simp

theorem execRadioFrameRx_holds {t : Nat} {r : Fin 4} {f : RadioRx} : HoldsWithin s (execRadioFrameRx t r f s) :=
  .runAt_eq fun d => by simp

theorem execBeaconTx_holds {t : Nat} {r : Fin 4} : HoldsWithin s (execBeaconTx t r s) := .runAt_eq fun d => by simp

theorem execWake_holds {t : Nat} {r : Fin 4} {addr rssi : Nat} : HoldsWithin s (execWake t r addr rssi s) := by
  refine .runAt_eq fun d => ?_
  split <;> simp

theorem execWakeHoldExpired_holds {t : Nat} {r : Fin 4} : HoldsWithin s (execWakeHoldExpired t r s) := .runAt_eq fun d => by simp

theorem execTrkLinkOpen_holds {t : Nat} {p : Fin 10} {m : Master} : HoldsWithin s (execTrkLinkOpen t p m s) :=
  .runAt_eq fun d => by simp

theorem execTrkLinkClose_holds {t : Nat} {p : Fin 10} {m : Master} {report : Bool} :
    HoldsWithin s (execTrkLinkClose t p m report s) :=
  .runAt_eq fun d => by simp

theorem execTrkLinkResume_holds {t : Nat} {p : Fin 10} {m : Master} : HoldsWithin s (execTrkLinkResume t p m s) :=
  .runAt_eq fun d => by simp

theorem execTxItemTake_holds {t : Nat} {medium : Fin 14} : HoldsWithin s (execTxItemTake t medium s) := .runAt_eq fun d => by simp

theorem execWiredFrameRx_holds {t : Nat} {p : Fin 10} {f : WiredRx} : HoldsWithin s (execWiredFrameRx t p f s) :=
  .runAt_eq fun d => by simp

theorem execPlcaCycleEnd_holds {t : Nat} {p : Fin 8} {us : Nat} : HoldsWithin s (execPlcaCycleEnd t p us s) :=
  .runAt_eq fun d => by simp

theorem execTxOpportunity_holds {t : Nat} {p : Fin 10} : HoldsWithin s (execTxOpportunity t p s) := .runAt_eq fun d => by simp

theorem execPlcaConflict_holds {t : Nat} {p : Fin 8} {src : Nat} : HoldsWithin s (execPlcaConflict t p src s) :=
  .runAt_eq fun d => by simp

theorem execPlcaStandin_holds {t : Nat} {p : Fin 8} : HoldsWithin s (execPlcaStandin t p s) := .runAt_eq fun d => by simp

theorem execWiredAckTimeout_holds {t : Nat} {p : Fin 10} {link : Nat} : HoldsWithin s (execWiredAckTimeout t p link s) := by
  refine .runAt_eq fun d => ?_
  split <;> simp

theorem execKeepalive_holds {t : Nat} {p : Fin 10} {link : Nat} : HoldsWithin s (execKeepalive t p link s) := by
  refine .runAt_eq fun d => ?_
  split <;> simp

theorem execGateEntry_holds {t : Nat} {p : Fin 10} {entry : Nat} : HoldsWithin s (execGateEntry t p entry s) :=
  .runAt_eq fun d => by simp

theorem execPortLink_holds {t : Nat} {p : Fin 2} {up : Bool} {speed : Nat} : HoldsWithin s (execPortLink t p up speed s) :=
  .runAt_eq fun d => by simp

theorem execPauseRx_holds {t : Nat} {p : Fin 10} {quanta : Nat} : HoldsWithin s (execPauseRx t p quanta s) :=
  .runAt_eq fun d => by simp

theorem execPauseExpired_holds {t : Nat} {p : Fin 10} : HoldsWithin s (execPauseExpired t p s) := .runAt_eq fun d => by simp

theorem execPfcRx_holds {t : Nat} {p : Fin 10} {enabled : Nat} {quanta : List Nat} :
    HoldsWithin s (execPfcRx t p enabled quanta s) :=
  .runAt_eq fun d => by simp

theorem execRawSlotFree_holds {t : Nat} {p : Fin 2} {v : W32} : HoldsWithin s (execRawSlotFree t p v s) :=
  .runAt_eq fun d => by simp

theorem execRawCfgWrite_holds {t : Nat} {p : Fin 2} {v : W32} : HoldsWithin s (execRawCfgWrite t p v s) :=
  .runAt_eq fun d => by simp

theorem execMdioCmd_holds {t : Nat} {v : W32} : HoldsWithin s (execMdioCmd t v s) := .runAt_eq fun d => by simp

theorem execMdioDone_holds {t data : Nat} : HoldsWithin s (execMdioDone t data s) := .runAt_eq fun d => by simp

theorem execLastByteSent_holds {t : Nat} {p : Fin 10} : HoldsWithin s (execLastByteSent t p s) := by
  refine .runAt_eq fun d => ?_
  (repeat' split) <;> simp

theorem execTimedLaunch_holds {t : Nat} {port : Fin 10} : HoldsWithin s (execTimedLaunch t port s) := by
  refine .runAt_eq fun d => ?_
  split <;> simp

theorem execClass0Activate_holds {t : Nat} {e : Envelope} : HoldsWithin s (execClass0Activate t e s) :=
  .command fun d => (d.class0_touches _ _).holds_sublist

theorem execClass0Release_holds {t : Nat} {e : Envelope} : HoldsWithin s (execClass0Release t e s) :=
  .command fun d => (d.class0_touches _ _).holds_sublist

theorem execMeterCycleEnd_holds {t : Nat} {c : Fin 4} {x : MeterCycle} : HoldsWithin s (execMeterCycleEnd t c x s) :=
  .runAt_eq fun d => by simp

theorem execNoZc_holds {t : Nat} {c : Fin 4} : HoldsWithin s (execNoZc t c s) := .runAt_eq fun d => by simp

theorem execPulseEmit_holds {t : Nat} {n : Fin 2} : HoldsWithin s (execPulseEmit t n s) := .runAt_eq fun d => by simp

theorem execPulseEnd_holds {t : Nat} {n : Fin 2} : HoldsWithin s (execPulseEnd t n s) :=
  .runAt_ite (fun _ => rfl) fun d => congrArg JstSt.holds (d.put_jst _ _)

theorem execS0Pulse_holds {t : Nat} {c : Fin 4} : HoldsWithin s (execS0Pulse t c s) := .runAt_eq fun d => by simp

theorem execReconIntervalEnd_holds {t : Nat} {c : Fin 4} : HoldsWithin s (execReconIntervalEnd t c s) :=
  .runAt_eq fun d => by simp

theorem execAccSave_holds {t : Nat} : HoldsWithin s (execAccSave t s) := .runAt_eq fun d => by simp

theorem execMtrFastRead_holds {t : Nat} {m : Master} {c : Fin 4} : HoldsWithin s (execMtrFastRead t m c s) :=
  .runAt_eq fun d => by simp

theorem execArcFetch_holds {t : Nat} {m : Master} {v : W32} : HoldsWithin s (execArcFetch t m v s) := .runAt_eq fun d => by simp

theorem execArcFetchDone_holds {t : Nat} : HoldsWithin s (execArcFetchDone t s) := by
  refine .runAt_eq fun d => ?_
  dsimp only
  (repeat' split) <;> simp

theorem execMeterSnapshot_holds {t : Nat} {e : Envelope} : HoldsWithin s (execMeterSnapshot t e s) := .command fun _ => .refl _

theorem execKeyUpdateImport_holds {t : Nat} {e : Envelope} : HoldsWithin s (execKeyUpdateImport t e s) :=
  .command fun d => (d.keyUpdate_touches _).holds_sublist

theorem execKeyUpdateDerive_holds {t : Nat} {e : Envelope} : HoldsWithin s (execKeyUpdateDerive t e s) :=
  .command fun d => (d.keyUpdate_touches _).holds_sublist

theorem execKeyUpdateLifecycle_holds {t : Nat} {e : Envelope} : HoldsWithin s (execKeyUpdateLifecycle t e s) :=
  .command fun d => (d.keyUpdate_touches _).holds_sublist

theorem execKeyInvalidate_holds {t : Nat} {e : Envelope} : HoldsWithin s (execKeyInvalidate t e s) :=
  .command fun d => (d.keyInvalidate_touches _).holds_sublist

theorem execKeyUpdateDone_holds {t : Nat} : HoldsWithin s (execKeyUpdateDone t s) := by
  refine .runAt_eq fun d => ?_
  split <;> simp

theorem execKeyOpGcmEncrypt_holds {t : Nat} {m : Master} {secure : Bool} {lo : W32} :
    HoldsWithin s (execKeyOpGcmEncrypt t m secure lo s) :=
  .runAt_eq fun d => by simp

theorem execKeyOpGcmDecrypt_holds {t : Nat} {m : Master} {secure : Bool} {lo : W32} :
    HoldsWithin s (execKeyOpGcmDecrypt t m secure lo s) :=
  .runAt_eq fun d => by simp

theorem execKeyOpHmac_holds {t : Nat} {m : Master} {secure : Bool} {lo : W32} : HoldsWithin s (execKeyOpHmac t m secure lo s) :=
  .runAt_eq fun d => by simp

theorem execKeyOpEcdsaSign_holds {t : Nat} {m : Master} {secure : Bool} {lo : W32} :
    HoldsWithin s (execKeyOpEcdsaSign t m secure lo s) :=
  .runAt_eq fun d => by simp

theorem execKeyOpEcdsaVerify_holds {t : Nat} {m : Master} {secure : Bool} {lo : W32} :
    HoldsWithin s (execKeyOpEcdsaVerify t m secure lo s) :=
  .runAt_eq fun d => by simp

theorem execKeyOpSha256_holds {t : Nat} {m : Master} {secure : Bool} {lo : W32} :
    HoldsWithin s (execKeyOpSha256 t m secure lo s) :=
  .runAt_eq fun d => by simp

theorem execKeyOpDone_holds {t bank : Nat} : HoldsWithin s (execKeyOpDone t bank s) := .runAt_eq fun d => by simp

theorem execCutStage_holds {t : Nat} {e : Envelope} : HoldsWithin s (execCutStage t e s) :=
  .command fun d => (d.cutStage_touches _).holds_sublist

theorem execCutLoad_holds {t : Nat} {e : Envelope} : HoldsWithin s (execCutLoad t e s) :=
  .command fun d => (d.startLoad_touches _ _).holds_sublist

theorem execCutPatch_holds {t : Nat} {e : Envelope} : HoldsWithin s (execCutPatch t e s) :=
  .command fun d => (d.startPatch_touches _ _).holds_sublist

theorem execCutCopyDone_holds {t : Nat} : HoldsWithin s (execCutCopyDone t s) := .runAt_eq fun d => by simp

theorem execPatchReady_holds {t : Nat} {good : Bool} : HoldsWithin s (execPatchReady t good s) := by
  refine .runAt_eq fun d => ?_
  split <;> simp

theorem execOverrideC1Set_holds {t : Nat} {e : Envelope} : HoldsWithin s (execOverrideC1Set t e s) :=
  .command fun d => (d.overrideC1_touches _).holds_sublist

theorem execOverrideC1Clear_holds {t : Nat} {e : Envelope} : HoldsWithin s (execOverrideC1Clear t e s) :=
  .command fun d => (d.overrideC1_touches _).holds_sublist

theorem execTimeSet_holds {t : Nat} {e : Envelope} : HoldsWithin s (execTimeSet t e s) :=
  .command fun d => (d.timeSet_touches _).holds_sublist

theorem execForceTime_holds {t : Nat} {e : Envelope} : HoldsWithin s (execForceTime t e s) :=
  .command fun d => (d.forceTime_touches _).holds_sublist

theorem execPtpMessageTx_holds {t : Nat} {port : Fin 10} {k : PtpKind} : HoldsWithin s (execPtpMessageTx t port k s) :=
  .runAt_eq fun d => by simp

theorem execMainClockFail_holds {t : Nat} {pll : Bool} : HoldsWithin s (execMainClockFail t pll s) := .runAt_eq fun d => by simp

theorem execMainClockReturned_holds {t : Nat} {straps : Fin 8} : HoldsWithin s (execMainClockReturned t straps s) :=
  .runAt fun d => d.mainClockReturned_holds _

theorem execRcFail_holds {t : Nat} {err : Int} : HoldsWithin s (execRcFail t err s) := .runAt_eq fun d => by simp

theorem execRcTrimCount_holds {t : Nat} {reference : Fin 3} {cycles : Nat} :
    HoldsWithin s (execRcTrimCount t reference cycles s) :=
  .runAt_eq fun d => by simp

theorem execMuxSwitchRequest_holds {t mux : Nat} {source : Fin 2} : HoldsWithin s (execMuxSwitchRequest t mux source s) :=
  .runAt_eq fun d => by simp

theorem execSwForced_holds {t mux : Nat} {source : Fin 2} : HoldsWithin s (execSwForced t mux source s) :=
  .runAt_eq fun d => by simp

theorem execPowerOn_holds {t : Nat} {straps : Fin 8} {vin : Nat} : HoldsWithin s (execPowerOn t straps vin s) := by
  refine .runAt fun d => ?_
  split
  · exact .refl _
  split
  · split <;> exact .refl _
  split
  · exact .refl _
  · simpa using (d.put Reg.PWR_VIN.mv (min vin 65535)).leaveOff_holds straps.val

theorem execPowerFail_holds {t vin vhold : Nat} : HoldsWithin s (execPowerFail t vin vhold s) :=
  .runAt fun d => by simpa using d.powerFail_holds vin vhold

theorem execVinDip_holds {t : Nat} : HoldsWithin s (execVinDip t s) := .runAt_eq fun d => by simp

theorem execVinRange_holds {t mv : Nat} : HoldsWithin s (execVinRange t mv s) := .runAt_eq fun d => by simp

theorem execVholdWaitTimeout_holds {t mv : Nat} : HoldsWithin s (execVholdWaitTimeout t mv s) := .runAt_eq fun d => by simp

theorem execVholdOk_holds {t mv : Nat} : HoldsWithin s (execVholdOk t mv s) := .runAt_eq fun d => by simp

theorem execHoldupMeasured_holds {t cap esr : Nat} : HoldsWithin s (execHoldupMeasured t cap esr s) := .runAt_eq fun d => by simp

theorem execVholdLow_holds {t : Nat} : HoldsWithin s (execVholdLow t s) := .runAt fun d => d.vholdLow_holds

theorem execRstNAssert_holds {t : Nat} : HoldsWithin s (execRstNAssert t s) := by
  refine .runAt_eq fun d => ?_
  split <;> simp

theorem execRstNRelease_holds {t : Nat} {straps : Fin 8} : HoldsWithin s (execRstNRelease t straps s) := by
  refine .runAt fun d => ?_
  split
  · exact .refl _
  split
  · exact .refl _
  split_ifs <;> simp

theorem execWatchdogExpiry_holds {t : Nat} {straps : Fin 8} : HoldsWithin s (execWatchdogExpiry t straps s) := by
  refine .runAt fun d => ?_
  split <;> simp

theorem execJournalRecordDone_holds {t : Nat} : HoldsWithin s (execJournalRecordDone t s) :=
  .runAt fun d => by simpa using d.recordDone.pfAdvance_holds

theorem execEvrSlotWritten_holds {t : Nat} : HoldsWithin s (execEvrSlotWritten t s) :=
  .runAt fun d => by simpa using d.slotWritten.pfAdvance_holds

theorem execPairTakeover_holds {t : Nat} {e : Envelope} : HoldsWithin s (execPairTakeover t e s) := by
  refine .command fun d => ?_
  have h1 : (if d.sys.mstate = .test then d.leaveTest 1 else d).jst.holds = d.jst.holds := Dev.holds_ite (by simp) rfl
  dsimp only [specPairTakeover]
  generalize (if d.sys.mstate = .test then d.leaveTest 1 else d) = d1 at h1 ⊢
  split <;> simp [h1]

theorem execPairDemote_holds {t : Nat} {e : Envelope} : HoldsWithin s (execPairDemote t e s) :=
  .command fun d => by simp [specPairDemote]

theorem execWatchInstance_holds {t : Nat} {r : Fin 4} {f : Option RadioRx} : HoldsWithin s (execWatchInstance t r f s) :=
  .runAt_eq fun d => by simp

theorem execPlcaBeaconRx_holds {t : Nat} {p : Fin 8} : HoldsWithin s (execPlcaBeaconRx t p s) := .runAt_eq fun d => by simp

theorem execHeartbeatTx_holds {t : Nat} : HoldsWithin s (execHeartbeatTx t s) := .runAt_eq fun d => by simp

theorem execHeartbeatRx_holds {t : Nat} {hb : Heartbeat} : HoldsWithin s (execHeartbeatRx t hb s) := .runAt_eq fun d => by simp

theorem execHeartbeatMissed_holds {t : Nat} : HoldsWithin s (execHeartbeatMissed t s) := .runAt_eq fun d => by simp

theorem execBundleRx_holds {t beat : Nat} {recs : List BundleRec} : HoldsWithin s (execBundleRx t beat recs s) :=
  .runAt_eq fun d => by simp

theorem execBundleCloseRx_holds {t beat outcome entries sample digest : Nat} :
    HoldsWithin s (execBundleCloseRx t beat outcome entries sample digest s) :=
  .runAt_eq fun d => by simp

theorem execBundleAcked_holds {t beat : Nat} : HoldsWithin s (execBundleAcked t beat s) := .runAt_eq fun d => by simp

theorem execHelloTx_holds {t : Nat} : HoldsWithin s (execHelloTx t s) := .runAt_eq fun d => by simp

theorem execHelloRx_holds {t : Nat} {hb : Heartbeat} {pairId unitId : Nat} : HoldsWithin s (execHelloRx t hb pairId unitId s) :=
  .runAt_eq fun d => by simp

theorem execHandshakeTimeout_holds {t : Nat} : HoldsWithin s (execHandshakeTimeout t s) := .runAt_eq fun d => by simp

theorem execHandshakeRetry_holds {t : Nat} : HoldsWithin s (execHandshakeRetry t s) := .runAt_eq fun d => by simp

theorem execHandoverRx_holds {t : Nat} {hb : Heartbeat} {pairId unitId : Nat} :
    HoldsWithin s (execHandoverRx t hb pairId unitId s) :=
  .runAt_eq fun d => by simp

theorem execResyncReqRx_holds {t : Nat} {hb : Heartbeat} {pairId unitId : Nat} :
    HoldsWithin s (execResyncReqRx t hb pairId unitId s) :=
  .runAt_eq fun d => by simp

theorem execResyncChunkRx_holds {t : Nat} {ch : ResyncChunk} : HoldsWithin s (execResyncChunkRx t ch s) :=
  .runAt_eq fun d => by simp

theorem execCatchupTimeout_holds {t : Nat} : HoldsWithin s (execCatchupTimeout t s) := .runAt_eq fun d => by simp

theorem execResyncRetry_holds {t : Nat} : HoldsWithin s (execResyncRetry t s) := .runAt_eq fun d => by simp

theorem execLeaseRequest_holds {t : Nat} : HoldsWithin s (execLeaseRequest t s) := .runAt_eq fun d => by simp

theorem execLeaseGrantRx_holds {t : Nat} {msg : LeaseMsg} : HoldsWithin s (execLeaseGrantRx t msg s) := .runAt_eq fun d => by simp

theorem execLeaseDenyRx_holds {t : Nat} {msg : LeaseMsg} : HoldsWithin s (execLeaseDenyRx t msg s) := by
  refine .runAt_eq fun d => ?_
  (repeat' split) <;> simp

theorem execLeaseReplyTimeout_holds {t : Nat} : HoldsWithin s (execLeaseReplyTimeout t s) := by
  refine .runAt_eq fun d => ?_
  split <;> simp

theorem execLeaseLost_holds {t : Nat} : HoldsWithin s (execLeaseLost t s) := .runAt_eq fun d => by simp

theorem execResendGo_holds {t : Nat} (m : Master) : HoldsWithin s (execResendGo t m s) := .runAt_eq fun d => by simp

theorem execResendTimeout_holds {t : Nat} : HoldsWithin s (execResendTimeout t s) := .runAt_eq fun d => by simp

theorem execFwStageChunk_holds {t : Nat} {e : Envelope} : HoldsWithin s (execFwStageChunk t e s) :=
  .command fun d => (d.fwStage_touches _).holds_sublist

theorem execFwStageCommit_holds {t : Nat} {e : Envelope} : HoldsWithin s (execFwStageCommit t e s) :=
  .command fun d => (d.fwStage_touches _).holds_sublist

theorem execFwStageAbandon_holds {t : Nat} {e : Envelope} : HoldsWithin s (execFwStageAbandon t e s) :=
  .command fun d => (d.fwStage_touches _).holds_sublist

theorem execActivate_holds {t : Nat} {e : Envelope} : HoldsWithin s (execActivate t e s) :=
  .command fun d => (d.activate_touches _).holds_sublist

theorem execFwCommitDone_holds {t : Nat} : HoldsWithin s (execFwCommitDone t s) := .runAt_eq fun d => by simp

theorem execSlotCheckDone_holds {t : Nat} : HoldsWithin s (execSlotCheckDone t s) := .runAt_eq fun d => by simp

theorem execLibWrite_holds {t : Nat} {m : Master} {libId : Nat} : HoldsWithin s (execLibWrite t m libId s) :=
  .runAt_eq fun d => by simp

theorem execLibRead_holds {t : Nat} {m : Master} {libId : Nat} : HoldsWithin s (execLibRead t m libId s) :=
  .runAt_eq fun d => by simp

theorem execLibDelete_holds {t : Nat} {m : Master} {libId : Nat} : HoldsWithin s (execLibDelete t m libId s) :=
  .runAt_eq fun d => by simp

theorem execLibDone_holds {t bank : Nat} : HoldsWithin s (execLibDone t bank s) := .runAt_eq fun d => by simp

theorem execReset_holds {t : Nat} {e : Envelope} {straps : Fin 8} : HoldsWithin s (execReset t e straps s) :=
  .command fun d => by simp [specReset]

theorem execShutdown_holds {t : Nat} {e : Envelope} : HoldsWithin s (execShutdown t e s) := .command fun _ => .refl _

theorem execBootStepDone_holds {t : Nat} {quick : List (Nat × Nat)} : HoldsWithin s (execBootStepDone t quick s) :=
  .runAt_eq fun d => by simp

theorem execBootStepFailed_holds {t cause : Nat} : HoldsWithin s (execBootStepFailed t cause s) := .runAt_eq fun d => by simp

theorem execBootStepTimeout_holds {t : Nat} : HoldsWithin s (execBootStepTimeout t s) := .runAt_eq fun d => by simp

theorem execXtalStartTimeout_holds {t : Nat} : HoldsWithin s (execXtalStartTimeout t s) := .runAt_eq fun d => by simp

theorem execTestFinished_holds {t : Nat} {test : Fin 15} {failed : List Nat} {code : Nat} {straps : Fin 8} :
    HoldsWithin s (execTestFinished t test failed code straps s) :=
  .runAt fun d => d.testFinished_holds _ _ _ _

theorem execStopWritesDone_holds {t : Nat} {straps : Fin 8} : HoldsWithin s (execStopWritesDone t straps s) :=
  .runAt fun d => d.stopWritesDone_holds _

theorem execBeatBoundary_holds : HoldsWithin s (execBeatBoundary s) := by
  refine .run fun d => ?_
  split
  · exact d.boundary_holds
  · exact .refl _

theorem execCommit_holds {t : Nat} : HoldsWithin s (execCommit t s) := .runAt_eq fun d => by simp

theorem execPostedWriteCrossed_holds {t key : Nat} : HoldsWithin s (execPostedWriteCrossed t key s) := by
  refine .runAt_eq fun d => ?_
  split <;> simp

theorem execOverrun_holds {t pass : Nat} : HoldsWithin s (execOverrun t pass s) := .runAt_eq fun d => by simp

end Sys2Proof.Machine
end

section
/-! PROOFS. No core ever holds more than 4 items (R185, R189): taking an item, and the step. -/

-- One proof at a time: a side condition left to `decide` waits for every declaration before it, each in a thread of its own.
set_option Elab.async false

namespace Sys2Proof.Machine

/-- A load of JST_GET, or the answer to one that waited. -/
def isTake : Instr → Bool
  | .jstGet .. | .jstGetDeliver .. => true
  | _ => false

variable {s : State}

/-- Every command but a register write and the two that take an item for a core. -/
theorem exec_holdsWithin {c : Instr} (hc : isRegisterWrite c = false) (hg : isTake c = false) : HoldsWithin s (exec c s) := by
  obtain ⟨hRftIngestW0, hRftIngestWord, hRftIngestCommit, hRftBattenSel, hRftSpeedSel, hC1Expired, hRefreshDue,
    hWaveHoldExpired, hEdgeDelayElapsed, hDaylightStale, hC0Refresh, hBeatDeadline, hCutLoadStored, -, hEmgEdge,
    hEmgDisagree⟩ := engineFrames
  obtain ⟨hPpsEdge, hPtpMessageRx, hPtpAnnounceTimeout, hPtpSyncTimeout, hLeapSecond, hTsqLatch, hTsqPop, hPpsOut,
    hPpsOutEnd, hTpoArm, hTpoDisarm, hTpoPulse, hTpoPulseEnd, hRtcCompTick, hCalSecond, hCalLoad, hTickAlarmArm, hTickAlarm,
    hBackupToMain, hBackupToVbat, hRtcLost, -, hXtal32Fail, hXtal32Returned⟩ := timeFrames
  obtain ⟨hStringFrame, hMatrixFrame, hNtcRead, hNeighbourShort, hLampReturned, hStrLevelWrite, hSignPixWrite, hSignFlip,
    hReadLoLatch, hAccessFault, hSerialTransfer, hSerialDone, -⟩ := lightAndRegisterFrames
  cases c with
  | registerWrite => cases hc
  | getStatus => exact execGetStatus_holds
  | readEvents => exact execReadEvents_holds
  | reset => exact execReset_holds
  | start => exact execStart_holds
  | stop => exact execStop_holds
  | shutdown => exact execShutdown_holds
  | cutStage => exact execCutStage_holds
  | cutLoad => exact execCutLoad_holds
  | cutPatch => exact execCutPatch_holds
  | setPasses => exact execSetPasses_holds
  | overrideC1Set => exact execOverrideC1Set_holds
  | overrideC1Clear => exact execOverrideC1Clear_holds
  | class0Activate => exact execClass0Activate_holds
  | class0Release => exact execClass0Release_holds
  | timeSet => exact execTimeSet_holds
  | forceTime => exact execForceTime_holds
  | fwStageChunk => exact execFwStageChunk_holds
  | fwStageCommit => exact execFwStageCommit_holds
  | fwStageAbandon => exact execFwStageAbandon_holds
  | activate => exact execActivate_holds
  | pairTakeover => exact execPairTakeover_holds
  | pairDemote => exact execPairDemote_holds
  | keyUpdateImport => exact execKeyUpdateImport_holds
  | keyUpdateDerive => exact execKeyUpdateDerive_holds
  | keyUpdateLifecycle => exact execKeyUpdateLifecycle_holds
  | keyInvalidate => exact execKeyInvalidate_holds
  | meterSnapshot => exact execMeterSnapshot_holds
  | keyUpdateDone => exact execKeyUpdateDone_holds
  | cutLoadStored => exact .of_frame (hCutLoadStored _ _)
  | cutCopyDone => exact execCutCopyDone_holds
  | patchReady => exact execPatchReady_holds
  | beatBoundary => exact execBeatBoundary_holds
  | commit => exact execCommit_holds
  | overrun => exact execOverrun_holds
  | c0Refresh => exact .of_frame (hC0Refresh _ _)
  | ppsEdge => exact .of_frame (hPpsEdge _)
  | c1Expired => exact .of_frame (hC1Expired _ _ _)
  | refreshDue => exact .of_frame (hRefreshDue _ _)
  | waveHoldExpired => exact .of_frame (hWaveHoldExpired _ _)
  | edgeDelayElapsed => exact .of_frame (hEdgeDelayElapsed _ _ _)
  | daylightStale => exact .of_frame (hDaylightStale _ _)
  | rftIngestW0 => exact .of_frame (hRftIngestW0 _ _ _)
  | rftIngestWord => exact .of_frame (hRftIngestWord _ _ _ _)
  | rftIngestCommit => exact .of_frame (hRftIngestCommit _ _ _)
  | rftBattenSel => exact .of_frame (hRftBattenSel _ _ _)
  | rftSpeedSel => exact .of_frame (hRftSpeedSel _ _ _)
  | jstPushOpen => exact execJstPushOpen_holds
  | jstPushWord => exact execJstPushWord_holds
  | jstPushCommit => exact execJstPushCommit_holds
  | jstPushAbandon => exact execJstPushAbandon_holds
  | jstGet => cases hg
  | jstGetDeliver => cases hg
  | jstGetInterrupted => exact execJstGetInterrupted_holds
  | jstDone => exact execJstDone_holds
  | jstFlush _ m => exact execJstFlush_holds m
  | jstFlushDone => exact execJstFlushDone_holds
  | jstTmrArm => exact execJstTmrArm_holds
  | jstTmrCancel => exact execJstTmrCancel_holds
  | jstTimerRelease => exact execJstTimerRelease_holds
  | radLinkOpen => exact execRadLinkOpen_holds
  | radLinkClose => exact execRadLinkClose_holds
  | radLinkResume => exact execRadLinkResume_holds
  | linkEvent => exact execLinkEvent_holds
  | linkEventEnd => exact execLinkEventEnd_holds
  | linkAnswerTimeout => exact execLinkAnswerTimeout_holds
  | dwellBinAdvance => exact execDwellBinAdvance_holds
  | linkSupervisionTimeout => exact execLinkSupervisionTimeout_holds
  | txItemTake => exact execTxItemTake_holds
  | radioFrameRx => exact execRadioFrameRx_holds
  | beaconTx => exact execBeaconTx_holds
  | watchInstance => exact execWatchInstance_holds
  | wake => exact execWake_holds
  | wakeHoldExpired => exact execWakeHoldExpired_holds
  | trkLinkOpen => exact execTrkLinkOpen_holds
  | trkLinkClose => exact execTrkLinkClose_holds
  | trkLinkResume => exact execTrkLinkResume_holds
  | wiredFrameRx => exact execWiredFrameRx_holds
  | plcaCycleEnd => exact execPlcaCycleEnd_holds
  | txOpportunity => exact execTxOpportunity_holds
  | plcaConflict => exact execPlcaConflict_holds
  | plcaStandin => exact execPlcaStandin_holds
  | wiredAckTimeout => exact execWiredAckTimeout_holds
  | keepalive => exact execKeepalive_holds
  | gateEntry => exact execGateEntry_holds
  | portLink => exact execPortLink_holds
  | pauseRx => exact execPauseRx_holds
  | pauseExpired => exact execPauseExpired_holds
  | pfcRx => exact execPfcRx_holds
  | rawSlotFree => exact execRawSlotFree_holds
  | rawCfgWrite => exact execRawCfgWrite_holds
  | mdioCmd => exact execMdioCmd_holds
  | mdioDone => exact execMdioDone_holds
  | readLoLatch => exact .of_frame (hReadLoLatch _ _ _)
  | ptpMessageRx => exact .of_frame (hPtpMessageRx _ _ _)
  | ptpMessageTx => exact execPtpMessageTx_holds
  | ptpAnnounceTimeout => exact .of_frame (hPtpAnnounceTimeout _ _)
  | ptpSyncTimeout => exact .of_frame (hPtpSyncTimeout _ _)
  | leapSecond => exact .of_frame (hLeapSecond _)
  | tsqLatch => exact .of_frame (hTsqLatch _ _)
  | tsqPop => exact .of_frame (hTsqPop _ _)
  | timedLaunch => exact execTimedLaunch_holds
  | ppsOut => exact .of_frame (hPpsOut _)
  | ppsOutEnd => exact .of_frame (hPpsOutEnd _)
  | tpoArm => exact .of_frame (hTpoArm _ _)
  | tpoDisarm => exact .of_frame (hTpoDisarm _ _)
  | tpoPulse => exact .of_frame (hTpoPulse _ _)
  | tpoPulseEnd => exact .of_frame (hTpoPulseEnd _ _)
  | rtcCompTick => exact .of_frame (hRtcCompTick _ _)
  | calSecond => exact .of_frame (hCalSecond _)
  | calLoad => exact .of_frame (hCalLoad _ _)
  | tickAlarmArm => exact .of_frame (hTickAlarmArm _ _ _)
  | tickAlarm => exact .of_frame (hTickAlarm _)
  | backupToMain => exact .of_frame (hBackupToMain _)
  | backupToVbat => exact .of_frame (hBackupToVbat _)
  | rtcLost => exact .of_frame (hRtcLost _)
  | mainClockFail => exact execMainClockFail_holds
  | mainClockReturned => exact execMainClockReturned_holds
  | xtal32Fail => exact .of_frame (hXtal32Fail _)
  | xtal32Returned => exact .of_frame (hXtal32Returned _)
  | rcFail => exact execRcFail_holds
  | rcTrimCount => exact execRcTrimCount_holds
  | muxSwitchRequest => exact execMuxSwitchRequest_holds
  | swForced => exact execSwForced_holds
  | powerOn => exact execPowerOn_holds
  | powerFail => exact execPowerFail_holds
  | vinDip => exact execVinDip_holds
  | vinRange => exact execVinRange_holds
  | vholdWaitTimeout => exact execVholdWaitTimeout_holds
  | holdupMeasured => exact execHoldupMeasured_holds
  | rstNAssert => exact execRstNAssert_holds
  | rstNRelease => exact execRstNRelease_holds
  | watchdogExpiry => exact execWatchdogExpiry_holds
  | bootStepDone => exact execBootStepDone_holds
  | bootStepFailed => exact execBootStepFailed_holds
  | bootStepTimeout => exact execBootStepTimeout_holds
  | xtalStartTimeout => exact execXtalStartTimeout_holds
  | testFinished => exact execTestFinished_holds
  | stopWritesDone => exact execStopWritesDone_holds
  | journalRecordDone => exact execJournalRecordDone_holds
  | silJwWrite => exact execSilJwWrite_holds
  | addEnergy => exact execAddEnergy_holds
  | addRun => exact execAddRun_holds
  | setCredit => exact execSetCredit_holds
  | scrubBlock => exact execScrubBlock_holds
  | nandRefresh => exact execNandRefresh_holds
  | meterCycleEnd => exact execMeterCycleEnd_holds
  | noZc => exact execNoZc_holds
  | pulseEmit => exact execPulseEmit_holds
  | pulseEnd => exact execPulseEnd_holds
  | s0Pulse => exact execS0Pulse_holds
  | reconIntervalEnd => exact execReconIntervalEnd_holds
  | accSave => exact execAccSave_holds
  | mtrFastRead => exact execMtrFastRead_holds
  | arcFetch => exact execArcFetch_holds
  | arcFetchDone => exact execArcFetchDone_holds
  | rateTokenTick => exact execRateTokenTick_holds
  | suppressed => exact execSuppressed_holds
  | evrFlushTimer => exact execEvrFlushTimer_holds
  | evrFlush _ m => exact execEvrFlush_holds m
  | evrSlotWritten => exact execEvrSlotWritten_holds
  | evrRdSeq _ m => exact execEvrRdSeq_holds m
  | heartbeatTx => exact execHeartbeatTx_holds
  | heartbeatRx => exact execHeartbeatRx_holds
  | heartbeatMissed => exact execHeartbeatMissed_holds
  | bundleRx => exact execBundleRx_holds
  | bundleCloseRx => exact execBundleCloseRx_holds
  | bundleAcked => exact execBundleAcked_holds
  | helloTx => exact execHelloTx_holds
  | helloRx => exact execHelloRx_holds
  | handshakeTimeout => exact execHandshakeTimeout_holds
  | handshakeRetry => exact execHandshakeRetry_holds
  | handoverRx => exact execHandoverRx_holds
  | resyncReqRx => exact execResyncReqRx_holds
  | resyncChunkRx => exact execResyncChunkRx_holds
  | catchupTimeout => exact execCatchupTimeout_holds
  | resyncRetry => exact execResyncRetry_holds
  | leaseRequest => exact execLeaseRequest_holds
  | leaseGrantRx => exact execLeaseGrantRx_holds
  | leaseDenyRx => exact execLeaseDenyRx_holds
  | leaseReplyTimeout => exact execLeaseReplyTimeout_holds
  | leaseLost => exact execLeaseLost_holds
  | resendGo _ m => exact execResendGo_holds m
  | resendTimeout => exact execResendTimeout_holds
  | keyOpGcmEncrypt => exact execKeyOpGcmEncrypt_holds
  | keyOpGcmDecrypt => exact execKeyOpGcmDecrypt_holds
  | keyOpHmac => exact execKeyOpHmac_holds
  | keyOpEcdsaSign => exact execKeyOpEcdsaSign_holds
  | keyOpEcdsaVerify => exact execKeyOpEcdsaVerify_holds
  | keyOpSha256 => exact execKeyOpSha256_holds
  | keyOpDone => exact execKeyOpDone_holds
  | fwCommitDone => exact execFwCommitDone_holds
  | slotCheckDone => exact execSlotCheckDone_holds
  | libWrite => exact execLibWrite_holds
  | libRead => exact execLibRead_holds
  | libDelete => exact execLibDelete_holds
  | libDone => exact execLibDone_holds
  | stringFrame => exact .of_frame (hStringFrame _ _)
  | matrixFrame => exact .of_frame (hMatrixFrame _)
  | ntcRead => exact .of_frame (hNtcRead _ _ _)
  | neighbourShort => exact .of_frame (hNeighbourShort _ _ _)
  | lampReturned => exact .of_frame (hLampReturned _ _ _)
  | strLevelWrite => exact .of_frame (hStrLevelWrite _ _ _)
  | signPixWrite => exact .of_frame (hSignPixWrite _ _ _ _ _)
  | signFlip => exact .of_frame (hSignFlip _ _ _)
  | hlWrite => exact execHlWrite_holds
  | hlRead => exact execHlRead_holds
  | hlMark => exact execHlMark_holds
  | hlRewind => exact execHlRewind_holds
  | hlRelease => exact execHlRelease_holds
  | hlStatus => exact execHlStatus_holds
  | badCommand => exact execBadCommand_holds
  | hlDownFrame => exact execHlDownFrame_holds
  | hlUpData => exact execHlUpData_holds
  | hlUpCommit => exact execHlUpCommit_holds
  | hlUpAbandon => exact execHlUpAbandon_holds
  | hlUpTimeout => exact execHlUpTimeout_holds
  | usbAttached => exact execUsbAttached_holds
  | usbSuspend => exact execUsbSuspend_holds
  | emgEdge => exact .of_frame (hEmgEdge _ _ _)
  | emgDisagree => exact .of_frame (hEmgDisagree _ _)
  | serialTransfer => exact .of_frame (hSerialTransfer _ _ _)
  | serialDone => exact .of_frame (hSerialDone _ _ _)
  | accessFault => exact .of_frame (hAccessFault _ _ _ _)
  | plcaBeaconRx => exact execPlcaBeaconRx_holds
  | lastByteSent => exact execLastByteSent_holds
  | postedWriteCrossed => exact execPostedWriteCrossed_holds
  | beatDeadline => exact .of_frame (hBeatDeadline _)
  | vholdLow => exact execVholdLow_holds
  | vholdOk => exact execVholdOk_holds
  | codeNotDefined => exact execCodeNotDefined_holds

namespace Dev

variable {d x : Dev}

/-- A core that holds only items that it held before holds them as it may. -/
theorem holdsOk.of_sublist (h : d.holdsOk) (hs : x.jst.holds.Sublist d.jst.holds) : x.holdsOk := fun core => by
  have hc : (x.heldBy core).Sublist (d.heldBy core) := hs.filter _
  obtain ⟨hn, hb⟩ := h core
  exact ⟨hn.sublist (hc.map _), fun y hy => hb y (hc.subset hy)⟩

theorem holdsOk.of_eq (h : d.holdsOk) (e : x.jst.holds = d.jst.holds) : x.holdsOk := h.of_sublist (e ▸ .refl _)

theorem freeHold_lt {core b : Nat} (e : d.freeHold core = some b) : b < 4 := List.mem_range.1 (List.mem_of_find?_eq_some e)

theorem freeHold_free {core b : Nat} (e : d.freeHold core = some b) : ∀ y ∈ d.heldBy core, y.buf ≠ b := by
  simpa using List.find?_some e

/-- A core takes an item into a hold buffer of its own that is free (R185). -/
theorem takeFor_holds {core : Nat} {r : Dev} (e : d.takeFor core = some r) :
    ∃ b i, d.freeHold core = some b ∧ r.jst.holds = d.jst.holds ++ [⟨core, b, i⟩] := by
  unfold takeFor at e
  split at e
  · next i d' b hs hb =>
    cases e
    refine ⟨b, i, hb, ?_⟩
    rw [← show d'.jst.holds = d.jst.holds from select_holds hs]
    simp [deliver]
  · cases e

theorem holdsOk.takeFor (h : d.holdsOk) {core : Nat} {r : Dev} (e : d.takeFor core = some r) : r.holdsOk := by
  obtain ⟨b, i, hb, hr⟩ := takeFor_holds e
  intro c
  obtain ⟨hn, hlt⟩ := h c
  by_cases hc : core = c
  · subst hc
    have hh : r.heldBy core = d.heldBy core ++ [⟨core, b, i⟩] := by simp [heldBy, hr]
    have hfree := freeHold_free hb
    rw [hh]
    refine ⟨?_, ?_⟩
    · simpa [List.nodup_append, hn] using hfree
    · simpa [or_imp, forall_and, freeHold_lt hb] using hlt
  · have hh : r.heldBy c = d.heldBy c := by simp [heldBy, hr, hc]
    exact hh ▸ h c

end Dev

/-- In the state that a command answers the cores hold their items in distinct buffers. -/
def KeepsHoldsOk (o : Host.Outcome State Fault Refusal) : Prop := ∀ u : State, o = .next u → u.dev.holdsOk

theorem KeepsHoldsOk.of_within {o : Host.Outcome State Fault Refusal} (h : s.dev.holdsOk) (ho : HoldsWithin s o) : KeepsHoldsOk o :=
  fun u e => h.of_sublist (ho u e)

theorem KeepsHoldsOk.runAt {t : Nat} {f : Dev → Dev} (h : (f (s.dev.atTime t)).holdsOk) : KeepsHoldsOk (s.runAt t f) :=
    fun u e => by
  cases e
  exact h.of_eq (congrArg JstSt.holds (Dev.settleOffers_jst _))

theorem execJstGet_holdsOk (h : s.dev.holdsOk) {t : Nat} {m : Master} {irq : Bool} : KeepsHoldsOk (execJstGet t m irq s) := by
  refine .runAt ?_
  have hd : (s.dev.atTime t).holdsOk := h
  generalize s.dev.atTime t = d at hd ⊢
  have hi (bank : Nat) : (d.answerIdle bank).holdsOk := hd.of_eq (by simp)
  dsimp only
  split
  · exact hi _
  split
  · exact hd.of_sublist (by simp)
  split
  · exact hi _
  split
  · exact hi _
  split
  · next e => exact hd.takeFor e
  · split <;> exact hd

theorem execJstGetDeliver_holdsOk (h : s.dev.holdsOk) {t : Nat} : KeepsHoldsOk (execJstGetDeliver t s) := by
  refine .runAt ?_
  have hd : (s.dev.atTime t).holdsOk := h
  generalize s.dev.atTime t = d at hd ⊢
  split
  · next e =>
    obtain ⟨c, -, e1⟩ := List.exists_of_findSome?_eq_some e
    obtain ⟨d', e2, e3⟩ := Option.map_eq_some_iff.1 e1
    cases e3
    exact (hd.takeFor e2).of_eq rfl
  · exact hd

theorem exec_holdsOk_of_not_registerWrite (h : s.dev.holdsOk) {c : Instr} (hc : isRegisterWrite c = false) :
    KeepsHoldsOk (exec c s) := by
  cases hg : isTake c
  · exact .of_within h (exec_holdsWithin hc hg)
  · cases c
    case jstGet => exact execJstGet_holdsOk h
    case jstGetDeliver => exact execJstGetDeliver_holdsOk h
    all_goals cases hg

theorem execAccessFault_holds {t : Nat} {m : Master} {addr : Nat} {f : AccessForm} : HoldsWithin s (execAccessFault t m addr f s) :=
  exec_holdsWithin (c := .accessFault t m addr f) rfl rfl

theorem execSerialTransfer_holds {t : Nat} {m : Master} {v : W32} : HoldsWithin s (execSerialTransfer t m v s) :=
  exec_holdsWithin (c := .serialTransfer t m v) rfl rfl

theorem post_holdsWithin {t bank : Nat} : HoldsWithin s (s.runAt t fun d => d.post bank 0) := .runAt_eq fun d => by simp

theorem writeReg_holdsWithin {t bank key v : Nat} : HoldsWithin s (s.runAt t fun d => (d.writeReg bank key v).actOnWrite key v) :=
  .runAt_eq fun d => by simp

theorem KeepsHoldsOk.idle (h : s.dev.holdsOk) {t : Nat} : KeepsHoldsOk (s.runAt t id) := .runAt h

/-- A register write acts by its row (`rowWrite_actsAsRow`) or by its fields. -/
theorem execRegisterWrite_holdsOk (h : s.dev.holdsOk) {t : Nat} {m : Master} {addr : Nat} {v : W32} :
    KeepsHoldsOk (execRegisterWrite t m addr v s) := by
  unfold execRegisterWrite
  extract_lets key
  split
  · exact .of_within h execAccessFault_holds
  split
  · exact .idle h
  split
  · exact .of_within h execSerialTransfer_holds
  split
  · next o ho =>
    cases rowWrite_actsAsRow ho with
    | command c hc => exact exec_holdsOk_of_not_registerWrite h hc
    | idle => exact .idle h
    | post => exact .of_within h post_holdsWithin
  · exact .of_within h writeReg_holdsWithin

theorem exec_holdsOk (h : s.dev.holdsOk) {c : Instr} : KeepsHoldsOk (exec c s) := by
  cases hc : isRegisterWrite c
  · exact exec_holdsOk_of_not_registerWrite h hc
  · cases c
    case registerWrite => exact execRegisterWrite_holdsOk h
    all_goals cases hc

/-- Settles O7: a step answers the state itself, or what the command at the front makes of it. -/
theorem holdsBounded : Obligations.HoldsBounded := by
  unfold Obligations.HoldsBounded
  intro s u h e
  unfold step at e
  split at e
  · cases e
    exact h
  · next c rest _ => exact exec_holdsOk (s := { s with pending := rest }) h u e



end Sys2Proof.Machine
end

section
/-! PROOFS. Taking, waiting and releasing (R185-R189), and the invariants at reset (R189, R375). -/

-- One proof at a time: a side condition left to `decide` waits for every declaration before it, each in a thread of its own.
set_option Elab.async false

namespace Sys2Proof.Machine

namespace Dev

variable {d : Dev}

/-- Distinct buffers 0 to 3 are at most four (R189). -/
theorem holdsOk.length_le (h : d.holdsOk) (core : Nat) : (d.heldBy core).length ≤ 4 := by
  obtain ⟨hn, hb⟩ := h core
  have hs : (d.heldBy core).map (·.buf) ⊆ List.range 4 := fun b hm => by
    obtain ⟨y, hy, rfl⟩ := List.mem_map.1 hm
    exact List.mem_range.2 (hb y hy)
  simpa using (hn.subperm hs).length_le

/-! ### A load of JST_GET (R185, R186, R189) -/

/-- What a load of JST_GET makes of the machine at its instant. -/
def getLoad (d : Dev) (m : Master) (irq : Bool) : Dev :=
  match m with
  | .other _ => d.answerIdle (bankOf m)
  | .core n =>
    if (d.heldBy n.val).length ≥ 4 then (d.answerIdle n.val).raise Reg.JST_IRQ_STATUS.held_full
    else if !d.joistRuns then d.answerIdle n.val
    else if irq then d.answerIdle n.val
    else match d.takeFor n.val with
      | some d' => d'
      | none =>
        if d.jst.waiting.contains n.val then d
        else { d with jst := { d.jst with waiting := d.jst.waiting ++ [n.val] } }

theorem getLoad_of_full {n : Fin 8} {irq : Bool} (h : 4 ≤ (d.heldBy n.val).length) :
    d.getLoad (.core n) irq = (d.answerIdle n.val).raise Reg.JST_IRQ_STATUS.held_full := if_pos h

/-- A core that holds fewer than four items is answered at once where the Joist does not run or an interrupt is pending. -/
theorem getLoad_of_idle {n : Fin 8} {irq : Bool} (hl : (d.heldBy n.val).length < 4) (h : d.joistRuns = false ∨ irq = true) :
    d.getLoad (.core n) irq = d.answerIdle n.val := by
  refine (if_neg (Nat.not_le.2 hl)).trans ?_
  rcases h with h | h
  · exact if_pos (by simp [h])
  · simp [h]

theorem getLoad_of_take {n : Fin 8} {r : Dev} (hl : (d.heldBy n.val).length < 4) (hr : d.joistRuns = true)
    (h : d.takeFor n.val = some r) : d.getLoad (.core n) false = r := by
  refine (if_neg (Nat.not_le.2 hl)).trans ((if_neg (by simp [hr])).trans ?_)
  rw [h]
  rfl

/-- The four reasons for the idle descriptor: it is answered at once, and no item is taken. -/
theorem getLoad_of_no_take (m : Master) (irq : Bool)
    (h : isCore m = false ∨ d.joistRuns = false ∨ 4 ≤ (d.heldBy (bankOf m)).length ∨ irq = true) :
    d.getLoad m irq = d.answerIdle (bankOf m) ∨ d.getLoad m irq = (d.answerIdle (bankOf m)).raise Reg.JST_IRQ_STATUS.held_full := by
  cases m with
  | other => exact .inl rfl
  | core n =>
    by_cases hl : 4 ≤ (d.heldBy n.val).length
    · exact .inr (getLoad_of_full hl)
    · refine .inl (getLoad_of_idle (Nat.not_le.1 hl) ?_)
      rcases h with h | h | h | h
      · cases h
      · exact .inl h
      · exact absurd h hl
      · exact .inr h

/-! ### The words of the answers (R185, R204) -/

theorem settleOffers_get_jstGet (d : Dev) (b : Nat) : d.settleOffers.get (Reg.JST_GET.word b) = d.get (Reg.JST_GET.word b) :=
  d.settleOffers_get_banked _ (by simp only [Reg.JST_GET.word]; omega)

theorem get_put_jstGet (d : Dev) (b v : Nat) : (d.put (Reg.JST_GET.word b) v).get (Reg.JST_GET.word b) = v % 2 ^ 32 :=
  d.get_put _ _ (Nat.zero_le 31) (show 31 < 32 by decide)

theorem get_answerIdle (d : Dev) (b : Nat) : (d.answerIdle b).get (Reg.JST_GET.word b) = 0 := d.get_put_jstGet b 0

/-- The Joist's interrupts are not banked. -/
theorem get_jstGet_raise_heldFull (d : Dev) (b : Nat) :
    (d.raise Reg.JST_IRQ_STATUS.held_full).get (Reg.JST_GET.word b) = d.get (Reg.JST_GET.word b) :=
  d.get_raise_of_ne _ _ (Nat.zero_le 31) (by decide) (by decide)
    (.inl (by simp only [Reg.JST_IRQ_STATUS.held_full, Reg.JST_GET.word]; omega))

/-- The descriptor of the item delivered; JST_ITEM_SEL is another register. -/
theorem get_jstGet_deliver (d : Dev) (core buf : Nat) (i : JItem) :
    (d.deliver core buf i).get (Reg.JST_GET.word core) = descriptor i buf % 2 ^ 32 := by
  have hk : (Reg.JST_ITEM_SEL.word core).key ≠ (Reg.JST_GET.word core).key := by
    simp only [Reg.JST_ITEM_SEL.word, Reg.JST_GET.word]
    omega
  unfold deliver
  rw [get_put_of_ne _ (Reg.JST_ITEM_SEL.in_use core) _ _ (Nat.zero_le 31) (show 8 ≤ 11 by decide) (show 11 < 32 by decide) (.inl hk),
    get_put_of_ne _ (Reg.JST_ITEM_SEL.hold core) _ _ (Nat.zero_le 31) (Nat.zero_le 1) (show 1 < 32 by decide) (.inl hk),
    get_put_jstGet]

end Dev

theorem exec_jstGet (t : Nat) (m : Master) (irq : Bool) (s : State) : exec (.jstGet t m irq) s = s.runAt t fun d => d.getLoad m irq := rfl

/-- Settles O8: four buffers hold four items, the bound is O7's, and the load of a full core changes its two words. -/
theorem heldFull : Obligations.HeldFull := by
  unfold Obligations.HeldFull
  refine ⟨fun d core h => h.length_le core, fun s u h e core => (holdsBounded s u h e).length_le core, fun t n irq s h => ?_⟩
  have hl : 4 ≤ ((s.dev.atTime t).heldBy n.val).length := h.ge
  refine completes_of_runAt (exec_jstGet t (.core n) irq s) ?_
  rw [Dev.getLoad_of_full hl]
  refine ⟨?_, ?_, ?_⟩
  · rw [Dev.settleOffers_get_jstGet, Dev.get_jstGet_raise_heldFull, Dev.get_answerIdle]
  · rw [Dev.settleOffers_get _ _ (by decide), Dev.get_raise _ _ rfl (by decide)]
  · simp

/-! ### Taking for a core (R185) -/

namespace Dev

theorem takeFor_of_select {d x : Dev} {core b : Nat} {i : JItem} (hs : d.select 0xFF (some core) = some (i, x))
    (hb : d.freeHold core = some b) : d.takeFor core = some (x.deliver core b i) := by
  unfold takeFor
  rw [hs, hb]

theorem mem_deliver_holds (d : Dev) (core b : Nat) (i : JItem) : HoldBuf.mk core b i ∈ (d.deliver core b i).jst.holds := by
  simp [deliver]

theorem deliver_items (d : Dev) (core b : Nat) (i : JItem) : (d.deliver core b i).jst.items = d.jst.items.erase i := by
  simp [deliver, unqueue]

/-! ### The end of a wait, and the release (R185, R188) -/

theorem settleOffers_get_doneStatus (d : Dev) (b : Nat) :
    d.settleOffers.get (Reg.JST_DONE_STATUS.status b) = d.get (Reg.JST_DONE_STATUS.status b) :=
  d.settleOffers_get_banked _ (by simp only [Reg.JST_DONE_STATUS.status]; omega)

/-- The release of an item in service: it leaves its buffer, and the core reads ST_OK and the buffers still in use. -/
def release (d : Dev) (core : Nat) (h : HoldBuf) : Dev :=
  let d1 : Dev := { d with jst := { d.jst with holds := d.jst.holds.erase h } }
  (d1.put (Reg.JST_DONE_STATUS.status core) ST_OK).put (Reg.JST_ITEM_SEL.in_use core) (sumOf (d1.heldBy core) (fun x => 2 ^ x.buf))

theorem release_holds (d : Dev) (core : Nat) (h : HoldBuf) : (d.release core h).jst.holds = d.jst.holds.erase h := by
  simp [release]

theorem get_doneStatus_release (d : Dev) (core : Nat) (h : HoldBuf) :
    (d.release core h).get (Reg.JST_DONE_STATUS.status core) = ST_OK := by
  have hk : (Reg.JST_ITEM_SEL.in_use core).key ≠ (Reg.JST_DONE_STATUS.status core).key := by
    simp only [Reg.JST_ITEM_SEL.in_use, Reg.JST_DONE_STATUS.status]
    omega
  unfold release
  extract_lets d1
  rw [get_put_of_ne _ _ _ _ (Nat.zero_le 7) (show 8 ≤ 11 by decide) (show 11 < 32 by decide) (.inl hk),
    get_put _ _ _ (Nat.zero_le 7) (show 7 < 32 by decide)]
  rfl

end Dev

/-! ### The commands -/

variable {t : Nat} {n : Fin 8} {s : State}

theorem jstGet_takes {i : JItem} {x : Dev} {b : Nat} (hr : s.dev.joistRuns = true) (hl : (s.dev.heldBy n.val).length < 4)
    (hs : (s.dev.atTime t).select 0xFF (some n.val) = some (i, x)) (hb : s.dev.freeHold n.val = some b) :
    Completes (.jstGet t (.core n) false) s fun d =>
      HoldBuf.mk n.val b i ∈ d.jst.holds ∧ d.jst.items = x.jst.items.erase i ∧
      d.get (Reg.JST_GET.word n.val) = descriptor i b % 2 ^ 32 := by
  have ht : (s.dev.atTime t).takeFor n.val = some (x.deliver n.val b i) := Dev.takeFor_of_select hs hb
  refine completes_of_runAt (exec_jstGet t (.core n) false s) ?_
  rw [Dev.getLoad_of_take (d := s.dev.atTime t) hl hr ht, Dev.settleOffers_jst, Dev.settleOffers_get_jstGet]
  exact ⟨x.mem_deliver_holds _ _ _, x.deliver_items _ _ _, x.get_jstGet_deliver _ _ _⟩

theorem jstGet_takes_nothing {m : Master} {irq : Bool}
    (h : isCore m = false ∨ s.dev.joistRuns = false ∨ 4 ≤ (s.dev.heldBy (bankOf m)).length ∨ irq = true) :
    Completes (.jstGet t m irq) s fun d => d.get (Reg.JST_GET.word (bankOf m)) = 0 ∧ d.jst = s.dev.jst := by
  refine completes_of_runAt (exec_jstGet t m irq s) ?_
  rw [Dev.settleOffers_get_jstGet, Dev.settleOffers_jst]
  rcases Dev.getLoad_of_no_take (d := s.dev.atTime t) m irq h with e | e <;> rw [e]
  · exact ⟨Dev.get_answerIdle _ _, Dev.answerIdle_jst _ _⟩
  · exact ⟨(Dev.get_jstGet_raise_heldFull _ _).trans (Dev.get_answerIdle _ _), by simp⟩

theorem jstGetDeliver_answers {c : Nat} {x : Dev}
    (h : s.dev.jst.waiting.findSome? (fun c => ((s.dev.atTime t).takeFor c).map (fun d' => (c, d'))) = some (c, x)) :
    Completes (.jstGetDeliver t) s fun d =>
      d.jst.holds = x.jst.holds ∧ d.jst.items = x.jst.items ∧ d.jst.waiting = x.jst.waiting.erase c := by
  refine completes_of_exec (execJstGetDeliver t s) rfl rfl ?_
  rw [show (s.dev.atTime t).jst.waiting.findSome? (fun c => ((s.dev.atTime t).takeFor c).map (fun d' => (c, d'))) = some (c, x) from h,
    Dev.settleOffers_jst]
  exact ⟨rfl, rfl, rfl⟩

theorem jstGetInterrupted_ends (h : s.dev.jst.waiting.contains n.val = true) :
    Completes (.jstGetInterrupted t n) s fun d =>
      d.get (Reg.JST_GET.word n.val) = 0 ∧ d.jst.waiting = s.dev.jst.waiting.erase n.val ∧ d.jst.items = s.dev.jst.items := by
  refine completes_of_exec (execJstGetInterrupted t n s) rfl rfl ?_
  rw [if_pos (show (s.dev.atTime t).jst.waiting.contains n.val = true from h), Dev.settleOffers_get_jstGet, Dev.settleOffers_jst,
    Dev.answerIdle_jst]
  exact ⟨Dev.get_answerIdle _ _, rfl, rfl⟩

theorem jstDone_releases {v : W32} {h : HoldBuf} (hv : v ≠ 0)
    (hf : s.dev.jst.holds.find? (fun h => h.core == n.val && h.buf == bits v.toNat 21 20 && h.item.tag == bits v.toNat 15 0) = some h) :
    Completes (.jstDone t (.core n) v) s fun d =>
      d.jst.holds = s.dev.jst.holds.erase h ∧ d.get (Reg.JST_DONE_STATUS.status n.val) = ST_OK := by
  have hv' : (v != 0) = true := by simpa using hv
  have hf' : (s.dev.atTime t).jst.holds.find? (fun h => h.core == bankOf (.core n) && isCore (.core n) &&
      h.buf == bits v.toNat 21 20 && h.item.tag == bits v.toNat 15 0 && v != 0) = some h := by
    simpa only [isCore, bankOf, hv', Bool.and_true, Dev.atTime_jst] using hf
  refine completes_of_exec (execJstDone t (.core n) v s) rfl rfl ?_
  dsimp only
  rw [hf', Dev.settleOffers_jst, Dev.settleOffers_get_doneStatus]
  exact ⟨Dev.release_holds _ _ _, (s.dev.atTime t).get_doneStatus_release _ _⟩

/-- Settles O13: one clause per command, by what the load, the wait's end and the release make of the machine. -/
theorem takingCompletes : Obligations.TakingCompletes :=
  ⟨fun _ _ _ _ _ _ hr hl hs hb => jstGet_takes hr hl hs hb, fun _ _ _ _ h => jstGet_takes_nothing h,
    fun _ _ _ _ h => jstGetDeliver_answers h, fun _ _ _ h => jstGetInterrupted_ends h, fun _ _ _ _ _ hv hf => jstDone_releases hv hf⟩

/-- Settles O4: no core holds an item after reset, and the rest is evaluated. -/
theorem resetInvariants : Obligations.ResetInvariants := by
  unfold Obligations.ResetInvariants
  refine ⟨?_, fun core => ?_, ?_⟩
  · constructor <;> decide
  · exact ⟨List.nodup_nil, fun _ h => absurd h List.not_mem_nil⟩
  · decide

end Sys2Proof.Machine
end

section
/-! PROOFS. Flushing a queue and the delay lists (R194-R201). -/

-- One proof at a time: a side condition left to `decide` waits for every declaration before it, each in a thread of its own.
set_option Elab.async false

namespace Sys2Proof.Machine

namespace Dev

variable {d : Dev}

/-! ### Flushing (R194-R196) -/

theorem discardQueue_items (d : Dev) (q : Nat) : (d.discardQueue q).jst.items = d.jst.items.filter (fun i => i.queue != q) := by
  unfold discardQueue
  extract_lets eng eids x y d1
  split
  · rfl
  · rw [raise_jst, bump_jst]

theorem flushQueue_items (d : Dev) (q : Nat) : (d.flushQueue q).jst.items = d.jst.items.filter (fun i => i.queue != q) := by
  unfold flushQueue
  extract_lets d1
  rw [discardQueue_items, put_jst, put_jst]

theorem get_flushQueue_queue (d : Dev) (q : Fin 64) : (d.flushQueue q.val).get Reg.JST_FLUSH_STATUS.queue = q.val := by
  unfold flushQueue
  extract_lets d1
  rw [(discardQueue_touches _ _).get Reg.JST_FLUSH_STATUS.queue, get_put _ _ _ (by decide) (by decide)]
  exact Nat.mod_eq_of_lt q.isLt

theorem flag_eq_false {f : Fld} (h : d.get f = 0) : d.flag f = false := by simp [flag, h]

theorem flag_eq_true {f : Fld} (h : d.get f = 1) : d.flag f = true := by simp [flag, h]

/-! ### The delay lists (R198-R201) -/

theorem settleOffers_get_tmrStatus (d : Dev) (b : Nat) :
    d.settleOffers.get (Reg.JST_TMR_STATUS.status b) = d.get (Reg.JST_TMR_STATUS.status b) :=
  d.settleOffers_get_banked _ (by simp only [Reg.JST_TMR_STATUS.status]; omega)

theorem get_put_tmrStatus (d : Dev) (b v : Nat) (h : v < 256 := by decide) :
    (d.put (Reg.JST_TMR_STATUS.status b) v).get (Reg.JST_TMR_STATUS.status b) = v :=
  (d.get_put _ _ (Nat.zero_le 7) (show 7 < 32 by decide)).trans (Nat.mod_eq_of_lt h)

theorem get_tmrStatus_put_armed (d : Dev) (b v : Nat) :
    (d.put Reg.JST_TMR_COUNT.armed v).get (Reg.JST_TMR_STATUS.status b) = d.get (Reg.JST_TMR_STATUS.status b) :=
  get_put_of_ne _ _ _ _ (Nat.zero_le 7) (by decide) (by decide)
    (.inl (by simp only [Reg.JST_TMR_COUNT.armed, Reg.JST_TMR_STATUS.status]; omega))

/-- The timer that a master's staged words arm. -/
def stagedTimer (d : Dev) (bank : Nat) : Timer :=
  ⟨d.freePlace, d.tagOf d.freePlace % 255 + 1, d.beat.count + d.get (Reg.JST_TMR_CFG.delay bank), d.jst.armOrder,
    d.get (Reg.JST_TMR_CFG.queue bank), d.get (Reg.JST_TMR_FLOW.flow bank),
    d.get (Reg.JST_TMR_DATA_HI.word bank) * 2 ^ 32 + d.get (Reg.JST_TMR_DATA_LO.word bank), false⟩

/-- The checks of R198 pass: the timer joins the store, and the master reads its ID. -/
theorem armTimer_of_room {bank : Nat} (hr : d.joistRuns = true) (hd : d.get (Reg.JST_TMR_CFG.delay bank) ≠ 0)
    (hf : flowReserved (d.get (Reg.JST_TMR_FLOW.flow bank)) = false) (hl : d.jst.timers.length < 65536) :
    ∃ x : Dev, x.jst.timers = d.jst.timers ++ [d.stagedTimer bank] ∧
      d.armTimer bank = (x.put (Reg.JST_TMR_STATUS.status bank) ST_OK).put Reg.JST_TMR_COUNT.armed (d.jst.timers.length + 1) := by
  unfold armTimer
  extract_lets delay flow queue word p tag u d1
  have h1 : ¬ (decide (delay = 0) || flowReserved flow) = true := by simpa using ⟨hd, hf⟩
  rw [if_neg (not_not.2 (joistState_of_runs hr)), if_neg h1, if_neg (Nat.not_le.2 hl)]
  exact ⟨_, by rw [put_jst]; rfl, rfl⟩

theorem dropTimer_timers (d : Dev) (x : Timer) : (d.dropTimer x).jst.timers = d.jst.timers.erase x := by
  simp [dropTimer]

theorem dropTimer_items (d : Dev) (x : Timer) : (d.dropTimer x).jst.items = d.jst.items := by
  simp [dropTimer]

end Dev

/-! ### The commands -/

variable {t : Nat} {m : Master} {s : State}

theorem jstFlush_discards {q : Fin 64} (h : s.dev.get Reg.JST_FLUSH_STATUS.busy = 0) :
    Completes (.jstFlush t m q) s fun d =>
      d.jst.items = s.dev.jst.items.filter (fun i => i.queue != q.val) ∧ d.get Reg.JST_FLUSH_STATUS.busy = 1 ∧
      d.get Reg.JST_FLUSH_STATUS.queue = q.val := by
  refine completes_of_exec (execJstFlush t m q s) rfl rfl ?_
  rw [if_neg (Bool.eq_false_iff.1 (Dev.flag_eq_false (d := s.dev.atTime t) h)), Dev.settleOffers_jst, Dev.put_jst,
    Dev.settleOffers_get _ _ (by decide), Dev.settleOffers_get _ _ (by decide), Dev.get_put _ _ _ (by decide) (by decide),
    Dev.get_put_of_ne _ _ _ _ (by decide) (by decide) (by decide) (by decide), Dev.get_flushQueue_queue, Dev.flushQueue_items]
  exact ⟨rfl, rfl, rfl⟩

theorem jstFlushDone_ends (h : s.dev.get Reg.JST_FLUSH_STATUS.busy = 1) :
    Completes (.jstFlushDone t) s fun d =>
      d.get Reg.JST_FLUSH_STATUS.busy = 0 ∧ d.get Reg.JST_IRQ_STATUS.flush_done = 1 ∧ d.jst = s.dev.jst := by
  refine completes_of_exec (execJstFlushDone t s) rfl rfl ?_
  rw [if_pos (Dev.flag_eq_true (d := s.dev.atTime t) h), Dev.settleOffers_jst, Dev.settleOffers_get _ _ (by decide),
    Dev.settleOffers_get _ _ (by decide), Dev.get_offer, Dev.get_offer, Dev.get_raise _ _ rfl (by decide),
    Dev.get_raise_of_ne _ _ Reg.JST_FLUSH_STATUS.busy (by decide) (by decide) (by decide) (by decide),
    Dev.get_put _ _ _ (by decide) (by decide)]
  exact ⟨rfl, rfl, by simp⟩

theorem jstTmrArm_arms (hr : s.dev.joistRuns = true) (hd : s.dev.get (Reg.JST_TMR_CFG.delay (bankOf m)) ≠ 0)
    (hf : flowReserved (s.dev.get (Reg.JST_TMR_FLOW.flow (bankOf m))) = false) (hl : s.dev.jst.timers.length < 65536) :
    Completes (.jstTmrArm t m) s fun d =>
      d.jst.timers = s.dev.jst.timers ++ [s.dev.stagedTimer (bankOf m)] ∧ d.get (Reg.JST_TMR_STATUS.status (bankOf m)) = ST_OK := by
  obtain ⟨x, hx, e⟩ := Dev.armTimer_of_room (d := s.dev.atTime t) (bank := bankOf m) hr hd hf hl
  refine completes_of_exec (execJstTmrArm t m s) rfl rfl ?_
  rw [e, Dev.settleOffers_jst, Dev.settleOffers_get_tmrStatus, Dev.get_tmrStatus_put_armed, Dev.get_put_tmrStatus _ _ ST_OK, Dev.put_jst,
    Dev.put_jst, hx]
  exact ⟨rfl, rfl⟩

theorem jstTmrCancel_completes (v : W32) : Completes (.jstTmrCancel t m v) s fun d =>
    match s.dev.jst.timers.find? (fun x => x.tag * 65536 + x.place == bits v.toNat 23 0) with
    | some x => d.jst.timers = s.dev.jst.timers.erase x ∧ d.get (Reg.JST_TMR_STATUS.status (bankOf m)) = ST_OK
    | none => d.jst.timers = s.dev.jst.timers ∧ d.get (Reg.JST_TMR_STATUS.status (bankOf m)) = ST_STALE := by
  refine completes_of_exec (execJstTmrCancel t m v s) rfl rfl ?_
  unfold Dev.cancelTimer
  rw [Dev.atTime_jst]
  cases s.dev.jst.timers.find? (fun x => x.tag * 65536 + x.place == bits v.toNat 23 0) with
  | some x =>
    dsimp only
    rw [Dev.settleOffers_jst, Dev.settleOffers_get_tmrStatus, Dev.get_put_tmrStatus _ _ ST_OK, Dev.put_jst, Dev.dropTimer_timers]
    exact ⟨rfl, rfl⟩
  | none =>
    dsimp only
    rw [Dev.settleOffers_jst, Dev.settleOffers_get_tmrStatus, Dev.get_put_tmrStatus _ _ ST_STALE, Dev.put_jst]
    exact ⟨rfl, rfl⟩

theorem jstTimerRelease_pushes {x : Timer} {d' : Dev} {b : Bool} (hl : s.dev.jst.released < 4096)
    (hx : s.dev.dueTimers.find? (fun y => !s.dev.jst.stopped.contains y.queue) = some x)
    (hp : (s.dev.atTime t).push x.queue x.flow producerTimers [x.word] = (d', ST_OK, b)) :
    Completes (.jstTimerRelease t) s fun d =>
      d.jst.items = d'.jst.items ∧ d.jst.timers = d'.jst.timers.erase x ∧ d.jst.released = s.dev.jst.released + 1 := by
  have hx' : (s.dev.atTime t).dueTimers.find? (fun y => !(s.dev.atTime t).jst.stopped.contains y.queue) = some x := hx
  refine completes_of_exec (execJstTimerRelease t s) rfl rfl ?_
  rw [if_neg (Nat.not_le.2 (show (s.dev.atTime t).jst.released < 4096 from hl)), hx']
  dsimp only
  rw [hp, if_pos rfl, Dev.settleOffers_jst]
  exact ⟨d'.dropTimer_items x, d'.dropTimer_timers x, rfl⟩

/-- Settles O14: one clause per command. -/
theorem flushAndTimersComplete : Obligations.FlushAndTimersComplete :=
  ⟨fun _ _ _ _ h => jstFlush_discards h, fun _ _ h => jstFlushDone_ends h, fun _ _ _ hr hd hf hl => jstTmrArm_arms hr hd hf hl,
    fun _ _ v _ => jstTmrCancel_completes v, fun _ _ _ _ _ hl _ hx hp => jstTimerRelease_pushes hl hx hp⟩

end Sys2Proof.Machine
end

section
/-! PROOFS. What the Joist's commands leave unchanged (R181-R201). -/

-- One proof at a time: a side condition left to `decide` waits for every declaration before it, each in a thread of its own.
set_option Elab.async false

namespace Sys2Proof.Machine

/-! ### Pushing (R181, R182) -/

namespace Dev

/-- The words staged for a master's item (R181). -/
def HalfWord (b k : Nat) : Prop := ∃ i < 16, k = (Reg.JST_PUSH_W.word b i).key

theorem clearHalves_confined (d : Dev) (b : Nat) {ks : List Nat} :
    Confined [.jst] ks (HalfWord b) d ((List.range 8).foldl (fun (d : Dev) k => d.put (Reg.JST_PUSH_W.word b (2 * k + 1)) 0) d) := by
  refine (Confined.refl d).foldl _ fun x k hk => ?_
  have hk8 : k < 8 := List.mem_range.1 hk
  exact (((Touches.refl x).put (ps := []) (ks := [(Reg.JST_PUSH_W.word b (2 * k + 1)).key]) _ _ (.head _)).within fun j hj =>
    .inr ⟨2 * k + 1, by omega, List.mem_singleton.1 hj⟩)

theorem dropStage_touches (d : Dev) (b : Nat) {ks : List Nat} : Touches [.jst] ks d (d.dropStage b) := (Touches.refl d).setJst _

/-- The word of a master's JST_PUSH_STATUS. -/
def pushStatusKeys (b : Nat) : List Nat := keysOf [Reg.JST_PUSH_STATUS.word b]

theorem pushStatus_touches (d : Dev) (b st : Nat) (pool : Bool) : Touches [] (pushStatusKeys b) d (d.pushStatus b st pool) :=
  .put _ _ (.putB _ _ (.put _ _ (.refl d) (.head _)) (.head _)) (.head _)

/-- The words of a commit, the counts of refused pushes apart. -/
def pushCommitKeys (b : Nat) : List Nat := keysOf [Reg.JST_IRQ_STATUS.word, Reg.JST_PUSH_STATUS.word b]

theorem pushStatus_confined (d : Dev) (b st : Nat) (pool : Bool) :
    Confined [.jst] (pushCommitKeys b) QRefused d (d.pushStatus b st pool) :=
  (d.pushStatus_touches b st pool).confined (hk := List.subset_cons_self _ _)

theorem pushCommit_confined (d : Dev) (b : Nat) : Confined [.jst] (pushCommitKeys b) QRefused d (d.pushCommit b) := by
  have h0 : Confined [.jst] (pushCommitKeys b) QRefused d (d.dropStage b) := (Confined.refl d).step (d.dropStage_touches b)
  unfold pushCommit
  extract_lets st q f bad d0
  have hbad (x : Dev) : Confined [.jst] (pushCommitKeys b) QRefused x (bad x) := (x.pushStatus_confined _ _ _).offer _ _
  clear_value bad
  refine .ite (fun _ => h0.trans (pushStatus_confined _ _ _ _)) fun _ => ?_
  cases st with
  | none => exact hbad d
  | some x =>
    dsimp only
    refine .ite (fun _ => h0.trans (pushStatus_confined _ _ _ _)) fun _ => .ite (fun _ => h0.trans (hbad _)) fun _ => ?_
    have hr : Confined [.jst] (pushCommitKeys b) QRefused d0 (d0.push x.queue x.flow b (x.words.take x.count)).1 :=
      (push_confined _ _ _ _ _ _).mono (fun _ => .inr) (hk := fun k hk => by rw [List.mem_singleton.1 hk]; exact .head _)
    exact (h0.trans hr).trans (pushStatus_confined _ _ _ _)

/-! ### Taking and releasing (R185, R188) -/

/-- The words of a core that takes an item. -/
def takeKeys (b : Nat) : List Nat := keysOf [Reg.JST_GET.word b, Reg.JST_ITEM_SEL.word b]

theorem answerIdle_touches (d : Dev) (b : Nat) : Touches [] [(Reg.JST_GET.word b).key] d (d.answerIdle b) :=
  .put _ _ (.refl d) (.head _)

theorem deliver_touches (d : Dev) (b buf : Nat) (i : JItem) : Touches [.jst] (takeKeys b) d (d.deliver b buf i) := by
  unfold deliver
  extract_lets x y d1
  have h1 : Touches [.jst] (takeKeys b) d d1 := ((Touches.refl d).setJst _).setJst _
  exact .put _ _ (.put _ _ (.put _ _ h1 (.head _)) (.tail _ (.head _))) (.tail _ (.head _))

theorem takeFor_touches {d r : Dev} {b : Nat} (e : d.takeFor b = some r) : Touches [.jst] (takeKeys b) d r := by
  unfold takeFor at e
  split at e
  · next i d' buf hs _ =>
    cases e
    exact ((select_touches hs).mono (hk := List.nil_subset _)).trans (d'.deliver_touches b buf i)
  · cases e

/-- The words of a load of JST_GET. -/
def getKeys (b : Nat) : List Nat := keysOf [Reg.JST_GET.word b, Reg.JST_IRQ_STATUS.word, Reg.JST_ITEM_SEL.word b]

theorem getLoad_touches (d : Dev) (m : Master) (irq : Bool) : Touches [.jst] (getKeys (bankOf m)) d (d.getLoad m irq) := by
  have hi (b : Nat) : Touches [.jst] (getKeys b) d (d.answerIdle b) :=
    (d.answerIdle_touches b).mono (hk := fun k hk => by rw [List.mem_singleton.1 hk]; exact .head _)
  cases m with
  | other => exact hi _
  | core n =>
    refine .ite (fun _ => .raise _ (hi _) (.tail _ (.head _))) fun _ => .ite (fun _ => hi _) fun _ => .ite (fun _ => hi _) fun _ => ?_
    split
    · next e =>
      exact (takeFor_touches e).mono (hk := List.cons_subset_cons _ (List.subset_cons_self _ _))
    · exact .ite (fun _ => .refl d) fun _ => (Touches.refl d).setJst _

/-- The words that a core's answer writes. -/
def TakeWord (k : Nat) : Prop := (∃ b, k = (Reg.JST_GET.word b).key) ∨ (∃ b, k = (Reg.JST_ITEM_SEL.word b).key)

theorem takeWord_of_mem {b k : Nat} (h : k ∈ takeKeys b) : TakeWord k := by
  rcases List.mem_cons.1 h with rfl | h
  · exact .inl ⟨b, rfl⟩
  · exact .inr ⟨b, List.mem_singleton.1 h⟩

/-! ### Flushing and the delay lists (R194-R201) -/

/-- The words of a flush. -/
def flushKeys : List Nat := keysOf [Reg.JST_FLUSH_STATUS.word, Reg.RFT_CS_REFUSED.word, Reg.RFT_IRQ_STATUS.word]

theorem discardQueue_touches_engine (d : Dev) (q : Nat) : Touches [.rft, .jst] flushKeys d (d.discardQueue q) := by
  unfold discardQueue
  extract_lets eng eids x y d1
  have h1 : Touches [.rft, .jst] flushKeys d d1 := (d.setQueues_touches _ _).mono
  exact .ite (fun _ => h1) fun _ => (h1.bump _ _).raise _

theorem flushQueue_touches (d : Dev) (q : Nat) : Touches [.rft, .jst] flushKeys d (d.flushQueue q) := by
  unfold flushQueue
  extract_lets x d1
  exact ((((Touches.refl d).setJst _).put _ _).put _ _).trans (discardQueue_touches_engine _ _)

/-- The words of a master's timer. -/
def timerKeys (b : Nat) : List Nat := keysOf [Reg.JST_TMR_COUNT.word, Reg.JST_TMR_STATUS.word b]

theorem armRefused_touches (d : Dev) (b st : Nat) : Touches [.jst] (timerKeys b) d (d.armRefused b st) :=
  .put _ _ (.put _ _ (.refl d) (.tail _ (.head _))) (.tail _ (.head _))

theorem armTimer_touches (d : Dev) (b : Nat) : Touches [.jst] (timerKeys b) d (d.armTimer b) := by
  have hs : (Reg.JST_TMR_STATUS.word b).key ∈ timerKeys b ++ eventKeys := .tail _ (.head _)
  unfold armTimer
  extract_lets delay flow queue word p tag u d1
  have h1 : Touches [.jst] (timerKeys b) d d1 := (Touches.refl d).setJst _
  exact .ite (fun _ => d.armRefused_touches b _) fun _ => .ite (fun _ => d.armRefused_touches b _) fun _ =>
    .ite (fun _ => (d.armRefused_touches b _).offer _ _) fun _ => .put _ _ (.put _ _ (.put _ _ h1 hs) hs) (.head _)

theorem dropTimer_touches (d : Dev) (x : Timer) : Touches [.jst] [Reg.JST_TMR_COUNT.word.key] d (d.dropTimer x) :=
  ((Touches.refl d).setJst _).put _ _

theorem cancelTimer_touches (d : Dev) (b id : Nat) : Touches [.jst] (timerKeys b) d (d.cancelTimer b id) := by
  have hs : (Reg.JST_TMR_STATUS.word b).key ∈ timerKeys b ++ eventKeys := .tail _ (.head _)
  unfold cancelTimer
  split
  · next x _ =>
    exact .put _ _ ((d.dropTimer_touches x).mono (hk := fun k hk => by rw [List.mem_singleton.1 hk]; exact .head _)) hs
  · exact .put _ _ (.refl d) hs

end Dev

/-! ### The commands -/

theorem jstPushOpen_frame (t : Nat) (m : Master) (v : W32) : Frame (.jstPushOpen t m v) [.jst]
    (fun k => k ∈ Dev.keysOf [Reg.JST_PUSH_STATUS.word (bankOf m)] ∨ (∃ i < 16, k = (Reg.JST_PUSH_W.word (bankOf m) i).key)) := by
  refine frame_of_confined (P := Dev.HalfWord (bankOf m)) (execJstPushOpen t m v) (fun _ => rfl) (fun _ => rfl) fun d => ?_
  extract_lets b d0 st d1 y
  have h0 : Confined [.jst] (Dev.pushStatusKeys b) (Dev.HalfWord b) d d0 := (Confined.refl d).step (d.dropStage_touches b)
  have h1 : Confined [.jst] (Dev.pushStatusKeys b) (Dev.HalfWord b) d d1 := h0.trans (d0.clearHalves_confined b)
  exact h1.step (.put _ _ ((Touches.refl d1).setJst _) (.head _))

theorem jstPushWord_frame (t : Nat) (m : Master) (i : Fin 16) (v : W32) : Frame (.jstPushWord t m i v) [.jst]
    (fun k => k ∈ Dev.keysOf [Reg.JST_PUSH_W.word (bankOf m) i.val, Reg.JST_PUSH_W.word (bankOf m) (i.val + 1)]) := by
  refine frame_of_exec (ks := Dev.keysOf [Reg.JST_PUSH_W.word (bankOf m) i.val, Reg.JST_PUSH_W.word (bankOf m) (i.val + 1)])
    (execJstPushWord t m i v) (fun _ => rfl) (fun _ => rfl) (fun d => ?_) fun _ h => h
  extract_lets b x d1
  split
  · exact .refl d
  · exact .ite (fun _ => .refl d) fun _ => .ite (fun _ => .put _ _ (.refl d) (.head _)) fun _ =>
      (Touches.put _ _ (.refl d) (.tail _ (.head _))).setJst _

theorem jstGetDeliver_frame (t : Nat) : Frame (.jstGetDeliver t) [.jst] Dev.TakeWord := by
  intro s
  refine completes_of_exec (execJstGetDeliver t s) rfl rfl ?_
  split
  · next c d' e =>
    obtain ⟨c', -, e1⟩ := List.exists_of_findSome?_eq_some e
    obtain ⟨x, e2, e3⟩ := Option.map_eq_some_iff.1 e1
    cases e3
    have h : Touches [.jst] (Dev.takeKeys c) s.dev d' := ((Touches.refl s.dev).atTime t).trans (Dev.takeFor_touches e2)
    have h' := (h.setJst { d'.jst with waiting := d'.jst.waiting.erase c }).settleOffers
    exact ⟨h'.parts, fun k hk he => h'.regs k (fun hm => hk (Dev.takeWord_of_mem hm)) he⟩
  · have h : Touches [.jst] [] s.dev (s.dev.atTime t).settleOffers := ((Touches.refl s.dev).atTime t).settleOffers
    exact ⟨h.parts, fun k _ he => h.regs k (List.not_mem_nil) he⟩

theorem jstDone_frame (t : Nat) (m : Master) (v : W32) : Frame (.jstDone t m v) [.jst]
    (fun k => k ∈ Dev.keysOf [Reg.JST_DONE_STATUS.word (bankOf m), Reg.JST_IRQ_STATUS.word, Reg.JST_ITEM_SEL.word (bankOf m)]) := by
  refine frame_of_exec
    (ks := Dev.keysOf [Reg.JST_DONE_STATUS.word (bankOf m), Reg.JST_IRQ_STATUS.word, Reg.JST_ITEM_SEL.word (bankOf m)])
    (execJstDone t m v) (fun _ => rfl) (fun _ => rfl) (fun d => ?_) fun _ h => h
  extract_lets b
  split
  · exact .put _ _ (.put _ _ ((Touches.refl d).setJst _) (.head _)) (.tail _ (.tail _ (.head _)))
  · exact .offer _ _ (.raise _ (.put _ _ (.refl d) (.head _)) (.tail _ (.head _)))

/-- The words of a release, the counts of refused pushes apart. -/
def releaseKeys : List Nat := Dev.keysOf [Reg.JST_IRQ_STATUS.word, Reg.JST_TMR_COUNT.word, Reg.JST_TMR_DEFER.word]

theorem jstTimerRelease_frame (t : Nat) : Frame (.jstTimerRelease t) [.jst]
    (fun k => k ∈ releaseKeys ∨ (∃ i < 64, k = (Reg.JST_QREFUSED.word i).key)) := by
  refine frame_of_confined (P := Dev.QRefused) (execJstTimerRelease t) (fun _ => rfl) (fun _ => rfl) fun d => ?_
  refine .ite (fun _ => .refl d) fun _ => ?_
  split
  · exact .refl d
  next x _ =>
    extract_lets r y d1 z
    have hr : Confined [.jst] releaseKeys Dev.QRefused d r.1 := (d.push_confined _ _ _ _ _).mono fun _ => .inr
    exact .ite (fun _ => (hr.andThen (Dev.dropTimer_touches _ _)).step ((Touches.refl _).setJst _)) fun _ =>
      hr.step ((((Touches.refl r.1).bump _).raise _).setJst _)

/-- Settles O44: each command touches the components and words named. -/
theorem joistFrames : Obligations.JoistFrames := by
  unfold Obligations.JoistFrames
  exact ⟨jstPushOpen_frame, jstPushWord_frame,
    fun t m => frame_of_confined (execJstPushCommit t m) (fun _ => rfl) (fun _ => rfl) fun d => d.pushCommit_confined _,
    fun t m => frame_of_exec (ks := Dev.pushStatusKeys (bankOf m)) (execJstPushAbandon t m) (fun _ => rfl) (fun _ => rfl)
      (fun d => .put _ _ (d.dropStage_touches _) (.head _)) fun _ h => h,
    fun t m irq => frame_of_exec (ks := Dev.getKeys (bankOf m)) (execJstGet t m irq) (fun _ => rfl) (fun _ => rfl)
      (fun d => d.getLoad_touches m irq) fun _ h => h,
    jstGetDeliver_frame,
    fun t core => frame_of_exec (ks := [(Reg.JST_GET.word core.val).key]) (execJstGetInterrupted t core) (fun _ => rfl) (fun _ => rfl)
      (fun d => .ite (fun _ => ((Touches.refl d).setJst _).trans ((Dev.answerIdle_touches _ _).mono (hk := List.Subset.refl _)))
        fun _ => .refl d) fun _ h => h,
    jstDone_frame,
    fun t m queue => frame_of_exec (ks := Dev.flushKeys) (execJstFlush t m queue) (fun _ => rfl) (fun _ => rfl)
      (fun d => .ite (fun _ => .refl d) fun _ => (d.flushQueue_touches _).put _ _) fun _ h => h,
    fun t => frame_of_exec (ks := Dev.keysOf [Reg.JST_FLUSH_STATUS.word, Reg.JST_IRQ_STATUS.word]) (execJstFlushDone t) (fun _ => rfl)
      (fun _ => rfl) (fun d => .ite (fun _ => (((Touches.refl d).put _ _).raise _).offer _ _) fun _ => .refl d) fun _ h => h,
    fun t m => frame_of_exec (ks := Dev.timerKeys (bankOf m)) (execJstTmrArm t m) (fun _ => rfl) (fun _ => rfl)
      (fun d => d.armTimer_touches _) fun _ h => h,
    fun t m v => frame_of_exec (ks := Dev.timerKeys (bankOf m)) (execJstTmrCancel t m v) (fun _ => rfl) (fun _ => rfl)
      (fun d => d.cancelTimer_touches _ _) fun _ h => h,
    jstTimerRelease_frame⟩

end Sys2Proof.Machine
end

section
/-! PROOFS. Media: airtime, items taken, frames and beacons (R188, R211, R229-R249, R266, R270). -/

-- One proof at a time: a side condition left to `decide` waits for every declaration before it, each in a thread of its own.
set_option Elab.async false

namespace Sys2Proof.Machine

/-! ### Bytes of a frame -/

/-- A field of what follows the first bytes of a frame. -/
theorem slice_drop (b : Bytes) (k off n : Nat) : slice (b.drop k) off n = slice b (k + off) n := by
  simp only [slice, List.drop_drop]

/-! ### The booking of a transmission leaves what is sent (R211) -/

theorem bookAir_kept (s : RadSt) (ch mode t : Nat) : (bookAir s ch mode t).air = s.air ∧ (bookAir s ch mode t).bcastFc = s.bcastFc ∧
    (bookAir s ch mode t).beaconBeat = s.beaconBeat := by
  unfold bookAir
  split <;> exact ⟨rfl, rfl, rfl⟩

theorem settled_kept (s : RadSt) : s.settled.air = s.air ∧ s.settled.bcastFc = s.bcastFc ∧ s.settled.beaconBeat = s.beaconBeat := by
  unfold RadSt.settled
  split
  · exact bookAir_kept s _ _ _
  · exact ⟨rfl, rfl, rfl⟩

namespace Dev

variable {d x : Dev}

/-! ### Radios and ports -/

theorem radAt_setRad_self {r : Nat} (f : RadSt → RadSt) (h : r < d.rad.length) : (d.setRad r f).radAt r = f (d.radAt r) := by
  have hx : d.rad[r]? = some d.rad[r] := List.getElem?_eq_getElem h
  have hs : (d.setRad r f).rad[r]? = some (f d.rad[r]) := modifyAt_self f hx
  rw [radAt, radAt, List.getD_eq_getElem?_getD, List.getD_eq_getElem?_getD, hs, hx]
  rfl

theorem length_rad_setRad (d : Dev) (r : Nat) (f : RadSt → RadSt) : (d.setRad r f).rad.length = d.rad.length := by
  simp [setRad, modifyAt]

theorem radAt_of_rad (h : x.rad = d.rad) (r : Nat) : x.radAt r = d.radAt r := by rw [radAt, radAt, h]

theorem trkAt_of_trk (h : x.trk = d.trk) (p : Nat) : x.trkAt p = d.trkAt p := by rw [trkAt, trkAt, h]

/-! ### The counters of a medium (R230, R275) -/

/-- The counter of a medium. -/
def cntWord (md i : Nat) : Fld := if md < 4 then Reg.RAD_CNT.word md i else Reg.TRK_CNT.word (trkWindow (md - 4)) i

theorem cnt_eq_bump (d : Dev) (md i : Nat) : d.cnt md i = d.bump (cntWord md i) := by
  unfold cnt cntWord
  split <;> rfl

theorem cnt_touches (d : Dev) (md i : Nat) : Touches [] [(cntWord md i).key] d (d.cnt md i) := by
  rw [cnt_eq_bump]
  exact .bump _ (.refl d) (hf := .head _)

theorem cnt_rad (d : Dev) (md i : Nat) : (d.cnt md i).rad = d.rad := (cnt_touches d md i).parts .rad (by decide)

theorem deliverRx_rad (d : Dev) (q flow producer : Nat) (words : List Nat) : (d.deliverRx q flow producer words).1.rad = d.rad :=
  (d.push_touches q flow producer words []).parts .rad (by decide)

/-- What a delivery ends with, an interrupt or a count, leaves the radios. -/
theorem rad_of_delivered (x : Dev × Bool) (f : Fld) (md i : Nat) : (if x.2 then x.1.raise f else x.1.cnt md i).rad = x.1.rad := by
  split
  · exact raise_rad _ _
  · exact cnt_rad _ _ _

theorem cntWord_span (md i : Nat) : (cntWord md i).lo = 0 ∧ (cntWord md i).hi = 31 := by
  unfold cntWord
  split <;> exact ⟨rfl, rfl⟩

theorem get_cnt (d : Dev) (md i : Nat) : (d.cnt md i).get (cntWord md i) = min (d.get (cntWord md i) + 1) (2 ^ 32 - 1) := by
  obtain ⟨hl, hh⟩ := cntWord_span md i
  rw [cnt_eq_bump, get_bump _ _ (by omega) (by omega), hl, hh]

theorem cntWord_radio (r : Fin 4) (i : Nat) : cntWord r.val i = Reg.RAD_CNT.word r.val i := if_pos r.isLt

theorem cntWord_port (p i : Nat) : cntWord (portMedium p) i = Reg.TRK_CNT.word (trkWindow p) i := if_neg (by unfold portMedium; omega)

/-- A frame that is only counted (R233, R249). -/
theorem counted (d : Dev) (md i : Nat) (he : (cntWord md i).key ∉ eventKeys) :
    (d.cnt md i).settleOffers.get (cntWord md i) = min (d.get (cntWord md i) + 1) (2 ^ 32 - 1) := by
  rw [settleOffers_get _ _ he, get_cnt]

/-! ### Items taken (R188, R229, R252) -/

theorem takeRadio_of_fits {r : Nat} {i : JItem} (hr : d.joistRuns = true) (hm : d.mediumPresent r = true)
    (ht : d.takeForConsumer r = some (i, x)) (hh : d.mirrorHeld i = false) (hf : d.ringFits r (radioItemSize i) = true) :
    d.takeRadio r = (x.placeRadio r i).endService r i := by
  unfold takeRadio
  rw [if_neg (by simp [hr, hm]), ht]
  exact if_neg (by simp [hh, hf])

/-- The item is a raw frame of UPLINK or TIE (R266). -/
def isRaw (p : Nat) (i : JItem) : Bool := 8 ≤ p && i.producer != producerEngine && bits (i.words.headD 0) 15 0 == 0xFFFF

theorem isRaw_iff {p : Nat} {i : JItem} :
    isRaw p i = true ↔ 8 ≤ p ∧ i.producer ≠ producerEngine ∧ bits (i.words.headD 0) 15 0 = 0xFFFF := by
  rw [isRaw, Bool.and_eq_true, Bool.and_eq_true, decide_eq_true_iff, bne_iff_ne, beq_iff_eq, and_assoc]

theorem isRaw_false {p : Nat} {i : JItem} (h : p < 8 ∨ i.producer = producerEngine ∨ bits (i.words.headD 0) 15 0 ≠ 0xFFFF) :
    isRaw p i = false := by
  rw [Bool.eq_false_iff, ne_eq, isRaw_iff]
  rintro ⟨h8, hprod, hhandle⟩
  rcases h with h | h | h
  · omega
  · exact hprod h
  · exact h hhandle

theorem takeWired_of_fits {p : Nat} {i : JItem} (hr : d.joistRuns = true) (hm : d.mediumPresent (portMedium p) = true)
    (ht : d.takeForConsumer (portMedium p) = some (i, x)) (hh : d.mirrorHeld i = false) (hraw : isRaw p i = false)
    (hf : ∀ n, d.wiredItemSize p i = some n → d.ringFits (portMedium p) n = true) :
    d.takeWired p = (x.placeWired p i).endService (portMedium p) i := by
  have hall : (d.wiredItemSize p i).all (fun n => d.ringFits (portMedium p) n) = true := by
    simpa [Option.all_eq_true] using hf
  unfold takeWired
  extract_lets md
  rw [if_neg (by simp [md, hr, hm]), ht]
  exact (if_neg (Bool.eq_false_iff.1 hh)).trans ((if_neg (Bool.eq_false_iff.1 hraw)).trans (if_neg (by simpa using hall)))

/-- A raw frame of a legal length without a launch time waits in the port's list (R266). -/
theorem takeRaw_of_untimed (x : Dev) (p : Nat) {i : JItem} (h60 : 60 ≤ bits (i.words.headD 0) 26 16)
    (h1518 : bits (i.words.headD 0) 26 16 ≤ 1518) (h28 : bit (i.words.headD 0) 28 = false) :
    ∃ y : RawTx, y.item = i ∧ x.takeRaw p i = x.setTrk p (fun s => { s with raw := s.raw ++ [y] }) := by
  unfold takeRaw
  extract_lets w0 w2 timed dsec launch past y
  have ht : timed = false := h28
  have hp : past = false := by simp [past, ht]
  refine ⟨y, rfl, ?_⟩
  rw [if_neg (by simpa [y] using ⟨h60, h1518⟩), if_neg (by simp [hp]), if_neg (by simp [ht])]

theorem takeWired_of_raw {p : Nat} {i : JItem} (hr : d.joistRuns = true) (hm : d.mediumPresent (portMedium p) = true)
    (ht : d.takeForConsumer (portMedium p) = some (i, x)) (hh : d.mirrorHeld i = false) (hraw : isRaw p i = true)
    (hl : (d.trkAt p).launch.length < 16) : d.takeWired p = x.takeRaw p i := by
  unfold takeWired
  extract_lets md
  rw [if_neg (by simp [md, hr, hm]), ht]
  exact (if_neg (Bool.eq_false_iff.1 hh)).trans ((if_pos hraw).trans (if_neg (Nat.not_le.2 hl)))

theorem endService_jst (d : Dev) (consumer : Nat) (i : JItem) :
    (d.endService consumer i).jst = { d.jst with service := d.jst.service.erase (Service.mk consumer i) } := rfl

/-! ### The main receiver (R233, R240) -/

/-- The main receiver takes the frame on air: the radio has a plan, is fitted, not under test and awake. -/
def Hears (d : Dev) (r : Nat) (p : RadPlan) : Prop :=
  (d.radAt r).plan = some p ∧ bit (d.get Reg.BST_UNIT0.radios) r = true ∧ d.mediumTested r = false ∧ d.mainReceiver r = true

theorem radioRx_of_fcs {r : Nat} {p : RadPlan} {f : RadioRx} (h : d.Hears r p) (hphr : f.phrOk = true) (hfcs : f.fcsOk = false) :
    d.radioRx r f = d.cnt r 3 := by
  obtain ⟨hp, hb, ht, hm⟩ := h
  unfold radioRx
  rw [hp]
  dsimp only
  rw [if_neg (by simp [hb, ht, hm]), if_neg (by simp [hphr]), if_pos (by simp [hfcs])]

/-- The words of a BEACON received. -/
def beaconWords (d : Dev) (f : RadioRx) : List Nat :=
  rxWords (d.rxStamp f.sfdAgo).1 (d.rxStamp f.sfdAgo).2 0xFFFF (byteAt f.psdu 0) (f.psdu.length - 16) f.rssi f.channel (fieldLE f.psdu 6 2)
    (f.psdu.drop 16)

theorem radioRx_of_beacon {r : Nat} {p : RadPlan} {f : RadioRx} (h : d.Hears r p) (hphr : f.phrOk = true) (hfcs : f.fcsOk = true)
    (h16 : 16 ≤ f.psdu.length) (h62 : f.psdu.length ≤ 62) (htyp : byteAt f.psdu 0 % 16 = 5) (hver : byteAt f.psdu 1 = 1)
    (hnet : fieldLE f.psdu 2 2 = p.netId) (hrad : bits (fieldLE f.psdu 4 2) 11 10 = r) :
    ∃ i, d.radioRx r f = (d.deliverRx p.rxQueue 0x3FFFF (producerRadio r) (d.beaconWords f)).1.cnt r i := by
  obtain ⟨hp, hb, ht, hm⟩ := h
  have hw : rxWords (d.rxStamp f.sfdAgo).1 (d.rxStamp f.sfdAgo).2 0xFFFF (byteAt f.psdu 0) (f.psdu.drop 16).length f.rssi f.channel
      (fieldLE f.psdu 6 2) (f.psdu.drop 16) = d.beaconWords f := by
    unfold beaconWords
    rw [List.length_drop]
  unfold radioRx
  rw [hp]
  dsimp only
  rw [if_neg (by simp [hb, ht, hm]), if_neg (by simp [hphr]), if_neg (by simp [hfcs]), htyp,
    if_neg (by simp; omega), if_neg (by simp [hver, hnet, hrad]), if_pos rfl, ← hw]
  split
  · exact ⟨2, rfl⟩
  · exact ⟨8, rfl⟩

/-! ### Beacons (R236) -/

/-- A frame that goes on air has the channel and the airtime that its transmission takes (R211). -/
theorem tryAir_of_sent {r ch mode preamble : Nat} {psdu : Bytes} (h : (d.tryAir r ch mode preamble psdu).1 = .sent) :
    d.tryAir r ch mode preamble psdu = (.sent, d.transmit r ch mode preamble (airtime mode preamble (psdu.length + 4)) (onAir psdu)) := by
  unfold tryAir at h ⊢
  extract_lets at h ⊢
  split_ifs at h ⊢
  split at h
  · cases h
  · rfl

theorem radAt_transmit {r : Nat} (hr : r < d.rad.length) (ch mode preamble t : Nat) (bytes : Bytes) :
    ((d.transmit r ch mode preamble t bytes).radAt r).bcastFc = (d.radAt r).bcastFc ∧
    ((d.transmit r ch mode preamble t bytes).radAt r).beaconBeat = (d.radAt r).beaconBeat ∧
    ((d.transmit r ch mode preamble t bytes).radAt r).air =
      (d.radAt r).air ++ [⟨ch, mode, preamble, txPower (d.radAt r) ch mode, bytes, d.now⟩] := by
  obtain ⟨-, hf, hb⟩ := settled_kept (d.radAt r)
  rw [transmit, radAt_setRad_self _ hr]
  exact ⟨hf, hb, rfl⟩

/-- A beacon of this radio is due now, and has not been sent. -/
def BeaconDue (d : Dev) (r : Nat) (p : RadPlan) : Prop :=
  (d.radAt r).plan = some p ∧ d.linksRun = true ∧ d.mediumPresent r = true ∧ d.mediumTested r = false ∧
  beaconBeat p d.beat.count = true ∧ d.beat.sinceBase / 1000 = p.beaconOffset ∧ (d.radAt r).beaconBeat ≠ some d.beat.count

/-- The due beacon is marked before its key is used. -/
def beaconMarked (d : Dev) (r : Nat) : Dev := d.setRad r (fun x => { x with beaconBeat := some d.beat.count })

theorem radAt_beaconMarked {r : Nat} (hr : r < d.rad.length) :
    (d.beaconMarked r).radAt r = { d.radAt r with beaconBeat := some d.beat.count } := radAt_setRad_self _ hr

/-- The channel of a beat's beacon (R236). -/
def beaconChannel (d : Dev) (p : RadPlan) : Nat := maskTurn p.beaconMap (d.beat.count / p.beaconPeriod)

/-- The PSDU of a beacon, and the frame counter after it. -/
def beaconFrame (d : Dev) (r : Nat) (key : Bytes) : Bytes × Dev := d.broadcast r key fcBeacon d.beaconPayload

theorem beacon_of_sent {r : Nat} {p : RadPlan} {key : Bytes} (h : d.BeaconDue r p)
    (hk : (d.beaconMarked r).useKey p.bcastKey masterRadio useBroadcast = (ST_OK, key, x)) (he : (x.radAt r).event = none)
    (ht : (x.tryAir r (d.beaconChannel p) p.mode p.preamble (x.beaconFrame r key).1).1 = .sent) :
    ∃ t, d.beacon r = ((x.transmit r (d.beaconChannel p) p.mode p.preamble t (onAir (x.beaconFrame r key).1)).setRad r
      (fun s => { s with bcastFc := ((x.beaconFrame r key).2.radAt r).bcastFc })).cnt r 0 := by
  obtain ⟨hp, hl, hm, htest, hb, ho, hn⟩ := h
  refine ⟨airtime p.mode p.preamble ((x.beaconFrame r key).1.length + 4), ?_⟩
  unfold beacon
  rw [hp]
  dsimp only
  rw [if_neg (by simp [hl, hm, htest, hb, ho, hn]), ← beaconMarked, hk]
  dsimp only
  rw [if_neg (by simp), if_neg (by simp [he]), ← beaconFrame, ← beaconChannel, tryAir_of_sent ht]

theorem bcastFc_broadcast (d : Dev) {r : Nat} (hr : r < d.rad.length) (h4 : r < 4) (key : Bytes) (fc : Nat) (payload : Bytes) :
    ((d.broadcast r key fc payload).2.radAt r).bcastFc = (d.radAt r).bcastFc + 1 := by
  have hb : (d.broadcast r key fc payload).2 = d.setRad r (fun s => { s with bcastFc := (d.radAt r).bcastFc + 1 }) := by
    simp [broadcast, h4]
  rw [hb, radAt_setRad_self _ hr]

theorem useKey_beat (d : Dev) (id master usage : Nat) : (d.useKey id master usage).2.2.beat = d.beat := by
  have hr : (d.keyRefused id master usage).beat = d.beat := by
    unfold keyRefused
    extract_lets bad d1
    have h1 : d1.beat = d.beat := by simp [d1]
    split
    · rw [offer_beat, h1]
    · exact h1
  unfold useKey
  split
  · split
    · next e =>
      unfold loadKey at e
      split at e
      · cases e; rfl
      split at e
      · cases e; simp [showSlots]
      split at e
      · cases e; simp [showSlots]
      · cases e
    · rfl
  · exact hr

/-- What a beacon that goes on air leaves: the beat it belongs to, its counter, the frame in the air and the items and nodes. -/
theorem beacon_of_sent_keeps {r : Nat} {p : RadPlan} {key : Bytes} (hr : r < d.rad.length) (h4 : r < 4) (h : d.BeaconDue r p)
    (hk : (d.beaconMarked r).useKey p.bcastKey masterRadio useBroadcast = (ST_OK, key, x)) (he : (d.radAt r).event = none)
    (ht : (x.tryAir r (d.beaconChannel p) p.mode p.preamble (x.beaconFrame r key).1).1 = .sent) :
    ((d.beacon r).radAt r).beaconBeat = some d.beat.count ∧ ((d.beacon r).radAt r).bcastFc = (d.radAt r).bcastFc + 1 ∧
    (d.beacon r).rft = d.rft ∧ (d.beacon r).jst = d.jst ∧
    ((d.beacon r).radAt r).air = (d.radAt r).air ++ [⟨d.beaconChannel p, p.mode, p.preamble, txPower (d.radAt r) (d.beaconChannel p) p.mode,
      onAir (x.beaconFrame r key).1, d.now⟩] := by
  have hx : Touches [.key] keyKeys (d.beaconMarked r) x := by
    have hu := (d.beaconMarked r).useKey_touches p.bcastKey masterRadio useBroadcast
    rwa [hk] at hu
  have hrad : x.rad = (d.beaconMarked r).rad := hx.parts .rad (by decide)
  have hnow : x.now = d.now := by
    have hu := (d.beaconMarked r).useKey_beat p.bcastKey masterRadio useBroadcast
    rw [hk] at hu
    exact congrArg (fun b : BeatSt => b.base + b.sinceBase) hu
  have hxr : x.radAt r = { d.radAt r with beaconBeat := some d.beat.count } := (radAt_of_rad hrad r).trans (radAt_beaconMarked hr)
  have hxl : r < x.rad.length := by rw [hrad, beaconMarked, length_rad_setRad]; exact hr
  obtain ⟨t, e⟩ := beacon_of_sent h hk (by rw [hxr]; exact he) ht
  let y := x.transmit r (d.beaconChannel p) p.mode p.preamble t (onAir (x.beaconFrame r key).1)
  let f := fun s : RadSt => { s with bcastFc := ((x.beaconFrame r key).2.radAt r).bcastFc }
  have hyl : r < y.rad.length := by simpa only [y, transmit, length_rad_setRad] using hxl
  have hc : Touches [] [(cntWord r 0).key] (y.setRad r f) (d.beacon r) := e ▸ cnt_touches _ r 0
  have hbr : (d.beacon r).radAt r = f (y.radAt r) := (radAt_of_rad (hc.parts .rad (by decide)) r).trans (radAt_setRad_self f hyl)
  obtain ⟨-, hyb, hya⟩ := radAt_transmit hxl (d.beaconChannel p) p.mode p.preamble t (onAir (x.beaconFrame r key).1)
  rw [hbr]
  refine ⟨?_, ?_, ?_, ?_, ?_⟩
  · exact hyb.trans (by rw [hxr])
  · exact (bcastFc_broadcast x hxl h4 key _ _).trans (by rw [hxr])
  · exact (hc.parts .rft (by decide)).trans (hx.parts .rft (by decide))
  · exact (hc.parts .jst (by decide)).trans (hx.parts .jst (by decide))
  · exact hya.trans (by rw [hxr, hnow]; rfl)

/-! ### Frames on a wired port (R249, R266, R270) -/

/-- The port takes frames: it is up, not under test, and a trunk has a role on its bus. -/
def Takes (d : Dev) (p : Nat) : Prop := d.portUp p = true ∧ d.mediumTested (portMedium p) = false ∧ (8 ≤ p ∨ d.plcaRole p ≠ 0)

theorem wiredRx_of_fcs {p : Nat} {f : WiredRx} (h : d.Takes p) (hf : f.fcsOk = false) : d.wiredRx p f = d.cnt (portMedium p) 3 := by
  obtain ⟨hu, ht, hr⟩ := h
  have hp : ¬ (p < 8 ∧ d.plcaRole p = 0) := by
    rintro ⟨h1, h2⟩
    exact hr.elim (fun h8 => absurd h1 (Nat.not_lt.2 h8)) fun h0 => h0 h2
  unfold wiredRx
  extract_lets md w tagged at_ typ dst body n
  rw [if_neg (by simpa [md, hu, ht] using fun a b => hp ⟨a, b⟩), if_pos (by simp [hf])]

/-- A frame of a legal length arrives whole on UPLINK or TIE, untagged and of this EtherType. -/
structure Arrives (d : Dev) (p : Nat) (f : WiredRx) (typ : Nat) : Prop where
  port : 8 ≤ p
  up : d.portUp p = true
  untested : d.mediumTested (portMedium p) = false
  fcs : f.fcsOk = true
  long : 60 ≤ f.frame.length
  short : f.frame.length + 4 ≤ d.maxFrame (portMedium p)
  etherType : beNat (slice f.frame 12 2) = typ

theorem wiredRx_of_pause {p : Nat} {f : WiredRx} (h : d.Arrives p f 0x8808) (hop : beNat (slice f.frame 14 2) = 1) :
    d.wiredRx p f = d.pauseRx p (beNat (slice f.frame 16 2)) := by
  obtain ⟨h8, hu, ht, hf, hl, hs, htyp⟩ := h
  unfold wiredRx
  extract_lets md w tagged at_ typ dst body n
  have hat : at_ = 12 := if_neg (by simp [tagged, htyp])
  have hty : typ = 0x8808 := by simp only [typ, hat, htyp]
  have hb (off : Nat) : slice body off 2 = slice f.frame (14 + off) 2 := by simp only [body, hat, slice_drop]
  rw [if_neg (by simp [md, hu, ht, Nat.not_lt.2 h8]), if_neg (by simp [hf]), if_neg (by simp [n, md]; omega), if_pos hty,
    if_pos (by rw [hb, hop]), hb]

theorem wiredRx_of_raw {p : Nat} {f : WiredRx} (h : d.Arrives p f 0x0800) (hw : d.get (Reg.TRK_WAKE_CTRL.sleep (trkWindow p)) = 0) :
    d.wiredRx p f = d.rawRx p f := by
  obtain ⟨h8, hu, ht, hf, hl, hs, htyp⟩ := h
  have h8' : ¬ p < 8 := Nat.not_lt.2 h8
  unfold wiredRx
  extract_lets md w tagged at_ typ dst body n
  have hat : at_ = 12 := if_neg (by simp [tagged, htyp])
  have hty : typ = 0x0800 := by simp only [typ, hat, htyp]
  rw [if_neg (by simp [md, hu, ht, h8']), if_neg (by simp [hf]), if_neg (by simp [n, md]; omega), if_neg (by simp [hty]),
    if_neg (by simp [h8']), if_neg (by simp [flag, w, hw]), if_neg (by simp [hty]), if_neg (by simp [hty]), if_neg h8']

end Dev

/-! ### The commands -/

variable {t : Nat} {s : State}

theorem dwellBinAdvance_advances {r : Fin 4} (kind index : Nat) (hr : s.dev.rad.length = 4) :
    Completes (.dwellBinAdvance t r kind index) s fun d =>
      (d.radAt r.val).accs = ((s.dev.radAt r.val).settledAt (s.dev.atTime t).now).accs.map (fun a : DwellAcc =>
        if a.kind = kind ∧ a.index = index then { a with bins := 0 :: a.bins.take 32, noted := false } else a) := by
  have hl : r.val < (s.dev.atTime t).rad.length := hr.symm ▸ r.isLt
  refine completes_of_exec (execDwellBinAdvance t r kind index s) rfl rfl ?_
  rw [Dev.radAt_of_rad (Dev.settleOffers_rad _), Dev.radAt_setRad_self _ hl]
  rfl

theorem txItemTake_takes {md : Fin 14} {i : JItem} {x : Dev} (hr : s.dev.joistRuns = true) (hm : s.dev.mediumPresent md.val = true)
    (ht : (s.dev.atTime t).takeForConsumer md.val = some (i, x)) (hh : (s.dev.atTime t).mirrorHeld i = false)
    (hraw : md.val < 12 ∨ i.producer = producerEngine ∨ bits (i.words.headD 0) 15 0 ≠ 0xFFFF)
    (hf : if md.val < 4 then (s.dev.atTime t).ringFits md.val (Dev.radioItemSize i) = true
      else ∀ n, (s.dev.atTime t).wiredItemSize (md.val - 4) i = some n → (s.dev.atTime t).ringFits md.val n = true) :
    Completes (.txItemTake t md) s fun d => d.jst = { x.jst with service := x.jst.service.erase (Service.mk md.val i) } := by
  refine completes_of_exec (execTxItemTake t md s) rfl rfl ?_
  by_cases h4 : md.val < 4
  · rw [if_pos h4] at hf ⊢
    rw [Dev.takeRadio_of_fits (d := s.dev.atTime t) hr hm ht hh hf, Dev.settleOffers_jst, Dev.endService_jst, Dev.placeRadio_jst]
  · rw [if_neg h4] at hf ⊢
    have hp : portMedium (md.val - 4) = md.val := by unfold portMedium; omega
    have hnr : Dev.isRaw (md.val - 4) i = false := Dev.isRaw_false (hraw.imp_left fun h => by omega)
    rw [Dev.takeWired_of_fits (d := s.dev.atTime t) (p := md.val - 4) hr (hp.symm ▸ hm) (hp.symm ▸ ht) hh hnr (hp.symm ▸ hf),
      Dev.settleOffers_jst, Dev.endService_jst, Dev.placeWired_jst, hp]

theorem txItemTake_raw {md : Fin 14} {i : JItem} {x : Dev} (hr : s.dev.joistRuns = true) (hm : s.dev.mediumPresent md.val = true)
    (ht : (s.dev.atTime t).takeForConsumer md.val = some (i, x)) (hh : (s.dev.atTime t).mirrorHeld i = false)
    (h12 : 12 ≤ md.val) (hprod : i.producer ≠ producerEngine) (hhandle : bits (i.words.headD 0) 15 0 = 0xFFFF) (hlen : s.dev.trk.length = 10)
    (hl : (s.dev.trkAt (md.val - 4)).launch.length < 16) (h60 : 60 ≤ bits (i.words.headD 0) 26 16)
    (h1518 : bits (i.words.headD 0) 26 16 ≤ 1518) (h28 : bit (i.words.headD 0) 28 = false) :
    Completes (.txItemTake t md) s fun d => d.jst = x.jst ∧
      (d.trkAt (md.val - 4)).raw.map (·.item) = (s.dev.trkAt (md.val - 4)).raw.map (·.item) ++ [i] := by
  have hp : portMedium (md.val - 4) = md.val := by unfold portMedium; omega
  have hraw : Dev.isRaw (md.val - 4) i = true := Dev.isRaw_iff.2 ⟨by omega, hprod, hhandle⟩
  have hx : x.trk = s.dev.trk := (Dev.takeForConsumer_touches ht).parts .trk (by decide)
  have hxl : md.val - 4 < x.trk.length := by rw [hx, hlen]; omega
  obtain ⟨y, hy, e⟩ := x.takeRaw_of_untimed (md.val - 4) h60 h1518 h28
  refine completes_of_exec (execTxItemTake t md s) rfl rfl ?_
  rw [if_neg (by omega), Dev.takeWired_of_raw (d := s.dev.atTime t) (p := md.val - 4) hr (hp.symm ▸ hm) (hp.symm ▸ ht) hh hraw hl, e,
    Dev.settleOffers_jst, Dev.trkAt_of_trk (Dev.settleOffers_trk _), Dev.trkAt_setTrk_self _ hxl, Dev.trkAt_of_trk hx]
  exact ⟨rfl, by simp [hy]⟩

theorem wake_holds {r : Fin 4} {addr : Nat} (rssi : Nat) {p : RadPlan} (hlen : s.dev.rad.length = 4) (hp : (s.dev.radAt r.val).plan = some p)
    (hw : p.wakeRx = true) (ha : addr = p.wakeAddr) (hb : bit (s.dev.get Reg.BST_UNIT0.radios) r.val = true) :
    Completes (.wake t r addr rssi) s fun d => (d.radAt r.val).wakeHold = true ∧
      (d.radAt r.val).wakeUntil = (s.dev.atTime t).now + p.wakeHold * 1000000 := by
  have hl : r.val < (s.dev.atTime t).rad.length := hlen.symm ▸ r.isLt
  refine completes_of_exec (execWake t r addr rssi s) rfl rfl ?_
  rw [show ((s.dev.atTime t).radAt r.val).plan = some p from hp]
  dsimp only
  rw [if_neg (by simp [hw, ha, hb])]
  rw [Dev.radAt_of_rad (((Dev.settleOffers_rad _).trans (Dev.rad_of_delivered _ _ _ _)).trans
    ((Dev.deliverRx_rad _ _ _ _ _).trans ((Dev.offer_rad _ _ _).trans (Dev.cnt_rad _ _ _)))), Dev.radAt_setRad_self _ hl]
  exact ⟨rfl, rfl⟩

theorem wakeHoldExpired_ends {r : Fin 4} (hlen : s.dev.rad.length = 4) (hw : (s.dev.radAt r.val).wakeUntil ≤ (s.dev.atTime t).now) :
    Completes (.wakeHoldExpired t r) s fun d => (d.radAt r.val).wakeHold = false := by
  have hl : r.val < (s.dev.atTime t).rad.length := hlen.symm ▸ r.isLt
  refine completes_of_exec (execWakeHoldExpired t r s) rfl rfl ?_
  rw [Dev.radAt_of_rad (Dev.settleOffers_rad _), Dev.radAt_setRad_self _ hl]
  exact congrArg RadSt.wakeHold (if_pos hw)

theorem radioFrameRx_beacon {r : Fin 4} {f : RadioRx} {p : RadPlan} (h : (s.dev.atTime t).Hears r.val p) (hphr : f.phrOk = true)
    (hfcs : f.fcsOk = true) (h16 : 16 ≤ f.psdu.length) (h62 : f.psdu.length ≤ 62) (htyp : byteAt f.psdu 0 % 16 = 5)
    (hver : byteAt f.psdu 1 = 1) (hnet : fieldLE f.psdu 2 2 = p.netId) (hrad : bits (fieldLE f.psdu 4 2) 11 10 = r.val) :
    Completes (.radioFrameRx t r f) s fun d =>
      d.jst = ((s.dev.atTime t).deliverRx p.rxQueue 0x3FFFF (producerRadio r.val) ((s.dev.atTime t).beaconWords f)).1.jst := by
  obtain ⟨i, e⟩ := Dev.radioRx_of_beacon h hphr hfcs h16 h62 htyp hver hnet hrad
  exact completes_of_exec (execRadioFrameRx t r f s) rfl rfl (by rw [e, Dev.settleOffers_jst, Dev.cnt_jst])

theorem radioFrameRx_fcs {r : Fin 4} {f : RadioRx} {p : RadPlan} (h : (s.dev.atTime t).Hears r.val p) (hphr : f.phrOk = true)
    (hfcs : f.fcsOk = false) :
    Completes (.radioFrameRx t r f) s fun d => d.jst = s.dev.jst ∧ d.rad = s.dev.rad ∧
      d.get (Reg.RAD_CNT.word r.val 3) = min (s.dev.get (Reg.RAD_CNT.word r.val 3) + 1) (2 ^ 32 - 1) := by
  have hk : ∀ r : Fin 4, (Dev.cntWord r.val 3).key ∉ eventKeys := by decide
  refine completes_of_exec (execRadioFrameRx t r f s) rfl rfl ?_
  rw [Dev.radioRx_of_fcs h hphr hfcs, Dev.settleOffers_jst, Dev.cnt_jst, Dev.settleOffers_rad, Dev.cnt_rad, ← Dev.cntWord_radio,
    Dev.counted _ _ _ (hk r)]
  exact ⟨rfl, rfl, rfl⟩

theorem beaconTx_sends {r : Fin 4} {p : RadPlan} {key : Bytes} {x : Dev} (hlen : s.dev.rad.length = 4) (h : (s.dev.atTime t).BeaconDue r.val p)
    (hk : ((s.dev.atTime t).beaconMarked r.val).useKey p.bcastKey masterRadio useBroadcast = (ST_OK, key, x))
    (he : (s.dev.radAt r.val).event = none)
    (ht : (x.tryAir r.val (s.dev.beaconChannel p) p.mode p.preamble (x.beaconFrame r.val key).1).1 = .sent) :
    Completes (.beaconTx t r) s fun d => (d.radAt r.val).beaconBeat = some s.dev.beat.count ∧
      (d.radAt r.val).bcastFc = (s.dev.radAt r.val).bcastFc + 1 ∧ d.rft = s.dev.rft ∧ d.jst = s.dev.jst ∧
      (d.radAt r.val).air = (s.dev.radAt r.val).air ++ [⟨s.dev.beaconChannel p, p.mode, p.preamble,
        txPower (s.dev.radAt r.val) (s.dev.beaconChannel p) p.mode, onAir (x.beaconFrame r.val key).1, (s.dev.atTime t).now⟩] := by
  refine completes_of_exec (execBeaconTx t r s) rfl rfl ?_
  rw [Dev.radAt_of_rad (Dev.settleOffers_rad _), Dev.settleOffers_rft, Dev.settleOffers_jst]
  exact Dev.beacon_of_sent_keeps (d := s.dev.atTime t) (hlen.symm ▸ r.isLt) r.isLt h hk he ht

theorem wiredFrameRx_fcs {p : Fin 10} {f : WiredRx} (h : s.dev.Takes p.val) (hf : f.fcsOk = false) :
    Completes (.wiredFrameRx t p f) s fun d => d.jst = s.dev.jst ∧ d.mem = s.dev.mem ∧
      d.get (Reg.TRK_CNT.word (trkWindow p.val) 3) = min (s.dev.get (Reg.TRK_CNT.word (trkWindow p.val) 3) + 1) (2 ^ 32 - 1) := by
  have hk : ∀ p : Fin 10, (Dev.cntWord (portMedium p.val) 3).key ∉ eventKeys := by decide
  refine completes_of_exec (execWiredFrameRx t p f s) rfl rfl ?_
  rw [Dev.wiredRx_of_fcs (d := s.dev.atTime t) h hf, Dev.settleOffers_jst, Dev.cnt_jst, Dev.settleOffers_mem,
    (Dev.cnt_touches _ _ _).parts .mem (by decide), ← Dev.cntWord_port, Dev.counted _ _ _ (hk p)]
  exact ⟨rfl, rfl, rfl⟩

theorem wiredFrameRx_pause {p : Fin 10} {f : WiredRx} (h : s.dev.Arrives p.val f 0x8808) (hop : beNat (slice f.frame 14 2) = 1) :
    Completes (.wiredFrameRx t p f) s fun d => d.jst = s.dev.jst ∧
      d.trk = ((s.dev.atTime t).pauseRx p.val (beNat (slice f.frame 16 2))).trk := by
  have ha : (s.dev.atTime t).Arrives p.val f 0x8808 := { h with }
  refine completes_of_exec (execWiredFrameRx t p f s) rfl rfl ?_
  rw [Dev.wiredRx_of_pause ha hop, Dev.settleOffers_jst, Dev.pauseRx_jst, Dev.settleOffers_trk]
  exact ⟨rfl, rfl⟩

theorem wiredFrameRx_raw {p : Fin 10} {f : WiredRx} (h : s.dev.Arrives p.val f 0x0800)
    (hw : s.dev.get (Reg.TRK_WAKE_CTRL.sleep (trkWindow p.val)) = 0) :
    Completes (.wiredFrameRx t p f) s fun d => d.mem = ((s.dev.atTime t).rawRx p.val f).mem ∧
      d.jst = ((s.dev.atTime t).rawRx p.val f).jst := by
  have ha : (s.dev.atTime t).Arrives p.val f 0x0800 := { h with }
  refine completes_of_exec (execWiredFrameRx t p f s) rfl rfl ?_
  rw [Dev.wiredRx_of_raw ha hw, Dev.settleOffers_mem, Dev.settleOffers_jst]
  exact ⟨rfl, rfl⟩

/-- Settles O30: one clause per command. -/
theorem mediumCommandsComplete : Obligations.MediumCommandsComplete := by
  refine ⟨?_, ?_, ?_, ?_, ?_, ?_, ?_, ?_, ?_, ?_⟩
  · intro t r kind index s hr
    exact dwellBinAdvance_advances kind index hr
  · intro t md s i x hr hm ht hh
    exact ⟨txItemTake_takes hr hm ht hh, txItemTake_raw hr hm ht hh⟩
  · intro t r f s p hp hb htest hm hphr hfcs h16 h62 htyp hver hnet hrad
    exact radioFrameRx_beacon ⟨hp, hb, htest, hm⟩ hphr hfcs h16 h62 htyp hver hnet hrad
  · intro t r f s p hp hb htest hm hphr hfcs
    exact radioFrameRx_fcs (p := p) ⟨hp, hb, htest, hm⟩ hphr hfcs
  · intro t r s p hlen hp hl hm htest hb ho hn d0 k b ch hk he ht
    exact beaconTx_sends (key := k.2.1) (x := k.2.2) hlen ⟨hp, hl, hm, htest, hb, ho, hn⟩ (Prod.ext hk rfl) he ht
  · intro t r addr rssi s p hlen hp hw ha hb
    exact wake_holds rssi hlen hp hw ha hb
  · intro t r s hlen hw
    exact wakeHoldExpired_ends hlen hw
  · intro t p f s hu htest hrole hf
    exact wiredFrameRx_fcs ⟨hu, htest, hrole⟩ hf
  · intro t p f s h8 hu htest hf hl hs htyp hop
    exact wiredFrameRx_pause ⟨h8, hu, htest, hf, hl, hs, htyp⟩ hop
  · intro t p f s h8 hu htest hf hl hs htyp hw
    exact wiredFrameRx_raw ⟨h8, hu, htest, hf, hl, hs, htyp⟩ hw

end Sys2Proof.Machine
end
